-- ==== Sys2Proof/Word.lean ====
section
/-!
DEFINITION. The words of the machine: the 32-bit register word of R12, the byte, and the 64-bit timestamp
of the scope chapter ("A timestamp is the 64-bit unsigned count of the timebase").
-/
namespace Sys2Proof

/-- A register word: 32 bits, little-endian in memory (R12). -/
abbrev Word := BitVec 32

/-- One byte of a memory or of a frame. -/
abbrev Byte := BitVec 8

/-- A timestamp: a 64-bit unsigned count in nanoseconds. -/
abbrev Time := BitVec 64

end Sys2Proof
end

