-- ==== Sys2Proof/Masters.lean ====
section
/-!
DEFINITION. Who may send a command, and the operand types of the commands.
-/
namespace Sys2Proof

/-- The masters of R57. -/
inductive Master where
  | host                -- 0x01: the PCIe function
  | recovery            -- 0x01: the USB 2.0 recovery class, which reaches as a management port does (R60)
  | mgmtSpi             -- 0x02
  | mgmtI2c             -- 0x03
  | mp                  -- 0x04: the management processor
  | stream (n : Nat)    -- 0x10-0x1F
  | scheduler           -- 0x20
  | configuration       -- 0x21
  | calender            -- 0x22
  | reamStore           -- 0x23
  | twin                -- 0x24
  | span                -- 0x25
  | fabric (b : Nat)    -- 0x40-0x5F
  deriving DecidableEq, Repr

/-- The master identifier of R57. -/
def Master.id : Master → Nat
  | .host => 0x01
  | .recovery => 0x01
  | .mgmtSpi => 0x02
  | .mgmtI2c => 0x03
  | .mp => 0x04
  | .stream n => 0x10 + n
  | .scheduler => 0x20
  | .configuration => 0x21
  | .calender => 0x22
  | .reamStore => 0x23
  | .twin => 0x24
  | .span => 0x25
  | .fabric b => 0x40 + b

/-- A master that reaches only the DEV, TND, PWR and SEQ pages (R60). -/
def Master.isPort : Master → Bool
  | .recovery => true
  | .mgmtSpi => true
  | .mgmtI2c => true
  | _ => false

/-- The management ports of R60. -/
inductive Port where
  | spi | i2c | recovery
  deriving DecidableEq, Repr

/-- The master whose identifier an access of a management port carries (R57, R64). [Log 25 DEDUCED] -/
def Port.master : Port → Master
  | .spi => .mgmtSpi
  | .i2c => .mgmtI2c
  | .recovery => .recovery

/-- The frames of R62 that a recovery-class transfer can carry (R64). -/
inductive SpiFrame where
  | read (off : Nat) (dummy : Byte)
  | write (off : Nat) (v : Word) (crc : Byte)
  | status
  deriving DecidableEq, Repr

/-- What the field presents to the analogue array at an instant: the pins whose voltage has changed, with their voltage in uV
(pin numbers of the device; 128 and 129 stand for VIN_SENSE and HOLDUP_SENSE), the cells whose current into IN_P has
changed, in nA (R221: TIA), and those whose biquad's response to its input has, in uV (R223). -/
structure Signals where
  pins : List (Nat × Int)
  currents : List (Nat × Int)
  responses : List (Nat × Int)
  deriving DecidableEq, Repr

/-- What a mute of R240 holds: a cell, a direct pin path, a converter channel or a comparator input. -/
inductive MuteKind where
  | cell | pin | chan | cmp
  deriving DecidableEq, Repr

/-- The outcome of a slice's ladder conversion (R259, R260, R265): the coefficients that the hardware computes
(an offset in 1/64 LSB, a gain in Q1.17, a delay trim in 0.1 ps), and the capture set of host-assisted mode. -/
structure CalMeas where
  soff : Int
  sgain : Nat
  sskew : Int
  neg : Word
  zero : Word
  pos : Word
  skew : Word
  deriving DecidableEq, Repr

/-- The frames of the twin link (R465, R471-R482) that a device acts on. -/
inductive TwinMsg where
  | heartbeat (role : Nat) (sideB : Bool)
  | surrender
  | claim
  | memWrite (off be : Nat) (data : List Byte)         -- an applied write of a mirrored memory, by BAR2 offset
  | tagged (tag kind val : Nat)                        -- a mirrored retention-tagged value (R116, R160 kinds)
  | analog (c code span safe input : Nat)              -- an output channel's code, span, SAFE_CODE, input register
  | gpio (b : Nat) (levels out : Word)                 -- a bank's pad levels and GB_OUT
  | checkpoint (flow : Nat) (t : Time)
  | vault (seq : Nat) (recs : List (Nat × Option (List Byte)))   -- a transaction: values written, none for a delete
  | libWrite (slot : Nat) (data : List Byte)
  | libErase (slot : Nat)
  | setStartup (v : Nat)
  | time (t : Time)                                    -- the primary's timestamp at this instant
  | couchOffer (banks sectors : Nat)                   -- the mask of a couch offered (R481)
  deriving DecidableEq, Repr

/-- Where a span-port packet comes from: a lane, or the device's own span port. -/
inductive SpanFrom where
  | lane (n : Nat)
  | port (p : Nat)
  deriving DecidableEq, Repr

end Sys2Proof
end

