-- ==== Sys2Proof/Syntax.lean ====
section
/-!
DEFINITION. The commands of the block: one constructor for each row of spec/opcode_table.json, in the table's
order.  A register write carries the master that makes it; an event carries what the outside supplies with it
(a physical reading, received bytes, the outcome of a wait).
-/
namespace Sys2Proof

/-- The rows of the table. -/
inductive Instr where
  /-- REGISTER_WRITE. R25: an aligned 32-bit write of BAR0 offset `off` -/
  | registerWrite (m : Master) (off : Nat) (v : Word)
  /-- LOW_WORD_READ. R13: a read of the low word at BAR0 offset `off` of a 64-bit pair -/
  | lowWordRead (m : Master) (off : Nat)
  /-- LOW_WORD_WRITE. R14: a write of the low word of a writable pair -/
  | lowWordWrite (m : Master) (off : Nat) (v : Word)
  /-- HIGH_WORD_WRITE. R14: a write of the high word (at offset `off`) of a writable pair -/
  | highWordWrite (m : Master) (off : Nat) (v : Word)
  /-- ABSENT_WRITE. R5, R44: a write of an absent or unmapped location of BAR0 or BAR2 -/
  | absentWrite (m : Master) (bar2 : Bool) (off : Nat) (v : Word)
  /-- BAD_ACCESS. R43: a BAR0 access that is no aligned 32-bit word -/
  | badAccess (m : Master) (off : Nat) (wr : Bool)
  /-- OFF_WRITE. R45: a write beyond the header of a page whose domain is off -/
  | offWrite (m : Master) (off : Nat) (v : Word)
  /-- RO_WRITE. R39: a BAR2 write of the recovery store -/
  | roWrite (m : Master) (off : Nat) (data : List Byte)
  /-- UNREACHABLE. R60: an access of a management port outside its reach -/
  | unreachable (port : Port) (off : Nat) (wr : Bool)
  /-- BAR2_MEMORY_ACCESS. R145: a read of `len` bytes or a write of `data` of a block memory through BAR2 -/
  | bar2MemoryAccess (m : Master) (off : Nat) (wr : Bool) (len : Nat) (data : List Byte)
  /-- PWR_REQ. R47: a write of PG_CTRL.PWR_REQ of page number `pg` -/
  | pwrReq (m : Master) (pg : Nat) (v : Bool)
  /-- PG_CTRL_EN. R48: a write of PG_CTRL.EN -/
  | pgCtrlEn (m : Master) (pg : Nat) (v : Bool)
  /-- QUIESCE. R48: a write of PG_CTRL.QUIESCE -/
  | quiesce (m : Master) (pg : Nat) (v : Bool)
  /-- BLK_RESET. R49: a write of 1 to PG_CTRL.BLK_RESET -/
  | blkReset (m : Master) (pg : Nat)
  /-- PG_MODE_WRITE. R50: a write of PG_MODE -/
  | pgModeWrite (m : Master) (pg : Nat) (v : Word)
  /-- PG_STATUS_CLEAR. R51: a write-1-to-clear of PG_STATUS -/
  | pgStatusClear (m : Master) (pg : Nat) (v : Word)
  /-- PG_FAULT_CLEAR. R52: a write-1-to-clear of the PG_FAULT flags -/
  | pgFaultClear (m : Master) (pg : Nat) (v : Word)
  /-- COUNT_CLR. R46: a write of 1 to PG_FAULT.COUNT_CLR -/
  | countClr (m : Master) (pg : Nat)
  /-- FE_REARM. R53: a write of 1 to PG_FE_SRC.VALID -/
  | feRearm (m : Master) (pg : Nat)
  /-- PG_LOCK. R54: a write of PG_LOCK -/
  | pgLock (m : Master) (pg : Nat) (v : Word)
  /-- PG_INJECT. R450: a write of PG_INJECT -/
  | pgInject (m : Master) (pg : Nat) (v : Word)
  /-- CLR_ABSENT. R59: a write of 1 to DEV_CTRL.CLR_ABSENT -/
  | clrAbsent (m : Master)
  /-- LINK_UP. R36: the host link comes up at a rate (DEV_HOSTLINK.RATE code 1-4) -/
  | linkUp (rate : Nat)
  /-- LINK_DOWN. R36: the host link is lost -/
  | linkDown
  /-- PCIE_HOT_RESET. R36: a PCIe hot reset -/
  | pcieHotReset
  /-- BUS_MASTER_ENABLE_CHANGE. R36: Bus Master Enable takes a value -/
  | busMasterEnableChange (en : Bool)
  /-- MGMT_SPI_READ. R62: an MGMT_SPI read frame; `dummy` is its dummy byte -/
  | mgmtSpiRead (off : Nat) (dummy : Byte)
  /-- MGMT_SPI_WRITE. R62: an MGMT_SPI write frame -/
  | mgmtSpiWrite (off : Nat) (v : Word) (crc : Byte)
  /-- MGMT_SPI_STATUS. R62: an MGMT_SPI status frame -/
  | mgmtSpiStatus
  /-- MGMT_SPI_LOADER. R177: an MGMT_SPI loader frame with its sheet bytes -/
  | mgmtSpiLoader (data : List Byte)
  /-- MGMT_I2C_WRITE. R63: an MGMT_I2C write -/
  | mgmtI2cWrite (off : Nat) (v : Word) (pec : Byte)
  /-- MGMT_I2C_READ. R63: an MGMT_I2C read -/
  | mgmtI2cRead (off : Nat)
  /-- RECOVERY_CLASS_TRANSFER. R64: a bulk OUT transfer with one MGMT_SPI frame -/
  | recoveryClassTransfer (f : SpiFrame)
  /-- TIMEBASE_LOCK. R74, R75: the loop locks; `freq` is the TB_STATUS.REF_FREQ code found -/
  | timebaseLock (freq : Nat)
  /-- HOLDOVER. R77: no TB_REF edge for 400 ns -/
  | holdover
  /-- REF_FREQUENCY_ERROR. R565: a 10 us window counts more than 1,000 ppm off -/
  | refFrequencyError
  /-- REF_VALID. R565: the reference has been valid for 100 us and the loop relocks at `freq` -/
  | refValid (freq : Nat)
  /-- RELOCK. R565: a write of 1 to TB_CTRL.RELOCK -/
  | relock (m : Master)
  /-- PACE_MEASUREMENT. R70: the reference-ring counts of the measured domains (domain number, 64 for AON; count) -/
  | paceMeasurement (counts : List (Nat × Nat))
  /-- PACE_LOW_RUN. R70: the eighth consecutive measurement of a domain below 560 -/
  | paceLowRun (dom : Nat)
  /-- VCORE_STEP. R71: the next VOUT_COMMAND step is due; `ack` false where the regulator fails it -/
  | vcoreStep (ack : Bool)
  /-- PWR_VCORE_TARGET. R71: a write of PWR_VCORE_TARGET -/
  | pwrVcoreTarget (m : Master) (v : Word)
  /-- SLEW_TICK. R79: a slew tick -/
  | slewTick
  /-- TB_SLEW_AMOUNT. R79: a write of TB_SLEW_AMOUNT -/
  | tbSlewAmount (m : Master) (v : Word)
  /-- TB_SLEW_RATE. R79: a write of TB_SLEW_RATE -/
  | tbSlewRate (m : Master) (v : Word)
  /-- TIME_SET. R80: a write of TB_TIME_SET_HI -/
  | timeSet (m : Master) (v : Word)
  /-- TIMER_EVENT. R82: the due time of timer `n` is reached -/
  | timerEvent (n : Nat)
  /-- TIMER_PULSE_FALL. R82: the high level of timer `n` ends -/
  | timerPulseFall (n : Nat)
  /-- TIMER_START. R83: a write of 1 to TM_CTRL.START -/
  | timerStart (m : Master) (n : Nat)
  /-- ABSOLUTE_START. R83: the timestamp reaches TM_START_TIME -/
  | absoluteStart (n : Nat)
  /-- FABRIC_START_LINE. R83: a synchronised rising edge of the start line of timer `n` -/
  | fabricStartLine (n : Nat)
  /-- TIMER_ENABLE. R83: a write of 1 to TM_CTRL.EN -/
  | timerEnable (m : Master) (n : Nat)
  /-- TIMER_STOP. R84: a write of 0 to TM_CTRL.EN -/
  | timerStop (m : Master) (n : Nat)
  /-- TM_START_TIME_WRITE. R83: a high-word write of TM_START_TIME -/
  | tmStartTimeWrite (m : Master) (n : Nat) (v : Word)
  /-- CAPTURE_EVENT. R95: the capture event of fine tile `t` of bank `b`; `lv` holds the levels of the external inputs that nothing in the fabric feeds, `moved` the inputs outside the join set that move during the capture -/
  | captureEvent (b : Nat) (t : Nat) (lv : Nat) (moved : Nat)
  /-- CARRY_CHAIN_CAPTURE. R102: the capture of the carry chain whose base tile is `t`; `lv` holds for each tile of the chain, base first, what CAPTURE_EVENT gives -/
  | carryChainCapture (b : Nat) (t : Nat) (lv : List (Nat × Nat))
  /-- WORD_TILE_INSTRUCTION. R109: word tile `w` of bank `b` comes to its next instruction -/
  | wordTileInstruction (b : Nat) (w : Nat)
  /-- CROSSBAR_TRANSFER. R126: the bundle of net `id` crosses its crossbar -/
  | crossbarTransfer (id : Nat)
  /-- ROUTE_TRANSFER. R128: the value of route `id` reaches its receivers; `bad` names a receiver and a bit in whose group an illegal code stands -/
  | routeTransfer (id : Nat) (bad : Option (Nat × Nat))
  /-- LONG_LINE_CLASH. R137: driver taps drive one long line within one value -/
  | longLineClash (b : Nat) (line : Nat)
  /-- LONG_LINE_NULL_RELEASE. R137: no driver tap of a clashed line is enabled any longer -/
  | longLineNullRelease (b : Nat) (line : Nat)
  /-- MEMORY_ACCESS. R140: the access that stands on the command channel of port A (or B: `second`) of memory `k` of bank `b`; `flips` are the stored bits (72 per 64-bit word, from the first word addressed) that upsets have inverted -/
  | memoryAccess (b : Nat) (k : Nat) (second : Bool) (flips : List Nat)
  /-- MEMORY_SCRUB. R142: the scrubber of bank `b` reads its next protected word; `flips` are the stored bits that upsets have inverted -/
  | memoryScrub (b : Nat) (flips : List Nat)
  /-- CNT_CLR. R149: a write of 1 to FB_CTRL.CNT_CLR -/
  | cntClr (m : Master) (b : Nat)
  /-- LOAD_START. R171: a write of CFG_LOAD with START = 1 -/
  | loadStart (m : Master) (v : Word)
  /-- SHEET_HEADER. R167: the 256 header bytes arrive; `avail` tells whether the twin peer's slot holds a sheet -/
  | sheetHeader (raw : List Byte) (avail : Bool)
  /-- FRAME. R156: a FRAME command arrives, its bytes as stored in the sheet -/
  | frame (raw : List Byte)
  /-- QUIRE. R157: a QUIRE command arrives -/
  | quire (raw : List Byte)
  /-- ZERO. R156: a ZERO command arrives -/
  | zero (raw : List Byte)
  /-- ANALOG. R159: an ANALOG command arrives -/
  | analog (raw : List Byte)
  /-- RETAIN. R161: a RETAIN command arrives -/
  | retain (raw : List Byte)
  /-- END. R162: the END command arrives -/
  | endCmd (raw : List Byte)
  /-- ABORT. R175: a write of 1 to CFG_LOAD.ABORT -/
  | abort (m : Master)
  /-- XFRAME_DONE. R176: a write of 1 to CFG_XFRAME_DONE.GO -/
  | xframeDone (m : Master)
  /-- SHADOW_RESYNC. R180: a write of CFG_CMD.OP = 1 -/
  | shadowResync (m : Master)
  /-- RESYNC_DONE. R180: the copy of the named regions is complete -/
  | resyncDone
  /-- BOOT_UPDATE. R181: a write of CFG_CMD.OP = 2 -/
  | bootUpdate (m : Master)
  /-- FIRMWARE_UPDATE. R181: a write of CFG_CMD.OP = 3 -/
  | firmwareUpdate (m : Master)
  /-- RS_UPDATE_STEP. R181: a step of a recovery-store update ends; `image` is the image as read from host memory, `ok` false where a write or a read-back fails -/
  | rsUpdateStep (ok : Bool) (image : List Byte)
  /-- PROGRAM_SLOT_HASH. R186: a write of KEY_PROG with OP 1 -/
  | programSlotHash (m : Master) (slot : Nat) (confirm : Byte)
  /-- REVOKE_SLOT. R186: a write of KEY_PROG with OP 2 -/
  | revokeSlot (m : Master) (slot : Nat) (confirm : Byte)
  /-- PROGRAM_SHEET_KEY. R186: a write of KEY_PROG with OP 3 -/
  | programSheetKey (m : Master) (confirm : Byte)
  /-- BLOW_SIGN_FUSE. R186: a write of KEY_PROG with OP 4 -/
  | blowSignFuse (m : Master) (confirm : Byte)
  /-- READ_SLOT_HASH. R186: a write of KEY_PROG with OP 5 -/
  | readSlotHash (m : Master) (slot : Nat) (confirm : Byte)
  /-- PROG_DONE. R186: the KEY_PROG operation in hand completes -/
  | progDone
  /-- COUCH_REQUEST. R190: a write of CCH_CTRL with START = 1; `peerOk` is the answer of twin coordination where it is asked (R481) -/
  | couchRequest (m : Master) (v : Word) (peerOk : Bool)
  /-- DRAIN_COMPLETE. R192: the drain ends, and steps 3 to 6 of R191 follow -/
  | drainComplete
  /-- DRAIN_LIMIT_EXPIRY. R194: CCH_DRAIN.LIMIT expires -/
  | drainLimitExpiry
  /-- LOCK_WAIT_END. R201: every powered loop is locked or 2 ms has passed (`u4` tells whether the USB4 PHY loop is locked), and the first release step follows; `upset` as for RELEASE_STEP -/
  | lockWaitEnd (u4 : Bool) (upset : List Nat)
  /-- RELEASE_STEP. R200: the next release step; `upset` are the tags of retention buffer entries that cannot be corrected (R199) -/
  | releaseStep (upset : List Nat)
  /-- BOOT_STEP_DONE. R205: the step of the start-up timeline in progress ends, `ok` false where it fails -/
  | bootStepDone (ok : Bool)
  /-- CALENDER_PASS. R209: CAL_PERIOD elapses; `vote` tells of a disagreement of the triplicated latches (R214) -/
  | calenderPass (vote : Bool)
  /-- PASS_NOW. R217: a write of 1 to CAL_CTRL.PASS_NOW -/
  | passNow (m : Master)
  /-- CALENDER_READ. R210: the calender reads frame `num` of physical plane `plane`, or (`word`) setting word `num` of the active (0) or shadow (1) copy, and finds 0 no error, 1 a single-bit error, 2 an uncorrectable one -/
  | calenderRead (word : Bool) (plane : Nat) (num : Nat) (finding : Nat) (vote : Bool)
  /-- REPAIR_DONE. R212: the repair ends; `more` are the active frames of the bank that step 2 finds failing beside those already reported, and `result` is a CAL_REPAIR.RESULT code for what stands against the repair outside the source itself (2 and 3 a source read wrong or not at all, 4 a failed read-back) -/
  | repairDone (more : List Nat) (result : Nat)
  /-- CALENDER_WATCH_EXPIRY. R215: no pass has ended within 2 x CAL_PERIOD of unpaused time -/
  | calenderWatchExpiry
  /-- LOOP_MONITOR_TICK. R235: a 10 us tick of sector `sec`; `reads` gives for a CINT pin its current in uA and for a CEXT pin its voltage in uV, `lim` the VOUT pins whose current limit is active, `clamp` the pins beyond the clamp threshold -/
  | loopMonitorTick (sec : Nat) (reads : List (Nat × Int)) (lim : Nat) (clamp : Nat)
  /-- SHUNT_TRIP. R236: CINT pin AIO`pin` has been over 25 mA at 100 consecutive ticks -/
  | shuntTrip (pin : Nat)
  /-- VOUT_TRIP. R236: VOUT pin AIO`pin` has been limited at 100 consecutive ticks -/
  | voutTrip (pin : Nat)
  /-- AS_PIN_RESTORE. R236: a write of AS_PIN_RESTORE -/
  | asPinRestore (m : Master) (sec : Nat) (v : Word)
  /-- AS_GAIN_OVR. R241: a write of AS_GAIN_OVRr -/
  | asGainOvr (m : Master) (sec : Nat) (r : Nat) (v : Word)
  /-- MUTE_END. R240: the mute of cell, pin path, channel or comparator input `n` of sector `sec` ends -/
  | muteEnd (sec : Nat) (what : MuteKind) (n : Nat)
  /-- ROUND_START. R247: the next round of CVn starts -/
  | roundStart (n : Nat)
  /-- SLOT_CONVERSION. R247: the next slot of CVn's round samples and converts: what the field has changed, and the part of the raw code that rounding and the slice's errors make -/
  | slotConversion (n : Nat) (f : Signals) (err : Int)
  /-- RESULT_OUT. R248: the oldest result of CVn leaves it -/
  | resultOut (n : Nat)
  /-- SCAN_START. R251: a write of CV_SCAN.START of CVn -/
  | scanStart (m : Master) (n : Nat)
  /-- SCAN_TRIGGER. R252: the oldest event of CVn's trigger line on its way reaches the converter -/
  | scanTrigger (n : Nat)
  /-- INJECTED_REQUEST. R256: the oldest trigger of CV_INJk of CVn on its way reaches the converter, its DELAY over -/
  | injectedRequest (n : Nat) (k : Nat)
  /-- CV_INJ_SW. R256: a write of CV_INJ_SW with GO = 1 -/
  | cvInjSw (m : Master) (n : Nat) (chan : Nat)
  /-- BG_CAL_INTERVAL. R259: a calibration interval of CVn begins -/
  | bgCalInterval (n : Nat)
  /-- BG_CAL_DONE. R259: the ladder conversion of the slice under calibration ends with the coefficients or capture set `c` -/
  | bgCalDone (n : Nat) (c : CalMeas)
  /-- BG_EN. R560: a write of CV_CAL_CTRL.BG_EN -/
  | bgEn (m : Master) (n : Nat) (v : Bool)
  /-- FG_START. R262: a write of CV_CAL_CTRL.FG_START -/
  | fgStart (m : Master) (n : Nat)
  /-- FG_CAL_DONE. R262: the foreground calibration of CVn ends after `us` microseconds with the outcome of each slice -/
  | fgCalDone (n : Nat) (us : Word) (cs : List CalMeas)
  /-- CV_CAL_COMMIT. R265: a write of CV_CAL_COMMIT with GO = 1 -/
  | cvCalCommit (m : Master) (n : Nat) (slice : Nat)
  /-- CV_CORR_APPLY. R267: a write of CV_CORR_APPLY.GO -/
  | cvCorrApply (m : Master) (n : Nat)
  /-- DIAG_GO. R273: a write of CV_DIAG_CTRL with GO = 1 -/
  | diagGo (m : Master) (n : Nat) (chan : Nat) (mode : Nat) (dac : Nat)
  /-- DIAG_DONE. R273: the input-path test of CVn completes -/
  | diagDone (n : Nat)
  /-- FILTER_INPUT. R280: chain `c` accepts its next input: the oldest result that has left its converter for it, or, with KIND = 1, the word that its fabric stream port presents -/
  | filterInput (c : Nat)
  /-- CHAIN_CHANGE. R285: a write of FC_CTL (`reg` 0), FC_SRC (1) or FC_SHIFT (2) of chain `c` -/
  | chainChange (m : Master) (c : Nat) (reg : Nat) (v : Word)
  /-- COMPARATOR_TICK. R291: the next tick of comparator `c`: what the field has changed, and the comparator's own error in microvolts (R299) -/
  | comparatorTick (c : Nat) (f : Signals) (err : Int)
  /-- CP_CFG_WRITE. R294: a write of CP_CFG, or with `thr` of CP_THR, of comparator `c` -/
  | cpCfgWrite (m : Master) (c : Nat) (thr : Bool) (v : Word)
  /-- SNAPSHOT. R297: the oldest event of the snapshot timer on its way is due, or the end of a whole microsecond of the timebase -/
  | snapshot (timer : Bool)
  /-- LOAD_STROBE. R311: the oldest event on its way from the hardware source of group `g` strobes it -/
  | loadStrobe (g : Nat)
  /-- LS_FIRE. R312: a write of LS_FIRE -/
  | lsFire (m : Master) (mask : Nat)
  /-- DA_CFG_WRITE. R307: a write of DA_CFG of channel `c` -/
  | daCfgWrite (m : Master) (c : Nat) (v : Word)
  /-- SPAN_DISCONNECT. R315: step 3 of a span change -/
  | spanDisconnect (c : Nat)
  /-- SPAN_SWITCH. R315: steps 4 and 5 of a span change -/
  | spanSwitch (c : Nat)
  /-- UNPUBLISH. R314: 5 us after a disable -/
  | unpublish (c : Nat)
  /-- OUTPUT_MONITOR_TICK. R308: a 10 us monitor tick; the voltage channels in current limit and the current channels whose gate is at its upper limit -/
  | outputMonitorTick (limited : List Nat) (atGate : List Nat)
  /-- DA_TRIP. R308: channel `c` has been current-limited at 100 consecutive ticks -/
  | daTrip (c : Nat)
  /-- COMPLY. R309: channel `c` has held its gate at the limit at 10 consecutive ticks -/
  | comply (c : Nat)
  /-- DA_RESTORE. R308: a write of DA_RESTORE of DA page `pg` -/
  | daRestore (m : Master) (pg : Nat) (mask : Nat)
  /-- HW_SOURCE_EVENT. R332: the scheduler takes the oldest event that hardware source `src` has raised -/
  | hwSourceEvent (src : Nat)
  /-- FABRIC_SUBMISSION. R334: fabric event port 0x100 + `port` accepts the next word of a submission: word 0 or a payload word -/
  | fabricSubmission (port : Nat)
  /-- SQ_FETCH. R335: the scheduler fetches the next descriptor of host submission queue `q`, whose 32 bytes are `desc` -/
  | sqFetch (q : Nat) (desc : List Byte)
  /-- SQ_TAIL_WRITE. R358: a write of SCH_SQq_TAIL -/
  | sqTailWrite (m : Master) (q : Nat) (v : Word)
  /-- DISPATCH. R340: a dispatch decision for group `g` -/
  | dispatch (g : Nat)
  /-- AFF_WAIT_EXPIRY. R341: the wait of the ready task with handle `h` reaches SCH_AFF_WAIT -/
  | affWaitExpiry (h : Nat)
  /-- TASK_ACCEPT. R562: worker `w` accepts the oldest task offered to it -/
  | taskAccept (w : Nat)
  /-- FABRIC_COMPLETION. R339: the status word that stands on the completion channel of fabric worker port `w` -/
  | fabricCompletion (w : Nat)
  /-- SCH_HQ_DONE. R357: a write of SCH_HQq_DONE -/
  | schHqDone (m : Master) (q : Nat) (v : Word)
  /-- RELEASE. R344: the next release of flow `f` -/
  | release (f : Nat)
  /-- SCH_CANCEL. R348: a write of SCH_CANCEL -/
  | schCancel (m : Master) (v : Word)
  /-- CANCEL_NOTICE. R350: the oldest CANCEL notice of completion queue `q` is written -/
  | cancelNotice (q : Nat)
  /-- HA_DECIDE. R354: a write of SCH_HA_DECIDE -/
  | haDecide (m : Master) (v : Word)
  /-- CQ_HEAD_WRITE. R358: a write of SCH_CQq_HEAD -/
  | cqHeadWrite (m : Master) (q : Nat) (v : Word)
  /-- BROKE_TAIL_WRITE. R353: a write of SCH_BROKE_TAIL -/
  | brokeTailWrite (m : Master) (v : Word)
  /-- FLOW_TABLE_WRITE. R359: a write of word +0x0 of the entry of flow `f` -/
  | flowTableWrite (m : Master) (f : Nat) (v : Word)
  /-- SCH_CTRL_MODE. R343: a write of SCH_CTRL -/
  | schCtrlMode (m : Master) (v : Word)
  /-- STREAM_ITEM. R371: the producer of stream source `src` presents an item, a fabric stream port the word on its channel; `t` is its time where the source gives it (R366), `invalid` a raw or filter word with VALID = 0 -/
  | streamItem (src : Nat) (item : List Byte) (t : Nat) (invalid : Bool)
  /-- FLUSH_TIMEOUT. R367: FLUSH.TIMEOUT has passed since the first item of the block in progress of ring `r` -/
  | flushTimeout (r : Nat)
  /-- FLUSH_NOW. R367: a write of 1 to ST_RINGk_FLUSH.NOW of ring `r` -/
  | flushNow (m : Master) (r : Nat)
  /-- BLOCK_COMMIT. R368: the oldest closed block of ring `r` is committed -/
  | blockCommit (r : Nat)
  /-- RP_WRITE. R369: a write of ST_RINGk_RP of ring `r` -/
  | rpWrite (m : Master) (r : Nat) (v : Word)
  /-- RING_ENABLE. R364, R368: a write of ST_RINGk_CFG.EN of ring `r` -/
  | ringEnable (m : Master) (r : Nat) (v : Bool)
  /-- TASK_ENTRY. R376: stream engine `e` writes the entry of its oldest task; `data` is the pointed data read, none where the read fails -/
  | taskEntry (e : Nat) (data : Option (List Byte))
  /-- STREAM_DMA_ERROR. R373: a host DMA error on ring `r` -/
  | streamDmaError (r : Nat)
  /-- MOUNT_DONE. R388: mounting ends with RS_STATE.STATE `outcome` (2-4), RS_GEOM, RS_BLOCKS and RS_RESERVE as found; `found` tells whether the commit record of an accepted commit was found, `replayed` whether a press record was, `late` whether the last press exceeded T -/
  | mountDone (outcome : Nat) (geom : Word) (blocks : Word) (reserve : Word) (found : Bool) (replayed : Bool) (late : Bool)
  /-- FORMAT. R386: a write of RS_CMD with GO = 1, OP = 1 -/
  | format (m : Master) (confirm : Byte)
  /-- LIB_WRITE. R387: a write of RS_CMD with GO = 1, OP = 2; `data` are the sheet bytes read from RS_SRC_ADDR, none on a DMA error -/
  | libWrite (m : Master) (slot : Nat) (data : Option (List Byte))
  /-- LIB_ERASE. R387: a write of RS_CMD with GO = 1, OP = 3 -/
  | libErase (m : Master) (slot : Nat)
  /-- SET_STARTUP. R387: a write of RS_CMD with GO = 1, OP = 4 -/
  | setStartup (m : Master) (slot : Nat)
  /-- REFRESH_SWEEP_NOW. R390: a write of RS_CMD with GO = 1, OP = 5 -/
  | refreshSweepNow (m : Master)
  /-- CMD_DONE. R420: the ream-store command in hand completes; `full` where the store has no space for it -/
  | cmdDone (full : Bool)
  /-- REFRESH_READ. R390: the refresh engine reads a programmed block of partition `part` at `addr` (channel, CE and row as PG_FE_ADDR): its worst codeword needs `worst` percent of the decoder's capacity (above 100 it is uncorrectable), `disturbed` tells that its reads pass the limit, `last` ends the sweep -/
  | refreshRead (part : Nat) (addr : Word) (worst : Nat) (disturbed : Bool) (last : Bool)
  /-- RS_HA_ANS. R392: a write of RS_HA_ANS -/
  | rsHaAns (m : Master) (v : Word)
  /-- RAW_READ_PAGE. R392: a write of RS_RAW with GO = 1, OP = 1; `data` is the page as decoded -/
  | rawReadPage (m : Master) (v : Word) (data : List Byte)
  /-- RAW_PROGRAM_PAGE. R392: a write of RS_RAW with GO = 1, OP = 2; `data` is read from RS_SRC_ADDR -/
  | rawProgramPage (m : Master) (v : Word) (data : List Byte)
  /-- RAW_ERASE_BLOCK. R392: a write of RS_RAW with GO = 1, OP = 3 -/
  | rawEraseBlock (m : Master) (v : Word)
  /-- RAW_DONE. R420: the raw operation in hand completes -/
  | rawDone (ok : Bool)
  /-- OPEN. R395: a write of RS_VT_CMD with GO = 1, OP = 1 -/
  | openTxn (m : Master)
  /-- APPEND. R395: a write of RS_VT_CMD with GO = 1, OP = 2; `data` are the RS_VT_LEN bytes at RS_VT_ADDR, none on a DMA error -/
  | append (m : Master) (data : Option (List Byte))
  /-- COMMIT. R397: a write of RS_VT_CMD with GO = 1, OP = 3; `unwritten` bytes of the transaction are not yet written, `full` tells that the vault has no space for it, `peerOk` the peer's answer where one is asked (R400) -/
  | commit (m : Master) (unwritten : Nat) (full : Bool) (peerOk : Bool)
  /-- ABANDON. R395: a write of RS_VT_CMD with GO = 1, OP = 4 -/
  | abandon (m : Master)
  /-- GET. R399: a write of RS_VT_CMD with GO = 1, OP = 5; `bad` where the record cannot be decoded -/
  | getKey (m : Master) (bad : Bool)
  /-- COMMIT_DONE. R397: the commit record of the accepted commit becomes readable, with the peer's where the vaults are in step (R400) -/
  | commitDone
  /-- CAPTURE_ENABLE. R422: a write of RS_CAPn_CFG.EN -/
  | captureEnable (m : Master) (n : Nat) (v : Bool)
  /-- CAPTURE_TRIGGER. R403: a trigger of stream `n`: a write of TRIGGER, or (`hw`) the event of the timer or scheduler strobe output that the stream selects -/
  | captureTrigger (m : Master) (n : Nat) (hw : Bool)
  /-- REARM. R403: a write of 1 to RS_CAPn_CFG.REARM -/
  | rearm (m : Master) (n : Nat)
  /-- CAP_RD. R404: a write of RS_CAP_RD with GO = 1 -/
  | capRd (m : Master)
  /-- READ_DONE. R422: the capture read in hand completes; `bad` are block indices that cannot be decoded -/
  | readDone (bad : List Nat)
  /-- PRESS_ARMED. R405: CP126 has reported LO crossed at 1,000 consecutive ticks -/
  | pressArmed
  /-- VIN_FALL. R405: CP126 has reported LO not crossed at 2 consecutive ticks -/
  | vinFall
  /-- PWR_FAIL. R405: PWR_FAIL# is low after two-tick synchronisation -/
  | pwrFail
  /-- HOLDUP_TRIP. R405: CP127 has reported LO not crossed at 2 consecutive ticks -/
  | holdupTrip
  /-- PRESS_TRIG. R405: a write of 1 to RS_PR_CTRL.TRIG -/
  | pressTrig (m : Master)
  /-- PRESS_STEP_DONE. R407: the press step in progress completes; `pfHigh` is the level of PWR_FAIL# -/
  | pressStepDone (pfHigh : Bool)
  /-- ENERGY_MEASUREMENT. R411: the latest conversion of HOLDUP_SENSE is evaluated -/
  | energyMeasurement
  /-- ENERGY_STALE. R423: the energy measurement has been stale for more than 10 ms -/
  | energyStale
  /-- SAVE. R423: a write of 1 to RS_PR_CTRL.SAVE -/
  | save (m : Master)
  /-- READ_ID. R415: boot-flash command 0x9F, `n` bytes clocked out -/
  | readId (n : Nat)
  /-- READ_SFDP. R415: boot-flash command 0x5A -/
  | readSfdp (addr : Nat) (n : Nat)
  /-- READ_STATUS. R415: boot-flash command 0x05 -/
  | readStatus
  /-- WRITE_ENABLE. R415: boot-flash command 0x06 -/
  | writeEnable
  /-- WRITE_DISABLE. R415: boot-flash command 0x04 -/
  | writeDisable
  /-- WRITE_VOLATILE_CONFIGURATION. R415: boot-flash command 0x81 -/
  | writeVolatileConfiguration (addr : Nat) (data : Byte)
  /-- READ. R415: boot-flash command 0x13 -/
  | read (addr : Nat) (n : Nat)
  /-- FAST_READ. R415: boot-flash command 0x0C -/
  | fastRead (addr : Nat) (n : Nat)
  /-- OCTAL_DDR_READ. R415: boot-flash command 0xEE -/
  | octalDdrRead (addr : Nat) (n : Nat)
  /-- PAGE_PROGRAM. R415: boot-flash command 0x12 -/
  | pageProgram (addr : Nat) (data : List Byte)
  /-- ERASE_4K. R415: boot-flash command 0x21 -/
  | erase4k (addr : Nat)
  /-- ERASE_64K. R415: boot-flash command 0xDC -/
  | erase64k (addr : Nat)
  /-- CHIP_ERASE. R415: boot-flash command 0xC7 -/
  | chipErase
  /-- RESET_ENABLE. R415: boot-flash command 0x66 -/
  | resetEnable
  /-- RESET. R415: boot-flash command 0x99 -/
  | resetPort
  /-- WIP_CLEAR. R418: the boot-flash program or erase in hand completes -/
  | wipClear
  /-- BFE_RST. R414: a low level on BFE_RST# -/
  | bfeRst
  /-- HOST_RESET_ASSERT. R417: the boot-flash port meets an assertion of HOST_RESET# -/
  | hostResetAssert
  /-- HOST_RESET_RELEASE. R417: the boot-flash port meets a release of HOST_RESET# -/
  | hostResetRelease
  /-- BOOT_OK. R417: a write of 1 to BFE_BOOT.BOOT_OK -/
  | bootOk (m : Master)
  /-- BFE_COMMIT. R418: a write of 1 to BFE_CTRL.COMMIT -/
  | bfeCommit (m : Master)
  /-- BFE_DISCARD. R418: a write of 1 to BFE_CTRL.DISCARD -/
  | bfeDiscard (m : Master)
  /-- BFE_UPD. R418: a write of BFE_UPD with GO = 1; `data` are the LEN bytes at BFE_UPD_SRC, none on a DMA error -/
  | bfeUpd (m : Master) (data : Option (List Byte))
  /-- FAULT_DETECTED. R426: a checker of page `pg` detects the fault of source `src` (address, access type R58, master identifier R57, injected R450) -/
  | faultDetected (pg : Nat) (src : Nat) (addr : Word) (acc : Nat) (mas : Nat) (inj : Bool)
  /-- ERROR_PULSE_END. R439: DEV_ERRPIN.PULSE has passed since the latest cause -/
  | errorPulseEnd
  /-- NMI_PULSE_END. R442: HOST_NMI# has been asserted for 10 us -/
  | nmiPulseEnd
  /-- FAULT_REGISTER_PARITY_CHECK. R437: the parity check of the fault register at page offset `off`; `bad` where a stored bit has flipped -/
  | faultRegisterParityCheck (pg : Nat) (off : Nat) (bad : Bool)
  /-- TENDER_VOTE. R453: the tender votes on its three copies, which read `a`, `b` and `c` -/
  | tenderVote (a : Nat) (b : Nat) (c : Nat)
  /-- MP_WATCH_EXPIRY. R455: the management processor misses its heartbeat -/
  | mpWatchExpiry
  /-- MP_HEARTBEAT. R455: the firmware signals the tender -/
  | mpHeartbeat
  /-- KEYED_CHIP_RESET. R456: the third write of the keyed command CHIP_RESET -/
  | keyedChipReset (m : Master)
  /-- KEYED_SAFE. R456: the third write of the keyed command SAFE -/
  | keyedSafe (m : Master)
  /-- KEYED_SURRENDER. R456: the third write of the keyed command SURRENDER -/
  | keyedSurrender (m : Master)
  /-- INJECT_FREG. R456, R451: the third write of the keyed command INJECT_FREG -/
  | injectFreg (m : Master) (pg : Nat)
  /-- TND_TRAP_CLEAR. R442: a write of 1 to TND_TRAP.PENDING -/
  | tndTrapClear (m : Master)
  /-- RESET_PIN. R458: RESET# has been low for long enough -/
  | resetPin
  /-- POWER_ON_RESET. R457: the AON supply becomes valid -/
  | powerOnReset
  /-- TWIN_FRAME. R464: a twin-link frame is received; none where its CRC fails (`lanes` the lane mask), with the mirror lag in ns that a good frame of class 3 shows -/
  | twinFrame (lanes : Nat) (lag : Nat) (f : Option TwinMsg)
  /-- TWIN_LINK_TIMEOUT. R464: no frame for 8 us, or four failures of one frame -/
  | twinLinkTimeout
  /-- LINK_TRAINED. R464: training completes; `uid` is the peer's DEV_UID -/
  | linkTrained (uid : Nat)
  /-- HEARTBEAT_SEND. R471: a microsecond of the timebase ends -/
  | heartbeatSend
  /-- MISSED_HEARTBEAT. R471: a whole microsecond without a heartbeat -/
  | missedHeartbeat
  /-- HEARTBEAT_LOST. R473: the eighth consecutive missed heartbeat -/
  | heartbeatLost
  /-- TWIN_PEER_CHANGE. R466: the TWIN_PEER reading becomes 0 NONE, 1 LIVE or 2 CLAIM -/
  | twinPeerChange (line : Nat)
  /-- CLAIM_STANDS. R469, R474: 2 us after the claim was raised; `after` is the time in ns from then to step 6 of a takeover -/
  | claimStands (after : Nat)
  /-- CLAIM_WAIT_EXPIRY. R470: TW_CFG.CLAIM_WAIT has passed -/
  | claimWaitExpiry
  /-- PAD_HOLD_EXPIRY. R475: TW_CFG.PAD_HOLD has passed since the claim -/
  | padHoldExpiry
  /-- SYNCED. R482: a step of catching up ends (2, 3 or 4), with the primary's RS_VT_DURABLE and vault for step 3 on the secondary -/
  | synced (step : Nat) (seq : Nat) (vault : List (Nat × List Byte))
  /-- ENUM. R486: a write of 1 to SN_CTRL.ENUM -/
  | enum (m : Master)
  /-- ENUM_DONE. R486: enumeration ends, with the next free address and the depth that the parent gives, the subtrees of lanes 1-3, the number of devices, and the depth at which a limit was met -/
  | enumDone (next : Nat) (depth : Nat) (ranges : List (Option (Nat × Nat))) (count : Nat) (beyond : Option Nat)
  /-- TIME_PACKET. R487: a time packet from the parent, with the offset to the parent and the one-way delay in ns that it gives -/
  | timePacket (offs : Int) (delay : Nat)
  /-- SPAN_PACKET. R488: a span-port packet (`bad` where its CRC fails) -/
  | spanPacket (from' : SpanFrom) (bad : Bool) (dest : Nat) (desc : List Word)
  /-- STROBE_TX. R489: a write of SN_STROBE_TX -/
  | strobeTx (m : Master) (v : Word)
  /-- STROBE_PACKET. R489: a strobe packet for strobe `k` at system time `t` arrives on a lane -/
  | strobePacket (lane : Nat) (k : Nat) (t : Time)
  /-- SYSTEM_STROBE. R489: the timestamp reaches the time of a scheduled strobe `k` -/
  | systemStrobe (k : Nat)
  /-- LANE_DOWN. R486: a span lane goes down -/
  | laneDown (lane : Nat)
  /-- GB_OUT_WRITE. R502: a write of GB_OUT of bank `b` -/
  | gbOutWrite (m : Master) (b : Nat) (v : Word)
  /-- GB_DIR_WRITE. R502: a write of GB_DIR -/
  | gbDirWrite (m : Master) (b : Nat) (v : Word)
  /-- GB_CFG_WRITE. R498: a write of GB_CFG of device pad `p` -/
  | gbCfgWrite (m : Master) (p : Nat) (v : Word)
  /-- GB_PADLOCK. R507: a write of GB_PADLOCK -/
  | gbPadlock (m : Master) (b : Nat) (v : Word)
  /-- EDGE. R505: two consecutive synchronised samples of device pad `p` differ, the later one being `level` -/
  | edge (p : Nat) (level : Bool)
  /-- VIO_LOW. R510: VDD_IO of bank `b` falls below 1.08 V -/
  | vioLow (b : Nat)
  /-- VIO_OK. R510: VDD_IO of bank `b` rises above 1.14 V -/
  | vioOk (b : Nat)
  /-- QUAD_LOOP_LOCK. R511: the loop of quad `q` locks -/
  | quadLoopLock (q : Nat)
  /-- LOOP_LOSS. R516: the loop of quad `q` loses lock -/
  | loopLoss (q : Nat)
  /-- SQ_CFG_WRITE. R512: a write of SQ_CFG -/
  | sqCfgWrite (m : Master) (q : Nat) (v : Word)
  /-- LANE_TRANSMIT. R515: the line of lane `l` needs a transfer -/
  | laneTransmit (q : Nat) (l : Nat)
  /-- LANE_RECEIVE. R515: lane `l` completes the received transfer `x` with `errs` code, disparity or header errors and `prbs` PRBS bit errors; `aligned` is comma alignment or block lock -/
  | laneReceive (q : Nat) (l : Nat) (aligned : Bool) (x : List Word) (errs : Nat) (prbs : Nat)
  /-- DOMAIN_ON. R521: a switched domain has ramped -/
  | domainOn (d : Nat)
  /-- DOMAIN_OFF. R521: a domain no longer asked for goes off -/
  | domainOff (d : Nat)
  /-- PWR_RUN. R525: a write of PWR_STATE with GO = 1 and TARGET = 0 -/
  | pwrRun (m : Master)
  /-- PWR_DOZE. R525: a write of PWR_STATE with GO = 1 and TARGET = 1 -/
  | pwrDoze (m : Master)
  /-- PWR_HOLD. R526: a write of PWR_STATE with GO = 1 and TARGET = 2 -/
  | pwrHold (m : Master)
  /-- DOZE_WAKE. R525: the wake source of a PWR_WAKE.DOZE bit -/
  | dozeWake (src : Nat)
  /-- WAKE. R527: a write of 1 to PWR_STATE.WAKE -/
  | wake (m : Master)
  /-- HOLD_PFAIL_WAKE. R527: PWR_FAIL# high for 10 ms -/
  | holdPfailWake
  /-- HOLD_VIN_WAKE. R527: VIN_SENSE at `mv` mV for 10 ms -/
  | holdVinWake (mv : Nat)
  /-- SUPPLY_LOST. R530: the supply of PWR_SUPPLY bit `n` stays below its falling threshold for 1 us -/
  | supplyLost (n : Nat)
  /-- PMBUS_POLL. R532: the readings of the 1 ms poll, with the failed transactions in it and the command that failed last -/
  | pmbusPoll (vout : Nat) (iout : Nat) (word : Nat) (fails : Nat) (cmd : Nat)
  /-- VOUT_MISMATCH. R534: READ_VOUT has differed from the last step by more than 25 mV for 1 ms -/
  | voutMismatch
  /-- PMB_ALERT. R534: PMB_ALERT# goes low -/
  | pmbAlert
  /-- SEQ_START. R536: a write of 1 to SEQ_CTRL.START -/
  | seqStart (m : Master)
  /-- RAIL_STEP_DELAY. R536: the delay of the step in progress expires -/
  | railStepDelay
  /-- RAIL_PG. R536: RAIL_PG of rail `r` goes high -/
  | railPg (r : Nat)
  /-- PG_TIMEOUT. R537: the power-good timeout of rail `r` expires -/
  | pgTimeout (r : Nat)
  /-- PG_LOSS. R537: RAIL_PG of rail `r` has been low for 10 us -/
  | pgLoss (r : Nat)
  /-- HOST_DELAY_EXPIRY. R536: SEQ_HOST_DELAY expires -/
  | hostDelayExpiry
  /-- SEQ_OFF. R538: a write of 1 to SEQ_CTRL.OFF -/
  | seqOff (m : Master)
  /-- HOST_PULSE. R538: a write of 1 to SEQ_CTRL.HOST_PULSE -/
  | hostPulse (m : Master)
  /-- SEQ_MANUAL. R540: a write of SEQ_MANUAL -/
  | seqManual (m : Master) (v : Word)
  /-- TEMP_SAMPLE. R545: the die temperatures in 0.125 degrees -/
  | tempSample (dig : Int) (ana : Int)
  /-- LONG_LINE_TRANSFER. R135: driver tap `tap` (4*cluster + index) drives the value at its data input onto the line -/
  | longLineTransfer (b : Nat) (line : Nat) (tap : Nat)
  /-- MIRROR_REFRESH. R116: the primary's twin link copies every mirrored retention-tagged value -/
  | mirrorRefresh
  /-- DOMAIN_ON_TIMEOUT. R550: a domain is not on within 100 us of its request -/
  | domainOnTimeout (d : Nat)
  /-- NAND_NOT_RESPONDING. R420: a NAND die (channel, CE and row as PG_FE_ADDR) does not respond within 10 ms -/
  | nandNotResponding (addr : Word)
  /-- UPD_DONE. R424: the BFE_UPD in hand completes -/
  | updDone
  /-- MANAGEMENT_PROCESSOR_COMPLETION. R338: the firmware completes the task with handle `h`, taken from its queue -/
  | managementProcessorCompletion (h : Nat) (status : Word)
  /-- OP_DONE. R396: the APPEND or GET in hand finishes its host DMA, `dmaErr` with an error -/
  | opDone (dmaErr : Bool)
  /-- RESET_PIN_RELEASE. R458: RESET# rises -/
  | resetPinRelease
  /-- SUPPLY_VALID. R529: the counted supply of bit `n` of PWR_SUPPLY.VALID becomes valid; the last one is t0 -/
  | supplyValid (n : Nat)
  /-- VDD_AON_FALL. R530: VDD_AON falls -/
  | vddAonFall
  /-- RAIL_OFF_DELAY. R537: the delay of the rails just disabled expires in a failure shutdown -/
  | railOffDelay
  /-- SPAN_LANE_UP. R485: a span lane comes up -/
  | spanLaneUp (lane : Nat)
  /-- SPAN_TIME_EXCHANGE. R487: 10 us have passed -/
  | spanTimeExchange
  /-- FIRMWARE_RESTART_DONE. R455: the reloaded firmware runs again -/
  | firmwareRestartDone
  deriving DecidableEq, Repr

end Sys2Proof
end

