-- ==== Sys2Proof/Machine/Bits.lean ====
section
/-!
DEFINITION. Bit-field, sign, saturation and byte-order helpers that every chapter of the spec uses, and the
sparse tables (key and value pairs with strictly rising keys) in which the state holds registers and memories.
-/
namespace Sys2Proof.Machine

/-- Bits [lo+len-1 : lo] of a number. -/
def bits (w lo len : Nat) : Nat := w / 2 ^ lo % 2 ^ len

/-- Bit i of a number as a Bool. -/
def bit (w i : Nat) : Bool := bits w i 1 == 1

/-- The number of a Bool: 1 or 0. -/
def b2n (b : Bool) : Nat := if b then 1 else 0

/-- The word with its bits [lo+len-1 : lo] replaced by the low `len` bits of `v`. -/
def setBits (w : Word) (lo len v : Nat) : Word :=
  BitVec.ofNat 32 (w.toNat % 2 ^ lo + (v % 2 ^ len) * 2 ^ lo + w.toNat / 2 ^ (lo + len) * 2 ^ (lo + len))

/-- The signed value of the low `n` bits of a number, two's complement. -/
def sext (n v : Nat) : Int :=
  if v % 2 ^ n < 2 ^ (n - 1) then (v % 2 ^ n : Int) else (v % 2 ^ n : Int) - 2 ^ n

/-- The low `n` bits of an integer, two's complement. -/
def trunc (n : Nat) (v : Int) : Nat := (v % (2 ^ n : Int)).toNat

/-- An integer limited to the signed range of `n` bits. -/
def satS (n : Nat) (v : Int) : Int := max (-(2 ^ (n - 1) : Int)) (min v (2 ^ (n - 1) - 1))

/-- An integer limited to a range. -/
def clampI (lo hi v : Int) : Int := max lo (min v hi)

/-- The nearest integer to a quotient, ties away from zero (R266, R282). -/
def roundDiv (n : Int) (d : Nat) : Int :=
  if 0 ≤ n then (2 * n + d) / (2 * d) else -((-2 * n + d) / (2 * d))

/-- A number stored clamped into a range ("stored clamped into that range"). -/
def clampN (lo hi v : Nat) : Nat := max lo (min v hi)

/-- A saturating count of `n` bits, one up. -/
def satInc (n v : Nat) : Nat := min (v + 1) (2 ^ n - 1)

/-- A saturating count of `n` bits, `k` up. -/
def satAdd (n v k : Nat) : Nat := min (v + k) (2 ^ n - 1)

/-- A wrapping count of `n` bits, one up. -/
def wrapInc (n v : Nat) : Nat := (v + 1) % 2 ^ n

/-- The four bytes of a word, least significant first (R12). -/
def wordBytes (w : Word) : List Byte :=
  [w.extractLsb' 0 8, w.extractLsb' 8 8, w.extractLsb' 16 8, w.extractLsb' 24 8]

/-- The `n` low bytes of a number, least significant first. -/
def leBytes : Nat → Nat → List Byte
  | 0, _ => []
  | n + 1, v => BitVec.ofNat 8 v :: leBytes n (v / 256)

/-- The number whose bytes are given least significant first. -/
def leNat : List Byte → Nat
  | [] => 0
  | b :: bs => b.toNat + 256 * leNat bs

/-- The number whose bytes are given most significant first. -/
def beNat (bs : List Byte) : Nat := leNat bs.reverse

/-- Bytes grouped four by four into little-endian words; a short last group is padded with zeros. -/
def leWords : List Byte → List Word
  | a :: b :: c :: d :: r => BitVec.ofNat 32 (leNat [a, b, c, d]) :: leWords r
  | [] => []
  | r => [BitVec.ofNat 32 (leNat r)]

/-- The lowest index below `n` at which a predicate holds. -/
def findIdx? (p : Nat → Bool) (n : Nat) : Option Nat := (List.range n).find? p

/-- The number of set bits below bit `n`. -/
def popCount (w n : Nat) : Nat := ((List.range n).filter (bit w)).length

/-- The value at a key of a sparse table. -/
def aget {α : Type} : List (Nat × α) → Nat → Option α
  | [], _ => none
  | (k, v) :: r, x => if k = x then some v else aget r x

/-- The table with the value at a key set, its keys still rising. -/
def aput {α : Type} : List (Nat × α) → Nat → α → List (Nat × α)
  | [], x, v => [(x, v)]
  | (k, w) :: r, x, v =>
    if x < k then (x, v) :: (k, w) :: r
    else if x = k then (x, v) :: r
    else (k, w) :: aput r x v

/-- The table without a key. -/
def adel {α : Type} : List (Nat × α) → Nat → List (Nat × α)
  | [], _ => []
  | (k, v) :: r, x => if k = x then adel r x else (k, v) :: adel r x

/-- Every key of the table lies above `lo` and the keys rise strictly. -/
def asortedFrom {α : Type} : Option Nat → List (Nat × α) → Bool
  | _, [] => true
  | none, (k, _) :: r => asortedFrom (some k) r
  | some lo, (k, _) :: r => decide (lo < k) && asortedFrom (some k) r

/-- The keys of a sparse table rise strictly. -/
def asorted {α : Type} (l : List (Nat × α)) : Bool := asortedFrom none l

end Sys2Proof.Machine
end

