-- ==== Sys2Proof/Machine/Crc.lean ====
section
/-!
DEFINITION. The cyclic checks of the spec: CRC-32 (R162) and CRC-8 (R62).
-/
namespace Sys2Proof.Machine
open Sys2Proof

/-- One bit of the reflected CRC-32 of R162 (polynomial 0x04C1_1DB7, reflected 0xEDB8_8320). -/
def crc32Bit (c : Word) : Word := if c &&& 1 = 1 then (c >>> 1) ^^^ 0xEDB88320 else c >>> 1

/-- The CRC-32 register after one byte. -/
def crc32Byte (c : Word) (b : Byte) : Word :=
  let c := c ^^^ b.setWidth 32
  crc32Bit (crc32Bit (crc32Bit (crc32Bit (crc32Bit (crc32Bit (crc32Bit (crc32Bit c)))))))

/-- The CRC-32 register before the first byte. -/
def crc32Init : Word := 0xFFFFFFFF

/-- The CRC-32 of bytes (R162). [Log 12 PRESUMED] -/
def crc32 (l : List Byte) : Word := (l.foldl crc32Byte crc32Init) ^^^ 0xFFFFFFFF

/-- One bit of the CRC-8 of R62 (polynomial 0x07, most significant bit first). -/
def crc8Bit (c : Byte) : Byte := if c &&& 0x80 = 0x80 then (c <<< 1) ^^^ 0x07 else c <<< 1

/-- The CRC-8 register after one byte. -/
def crc8Byte (c b : Byte) : Byte :=
  let c := c ^^^ b
  crc8Bit (crc8Bit (crc8Bit (crc8Bit (crc8Bit (crc8Bit (crc8Bit (crc8Bit c)))))))

/-- The CRC-8 of bytes, from an initial value of 0 (R62). [Log 12 PRESUMED] -/
def crc8 (l : List Byte) : Byte := l.foldl crc8Byte 0

end Sys2Proof.Machine
end

