-- ==== Sys2Proof/Machine/Regs.lean ====
section
/-!
DEFINITION. The register fields of the spec's register tables, one `Fld` each, named as the spec names them
(an index letter of an arrayed register is dropped: TM_CTRL.EN of timer n is `F.TM_CTRL.EN` at index n), and
for every kind of page the list of its fields.  Reserved bits have no field, so they read 0 and a write
leaves them alone (R15).  Each field carries its place, access code (R16), reset value, what it keeps through
a chip reset (R457), its lock bit (R55 and the owning chapter), and the steps of its register and bit arrays.
-/

namespace Sys2Proof.Machine

/-- Access codes of R16; a lock bit stands with the field. -/
inductive Acc where
  | rw | ro | w1c | wo | sc
  deriving DecidableEq, Repr

/-- What survives a reset: nothing, a chip reset (kept), or every power cycle (stored). -/
inductive Keep where
  | no | chip | always
  deriving DecidableEq, Repr

/-- One register field. `off` is the offset of its register in the page (of index 0), `stride` and `count` the
step and number of an arrayed register, `bstep` and `bcount` the bit step and number of a field repeated in
one register, `lock` the PG_LOCK bit of a lockable field. -/
structure Fld where
  off : Nat
  hi : Nat
  lo : Nat
  acc : Acc
  rst : Nat := 0
  keep : Keep := .no
  lock : Option Nat := none
  stride : Nat := 0
  count : Nat := 1
  bstep : Nat := 0
  bcount : Nat := 1
  deriving DecidableEq, Repr

namespace F


-- R46 (02_registers_and_host_link.md)
def PG_ID.TYPE : Fld := { off := 0x000, hi := 31, lo := 16, acc := .ro }
def PG_ID.INST : Fld := { off := 0x000, hi := 15, lo := 8, acc := .ro }
def PG_ID.VER : Fld := { off := 0x000, hi := 7, lo := 0, acc := .ro, rst := 1 }
def PG_CAPS.BLOCK : Fld := { off := 0x004, hi := 31, lo := 16, acc := .ro }
def PG_CAPS.HOST_MODE_AVAIL : Fld := { off := 0x004, hi := 1, lo := 1, acc := .ro }
def PG_CAPS.PRESENT : Fld := { off := 0x004, hi := 0, lo := 0, acc := .ro, rst := 1 }
def PG_CTRL.IDLE : Fld := { off := 0x008, hi := 9, lo := 9, acc := .ro, rst := 1 }
def PG_CTRL.QUIESCE : Fld := { off := 0x008, hi := 8, lo := 8, acc := .rw, lock := some 0 }
def PG_CTRL.PWR_ACK : Fld := { off := 0x008, hi := 3, lo := 3, acc := .ro }
def PG_CTRL.PWR_REQ : Fld := { off := 0x008, hi := 2, lo := 2, acc := .rw, lock := some 0 }
def PG_CTRL.BLK_RESET : Fld := { off := 0x008, hi := 1, lo := 1, acc := .sc }
def PG_CTRL.EN : Fld := { off := 0x008, hi := 0, lo := 0, acc := .rw, lock := some 0 }
def PG_MODE.FAULT : Fld := { off := 0x00C, hi := 31, lo := 31, acc := .rw, lock := some 1 }
def PG_MODE.FUNC : Fld := { off := 0x00C, hi := 30, lo := 0, acc := .rw, lock := some 1 }
def PG_STATUS.MODE_REJECT : Fld := { off := 0x010, hi := 31, lo := 31, acc := .w1c }
def PG_STATUS.LOCKED_WRITE : Fld := { off := 0x010, hi := 30, lo := 30, acc := .w1c }
def PG_STATUS.BLOCK : Fld := { off := 0x010, hi := 29, lo := 0, acc := .w1c }
def PG_IRQ_EN : Fld := { off := 0x014, hi := 31, lo := 0, acc := .rw, lock := some 2 }
def PG_FAULT.CONT_COUNT : Fld := { off := 0x018, hi := 23, lo := 16, acc := .ro }
def PG_FAULT.CORR_COUNT : Fld := { off := 0x018, hi := 15, lo := 8, acc := .ro }
def PG_FAULT.COUNT_CLR : Fld := { off := 0x018, hi := 3, lo := 3, acc := .sc }
def PG_FAULT.FATAL : Fld := { off := 0x018, hi := 2, lo := 2, acc := .w1c }
def PG_FAULT.CONT : Fld := { off := 0x018, hi := 1, lo := 1, acc := .w1c }
def PG_FAULT.CORR : Fld := { off := 0x018, hi := 0, lo := 0, acc := .w1c }
def PG_FAULT_REACT.SRC : Fld := { off := 0x01C, hi := 3, lo := 0, acc := .rw, lock := some 3, bstep := 4, bcount := 8 }
def PG_FE_ADDR : Fld := { off := 0x020, hi := 31, lo := 0, acc := .ro }
def PG_FE_SRC.VALID : Fld := { off := 0x024, hi := 31, lo := 31, acc := .w1c }
def PG_FE_SRC.CLASS : Fld := { off := 0x024, hi := 17, lo := 16, acc := .ro }
def PG_FE_SRC.SOURCE : Fld := { off := 0x024, hi := 15, lo := 12, acc := .ro }
def PG_FE_SRC.ACCESS : Fld := { off := 0x024, hi := 11, lo := 8, acc := .ro }
def PG_FE_SRC.MASTER : Fld := { off := 0x024, hi := 7, lo := 0, acc := .ro }
def PG_FE_TIME_LO : Fld := { off := 0x028, hi := 31, lo := 0, acc := .ro }
def PG_FE_TIME_HI : Fld := { off := 0x02C, hi := 31, lo := 0, acc := .ro }
def PG_LOCK : Fld := { off := 0x030, hi := 31, lo := 0, acc := .rw }
def PG_INJECT.ARM : Fld := { off := 0x034, hi := 16, lo := 16, acc := .rw, lock := some 4 }
def PG_INJECT.COUNT : Fld := { off := 0x034, hi := 15, lo := 8, acc := .rw, lock := some 4 }
def PG_INJECT.CHECKER : Fld := { off := 0x034, hi := 3, lo := 0, acc := .rw, lock := some 4 }
def PG_PACE : Fld := { off := 0x038, hi := 15, lo := 0, acc := .ro }
def PG_SET_COUNT : Fld := { off := 0x03C, hi := 15, lo := 0, acc := .ro }

-- R59 (02_registers_and_host_link.md)
def DEV_VARIANT.STEPPING : Fld := { off := 0x040, hi := 15, lo := 8, acc := .ro, rst := 16 }
def DEV_VARIANT.VARIANT : Fld := { off := 0x040, hi := 7, lo := 0, acc := .ro }
def DEV_UID_LO : Fld := { off := 0x044, hi := 31, lo := 0, acc := .ro }
def DEV_UID_HI : Fld := { off := 0x048, hi := 31, lo := 0, acc := .ro }
def DEV_STRAPS.BANK_PULL : Fld := { off := 0x04C, hi := 15, lo := 8, acc := .ro }
def DEV_STRAPS.TWIN_SIDE : Fld := { off := 0x04C, hi := 2, lo := 2, acc := .ro }
def DEV_STRAPS.BOOT_SRC : Fld := { off := 0x04C, hi := 1, lo := 0, acc := .ro }
def DEV_ABSENT_WRITES : Fld := { off := 0x050, hi := 31, lo := 0, acc := .ro }
def DEV_CTRL.CLR_ABSENT : Fld := { off := 0x054, hi := 0, lo := 0, acc := .sc }
def DEV_HOSTLINK.DOWN_COUNT : Fld := { off := 0x058, hi := 31, lo := 16, acc := .ro }
def DEV_HOSTLINK.USB2_REC : Fld := { off := 0x058, hi := 5, lo := 5, acc := .ro }
def DEV_HOSTLINK.BME : Fld := { off := 0x058, hi := 4, lo := 4, acc := .ro }
def DEV_HOSTLINK.TUNNEL : Fld := { off := 0x058, hi := 3, lo := 3, acc := .ro }
def DEV_HOSTLINK.RATE : Fld := { off := 0x058, hi := 2, lo := 0, acc := .ro }
def DEV_ERRPIN.LEVEL : Fld := { off := 0x05C, hi := 17, lo := 17, acc := .ro }
def DEV_ERRPIN.HOLD : Fld := { off := 0x05C, hi := 16, lo := 16, acc := .rw }
def DEV_ERRPIN.PULSE : Fld := { off := 0x05C, hi := 9, lo := 0, acc := .rw, rst := 10, lock := some 8 }
def DEV_MGMT.I2C_ADDR : Fld := { off := 0x060, hi := 14, lo := 8, acc := .rw, rst := 74, lock := some 8 }
def DEV_MGMT.I2C_EN : Fld := { off := 0x060, hi := 1, lo := 1, acc := .rw, rst := 1, lock := some 8 }
def DEV_MGMT.SPI_EN : Fld := { off := 0x060, hi := 0, lo := 0, acc := .rw, rst := 1, lock := some 8 }
def DEV_SCRATCH : Fld := { off := 0x064, hi := 31, lo := 0, acc := .rw, keep := .chip, stride := 0x4, count := 4 }

-- R460 (15_faults_and_recovery.md)
def TND_STATUS.VOTE_LOST : Fld := { off := 0x040, hi := 31, lo := 31, acc := .ro }
def TND_STATUS.SAFE : Fld := { off := 0x040, hi := 30, lo := 30, acc := .ro }
def TND_STATUS.HEALTHY : Fld := { off := 0x040, hi := 29, lo := 29, acc := .ro }
def TND_STATUS.NMI : Fld := { off := 0x040, hi := 28, lo := 28, acc := .ro }
def TND_STATUS.WAIT : Fld := { off := 0x040, hi := 18, lo := 16, acc := .ro }
def TND_STATUS.STEP : Fld := { off := 0x040, hi := 2, lo := 0, acc := .ro }
def TND_CMD : Fld := { off := 0x044, hi := 31, lo := 0, acc := .wo }
def TND_RESET_CAUSE.TYPE : Fld := { off := 0x048, hi := 31, lo := 16, acc := .ro, keep := .chip }
def TND_RESET_CAUSE.INST : Fld := { off := 0x048, hi := 15, lo := 8, acc := .ro, keep := .chip }
def TND_RESET_CAUSE.SOURCE : Fld := { off := 0x048, hi := 7, lo := 4, acc := .ro, keep := .chip }
def TND_RESET_CAUSE.CAUSE : Fld := { off := 0x048, hi := 2, lo := 0, acc := .ro, keep := .chip }
def TND_RESET_ADDR : Fld := { off := 0x04C, hi := 31, lo := 0, acc := .ro, keep := .chip }
def TND_RESET_TIME_LO : Fld := { off := 0x050, hi := 31, lo := 0, acc := .ro, keep := .chip }
def TND_RESET_TIME_HI : Fld := { off := 0x054, hi := 31, lo := 0, acc := .ro, keep := .chip }
def TND_RESET_COUNT : Fld := { off := 0x058, hi := 15, lo := 0, acc := .ro, keep := .chip }
def TND_SAFE_CAUSE.TYPE : Fld := { off := 0x05C, hi := 31, lo := 16, acc := .ro, keep := .chip }
def TND_SAFE_CAUSE.INST : Fld := { off := 0x05C, hi := 15, lo := 8, acc := .ro, keep := .chip }
def TND_SAFE_CAUSE.SOURCE : Fld := { off := 0x05C, hi := 7, lo := 4, acc := .ro, keep := .chip }
def TND_SAFE_CAUSE.CAUSE : Fld := { off := 0x05C, hi := 2, lo := 0, acc := .ro, keep := .chip }
def TND_SAFE_TIME_LO : Fld := { off := 0x060, hi := 31, lo := 0, acc := .ro, keep := .chip }
def TND_SAFE_TIME_HI : Fld := { off := 0x064, hi := 31, lo := 0, acc := .ro, keep := .chip }
def TND_TRAP.TYPE : Fld := { off := 0x068, hi := 31, lo := 16, acc := .ro }
def TND_TRAP.INST : Fld := { off := 0x068, hi := 15, lo := 8, acc := .ro }
def TND_TRAP.SOURCE : Fld := { off := 0x068, hi := 7, lo := 4, acc := .ro }
def TND_TRAP.PENDING : Fld := { off := 0x068, hi := 0, lo := 0, acc := .w1c }
def TND_VOTE : Fld := { off := 0x06C, hi := 15, lo := 0, acc := .ro }
def TND_WATCH.MP_TIMEOUT : Fld := { off := 0x070, hi := 31, lo := 16, acc := .rw, rst := 100, lock := some 8 }
def TND_WATCH.MP_EN : Fld := { off := 0x070, hi := 0, lo := 0, acc := .rw, rst := 1, lock := some 8 }
def TND_LOG.CORR : Fld := { off := 0x074, hi := 31, lo := 31, acc := .rw }
def TND_LOG.LOST : Fld := { off := 0x074, hi := 15, lo := 0, acc := .ro }
def TND_CTRL.HEALTHY_LOW : Fld := { off := 0x078, hi := 0, lo := 0, acc := .rw }
def TND_MP_RESTARTS : Fld := { off := 0x07C, hi := 15, lo := 0, acc := .ro }

-- R550 (18_power_and_package.md)
def PWR_STATE.GO : Fld := { off := 0x040, hi := 31, lo := 31, acc := .sc }
def PWR_STATE.WAKE : Fld := { off := 0x040, hi := 30, lo := 30, acc := .sc }
def PWR_STATE.CURRENT : Fld := { off := 0x040, hi := 5, lo := 4, acc := .ro }
def PWR_STATE.TARGET : Fld := { off := 0x040, hi := 1, lo := 0, acc := .rw }
def PWR_ON_LO : Fld := { off := 0x044, hi := 31, lo := 0, acc := .ro }
def PWR_ON_HI : Fld := { off := 0x048, hi := 31, lo := 0, acc := .ro }
def PWR_REFUSED_LO : Fld := { off := 0x04C, hi := 31, lo := 0, acc := .w1c }
def PWR_REFUSED_HI : Fld := { off := 0x050, hi := 31, lo := 0, acc := .w1c }
def PWR_DOZE_MASK_LO : Fld := { off := 0x054, hi := 31, lo := 0, acc := .rw, lock := some 8 }
def PWR_DOZE_MASK_HI : Fld := { off := 0x058, hi := 31, lo := 0, acc := .rw, lock := some 8 }
def PWR_WAKE.HOLD_VIN : Fld := { off := 0x05C, hi := 9, lo := 9, acc := .rw, lock := some 8 }
def PWR_WAKE.HOLD_PFAIL : Fld := { off := 0x05C, hi := 8, lo := 8, acc := .rw, rst := 1, lock := some 8 }
def PWR_WAKE.DOZE : Fld := { off := 0x05C, hi := 3, lo := 0, acc := .rw, rst := 15, lock := some 8 }
def PWR_HOLD_VIN : Fld := { off := 0x060, hi := 15, lo := 0, acc := .rw, lock := some 8 }
def PWR_SUPPLY.LOST : Fld := { off := 0x064, hi := 26, lo := 16, acc := .w1c, keep := .chip }
def PWR_SUPPLY.VALID : Fld := { off := 0x064, hi := 10, lo := 0, acc := .ro }
def PWR_TEMP.ANA : Fld := { off := 0x068, hi := 31, lo := 16, acc := .ro }
def PWR_TEMP.DIG : Fld := { off := 0x068, hi := 15, lo := 0, acc := .ro }
def PWR_TEMP_WARN : Fld := { off := 0x06C, hi := 15, lo := 0, acc := .rw, rst := 880, lock := some 8 }

-- R551 (18_power_and_package.md)
def PWR_PMB_CFG.EN : Fld := { off := 0x040, hi := 31, lo := 31, acc := .rw, lock := some 8 }
def PWR_PMB_CFG.ADDR : Fld := { off := 0x040, hi := 22, lo := 16, acc := .rw, rst := 64, lock := some 8 }
def PWR_PMB_CFG.PAGE : Fld := { off := 0x040, hi := 15, lo := 8, acc := .rw, lock := some 8 }
def PWR_PMB_CFG.PEC : Fld := { off := 0x040, hi := 0, lo := 0, acc := .rw, rst := 1, lock := some 8 }
def PWR_VCORE_TARGET : Fld := { off := 0x044, hi := 15, lo := 0, acc := .rw, rst := 800 }
def PWR_VCORE_STEP : Fld := { off := 0x048, hi := 15, lo := 0, acc := .ro }
def PWR_VCORE_READ.IOUT : Fld := { off := 0x04C, hi := 31, lo := 16, acc := .ro }
def PWR_VCORE_READ.VOUT : Fld := { off := 0x04C, hi := 15, lo := 0, acc := .ro }
def PWR_PMB_STATUS.WORD : Fld := { off := 0x050, hi := 31, lo := 16, acc := .ro }
def PWR_PMB_STATUS.ERRORS : Fld := { off := 0x050, hi := 15, lo := 8, acc := .ro }
def PWR_PMB_STATUS.STOPPED : Fld := { off := 0x050, hi := 2, lo := 2, acc := .ro }
def PWR_PMB_STATUS.STEPPING : Fld := { off := 0x050, hi := 1, lo := 1, acc := .ro }
def PWR_PMB_STATUS.AT_TARGET : Fld := { off := 0x050, hi := 0, lo := 0, acc := .ro }
def PWR_VCORE_LIMIT : Fld := { off := 0x054, hi := 15, lo := 0, acc := .rw, rst := 800, lock := some 8 }

-- R552 (18_power_and_package.md)
def SEQ_CTRL.START : Fld := { off := 0x040, hi := 31, lo := 31, acc := .sc }
def SEQ_CTRL.OFF : Fld := { off := 0x040, hi := 30, lo := 30, acc := .sc }
def SEQ_CTRL.HOST_PULSE : Fld := { off := 0x040, hi := 29, lo := 29, acc := .sc }
def SEQ_CTRL.FAIL_OFF : Fld := { off := 0x040, hi := 4, lo := 4, acc := .rw, keep := .chip, lock := some 8 }
def SEQ_CTRL.HOST_STEP : Fld := { off := 0x040, hi := 3, lo := 0, acc := .rw, keep := .chip, lock := some 8 }
def SEQ_STATUS.DONE : Fld := { off := 0x044, hi := 31, lo := 31, acc := .ro, keep := .chip }
def SEQ_STATUS.FAILED : Fld := { off := 0x044, hi := 30, lo := 30, acc := .ro, keep := .chip }
def SEQ_STATUS.HOST_RELEASED : Fld := { off := 0x044, hi := 29, lo := 29, acc := .ro, keep := .chip }
def SEQ_STATUS.RUNNING : Fld := { off := 0x044, hi := 28, lo := 28, acc := .ro }
def SEQ_STATUS.STEP : Fld := { off := 0x044, hi := 19, lo := 16, acc := .ro }
def SEQ_STATUS.ENABLED : Fld := { off := 0x044, hi := 15, lo := 0, acc := .ro }
def SEQ_PG : Fld := { off := 0x048, hi := 15, lo := 0, acc := .ro }
def SEQ_HOST_DELAY : Fld := { off := 0x04C, hi := 19, lo := 0, acc := .rw, rst := 20000, keep := .chip, lock := some 8 }
def SEQ_MANUAL.HOST : Fld := { off := 0x050, hi := 16, lo := 16, acc := .rw, keep := .chip }
def SEQ_MANUAL.RAILS : Fld := { off := 0x050, hi := 15, lo := 0, acc := .rw, keep := .chip }
def SEQ_FAIL.VALID : Fld := { off := 0x054, hi := 4, lo := 4, acc := .ro, keep := .chip }
def SEQ_FAIL.RAIL : Fld := { off := 0x054, hi := 3, lo := 0, acc := .ro, keep := .chip }
def SEQ_RAIL.IN_PLAN : Fld := { off := 0x100, hi := 31, lo := 31, acc := .rw, keep := .chip, lock := some 8, stride := 0x4, count := 16 }
def SEQ_RAIL.PG_USE : Fld := { off := 0x100, hi := 30, lo := 30, acc := .rw, keep := .chip, lock := some 8, stride := 0x4, count := 16 }
def SEQ_RAIL.KEEP_HOLD : Fld := { off := 0x100, hi := 29, lo := 29, acc := .rw, keep := .chip, lock := some 8, stride := 0x4, count := 16 }
def SEQ_RAIL.STEP : Fld := { off := 0x100, hi := 27, lo := 24, acc := .rw, keep := .chip, lock := some 8, stride := 0x4, count := 16 }
def SEQ_RAIL.PG_TIMEOUT : Fld := { off := 0x100, hi := 23, lo := 16, acc := .rw, keep := .chip, lock := some 8, stride := 0x4, count := 16 }
def SEQ_RAIL.DELAY : Fld := { off := 0x100, hi := 15, lo := 0, acc := .rw, keep := .chip, lock := some 8, stride := 0x4, count := 16 }

-- R87 (03_self_timed_operation.md)
def TB_CTRL.FORCE_FREQ : Fld := { off := 0x040, hi := 3, lo := 2, acc := .rw, lock := some 8 }
def TB_CTRL.FORCE : Fld := { off := 0x040, hi := 1, lo := 1, acc := .rw, lock := some 8 }
def TB_CTRL.RELOCK : Fld := { off := 0x040, hi := 0, lo := 0, acc := .sc }
def TB_STATUS.LOSS_COUNT : Fld := { off := 0x044, hi := 31, lo := 16, acc := .ro }
def TB_STATUS.AON_PACE_LOW : Fld := { off := 0x044, hi := 5, lo := 5, acc := .ro }
def TB_STATUS.EPOCH_VALID : Fld := { off := 0x044, hi := 4, lo := 4, acc := .ro }
def TB_STATUS.REF_FREQ : Fld := { off := 0x044, hi := 3, lo := 2, acc := .ro }
def TB_STATUS.HOLDOVER : Fld := { off := 0x044, hi := 1, lo := 1, acc := .ro }
def TB_STATUS.LOCKED : Fld := { off := 0x044, hi := 0, lo := 0, acc := .ro }
def TB_TIME_LO : Fld := { off := 0x048, hi := 31, lo := 0, acc := .ro }
def TB_TIME_HI : Fld := { off := 0x04C, hi := 31, lo := 0, acc := .ro }
def TB_TIME_SET_LO : Fld := { off := 0x050, hi := 31, lo := 0, acc := .rw }
def TB_TIME_SET_HI : Fld := { off := 0x054, hi := 31, lo := 0, acc := .rw }
def TB_SLEW_AMOUNT : Fld := { off := 0x058, hi := 31, lo := 0, acc := .rw }
def TB_SLEW_RATE : Fld := { off := 0x05C, hi := 4, lo := 0, acc := .rw, rst := 4 }
def TB_PACE_WARN : Fld := { off := 0x060, hi := 15, lo := 0, acc := .rw, rst := 724, lock := some 8 }
def TB_PACE_LOW_LO : Fld := { off := 0x064, hi := 31, lo := 0, acc := .ro }
def TB_PACE_LOW_HI : Fld := { off := 0x068, hi := 31, lo := 0, acc := .ro }

-- R88 (03_self_timed_operation.md)
def TM_CTRL.RUNNING : Fld := { off := 0x100, hi := 31, lo := 31, acc := .ro, stride := 0x20, count := 32 }
def TM_CTRL.SCH_EDGE : Fld := { off := 0x100, hi := 25, lo := 24, acc := .rw, stride := 0x20, count := 32 }
def TM_CTRL.CHAIN : Fld := { off := 0x100, hi := 20, lo := 16, acc := .rw, lock := some 8, stride := 0x20, count := 32 }
def TM_CTRL.START_SRC : Fld := { off := 0x100, hi := 10, lo := 8, acc := .rw, lock := some 8, stride := 0x20, count := 32 }
def TM_CTRL.MODE : Fld := { off := 0x100, hi := 6, lo := 4, acc := .rw, lock := some 8, stride := 0x20, count := 32 }
def TM_CTRL.START : Fld := { off := 0x100, hi := 1, lo := 1, acc := .sc, stride := 0x20, count := 32 }
def TM_CTRL.EN : Fld := { off := 0x100, hi := 0, lo := 0, acc := .rw, stride := 0x20, count := 32 }
def TM_DELAY : Fld := { off := 0x104, hi := 15, lo := 0, acc := .rw, lock := some 8, stride := 0x20, count := 32 }
def TM_PERIOD : Fld := { off := 0x108, hi := 31, lo := 0, acc := .rw, rst := 1000, lock := some 8, stride := 0x20, count := 32 }
def TM_WIDTH : Fld := { off := 0x10C, hi := 31, lo := 0, acc := .rw, rst := 4, lock := some 8, stride := 0x20, count := 32 }
def TM_START_TIME_LO : Fld := { off := 0x110, hi := 31, lo := 0, acc := .rw, lock := some 8, stride := 0x20, count := 32 }
def TM_START_TIME_HI : Fld := { off := 0x114, hi := 31, lo := 0, acc := .rw, lock := some 8, stride := 0x20, count := 32 }
def TM_COUNT : Fld := { off := 0x118, hi := 31, lo := 0, acc := .ro, stride := 0x20, count := 32 }
def TM_EVENTS : Fld := { off := 0x040, hi := 31, lo := 0, acc := .w1c }
def TM_EVENT_EN : Fld := { off := 0x044, hi := 31, lo := 0, acc := .rw }

-- R184 (06_sheets.md)
def CFG_LOAD.ABORT : Fld := { off := 0x040, hi := 17, lo := 17, acc := .sc }
def CFG_LOAD.START : Fld := { off := 0x040, hi := 16, lo := 16, acc := .sc }
def CFG_LOAD.LIB_INDEX : Fld := { off := 0x040, hi := 13, lo := 8, acc := .rw }
def CFG_LOAD.SRC : Fld := { off := 0x040, hi := 2, lo := 0, acc := .rw }
def CFG_SRC_ADDR_LO : Fld := { off := 0x044, hi := 31, lo := 0, acc := .rw }
def CFG_SRC_ADDR_HI : Fld := { off := 0x048, hi := 31, lo := 0, acc := .rw }
def CFG_SRC_LEN : Fld := { off := 0x04C, hi := 31, lo := 0, acc := .rw }
def CFG_STATE.OP : Fld := { off := 0x050, hi := 3, lo := 0, acc := .ro }
def CFG_ERR.SRC : Fld := { off := 0x054, hi := 10, lo := 8, acc := .ro }
def CFG_ERR.CODE : Fld := { off := 0x054, hi := 7, lo := 0, acc := .ro }
def CFG_ERR_FRAME.VALID : Fld := { off := 0x058, hi := 31, lo := 31, acc := .ro }
def CFG_ERR_FRAME.KIND : Fld := { off := 0x058, hi := 17, lo := 16, acc := .ro }
def CFG_ERR_FRAME.ADDR : Fld := { off := 0x058, hi := 15, lo := 0, acc := .ro }
def CFG_ERR_OFFSET : Fld := { off := 0x05C, hi := 31, lo := 0, acc := .ro }
def CFG_TORN_BANKS : Fld := { off := 0x060, hi := 31, lo := 0, acc := .ro }
def CFG_TORN_SECTORS : Fld := { off := 0x064, hi := 7, lo := 0, acc := .ro }
def CFG_SHEET_ID_LO : Fld := { off := 0x068, hi := 31, lo := 0, acc := .ro }
def CFG_SHEET_ID_HI : Fld := { off := 0x06C, hi := 31, lo := 0, acc := .ro }
def CFG_FRAMES : Fld := { off := 0x070, hi := 31, lo := 0, acc := .ro }
def CFG_RESYNC_BANKS : Fld := { off := 0x074, hi := 31, lo := 0, acc := .rw }
def CFG_RESYNC_SECTORS : Fld := { off := 0x078, hi := 7, lo := 0, acc := .rw }
def CFG_CMD.OP : Fld := { off := 0x07C, hi := 3, lo := 0, acc := .wo }
def CFG_XFRAME_REQ.PENDING : Fld := { off := 0x080, hi := 8, lo := 8, acc := .ro }
def CFG_XFRAME_REQ.SLOT : Fld := { off := 0x080, hi := 7, lo := 0, acc := .ro }
def CFG_XFRAME_DONE.GO : Fld := { off := 0x084, hi := 0, lo := 0, acc := .wo }
def CFG_RS.UPDATE_COUNT : Fld := { off := 0x088, hi := 31, lo := 16, acc := .ro, keep := .always }
def CFG_RS.FW_STATE : Fld := { off := 0x088, hi := 3, lo := 2, acc := .ro, rst := 2, keep := .always }
def CFG_RS.BOOT_STATE : Fld := { off := 0x088, hi := 1, lo := 0, acc := .ro, rst := 2, keep := .always }
def CFG_SRC_EN : Fld := { off := 0x08C, hi := 4, lo := 0, acc := .rw, rst := 31, lock := some 8 }
def CFG_XFRAME : Fld := { off := 0x200, hi := 31, lo := 0, acc := .rw, stride := 0x4, count := 128 }

-- R217 (07_couching_and_start_up.md)
def CAL_PERIOD : Fld := { off := 0x040, hi := 13, lo := 0, acc := .rw, rst := 100, lock := some 8 }
def CAL_STATUS.PASSES : Fld := { off := 0x044, hi := 31, lo := 16, acc := .ro }
def CAL_STATUS.REPAIRING : Fld := { off := 0x044, hi := 2, lo := 2, acc := .ro }
def CAL_STATUS.PAUSED : Fld := { off := 0x044, hi := 1, lo := 1, acc := .ro }
def CAL_STATUS.RUNNING : Fld := { off := 0x044, hi := 0, lo := 0, acc := .ro }
def CAL_LAST_PASS : Fld := { off := 0x048, hi := 31, lo := 0, acc := .ro }
def CAL_POS : Fld := { off := 0x04C, hi := 16, lo := 0, acc := .ro }
def CAL_COUNTS.REPAIRS : Fld := { off := 0x050, hi := 31, lo := 16, acc := .ro }
def CAL_COUNTS.CORRECTED : Fld := { off := 0x050, hi := 15, lo := 0, acc := .ro }
def CAL_VOTE_COUNT : Fld := { off := 0x054, hi := 15, lo := 0, acc := .ro }
def CAL_REPAIR.PENDING : Fld := { off := 0x058, hi := 31, lo := 31, acc := .ro }
def CAL_REPAIR.RESULT : Fld := { off := 0x058, hi := 26, lo := 24, acc := .ro }
def CAL_REPAIR.ADDR : Fld := { off := 0x058, hi := 16, lo := 0, acc := .ro }
def CAL_HELD_BANKS : Fld := { off := 0x05C, hi := 31, lo := 0, acc := .ro }
def CAL_HELD_SECTORS : Fld := { off := 0x060, hi := 7, lo := 0, acc := .ro }
def CAL_CTRL.PASS_NOW : Fld := { off := 0x064, hi := 0, lo := 0, acc := .sc }
def CAL_SRC_FB.SLOT : Fld := { off := 0x100, hi := 15, lo := 8, acc := .ro, stride := 0x4, count := 32 }
def CAL_SRC_FB.KIND : Fld := { off := 0x100, hi := 1, lo := 0, acc := .ro, stride := 0x4, count := 32 }
def CAL_SRC_AS.SLOT : Fld := { off := 0x180, hi := 15, lo := 8, acc := .ro, stride := 0x4, count := 8 }
def CAL_SRC_AS.KIND : Fld := { off := 0x180, hi := 1, lo := 0, acc := .ro, stride := 0x4, count := 8 }

-- R216 (07_couching_and_start_up.md)
def CCH_CTRL.FULL : Fld := { off := 0x040, hi := 2, lo := 2, acc := .rw }
def CCH_CTRL.FORCE : Fld := { off := 0x040, hi := 1, lo := 1, acc := .rw }
def CCH_CTRL.START : Fld := { off := 0x040, hi := 0, lo := 0, acc := .sc }
def CCH_MASK_BANKS : Fld := { off := 0x044, hi := 31, lo := 0, acc := .rw }
def CCH_MASK_SECTORS : Fld := { off := 0x048, hi := 7, lo := 0, acc := .rw }
def CCH_RELEASE.SPACING : Fld := { off := 0x04C, hi := 31, lo := 16, acc := .rw, rst := 1000, lock := some 8 }
def CCH_RELEASE.ORDER : Fld := { off := 0x04C, hi := 2, lo := 0, acc := .rw, lock := some 8 }
def CCH_DRAIN.LIMIT : Fld := { off := 0x050, hi := 15, lo := 0, acc := .rw, rst := 100, lock := some 8 }
def CCH_STATE.RELEASE_CUT : Fld := { off := 0x054, hi := 9, lo := 9, acc := .ro }
def CCH_STATE.FORCED : Fld := { off := 0x054, hi := 8, lo := 8, acc := .ro }
def CCH_STATE.STEP : Fld := { off := 0x054, hi := 3, lo := 0, acc := .ro }
def CCH_ERR.CODE : Fld := { off := 0x058, hi := 7, lo := 0, acc := .ro }
def CCH_ERR_REGION.VALID : Fld := { off := 0x05C, hi := 31, lo := 31, acc := .ro }
def CCH_ERR_REGION.KIND : Fld := { off := 0x05C, hi := 9, lo := 8, acc := .ro }
def CCH_ERR_REGION.NUM : Fld := { off := 0x05C, hi := 7, lo := 0, acc := .ro }
def CCH_RET.KIND_MISS : Fld := { off := 0x060, hi := 31, lo := 16, acc := .ro }
def CCH_RET.CARRIED : Fld := { off := 0x060, hi := 15, lo := 0, acc := .ro }
def CCH_RET_FULL : Fld := { off := 0x064, hi := 0, lo := 0, acc := .ro }
def CCH_CUT.TASKS : Fld := { off := 0x068, hi := 31, lo := 16, acc := .ro }
def CCH_CUT.VALUES : Fld := { off := 0x068, hi := 15, lo := 0, acc := .ro }
def CCH_SWAP_TIME_LO : Fld := { off := 0x06C, hi := 31, lo := 0, acc := .ro }
def CCH_SWAP_TIME_HI : Fld := { off := 0x070, hi := 31, lo := 0, acc := .ro }
def CCH_DURATION : Fld := { off := 0x074, hi := 31, lo := 0, acc := .ro }
def CCH_ACTIVE_BANKS : Fld := { off := 0x078, hi := 31, lo := 0, acc := .ro }
def CCH_ACTIVE_SECTORS : Fld := { off := 0x07C, hi := 7, lo := 0, acc := .ro }
def CCH_SHADOW_OK_BANKS : Fld := { off := 0x080, hi := 31, lo := 0, acc := .ro }
def CCH_SHADOW_OK_SECTORS : Fld := { off := 0x084, hi := 7, lo := 0, acc := .ro }
def CCH_BOOT.FULL_DONE : Fld := { off := 0x088, hi := 9, lo := 9, acc := .ro }
def CCH_BOOT.BOOT_ONLY : Fld := { off := 0x088, hi := 8, lo := 8, acc := .ro }
def CCH_BOOT.STEP : Fld := { off := 0x088, hi := 2, lo := 0, acc := .ro }

-- R186 (06_sheets.md)
def KEY_SLOTS.SLOT : Fld := { off := 0x040, hi := 1, lo := 0, acc := .ro, keep := .always, bstep := 2, bcount := 4 }
def KEY_POLICY.ENC_REQUIRED : Fld := { off := 0x044, hi := 3, lo := 3, acc := .rw, lock := some 8 }
def KEY_POLICY.SIGN_REQUIRED : Fld := { off := 0x044, hi := 2, lo := 2, acc := .rw, lock := some 8 }
def KEY_POLICY.SHEET_KEY_SET : Fld := { off := 0x044, hi := 1, lo := 1, acc := .ro, keep := .always }
def KEY_POLICY.SIGN_FUSE : Fld := { off := 0x044, hi := 0, lo := 0, acc := .ro, keep := .always }
def KEY_LAST.ENCRYPTED : Fld := { off := 0x048, hi := 9, lo := 9, acc := .ro }
def KEY_LAST.SIGNED : Fld := { off := 0x048, hi := 8, lo := 8, acc := .ro }
def KEY_LAST.SLOT : Fld := { off := 0x048, hi := 1, lo := 0, acc := .ro }
def KEY_PROG.CONFIRM : Fld := { off := 0x04C, hi := 31, lo := 24, acc := .wo }
def KEY_PROG.OP : Fld := { off := 0x04C, hi := 6, lo := 4, acc := .wo }
def KEY_PROG.SLOT : Fld := { off := 0x04C, hi := 1, lo := 0, acc := .wo }
def KEY_DATA : Fld := { off := 0x060, hi := 31, lo := 0, acc := .rw, stride := 0x4, count := 8 }

-- R149 (05_routing_and_memories.md)
def FB_STATE.OUT : Fld := { off := 0x040, hi := 3, lo := 3, acc := .ro }
def FB_STATE.FROZEN : Fld := { off := 0x040, hi := 2, lo := 2, acc := .ro }
def FB_STATE.RELEASED : Fld := { off := 0x040, hi := 1, lo := 1, acc := .ro }
def FB_STATE.SHEET : Fld := { off := 0x040, hi := 0, lo := 0, acc := .ro }
def FB_MEM_HV : Fld := { off := 0x044, hi := 23, lo := 0, acc := .ro }
def FB_MEM_MIR : Fld := { off := 0x048, hi := 23, lo := 0, acc := .ro }
def FB_MEM_ECC : Fld := { off := 0x04C, hi := 23, lo := 0, acc := .ro }
def FB_MEM_INIT : Fld := { off := 0x050, hi := 23, lo := 0, acc := .ro }
def FB_LL_CLASH_LO : Fld := { off := 0x054, hi := 31, lo := 0, acc := .w1c }
def FB_LL_CLASH_HI : Fld := { off := 0x058, hi := 31, lo := 0, acc := .w1c }
def FB_LL_NULL_LO : Fld := { off := 0x05C, hi := 31, lo := 0, acc := .ro }
def FB_LL_NULL_HI : Fld := { off := 0x060, hi := 31, lo := 0, acc := .ro }
def FB_WT_HALT_LO : Fld := { off := 0x064, hi := 31, lo := 0, acc := .ro }
def FB_WT_HALT_HI : Fld := { off := 0x068, hi := 31, lo := 0, acc := .ro }
def FB_ECC_COUNT.UNC : Fld := { off := 0x06C, hi := 31, lo := 16, acc := .ro }
def FB_ECC_COUNT.CORR : Fld := { off := 0x06C, hi := 15, lo := 0, acc := .ro }
def FB_MIRROR_DROP : Fld := { off := 0x070, hi := 31, lo := 0, acc := .ro }
def FB_SCRUB.PASSES : Fld := { off := 0x074, hi := 31, lo := 16, acc := .ro }
def FB_SCRUB.PERIOD : Fld := { off := 0x074, hi := 15, lo := 8, acc := .rw, rst := 10, lock := some 8 }
def FB_SCRUB.EN : Fld := { off := 0x074, hi := 0, lo := 0, acc := .rw, rst := 1, lock := some 8 }
def FB_CTRL.CNT_CLR : Fld := { off := 0x078, hi := 0, lo := 0, acc := .sc }

-- R245 (08_analog_array.md)
def AS_MUTE : Fld := { off := 0x040, hi := 31, lo := 0, acc := .ro }
def AS_CELL_ERR : Fld := { off := 0x044, hi := 31, lo := 0, acc := .ro }
def AS_GAIN_OVR.OVR : Fld := { off := 0x048, hi := 7, lo := 7, acc := .rw, lock := some 8, stride := 0x4, count := 8, bstep := 8, bcount := 4 }
def AS_GAIN_OVR.CODE : Fld := { off := 0x048, hi := 5, lo := 0, acc := .rw, lock := some 8, stride := 0x4, count := 8, bstep := 8, bcount := 4 }
def AS_LOOP_LIVE.OVER : Fld := { off := 0x068, hi := 1, lo := 1, acc := .ro, bstep := 2, bcount := 16 }
def AS_LOOP_LIVE.UNDER : Fld := { off := 0x068, hi := 0, lo := 0, acc := .ro, bstep := 2, bcount := 16 }
def AS_LOOP_EVT : Fld := { off := 0x06C, hi := 31, lo := 0, acc := .w1c }
def AS_PIN_TRIP.VOUT : Fld := { off := 0x070, hi := 31, lo := 16, acc := .ro }
def AS_PIN_TRIP.SHUNT : Fld := { off := 0x070, hi := 15, lo := 0, acc := .ro }
def AS_PIN_RESTORE : Fld := { off := 0x074, hi := 31, lo := 0, acc := .wo }
def AS_CLAMP : Fld := { off := 0x078, hi := 15, lo := 0, acc := .ro }
def AS_COUNTS.MUTES : Fld := { off := 0x07C, hi := 31, lo := 16, acc := .ro }
def AS_COUNTS.TRIPS : Fld := { off := 0x07C, hi := 15, lo := 0, acc := .ro }
def AS_PMODE_LO : Fld := { off := 0x080, hi := 31, lo := 0, acc := .ro }
def AS_PMODE_HI : Fld := { off := 0x084, hi := 31, lo := 0, acc := .ro }

-- R275 (09_conversion.md)
def CV_SCAN_MASK : Fld := { off := 0x040, hi := 31, lo := 0, acc := .rw }
def CV_TRIG.DELAY : Fld := { off := 0x044, hi := 31, lo := 16, acc := .rw }
def CV_TRIG.SEL : Fld := { off := 0x044, hi := 12, lo := 8, acc := .rw }
def CV_TRIG.MODE : Fld := { off := 0x044, hi := 2, lo := 0, acc := .rw }
def CV_SCAN.BUSY : Fld := { off := 0x048, hi := 31, lo := 31, acc := .ro }
def CV_SCAN.START : Fld := { off := 0x048, hi := 0, lo := 0, acc := .sc }
def CV_BLOCK.INJ_EVT : Fld := { off := 0x04C, hi := 17, lo := 17, acc := .rw }
def CV_BLOCK.EVT : Fld := { off := 0x04C, hi := 16, lo := 16, acc := .rw }
def CV_BLOCK.SCANS : Fld := { off := 0x04C, hi := 15, lo := 0, acc := .rw, rst := 1 }
def CV_STATUS.PENDING_INJ : Fld := { off := 0x050, hi := 21, lo := 16, acc := .ro }
def CV_STATUS.INJ_QUEUE : Fld := { off := 0x050, hi := 10, lo := 8, acc := .ro }
def CV_STATUS.CAL_POS : Fld := { off := 0x050, hi := 7, lo := 4, acc := .ro, rst := 15 }
def CV_STATUS.CAL_DEGRADED : Fld := { off := 0x050, hi := 3, lo := 3, acc := .ro }
def CV_STATUS.CAL_PENDING : Fld := { off := 0x050, hi := 2, lo := 2, acc := .ro }
def CV_STATUS.FG_RUNNING : Fld := { off := 0x050, hi := 1, lo := 1, acc := .ro }
def CV_STATUS.SCANNING : Fld := { off := 0x050, hi := 0, lo := 0, acc := .ro }
def CV_CAL_CTRL.FG_START : Fld := { off := 0x054, hi := 17, lo := 17, acc := .sc }
def CV_CAL_CTRL.BG_EN : Fld := { off := 0x054, hi := 16, lo := 16, acc := .rw, rst := 1, lock := some 8 }
def CV_CAL_CTRL.INTERVAL : Fld := { off := 0x054, hi := 9, lo := 0, acc := .rw, rst := 10, lock := some 8 }
def CV_CAL_LIMIT.SKEW : Fld := { off := 0x058, hi := 31, lo := 24, acc := .rw, rst := 20, lock := some 8 }
def CV_CAL_LIMIT.GAIN : Fld := { off := 0x058, hi := 23, lo := 12, acc := .rw, rst := 131, lock := some 8 }
def CV_CAL_LIMIT.OFS : Fld := { off := 0x058, hi := 11, lo := 0, acc := .rw, rst := 64, lock := some 8 }
def CV_SLICE_STATE.S : Fld := { off := 0x05C, hi := 1, lo := 0, acc := .ro, bstep := 2, bcount := 9 }
def CV_COUNTS0.LOST : Fld := { off := 0x060, hi := 31, lo := 16, acc := .ro }
def CV_COUNTS0.MISSED : Fld := { off := 0x060, hi := 15, lo := 0, acc := .ro }
def CV_COUNTS1.INJ_DROPS : Fld := { off := 0x064, hi := 31, lo := 24, acc := .ro }
def CV_COUNTS1.CAL_FAILS : Fld := { off := 0x064, hi := 23, lo := 16, acc := .ro }
def CV_COUNTS1.BG_CALS : Fld := { off := 0x064, hi := 15, lo := 0, acc := .ro }
def CV_INJ_SW.GO : Fld := { off := 0x068, hi := 31, lo := 31, acc := .wo }
def CV_INJ_SW.CHAN : Fld := { off := 0x068, hi := 4, lo := 0, acc := .wo }
def CV_INJ.DELAY : Fld := { off := 0x06C, hi := 31, lo := 16, acc := .rw, stride := 0x4, count := 4 }
def CV_INJ.EN : Fld := { off := 0x06C, hi := 15, lo := 15, acc := .rw, stride := 0x4, count := 4 }
def CV_INJ.KIND : Fld := { off := 0x06C, hi := 14, lo := 14, acc := .rw, stride := 0x4, count := 4 }
def CV_INJ.SEL : Fld := { off := 0x06C, hi := 12, lo := 8, acc := .rw, stride := 0x4, count := 4 }
def CV_INJ.CHAN : Fld := { off := 0x06C, hi := 4, lo := 0, acc := .rw, stride := 0x4, count := 4 }
def CV_INJ_LAST : Fld := { off := 0x07C, hi := 31, lo := 0, acc := .ro }
def CV_INJ_TIME_LO : Fld := { off := 0x080, hi := 31, lo := 0, acc := .ro }
def CV_INJ_TIME_HI : Fld := { off := 0x084, hi := 31, lo := 0, acc := .ro }
def CV_DIAG_CTRL.GO : Fld := { off := 0x088, hi := 31, lo := 31, acc := .sc }
def CV_DIAG_CTRL.BUSY : Fld := { off := 0x088, hi := 30, lo := 30, acc := .ro }
def CV_DIAG_CTRL.PASS : Fld := { off := 0x088, hi := 29, lo := 29, acc := .ro }
def CV_DIAG_CTRL.ABORTED : Fld := { off := 0x088, hi := 28, lo := 28, acc := .ro }
def CV_DIAG_CTRL.DAC : Fld := { off := 0x088, hi := 27, lo := 16, acc := .rw }
def CV_DIAG_CTRL.MODE : Fld := { off := 0x088, hi := 8, lo := 8, acc := .rw }
def CV_DIAG_CTRL.CHAN : Fld := { off := 0x088, hi := 4, lo := 0, acc := .rw }
def CV_DIAG_EXPECT.TOL : Fld := { off := 0x08C, hi := 31, lo := 16, acc := .rw }
def CV_DIAG_EXPECT.CODE : Fld := { off := 0x08C, hi := 15, lo := 0, acc := .rw }
def CV_DIAG_RESULT.OPEN : Fld := { off := 0x090, hi := 31, lo := 16, acc := .ro }
def CV_DIAG_RESULT.FORCED : Fld := { off := 0x090, hi := 15, lo := 0, acc := .ro }
def CV_CORR_APPLY.GO : Fld := { off := 0x094, hi := 0, lo := 0, acc := .sc }
def CV_CAL_COMMIT.GO : Fld := { off := 0x098, hi := 31, lo := 31, acc := .wo }
def CV_CAL_COMMIT.SLICE : Fld := { off := 0x098, hi := 3, lo := 0, acc := .wo }
def CV_PHASE : Fld := { off := 0x09C, hi := 6, lo := 0, acc := .ro }
def CV_LADDER_NEG : Fld := { off := 0x0A0, hi := 31, lo := 0, acc := .ro }
def CV_LADDER_POS : Fld := { off := 0x0A4, hi := 31, lo := 0, acc := .ro }
def CV_FG_TIME : Fld := { off := 0x0A8, hi := 31, lo := 0, acc := .ro }
def CV_SOFF : Fld := { off := 0x100, hi := 15, lo := 0, acc := .rw, stride := 0x10, count := 9 }
def CV_SGAIN : Fld := { off := 0x104, hi := 17, lo := 0, acc := .rw, stride := 0x10, count := 9 }
def CV_SSKEW : Fld := { off := 0x108, hi := 11, lo := 0, acc := .rw, stride := 0x10, count := 9 }
def CV_SSTAT.FAILS : Fld := { off := 0x10C, hi := 17, lo := 16, acc := .ro, stride := 0x10, count := 9 }
def CV_SSTAT.CALS : Fld := { off := 0x10C, hi := 15, lo := 0, acc := .ro, stride := 0x10, count := 9 }
def CV_COFF : Fld := { off := 0x200, hi := 19, lo := 0, acc := .rw, lock := some 9, stride := 0x8, count := 32 }
def CV_CGAIN : Fld := { off := 0x204, hi := 17, lo := 0, acc := .rw, rst := 65536, lock := some 9, stride := 0x8, count := 32 }
def CV_CAP_NEG : Fld := { off := 0x300, hi := 31, lo := 0, acc := .ro, stride := 0x20, count := 9 }
def CV_CAP_ZERO : Fld := { off := 0x304, hi := 31, lo := 0, acc := .ro, stride := 0x20, count := 9 }
def CV_CAP_POS : Fld := { off := 0x308, hi := 31, lo := 0, acc := .ro, stride := 0x20, count := 9 }
def CV_CAP_SKEW : Fld := { off := 0x30C, hi := 31, lo := 0, acc := .ro, stride := 0x20, count := 9 }
def CV_CAP_VALID : Fld := { off := 0x310, hi := 0, lo := 0, acc := .ro, stride := 0x20, count := 9 }

-- R300 (10_filters_and_comparators.md)
def FC_PRESENT : Fld := { off := 0x040, hi := 15, lo := 0, acc := .ro }
def FC_EVT_STATUS : Fld := { off := 0x044, hi := 31, lo := 0, acc := .w1c }
def FC_CTL.EN : Fld := { off := 0x100, hi := 31, lo := 31, acc := .rw, stride := 0x40, count := 16 }
def FC_CTL.M2 : Fld := { off := 0x100, hi := 19, lo := 19, acc := .rw, lock := some 8, stride := 0x40, count := 16 }
def FC_CTL.ORDER : Fld := { off := 0x100, hi := 18, lo := 16, acc := .rw, rst := 3, lock := some 8, stride := 0x40, count := 16 }
def FC_CTL.PRESET : Fld := { off := 0x100, hi := 15, lo := 13, acc := .rw, rst := 1, lock := some 8, stride := 0x40, count := 16 }
def FC_CTL.DECIM : Fld := { off := 0x100, hi := 12, lo := 0, acc := .rw, rst := 32, lock := some 8, stride := 0x40, count := 16 }
def FC_SRC.WIDE : Fld := { off := 0x104, hi := 9, lo := 9, acc := .rw, lock := some 8, stride := 0x40, count := 16 }
def FC_SRC.KIND : Fld := { off := 0x104, hi := 8, lo := 8, acc := .rw, lock := some 8, stride := 0x40, count := 16 }
def FC_SRC.CV : Fld := { off := 0x104, hi := 6, lo := 5, acc := .rw, lock := some 8, stride := 0x40, count := 16 }
def FC_SRC.NUM : Fld := { off := 0x104, hi := 4, lo := 0, acc := .rw, lock := some 8, stride := 0x40, count := 16 }
def FC_SHIFT.AUTO : Fld := { off := 0x108, hi := 15, lo := 15, acc := .rw, rst := 1, lock := some 8, stride := 0x40, count := 16 }
def FC_SHIFT.SHIFT : Fld := { off := 0x108, hi := 6, lo := 0, acc := .rw, lock := some 8, stride := 0x40, count := 16 }
def FC_GROWTH.S : Fld := { off := 0x10C, hi := 22, lo := 16, acc := .ro, stride := 0x40, count := 16 }
def FC_GROWTH.PRE : Fld := { off := 0x10C, hi := 14, lo := 8, acc := .ro, stride := 0x40, count := 16 }
def FC_GROWTH.G : Fld := { off := 0x10C, hi := 6, lo := 0, acc := .ro, stride := 0x40, count := 16 }
def FC_THR0 : Fld := { off := 0x110, hi := 23, lo := 0, acc := .rw, stride := 0x40, count := 16 }
def FC_HYST0 : Fld := { off := 0x114, hi := 23, lo := 0, acc := .rw, stride := 0x40, count := 16 }
def FC_THR1 : Fld := { off := 0x118, hi := 23, lo := 0, acc := .rw, stride := 0x40, count := 16 }
def FC_HYST1 : Fld := { off := 0x11C, hi := 23, lo := 0, acc := .rw, stride := 0x40, count := 16 }
def FC_THRCTL.STATE1 : Fld := { off := 0x120, hi := 9, lo := 9, acc := .ro, stride := 0x40, count := 16 }
def FC_THRCTL.STATE0 : Fld := { off := 0x120, hi := 8, lo := 8, acc := .ro, stride := 0x40, count := 16 }
def FC_THRCTL.EDGE1 : Fld := { off := 0x120, hi := 3, lo := 2, acc := .rw, stride := 0x40, count := 16 }
def FC_THRCTL.EDGE0 : Fld := { off := 0x120, hi := 1, lo := 0, acc := .rw, stride := 0x40, count := 16 }
def FC_LAST : Fld := { off := 0x124, hi := 31, lo := 0, acc := .ro, stride := 0x40, count := 16 }
def FC_LAST_TIME_LO : Fld := { off := 0x128, hi := 31, lo := 0, acc := .ro, stride := 0x40, count := 16 }
def FC_LAST_TIME_HI : Fld := { off := 0x12C, hi := 31, lo := 0, acc := .ro, stride := 0x40, count := 16 }
def FC_COUNTS.INVALID_LEFT : Fld := { off := 0x130, hi := 31, lo := 16, acc := .ro, stride := 0x40, count := 16 }
def FC_COUNTS.LOST : Fld := { off := 0x130, hi := 15, lo := 0, acc := .ro, stride := 0x40, count := 16 }
def FC_COUNTS2.EVT_LOST : Fld := { off := 0x134, hi := 31, lo := 16, acc := .ro, stride := 0x40, count := 16 }
def FC_COUNTS2.OUTPUTS : Fld := { off := 0x134, hi := 15, lo := 0, acc := .ro, stride := 0x40, count := 16 }

-- R302 (10_filters_and_comparators.md)
def CP_PRESENT : Fld := { off := 0x040, hi := 31, lo := 0, acc := .ro }
def CP_LEVEL_LO.L : Fld := { off := 0x044, hi := 1, lo := 0, acc := .ro, bstep := 2, bcount := 16 }
def CP_LEVEL_HI.L : Fld := { off := 0x048, hi := 1, lo := 0, acc := .ro, bstep := 2, bcount := 16 }
def CP_SNAP.EN : Fld := { off := 0x050, hi := 31, lo := 31, acc := .rw }
def CP_SNAP.ON_CHANGE : Fld := { off := 0x050, hi := 30, lo := 30, acc := .rw }
def CP_SNAP.TM : Fld := { off := 0x050, hi := 20, lo := 16, acc := .rw }
def CP_SNAP_LOST : Fld := { off := 0x054, hi := 15, lo := 0, acc := .ro }
def CP_CFG.EN : Fld := { off := 0x100, hi := 31, lo := 31, acc := .rw, stride := 0x10, count := 32 }
def CP_CFG.PRESS : Fld := { off := 0x100, hi := 30, lo := 30, acc := .ro, stride := 0x10, count := 32 }
def CP_CFG.DIV : Fld := { off := 0x100, hi := 25, lo := 16, acc := .rw, rst := 1, lock := some 8, stride := 0x10, count := 32 }
def CP_CFG.HYST : Fld := { off := 0x100, hi := 2, lo := 0, acc := .rw, lock := some 8, stride := 0x10, count := 32 }
def CP_THR.HI : Fld := { off := 0x104, hi := 25, lo := 16, acc := .rw, rst := 511, lock := some 8, stride := 0x10, count := 32 }
def CP_THR.LO : Fld := { off := 0x104, hi := 9, lo := 0, acc := .rw, rst := 512, lock := some 8, stride := 0x10, count := 32 }
def CP_STATUS.TICKS : Fld := { off := 0x108, hi := 31, lo := 16, acc := .ro, stride := 0x10, count := 32 }
def CP_STATUS.HI_CROSSED : Fld := { off := 0x108, hi := 5, lo := 5, acc := .ro, stride := 0x10, count := 32 }
def CP_STATUS.LO_CROSSED : Fld := { off := 0x108, hi := 4, lo := 4, acc := .ro, stride := 0x10, count := 32 }
def CP_STATUS.MUTED : Fld := { off := 0x108, hi := 3, lo := 3, acc := .ro, stride := 0x10, count := 32 }
def CP_STATUS.SETTLED : Fld := { off := 0x108, hi := 2, lo := 2, acc := .ro, stride := 0x10, count := 32 }
def CP_STATUS.LEVEL : Fld := { off := 0x108, hi := 1, lo := 0, acc := .ro, stride := 0x10, count := 32 }

-- R324 (11_analog_outputs.md)
def DA_PRESENT : Fld := { off := 0x040, hi := 15, lo := 0, acc := .ro }
def DA_TRIP : Fld := { off := 0x044, hi := 15, lo := 0, acc := .ro }
def DA_RESTORE : Fld := { off := 0x048, hi := 15, lo := 0, acc := .wo }
def DA_COMPLY : Fld := { off := 0x04C, hi := 15, lo := 0, acc := .ro }
def DA_CFG.EN : Fld := { off := 0x100, hi := 31, lo := 31, acc := .rw, stride := 0x10, count := 16 }
def DA_CFG.KIND : Fld := { off := 0x100, hi := 30, lo := 30, acc := .rw, lock := some 8, stride := 0x10, count := 16 }
def DA_CFG.GROUP : Fld := { off := 0x100, hi := 10, lo := 8, acc := .rw, stride := 0x10, count := 16 }
def DA_CFG.SPAN : Fld := { off := 0x100, hi := 2, lo := 0, acc := .rw, rst := 1, stride := 0x10, count := 16 }
def DA_CODE : Fld := { off := 0x104, hi := 15, lo := 0, acc := .rw, stride := 0x10, count := 16 }
def DA_SAFE : Fld := { off := 0x108, hi := 15, lo := 0, acc := .rw, lock := some 8, stride := 0x10, count := 16 }
def DA_STATUS.OUT_CODE : Fld := { off := 0x10C, hi := 31, lo := 16, acc := .ro, stride := 0x10, count := 16 }
def DA_STATUS.TWIN_WARM : Fld := { off := 0x10C, hi := 4, lo := 4, acc := .ro, stride := 0x10, count := 16 }
def DA_STATUS.TRIP : Fld := { off := 0x10C, hi := 3, lo := 3, acc := .ro, stride := 0x10, count := 16 }
def DA_STATUS.SPAN_BUSY : Fld := { off := 0x10C, hi := 2, lo := 2, acc := .ro, stride := 0x10, count := 16 }
def DA_STATUS.PUBLISHED : Fld := { off := 0x10C, hi := 1, lo := 1, acc := .ro, stride := 0x10, count := 16 }
def DA_STATUS.SAFE : Fld := { off := 0x10C, hi := 0, lo := 0, acc := .ro, stride := 0x10, count := 16 }

-- R326 (11_analog_outputs.md)
def LS_FIRE : Fld := { off := 0x040, hi := 7, lo := 0, acc := .wo }
def LS_CFG.SRC : Fld := { off := 0x060, hi := 10, lo := 8, acc := .rw, lock := some 8, stride := 0x4, count := 8 }
def LS_CFG.SEL : Fld := { off := 0x060, hi := 4, lo := 0, acc := .rw, lock := some 8, stride := 0x4, count := 8 }
def LS_COUNT.MERGED : Fld := { off := 0x080, hi := 31, lo := 16, acc := .ro, stride := 0x4, count := 8 }
def LS_COUNT.STROBES : Fld := { off := 0x080, hi := 15, lo := 0, acc := .ro, stride := 0x4, count := 8 }
def LS_TIME_LO : Fld := { off := 0x100, hi := 31, lo := 0, acc := .ro, stride := 0x8, count := 8 }
def LS_TIME_HI : Fld := { off := 0x104, hi := 31, lo := 0, acc := .ro, stride := 0x8, count := 8 }

-- R356 (12_scheduler.md)
def SCH_CTRL.MODE : Fld := { off := 0x040, hi := 0, lo := 0, acc := .rw, lock := some 8 }
def SCH_AFF_WAIT : Fld := { off := 0x044, hi := 15, lo := 0, acc := .rw, lock := some 8 }
def SCH_CAP.URGENT : Fld := { off := 0x048, hi := 26, lo := 16, acc := .ro, rst := 1024 }
def SCH_CAP.RECORDS : Fld := { off := 0x048, hi := 14, lo := 0, acc := .ro }
def SCH_USE.LOW : Fld := { off := 0x04C, hi := 30, lo := 16, acc := .ro }
def SCH_USE.HELD : Fld := { off := 0x04C, hi := 14, lo := 0, acc := .ro }
def SCH_CANCEL : Fld := { off := 0x050, hi := 23, lo := 0, acc := .wo }
def SCH_CANCEL_RES.VALID : Fld := { off := 0x054, hi := 31, lo := 31, acc := .ro }
def SCH_CANCEL_RES.OUTCOME : Fld := { off := 0x054, hi := 27, lo := 24, acc := .ro }
def SCH_CANCEL_RES.HANDLE : Fld := { off := 0x054, hi := 23, lo := 0, acc := .ro }
def SCH_DISPATCHES : Fld := { off := 0x058, hi := 31, lo := 0, acc := .ro }
def SCH_HW_LOST.SRC : Fld := { off := 0x05C, hi := 25, lo := 16, acc := .ro }
def SCH_HW_LOST.COUNT : Fld := { off := 0x05C, hi := 15, lo := 0, acc := .ro }
def SCH_STALE_DONE : Fld := { off := 0x060, hi := 31, lo := 16, acc := .ro }
def SCH_REFUSED : Fld := { off := 0x060, hi := 15, lo := 0, acc := .ro }
def SCH_HA_REQ.PENDING : Fld := { off := 0x064, hi := 31, lo := 31, acc := .ro }
def SCH_HA_REQ.WORKER : Fld := { off := 0x064, hi := 15, lo := 8, acc := .ro }
def SCH_HA_REQ.GROUP : Fld := { off := 0x064, hi := 5, lo := 0, acc := .ro }
def SCH_HA_DECIDE.NONE : Fld := { off := 0x068, hi := 31, lo := 31, acc := .wo }
def SCH_HA_DECIDE.HANDLE : Fld := { off := 0x068, hi := 23, lo := 0, acc := .wo }
def SCH_HA_CAND.VALID : Fld := { off := 0x06C, hi := 31, lo := 31, acc := .ro, stride := 0x4, count := 8 }
def SCH_HA_CAND.PRIO : Fld := { off := 0x06C, hi := 29, lo := 24, acc := .ro, stride := 0x4, count := 8 }
def SCH_HA_CAND.HANDLE : Fld := { off := 0x06C, hi := 23, lo := 0, acc := .ro, stride := 0x4, count := 8 }
def SCH_BROKE_HEAD : Fld := { off := 0x08C, hi := 10, lo := 0, acc := .ro, keep := .chip }
def SCH_BROKE_TAIL : Fld := { off := 0x090, hi := 10, lo := 0, acc := .rw, keep := .chip }
def SCH_BROKE_CNT.DISCARD : Fld := { off := 0x094, hi := 31, lo := 16, acc := .ro, keep := .chip }
def SCH_BROKE_CNT.LOST : Fld := { off := 0x094, hi := 15, lo := 0, acc := .ro, keep := .chip }
def SCH_SRC_MAP.EN : Fld := { off := 0x400, hi := 31, lo := 31, acc := .rw, lock := some 8, stride := 0x4, count := 240 }
def SCH_SRC_MAP.EDGE : Fld := { off := 0x400, hi := 27, lo := 24, acc := .rw, lock := some 8, stride := 0x4, count := 240 }
def SCH_SRC_MAP.FLOW : Fld := { off := 0x400, hi := 23, lo := 12, acc := .rw, lock := some 8, stride := 0x4, count := 240 }
def SCH_SRC_MAP.PRIO : Fld := { off := 0x400, hi := 11, lo := 6, acc := .rw, lock := some 8, stride := 0x4, count := 240 }
def SCH_SRC_MAP.GROUP : Fld := { off := 0x400, hi := 5, lo := 0, acc := .rw, lock := some 8, stride := 0x4, count := 240 }

-- R357 (12_scheduler.md)
def SCH_WKR.EN : Fld := { off := 0x100, hi := 31, lo := 31, acc := .rw, lock := some 8, stride := 0x4, count := 256 }
def SCH_WKR.BOUND : Fld := { off := 0x100, hi := 30, lo := 30, acc := .ro, stride := 0x4, count := 256 }
def SCH_WKR.SUSP : Fld := { off := 0x100, hi := 29, lo := 29, acc := .ro, stride := 0x4, count := 256 }
def SCH_WKR.CANCEL : Fld := { off := 0x100, hi := 28, lo := 28, acc := .ro, stride := 0x4, count := 256 }
def SCH_WKR.GROUP : Fld := { off := 0x100, hi := 21, lo := 16, acc := .rw, lock := some 8, stride := 0x4, count := 256 }
def SCH_WKR.DEPTH : Fld := { off := 0x100, hi := 15, lo := 8, acc := .ro, stride := 0x4, count := 256 }
def SCH_WKR.IN_HAND : Fld := { off := 0x100, hi := 7, lo := 0, acc := .ro, stride := 0x4, count := 256 }
def SCH_PROG : Fld := { off := 0x500, hi := 31, lo := 0, acc := .ro, stride := 0x4, count := 256 }

-- R360 (12_scheduler.md)
def SCH_TRACE_CTRL.EVENTS : Fld := { off := 0x040, hi := 6, lo := 0, acc := .rw, rst := 127 }
def SCH_TRACE_FLOW.MASK : Fld := { off := 0x044, hi := 27, lo := 16, acc := .rw }
def SCH_TRACE_FLOW.MATCH : Fld := { off := 0x044, hi := 11, lo := 0, acc := .rw, rst := 4095 }
def SCH_TRACE_LOST : Fld := { off := 0x048, hi := 31, lo := 0, acc := .ro }
def SCH_TRACE_COUNT : Fld := { off := 0x04C, hi := 31, lo := 0, acc := .ro }

-- R357 (12_scheduler.md)
def SCH_SQ_BASE_LO : Fld := { off := 0x100, hi := 31, lo := 0, acc := .rw, lock := some 8, stride := 0x40, count := 14 }
def SCH_SQ_BASE_HI : Fld := { off := 0x104, hi := 31, lo := 0, acc := .rw, lock := some 8, stride := 0x40, count := 14 }
def SCH_SQ_CFG.EN : Fld := { off := 0x108, hi := 31, lo := 31, acc := .rw, stride := 0x40, count := 14 }
def SCH_SQ_CFG.SIZE : Fld := { off := 0x108, hi := 19, lo := 16, acc := .rw, rst := 4, lock := some 8, stride := 0x40, count := 14 }
def SCH_SQ_CFG.CREDIT : Fld := { off := 0x108, hi := 14, lo := 0, acc := .rw, rst := 256, stride := 0x40, count := 14 }
def SCH_SQ_TAIL : Fld := { off := 0x10C, hi := 15, lo := 0, acc := .rw, stride := 0x40, count := 14 }
def SCH_SQ_HEAD : Fld := { off := 0x110, hi := 15, lo := 0, acc := .ro, stride := 0x40, count := 14 }
def SCH_CQ_BASE_LO : Fld := { off := 0x114, hi := 31, lo := 0, acc := .rw, lock := some 8, stride := 0x40, count := 14 }
def SCH_CQ_BASE_HI : Fld := { off := 0x118, hi := 31, lo := 0, acc := .rw, lock := some 8, stride := 0x40, count := 14 }
def SCH_CQ_CFG.EN : Fld := { off := 0x11C, hi := 31, lo := 31, acc := .rw, stride := 0x40, count := 14 }
def SCH_CQ_CFG.IRQ_EN : Fld := { off := 0x11C, hi := 30, lo := 30, acc := .rw, stride := 0x40, count := 14 }
def SCH_CQ_CFG.SIZE : Fld := { off := 0x11C, hi := 3, lo := 0, acc := .rw, rst := 4, lock := some 8, stride := 0x40, count := 14 }
def SCH_CQ_TAIL : Fld := { off := 0x120, hi := 15, lo := 0, acc := .ro, stride := 0x40, count := 14 }
def SCH_CQ_HEAD : Fld := { off := 0x124, hi := 15, lo := 0, acc := .rw, stride := 0x40, count := 14 }
def SCH_HQ_STATUS : Fld := { off := 0x128, hi := 31, lo := 0, acc := .rw, stride := 0x40, count := 14 }
def SCH_HQ_DONE : Fld := { off := 0x12C, hi := 23, lo := 0, acc := .wo, stride := 0x40, count := 14 }

-- R420 (14_ream_store_and_press.md)
def RS_STATE.READ_ONLY : Fld := { off := 0x040, hi := 9, lo := 9, acc := .ro }
def RS_STATE.REPLAYED : Fld := { off := 0x040, hi := 8, lo := 8, acc := .ro }
def RS_STATE.STATE : Fld := { off := 0x040, hi := 3, lo := 0, acc := .ro }
def RS_GEOM.RAW_GIB : Fld := { off := 0x044, hi := 31, lo := 16, acc := .ro }
def RS_GEOM.DIES : Fld := { off := 0x044, hi := 15, lo := 8, acc := .ro }
def RS_GEOM.CHANNELS : Fld := { off := 0x044, hi := 3, lo := 0, acc := .ro }
def RS_CMD.GO : Fld := { off := 0x048, hi := 31, lo := 31, acc := .sc }
def RS_CMD.CONFIRM : Fld := { off := 0x048, hi := 23, lo := 16, acc := .wo }
def RS_CMD.SLOT : Fld := { off := 0x048, hi := 13, lo := 8, acc := .rw }
def RS_CMD.OP : Fld := { off := 0x048, hi := 3, lo := 0, acc := .rw }
def RS_SRC_ADDR_LO : Fld := { off := 0x04C, hi := 31, lo := 0, acc := .rw }
def RS_SRC_ADDR_HI : Fld := { off := 0x050, hi := 31, lo := 0, acc := .rw }
def RS_SRC_LEN : Fld := { off := 0x054, hi := 31, lo := 0, acc := .rw }
def RS_CMD_RES.BUSY : Fld := { off := 0x058, hi := 31, lo := 31, acc := .ro }
def RS_CMD_RES.CFG_CODE : Fld := { off := 0x058, hi := 15, lo := 8, acc := .ro }
def RS_CMD_RES.RESULT : Fld := { off := 0x058, hi := 7, lo := 0, acc := .ro }
def RS_FMT.VAULT : Fld := { off := 0x05C, hi := 4, lo := 0, acc := .rw, rst := 4 }
def RS_LIB_VALID_LO : Fld := { off := 0x060, hi := 31, lo := 0, acc := .ro, keep := .always }
def RS_LIB_VALID_HI : Fld := { off := 0x064, hi := 31, lo := 0, acc := .ro, keep := .always }
def RS_LIB_STARTUP.VALID : Fld := { off := 0x068, hi := 31, lo := 31, acc := .ro, keep := .always }
def RS_LIB_STARTUP.SLOT : Fld := { off := 0x068, hi := 5, lo := 0, acc := .ro, keep := .always }
def RS_REFRESH.SWEEPS : Fld := { off := 0x06C, hi := 31, lo := 16, acc := .ro }
def RS_REFRESH.PERIOD : Fld := { off := 0x06C, hi := 15, lo := 8, acc := .rw, rst := 30, lock := some 8 }
def RS_REFRESH.THRESH : Fld := { off := 0x06C, hi := 7, lo := 0, acc := .rw, rst := 50, lock := some 8 }
def RS_BLOCKS.RETIRED : Fld := { off := 0x070, hi := 31, lo := 16, acc := .ro }
def RS_BLOCKS.SPARE : Fld := { off := 0x070, hi := 15, lo := 0, acc := .ro }
def RS_RESERVE.NEEDED : Fld := { off := 0x074, hi := 31, lo := 16, acc := .ro }
def RS_RESERVE.ERASED : Fld := { off := 0x074, hi := 15, lo := 0, acc := .ro }
def RS_HA_REQ.PENDING : Fld := { off := 0x078, hi := 31, lo := 31, acc := .ro }
def RS_HA_REQ.KIND : Fld := { off := 0x078, hi := 30, lo := 28, acc := .ro }
def RS_HA_REQ.PART : Fld := { off := 0x078, hi := 27, lo := 24, acc := .ro }
def RS_HA_REQ.BLOCK : Fld := { off := 0x078, hi := 23, lo := 0, acc := .ro }
def RS_HA_ANS.GO : Fld := { off := 0x07C, hi := 31, lo := 31, acc := .wo }
def RS_HA_ANS.BLOCK : Fld := { off := 0x07C, hi := 23, lo := 0, acc := .wo }
def RS_RAW.GO : Fld := { off := 0x080, hi := 31, lo := 31, acc := .sc }
def RS_RAW.ERR : Fld := { off := 0x080, hi := 30, lo := 30, acc := .ro }
def RS_RAW.OP : Fld := { off := 0x080, hi := 27, lo := 24, acc := .rw }
def RS_RAW.BLOCK : Fld := { off := 0x080, hi := 23, lo := 0, acc := .rw }
def RS_RAW.PAGE : Fld := { off := 0x084, hi := 15, lo := 0, acc := .rw }

-- R421 (14_ream_store_and_press.md)
def RS_VT_CMD.GO : Fld := { off := 0x040, hi := 31, lo := 31, acc := .sc }
def RS_VT_CMD.OP : Fld := { off := 0x040, hi := 3, lo := 0, acc := .rw }
def RS_VT_ADDR_LO : Fld := { off := 0x044, hi := 31, lo := 0, acc := .rw }
def RS_VT_ADDR_HI : Fld := { off := 0x048, hi := 31, lo := 0, acc := .rw }
def RS_VT_LEN : Fld := { off := 0x04C, hi := 31, lo := 0, acc := .rw }
def RS_VT_KEY_LO : Fld := { off := 0x050, hi := 31, lo := 0, acc := .rw }
def RS_VT_KEY_HI : Fld := { off := 0x054, hi := 31, lo := 0, acc := .rw }
def RS_VT_STATUS.RESULT : Fld := { off := 0x058, hi := 31, lo := 24, acc := .ro }
def RS_VT_STATUS.OWNER : Fld := { off := 0x058, hi := 23, lo := 16, acc := .ro }
def RS_VT_STATUS.SOLO : Fld := { off := 0x058, hi := 11, lo := 11, acc := .ro }
def RS_VT_STATUS.COMMITTING : Fld := { off := 0x058, hi := 10, lo := 10, acc := .ro }
def RS_VT_STATUS.OPEN : Fld := { off := 0x058, hi := 9, lo := 9, acc := .ro }
def RS_VT_STATUS.HOLD_OFF : Fld := { off := 0x058, hi := 8, lo := 8, acc := .ro }
def RS_VT_SEQ : Fld := { off := 0x05C, hi := 31, lo := 0, acc := .ro, keep := .always }
def RS_VT_DURABLE : Fld := { off := 0x060, hi := 31, lo := 0, acc := .ro, keep := .always }
def RS_VT_GOT : Fld := { off := 0x064, hi := 16, lo := 0, acc := .ro }
def RS_VT_TXN.RECORDS : Fld := { off := 0x068, hi := 31, lo := 21, acc := .ro }
def RS_VT_TXN.BYTES : Fld := { off := 0x068, hi := 20, lo := 0, acc := .ro }
def RS_VT_KEYS : Fld := { off := 0x06C, hi := 18, lo := 0, acc := .ro }
def RS_VT_SPACE.CAP : Fld := { off := 0x070, hi := 31, lo := 16, acc := .ro }
def RS_VT_SPACE.USED : Fld := { off := 0x070, hi := 15, lo := 0, acc := .ro }

-- R422 (14_ream_store_and_press.md)
def RS_CAP_RD.GO : Fld := { off := 0x040, hi := 31, lo := 31, acc := .sc }
def RS_CAP_RD.STREAM : Fld := { off := 0x040, hi := 3, lo := 0, acc := .rw }
def RS_CAP_RD_FIRST : Fld := { off := 0x044, hi := 31, lo := 0, acc := .rw }
def RS_CAP_RD_COUNT : Fld := { off := 0x048, hi := 31, lo := 0, acc := .rw }
def RS_CAP_RD_ADDR_LO : Fld := { off := 0x04C, hi := 31, lo := 0, acc := .rw }
def RS_CAP_RD_ADDR_HI : Fld := { off := 0x050, hi := 31, lo := 0, acc := .rw }
def RS_CAP_RD_SKIP : Fld := { off := 0x054, hi := 31, lo := 0, acc := .ro }
def RS_CAP_CFG.EN : Fld := { off := 0x100, hi := 31, lo := 31, acc := .rw, stride := 0x20, count := 16 }
def RS_CAP_CFG.REARM : Fld := { off := 0x100, hi := 30, lo := 30, acc := .sc, stride := 0x20, count := 16 }
def RS_CAP_CFG.TRIGGER : Fld := { off := 0x100, hi := 29, lo := 29, acc := .sc, stride := 0x20, count := 16 }
def RS_CAP_CFG.TRIG : Fld := { off := 0x100, hi := 28, lo := 27, acc := .rw, stride := 0x20, count := 16 }
def RS_CAP_CFG.SEL : Fld := { off := 0x100, hi := 20, lo := 16, acc := .rw, stride := 0x20, count := 16 }
def RS_CAP_CFG.SIZE : Fld := { off := 0x100, hi := 15, lo := 0, acc := .rw, lock := some 8, stride := 0x20, count := 16 }
def RS_CAP_POST : Fld := { off := 0x104, hi := 31, lo := 0, acc := .rw, stride := 0x20, count := 16 }
def RS_CAP_STATE : Fld := { off := 0x108, hi := 1, lo := 0, acc := .ro, stride := 0x20, count := 16 }
def RS_CAP_NEXT : Fld := { off := 0x10C, hi := 31, lo := 0, acc := .ro, stride := 0x20, count := 16 }
def RS_CAP_OLDEST : Fld := { off := 0x110, hi := 31, lo := 0, acc := .ro, stride := 0x20, count := 16 }
def RS_CAP_TRIG_BLK : Fld := { off := 0x114, hi := 31, lo := 0, acc := .ro, stride := 0x20, count := 16 }
def RS_CAP_TRIG_TIME_LO : Fld := { off := 0x118, hi := 31, lo := 0, acc := .ro, stride := 0x20, count := 16 }
def RS_CAP_TRIG_TIME_HI : Fld := { off := 0x11C, hi := 31, lo := 0, acc := .ro, stride := 0x20, count := 16 }

-- R423 (14_ream_store_and_press.md)
def RS_PR_CTRL.SAVE : Fld := { off := 0x040, hi := 6, lo := 6, acc := .sc }
def RS_PR_CTRL.TRIG_HOLD : Fld := { off := 0x040, hi := 5, lo := 5, acc := .rw }
def RS_PR_CTRL.HU_TRIP_EN : Fld := { off := 0x040, hi := 4, lo := 4, acc := .rw, keep := .always, lock := some 8 }
def RS_PR_CTRL.PWR_FAIL_EN : Fld := { off := 0x040, hi := 3, lo := 3, acc := .rw, keep := .always, lock := some 8 }
def RS_PR_CTRL.KEEP_HOST : Fld := { off := 0x040, hi := 2, lo := 2, acc := .rw, keep := .always, lock := some 8 }
def RS_PR_CTRL.TRIG : Fld := { off := 0x040, hi := 1, lo := 1, acc := .sc }
def RS_PR_CTRL.EN : Fld := { off := 0x040, hi := 0, lo := 0, acc := .rw, keep := .always, lock := some 8 }
def RS_PR_VIN.HYST : Fld := { off := 0x044, hi := 30, lo := 28, acc := .rw, keep := .always, lock := some 8 }
def RS_PR_VIN.HI : Fld := { off := 0x044, hi := 25, lo := 16, acc := .rw, keep := .always, lock := some 8 }
def RS_PR_VIN.LO : Fld := { off := 0x044, hi := 9, lo := 0, acc := .rw, keep := .always, lock := some 8 }
def RS_PR_HU.HYST : Fld := { off := 0x048, hi := 30, lo := 28, acc := .rw, keep := .always, lock := some 8 }
def RS_PR_HU.HI : Fld := { off := 0x048, hi := 25, lo := 16, acc := .rw, keep := .always, lock := some 8 }
def RS_PR_HU.LO : Fld := { off := 0x048, hi := 9, lo := 0, acc := .rw, keep := .always, lock := some 8 }
def RS_PR_CAP : Fld := { off := 0x04C, hi := 23, lo := 0, acc := .rw, keep := .always, lock := some 8 }
def RS_PR_DIV : Fld := { off := 0x050, hi := 15, lo := 0, acc := .rw, keep := .always, lock := some 8 }
def RS_PR_VMIN.EFF : Fld := { off := 0x054, hi := 23, lo := 16, acc := .rw, keep := .always, lock := some 8 }
def RS_PR_VMIN.MV : Fld := { off := 0x054, hi := 15, lo := 0, acc := .rw, keep := .always, lock := some 8 }
def RS_PR_OTHER : Fld := { off := 0x058, hi := 31, lo := 16, acc := .rw, keep := .always, lock := some 8 }
def RS_PR_MARGIN : Fld := { off := 0x058, hi := 7, lo := 0, acc := .rw, keep := .always, lock := some 8 }
def RS_PR_KEEP : Fld := { off := 0x05C, hi := 31, lo := 0, acc := .rw, keep := .always, lock := some 8 }
def RS_PR_VHU.STALE : Fld := { off := 0x060, hi := 31, lo := 31, acc := .ro, rst := 1 }
def RS_PR_VHU.MV : Fld := { off := 0x060, hi := 15, lo := 0, acc := .ro }
def RS_PR_AVAIL : Fld := { off := 0x064, hi := 31, lo := 0, acc := .ro }
def PRESS_BUDGET : Fld := { off := 0x068, hi := 31, lo := 0, acc := .ro }
def RS_PR_STATE.RESUMED : Fld := { off := 0x06C, hi := 12, lo := 12, acc := .ro }
def RS_PR_STATE.CAUSE : Fld := { off := 0x06C, hi := 11, lo := 9, acc := .ro, keep := .always }
def RS_PR_STATE.ARMED : Fld := { off := 0x06C, hi := 8, lo := 8, acc := .ro }
def RS_PR_STATE.STEP : Fld := { off := 0x06C, hi := 2, lo := 0, acc := .ro }
def RS_PR_LAST_TIME_LO : Fld := { off := 0x070, hi := 31, lo := 0, acc := .ro, keep := .always }
def RS_PR_LAST_TIME_HI : Fld := { off := 0x074, hi := 31, lo := 0, acc := .ro, keep := .always }
def RS_PR_LAST_DUR : Fld := { off := 0x078, hi := 31, lo := 0, acc := .ro, keep := .always }
def RS_PR_LAST_LOST : Fld := { off := 0x07C, hi := 31, lo := 16, acc := .ro, keep := .always }
def RS_PR_COUNT : Fld := { off := 0x07C, hi := 15, lo := 0, acc := .ro, keep := .always }
def RS_PR_PLAN_LO : Fld := { off := 0x080, hi := 31, lo := 0, acc := .rw }
def RS_PR_PLAN_HI : Fld := { off := 0x084, hi := 31, lo := 0, acc := .rw }

-- R424 (14_ream_store_and_press.md)
def BFE_CFG.SIZE : Fld := { off := 0x040, hi := 1, lo := 0, acc := .rw, keep := .always, lock := some 8 }
def BFE_IMAGE.B_VALID : Fld := { off := 0x044, hi := 4, lo := 4, acc := .ro, keep := .always }
def BFE_IMAGE.A_VALID : Fld := { off := 0x044, hi := 3, lo := 3, acc := .ro, keep := .always }
def BFE_IMAGE.COMMIT_PENDING : Fld := { off := 0x044, hi := 2, lo := 2, acc := .ro, keep := .always }
def BFE_IMAGE.UPDATING : Fld := { off := 0x044, hi := 1, lo := 1, acc := .ro }
def BFE_IMAGE.ACTIVE : Fld := { off := 0x044, hi := 0, lo := 0, acc := .ro, keep := .always }
def BFE_BOOT.FELL_BACK : Fld := { off := 0x048, hi := 17, lo := 17, acc := .w1c, keep := .always }
def BFE_BOOT.BOOT_OK : Fld := { off := 0x048, hi := 16, lo := 16, acc := .sc }
def BFE_BOOT.MAX_TRIES : Fld := { off := 0x048, hi := 15, lo := 8, acc := .rw, rst := 3, lock := some 8 }
def BFE_BOOT.TRIES : Fld := { off := 0x048, hi := 7, lo := 0, acc := .ro, keep := .always }
def BFE_CTRL.UPDATE_VIEW : Fld := { off := 0x04C, hi := 2, lo := 2, acc := .rw }
def BFE_CTRL.DISCARD : Fld := { off := 0x04C, hi := 1, lo := 1, acc := .sc }
def BFE_CTRL.COMMIT : Fld := { off := 0x04C, hi := 0, lo := 0, acc := .sc }
def BFE_UPD_SRC_LO : Fld := { off := 0x050, hi := 31, lo := 0, acc := .rw }
def BFE_UPD_SRC_HI : Fld := { off := 0x054, hi := 31, lo := 0, acc := .rw }
def BFE_UPD_OFF : Fld := { off := 0x058, hi := 31, lo := 0, acc := .rw }
def BFE_UPD.GO : Fld := { off := 0x05C, hi := 31, lo := 31, acc := .sc }
def BFE_UPD.LEN : Fld := { off := 0x05C, hi := 27, lo := 0, acc := .rw }
def BFE_READS : Fld := { off := 0x060, hi := 31, lo := 0, acc := .ro }
def BFE_WRITES.ERASES : Fld := { off := 0x064, hi := 31, lo := 16, acc := .ro }
def BFE_WRITES.PROGRAMS : Fld := { off := 0x064, hi := 15, lo := 0, acc := .ro }

-- R490 (16_twin_and_span.md)
def TW_CTRL.TIME_FOLLOW : Fld := { off := 0x040, hi := 2, lo := 2, acc := .rw, rst := 1 }
def TW_CTRL.COUCH_SYNC : Fld := { off := 0x040, hi := 1, lo := 1, acc := .rw, rst := 1, lock := some 8 }
def TW_STATUS.SIDE : Fld := { off := 0x044, hi := 15, lo := 15, acc := .ro }
def TW_STATUS.LIB_SYNCED : Fld := { off := 0x044, hi := 14, lo := 14, acc := .ro }
def TW_STATUS.VAULT_SYNCED : Fld := { off := 0x044, hi := 13, lo := 13, acc := .ro }
def TW_STATUS.SYNCED : Fld := { off := 0x044, hi := 12, lo := 12, acc := .ro }
def TW_STATUS.LINK_UP : Fld := { off := 0x044, hi := 11, lo := 11, acc := .ro }
def TW_STATUS.PEER_LINE : Fld := { off := 0x044, hi := 9, lo := 8, acc := .ro }
def TW_STATUS.ROLE : Fld := { off := 0x044, hi := 2, lo := 0, acc := .ro }
def TW_HB.MISSED : Fld := { off := 0x048, hi := 31, lo := 16, acc := .ro }
def TW_HB.RUN : Fld := { off := 0x048, hi := 3, lo := 0, acc := .ro }
def TW_LAG.MAX : Fld := { off := 0x04C, hi := 31, lo := 16, acc := .ro }
def TW_LAG.NOW : Fld := { off := 0x04C, hi := 15, lo := 0, acc := .ro }
def TW_TAKEOVER_TIME_LO : Fld := { off := 0x050, hi := 31, lo := 0, acc := .ro }
def TW_TAKEOVER_TIME_HI : Fld := { off := 0x054, hi := 31, lo := 0, acc := .ro }
def TW_TAKEOVER_DUR : Fld := { off := 0x058, hi := 31, lo := 0, acc := .ro }
def TW_COUNTS.REPLAYS : Fld := { off := 0x05C, hi := 31, lo := 16, acc := .ro }
def TW_COUNTS.LINK_DOWNS : Fld := { off := 0x05C, hi := 15, lo := 0, acc := .ro }
def TW_REL.SKIPPED : Fld := { off := 0x060, hi := 31, lo := 16, acc := .ro }
def TW_REL.SUPPRESSED : Fld := { off := 0x060, hi := 15, lo := 0, acc := .ro }
def TW_CFG.CLAIM_WAIT : Fld := { off := 0x064, hi := 15, lo := 8, acc := .rw, rst := 10, lock := some 8 }
def TW_CFG.PAD_HOLD : Fld := { off := 0x064, hi := 7, lo := 0, acc := .rw, lock := some 8 }
def TW_TIME_DROPS : Fld := { off := 0x068, hi := 31, lo := 16, acc := .ro }
def TW_VAULT_DISCARD : Fld := { off := 0x068, hi := 15, lo := 0, acc := .ro }
def TW_PEER_UID_LO : Fld := { off := 0x06C, hi := 31, lo := 0, acc := .ro }
def TW_PEER_UID_HI : Fld := { off := 0x070, hi := 31, lo := 0, acc := .ro }

-- R491 (16_twin_and_span.md)
def SN_CTRL.TIME_FOLLOW : Fld := { off := 0x040, hi := 2, lo := 2, acc := .rw, rst := 1 }
def SN_CTRL.ENUM : Fld := { off := 0x040, hi := 1, lo := 1, acc := .sc }
def SN_CTRL.ROOT : Fld := { off := 0x040, hi := 0, lo := 0, acc := .rw, lock := some 8 }
def SN_STATUS.TIME_LOCKED : Fld := { off := 0x044, hi := 25, lo := 25, acc := .ro }
def SN_STATUS.ENUM_BUSY : Fld := { off := 0x044, hi := 24, lo := 24, acc := .ro }
def SN_STATUS.LANE_UP : Fld := { off := 0x044, hi := 23, lo := 20, acc := .ro }
def SN_STATUS.DEPTH : Fld := { off := 0x044, hi := 19, lo := 16, acc := .ro }
def SN_STATUS.ISOLATED : Fld := { off := 0x044, hi := 15, lo := 15, acc := .ro }
def SN_STATUS.ADDR_VALID : Fld := { off := 0x044, hi := 14, lo := 14, acc := .ro }
def SN_STATUS.ADDR : Fld := { off := 0x044, hi := 13, lo := 0, acc := .ro }
def SN_RANGE.VALID : Fld := { off := 0x048, hi := 31, lo := 31, acc := .ro, stride := 0x4, count := 3 }
def SN_RANGE.LAST : Fld := { off := 0x048, hi := 29, lo := 16, acc := .ro, stride := 0x4, count := 3 }
def SN_RANGE.FIRST : Fld := { off := 0x048, hi := 13, lo := 0, acc := .ro, stride := 0x4, count := 3 }
def SN_COUNT : Fld := { off := 0x054, hi := 14, lo := 0, acc := .ro }
def SN_TIME_OFFS : Fld := { off := 0x058, hi := 31, lo := 0, acc := .ro }
def SN_DELAY.HOST_DROPS : Fld := { off := 0x05C, hi := 31, lo := 16, acc := .ro }
def SN_DELAY.NS : Fld := { off := 0x05C, hi := 15, lo := 0, acc := .ro }
def SN_STROBE_TX.GO : Fld := { off := 0x060, hi := 31, lo := 31, acc := .sc }
def SN_STROBE_TX.K : Fld := { off := 0x060, hi := 2, lo := 0, acc := .rw }
def SN_STROBE_T_LO : Fld := { off := 0x064, hi := 31, lo := 0, acc := .rw }
def SN_STROBE_T_HI : Fld := { off := 0x068, hi := 31, lo := 0, acc := .rw }
def SN_STROBE_CNT.LATE : Fld := { off := 0x06C, hi := 31, lo := 16, acc := .ro }
def SN_STROBE_CNT.FIRED : Fld := { off := 0x06C, hi := 15, lo := 0, acc := .ro }
def SN_COUNTS.REPLAYS : Fld := { off := 0x070, hi := 31, lo := 16, acc := .ro }
def SN_COUNTS.LANE_DOWNS : Fld := { off := 0x070, hi := 15, lo := 0, acc := .ro }
def SN_UNROUTABLE : Fld := { off := 0x074, hi := 31, lo := 0, acc := .ro }
def SN_SP.EN : Fld := { off := 0x100, hi := 31, lo := 31, acc := .rw, lock := some 8, stride := 0x4, count := 32 }
def SN_SP.DEST : Fld := { off := 0x100, hi := 13, lo := 0, acc := .rw, lock := some 8, stride := 0x4, count := 32 }

-- R519 (17_pins_and_serialisers.md)
def GB_OUT : Fld := { off := 0x040, hi := 31, lo := 0, acc := .rw }
def GB_DIR : Fld := { off := 0x044, hi := 31, lo := 0, acc := .rw }
def GB_IN : Fld := { off := 0x048, hi := 31, lo := 0, acc := .ro }
def GB_PADLOCK : Fld := { off := 0x04C, hi := 31, lo := 0, acc := .rw }
def GB_RISE_EN : Fld := { off := 0x050, hi := 31, lo := 0, acc := .rw }
def GB_FALL_EN : Fld := { off := 0x054, hi := 31, lo := 0, acc := .rw }
def GB_EDGE : Fld := { off := 0x058, hi := 31, lo := 0, acc := .w1c }
def GB_FUNC.HELD : Fld := { off := 0x05C, hi := 3, lo := 3, acc := .ro, stride := 0x4, count := 4, bstep := 4, bcount := 8 }
def GB_FUNC.WIN : Fld := { off := 0x05C, hi := 2, lo := 0, acc := .ro, rst := 7, stride := 0x4, count := 4, bstep := 4, bcount := 8 }
def GB_STATUS.COLD : Fld := { off := 0x06C, hi := 2, lo := 2, acc := .ro, rst := 1 }
def GB_STATUS.VIO_OK : Fld := { off := 0x06C, hi := 1, lo := 1, acc := .ro }
def GB_STATUS.PULL_UP : Fld := { off := 0x06C, hi := 0, lo := 0, acc := .ro }
def GB_CFG : Fld := { off := 0x100, hi := 21, lo := 0, acc := .rw, stride := 0x4, count := 32 }

-- R520 (17_pins_and_serialisers.md)
def SQ_CFG.RATE : Fld := { off := 0x040, hi := 3, lo := 0, acc := .rw, rst := 8, lock := some 8 }
def SQ_STATUS.LOSS_COUNT : Fld := { off := 0x044, hi := 31, lo := 16, acc := .ro }
def SQ_STATUS.LOCKED : Fld := { off := 0x044, hi := 0, lo := 0, acc := .ro }
def SQ_LANE_CTRL.EN : Fld := { off := 0x100, hi := 31, lo := 31, acc := .rw, stride := 0x20, count := 4 }
def SQ_LANE_CTRL.CODING : Fld := { off := 0x100, hi := 29, lo := 28, acc := .rw, rst := 1, lock := some 8, stride := 0x20, count := 4 }
def SQ_LANE_CTRL.TX_INV : Fld := { off := 0x100, hi := 27, lo := 27, acc := .rw, stride := 0x20, count := 4 }
def SQ_LANE_CTRL.RX_INV : Fld := { off := 0x100, hi := 26, lo := 26, acc := .rw, stride := 0x20, count := 4 }
def SQ_LANE_CTRL.LOOP : Fld := { off := 0x100, hi := 25, lo := 24, acc := .rw, stride := 0x20, count := 4 }
def SQ_LANE_CTRL.PRBS : Fld := { off := 0x100, hi := 23, lo := 22, acc := .rw, stride := 0x20, count := 4 }
def SQ_LANE_CTRL.PRBS_CHECK : Fld := { off := 0x100, hi := 21, lo := 21, acc := .rw, stride := 0x20, count := 4 }
def SQ_LANE_EQ.SWING : Fld := { off := 0x104, hi := 23, lo := 20, acc := .rw, rst := 10, stride := 0x20, count := 4 }
def SQ_LANE_EQ.PRE : Fld := { off := 0x104, hi := 19, lo := 16, acc := .rw, stride := 0x20, count := 4 }
def SQ_LANE_EQ.POST : Fld := { off := 0x104, hi := 15, lo := 12, acc := .rw, rst := 4, stride := 0x20, count := 4 }
def SQ_LANE_EQ.CTLE : Fld := { off := 0x104, hi := 7, lo := 4, acc := .rw, stride := 0x20, count := 4 }
def SQ_LANE_EQ.DFE_EN : Fld := { off := 0x104, hi := 3, lo := 3, acc := .rw, rst := 1, stride := 0x20, count := 4 }
def SQ_LANE_STATUS.PRBS_LOCK : Fld := { off := 0x108, hi := 4, lo := 4, acc := .ro, stride := 0x20, count := 4 }
def SQ_LANE_STATUS.ALIGNED : Fld := { off := 0x108, hi := 3, lo := 3, acc := .ro, stride := 0x20, count := 4 }
def SQ_LANE_STATUS.SIGNAL : Fld := { off := 0x108, hi := 2, lo := 2, acc := .ro, stride := 0x20, count := 4 }
def SQ_LANE_STATUS.RX_READY : Fld := { off := 0x108, hi := 1, lo := 1, acc := .ro, stride := 0x20, count := 4 }
def SQ_LANE_STATUS.TX_READY : Fld := { off := 0x108, hi := 0, lo := 0, acc := .ro, stride := 0x20, count := 4 }
def SQ_LANE_ERR.CODE_ERRS : Fld := { off := 0x10C, hi := 31, lo := 16, acc := .ro, stride := 0x20, count := 4 }
def SQ_LANE_ERR.PRBS_ERRS : Fld := { off := 0x10C, hi := 15, lo := 0, acc := .ro, stride := 0x20, count := 4 }
def SQ_LANE_FLOW.OVERRUN : Fld := { off := 0x110, hi := 31, lo := 16, acc := .ro, stride := 0x20, count := 4 }
def SQ_LANE_FLOW.UNDERRUN : Fld := { off := 0x110, hi := 15, lo := 0, acc := .ro, stride := 0x20, count := 4 }

-- R379 (13_streams.md)
def ST_BYTES_LO : Fld := { off := 0x040, hi := 31, lo := 0, acc := .ro }
def ST_BYTES_HI : Fld := { off := 0x044, hi := 31, lo := 0, acc := .ro }
def ST_RING_CFG.EN : Fld := { off := 0x100, hi := 31, lo := 31, acc := .rw, stride := 0x40, count := 4 }
def ST_RING_CFG.TASKS : Fld := { off := 0x100, hi := 30, lo := 30, acc := .rw, lock := some 8, stride := 0x40, count := 4 }
def ST_RING_CFG.DEST : Fld := { off := 0x100, hi := 29, lo := 29, acc := .rw, lock := some 8, stride := 0x40, count := 4 }
def ST_RING_CFG.CAP : Fld := { off := 0x100, hi := 28, lo := 25, acc := .rw, lock := some 8, stride := 0x40, count := 4 }
def ST_RING_CFG.SIZE : Fld := { off := 0x100, hi := 24, lo := 20, acc := .rw, lock := some 8, stride := 0x40, count := 4 }
def ST_RING_CFG.BLOCK : Fld := { off := 0x100, hi := 19, lo := 16, acc := .rw, rst := 4, lock := some 8, stride := 0x40, count := 4 }
def ST_RING_CFG.SRC : Fld := { off := 0x100, hi := 15, lo := 8, acc := .rw, lock := some 8, stride := 0x40, count := 4 }
def ST_RING_BASE_LO : Fld := { off := 0x104, hi := 31, lo := 0, acc := .rw, lock := some 8, stride := 0x40, count := 4 }
def ST_RING_BASE_HI : Fld := { off := 0x108, hi := 31, lo := 0, acc := .rw, lock := some 8, stride := 0x40, count := 4 }
def ST_RING_BUF.BLOCKS : Fld := { off := 0x10C, hi := 29, lo := 16, acc := .rw, rst := 2, lock := some 8, stride := 0x40, count := 4 }
def ST_RING_BUF.BASE : Fld := { off := 0x10C, hi := 8, lo := 0, acc := .rw, lock := some 8, stride := 0x40, count := 4 }
def ST_RING_WB_LO : Fld := { off := 0x110, hi := 31, lo := 0, acc := .rw, lock := some 8, stride := 0x40, count := 4 }
def ST_RING_WB_HI : Fld := { off := 0x114, hi := 31, lo := 0, acc := .rw, lock := some 8, stride := 0x40, count := 4 }
def ST_RING_WP : Fld := { off := 0x118, hi := 31, lo := 0, acc := .ro, stride := 0x40, count := 4 }
def ST_RING_RP : Fld := { off := 0x11C, hi := 31, lo := 0, acc := .rw, stride := 0x40, count := 4 }
def ST_RING_FLUSH.NOW : Fld := { off := 0x120, hi := 31, lo := 31, acc := .sc, stride := 0x40, count := 4 }
def ST_RING_FLUSH.TIMEOUT : Fld := { off := 0x120, hi := 15, lo := 0, acc := .rw, stride := 0x40, count := 4 }
def ST_RING_LOST : Fld := { off := 0x124, hi := 31, lo := 0, acc := .ro, stride := 0x40, count := 4 }
def ST_RING_DISCARD : Fld := { off := 0x128, hi := 15, lo := 0, acc := .ro, stride := 0x40, count := 4 }

-- R359 (12_scheduler.md)
def FLOW.ORDERED : Fld := { off := 0x000, hi := 31, lo := 31, acc := .rw, stride := 0x10, count := 4096 }
def FLOW.TRACE : Fld := { off := 0x000, hi := 30, lo := 30, acc := .rw, stride := 0x10, count := 4096 }
def FLOW.WINDOW : Fld := { off := 0x000, hi := 23, lo := 16, acc := .rw, rst := 255, stride := 0x10, count := 4096 }
def FLOW.RELEASE : Fld := { off := 0x000, hi := 7, lo := 0, acc := .rw, stride := 0x10, count := 4096 }
def FLOW.LW_VALID : Fld := { off := 0x004, hi := 24, lo := 24, acc := .ro, stride := 0x10, count := 4096 }
def FLOW.LAST_WORKER : Fld := { off := 0x004, hi := 23, lo := 16, acc := .ro, stride := 0x10, count := 4096 }
def FLOW.OPEN : Fld := { off := 0x004, hi := 8, lo := 0, acc := .ro, stride := 0x10, count := 4096 }
def FLOW.RELEASES : Fld := { off := 0x008, hi := 31, lo := 16, acc := .ro, stride := 0x10, count := 4096 }
def FLOW.HELD : Fld := { off := 0x008, hi := 14, lo := 0, acc := .ro, stride := 0x10, count := 4096 }

end F

open F

/-- The fields of the common page header (R46). -/
def hdrFields : List Fld :=
  [PG_ID.TYPE, PG_ID.INST, PG_ID.VER, PG_CAPS.BLOCK, PG_CAPS.HOST_MODE_AVAIL, PG_CAPS.PRESENT, PG_CTRL.IDLE,
    PG_CTRL.QUIESCE, PG_CTRL.PWR_ACK, PG_CTRL.PWR_REQ, PG_CTRL.BLK_RESET, PG_CTRL.EN, PG_MODE.FAULT, PG_MODE.FUNC, PG_STATUS.MODE_REJECT, PG_STATUS.LOCKED_WRITE, PG_STATUS.BLOCK, PG_IRQ_EN, PG_FAULT.CONT_COUNT, PG_FAULT.CORR_COUNT] ++
  [PG_FAULT.COUNT_CLR, PG_FAULT.FATAL, PG_FAULT.CONT, PG_FAULT.CORR, PG_FAULT_REACT.SRC, PG_FE_ADDR,
    PG_FE_SRC.VALID, PG_FE_SRC.CLASS, PG_FE_SRC.SOURCE, PG_FE_SRC.ACCESS, PG_FE_SRC.MASTER, PG_FE_TIME_LO, PG_FE_TIME_HI, PG_LOCK, PG_INJECT.ARM, PG_INJECT.COUNT, PG_INJECT.CHECKER, PG_PACE, PG_SET_COUNT]

/-- The fields of the dev page after its header. -/
def devFields : List Fld :=
  [DEV_VARIANT.STEPPING, DEV_VARIANT.VARIANT, DEV_UID_LO, DEV_UID_HI, DEV_STRAPS.BANK_PULL, DEV_STRAPS.TWIN_SIDE,
    DEV_STRAPS.BOOT_SRC, DEV_ABSENT_WRITES, DEV_CTRL.CLR_ABSENT, DEV_HOSTLINK.DOWN_COUNT, DEV_HOSTLINK.USB2_REC, DEV_HOSTLINK.BME, DEV_HOSTLINK.TUNNEL, DEV_HOSTLINK.RATE, DEV_ERRPIN.LEVEL, DEV_ERRPIN.HOLD, DEV_ERRPIN.PULSE, DEV_MGMT.I2C_ADDR, DEV_MGMT.I2C_EN, DEV_MGMT.SPI_EN] ++
  [DEV_SCRATCH]

/-- The fields of the tnd page after its header. -/
def tndFields : List Fld :=
  [TND_STATUS.VOTE_LOST, TND_STATUS.SAFE, TND_STATUS.HEALTHY, TND_STATUS.NMI, TND_STATUS.WAIT, TND_STATUS.STEP,
    TND_CMD, TND_RESET_CAUSE.TYPE, TND_RESET_CAUSE.INST, TND_RESET_CAUSE.SOURCE, TND_RESET_CAUSE.CAUSE, TND_RESET_ADDR, TND_RESET_TIME_LO, TND_RESET_TIME_HI, TND_RESET_COUNT, TND_SAFE_CAUSE.TYPE, TND_SAFE_CAUSE.INST, TND_SAFE_CAUSE.SOURCE, TND_SAFE_CAUSE.CAUSE, TND_SAFE_TIME_LO] ++
  [TND_SAFE_TIME_HI, TND_TRAP.TYPE, TND_TRAP.INST, TND_TRAP.SOURCE, TND_TRAP.PENDING, TND_VOTE,
    TND_WATCH.MP_TIMEOUT, TND_WATCH.MP_EN, TND_LOG.CORR, TND_LOG.LOST, TND_CTRL.HEALTHY_LOW, TND_MP_RESTARTS]

/-- The fields of the pwr0 page after its header. -/
def pwr0Fields : List Fld :=
  [PWR_STATE.GO, PWR_STATE.WAKE, PWR_STATE.CURRENT, PWR_STATE.TARGET, PWR_ON_LO, PWR_ON_HI, PWR_REFUSED_LO,
    PWR_REFUSED_HI, PWR_DOZE_MASK_LO, PWR_DOZE_MASK_HI, PWR_WAKE.HOLD_VIN, PWR_WAKE.HOLD_PFAIL, PWR_WAKE.DOZE, PWR_HOLD_VIN, PWR_SUPPLY.LOST, PWR_SUPPLY.VALID, PWR_TEMP.ANA, PWR_TEMP.DIG, PWR_TEMP_WARN]

/-- The fields of the pwr1 page after its header. -/
def pwr1Fields : List Fld :=
  [PWR_PMB_CFG.EN, PWR_PMB_CFG.ADDR, PWR_PMB_CFG.PAGE, PWR_PMB_CFG.PEC, PWR_VCORE_TARGET, PWR_VCORE_STEP,
    PWR_VCORE_READ.IOUT, PWR_VCORE_READ.VOUT, PWR_PMB_STATUS.WORD, PWR_PMB_STATUS.ERRORS, PWR_PMB_STATUS.STOPPED, PWR_PMB_STATUS.STEPPING, PWR_PMB_STATUS.AT_TARGET, PWR_VCORE_LIMIT]

/-- The fields of the seq page after its header. -/
def seqFields : List Fld :=
  [SEQ_CTRL.START, SEQ_CTRL.OFF, SEQ_CTRL.HOST_PULSE, SEQ_CTRL.FAIL_OFF, SEQ_CTRL.HOST_STEP, SEQ_STATUS.DONE,
    SEQ_STATUS.FAILED, SEQ_STATUS.HOST_RELEASED, SEQ_STATUS.RUNNING, SEQ_STATUS.STEP, SEQ_STATUS.ENABLED, SEQ_PG, SEQ_HOST_DELAY, SEQ_MANUAL.HOST, SEQ_MANUAL.RAILS, SEQ_FAIL.VALID, SEQ_FAIL.RAIL, SEQ_RAIL.IN_PLAN, SEQ_RAIL.PG_USE, SEQ_RAIL.KEEP_HOLD] ++
  [SEQ_RAIL.STEP, SEQ_RAIL.PG_TIMEOUT, SEQ_RAIL.DELAY]

/-- The fields of the tb0 page after its header. -/
def tb0Fields : List Fld :=
  [TB_CTRL.FORCE_FREQ, TB_CTRL.FORCE, TB_CTRL.RELOCK, TB_STATUS.LOSS_COUNT, TB_STATUS.AON_PACE_LOW,
    TB_STATUS.EPOCH_VALID, TB_STATUS.REF_FREQ, TB_STATUS.HOLDOVER, TB_STATUS.LOCKED, TB_TIME_LO, TB_TIME_HI, TB_TIME_SET_LO, TB_TIME_SET_HI, TB_SLEW_AMOUNT, TB_SLEW_RATE, TB_PACE_WARN, TB_PACE_LOW_LO, TB_PACE_LOW_HI]

/-- The fields of the tb1 page after its header. -/
def tb1Fields : List Fld :=
  [TM_CTRL.RUNNING, TM_CTRL.SCH_EDGE, TM_CTRL.CHAIN, TM_CTRL.START_SRC, TM_CTRL.MODE, TM_CTRL.START, TM_CTRL.EN,
    TM_DELAY, TM_PERIOD, TM_WIDTH, TM_START_TIME_LO, TM_START_TIME_HI, TM_COUNT, TM_EVENTS, TM_EVENT_EN]

/-- The fields of the cfg page after its header. -/
def cfgFields : List Fld :=
  [CFG_LOAD.ABORT, CFG_LOAD.START, CFG_LOAD.LIB_INDEX, CFG_LOAD.SRC, CFG_SRC_ADDR_LO, CFG_SRC_ADDR_HI, CFG_SRC_LEN,
    CFG_STATE.OP, CFG_ERR.SRC, CFG_ERR.CODE, CFG_ERR_FRAME.VALID, CFG_ERR_FRAME.KIND, CFG_ERR_FRAME.ADDR, CFG_ERR_OFFSET, CFG_TORN_BANKS, CFG_TORN_SECTORS, CFG_SHEET_ID_LO, CFG_SHEET_ID_HI, CFG_FRAMES, CFG_RESYNC_BANKS] ++
  [CFG_RESYNC_SECTORS, CFG_CMD.OP, CFG_XFRAME_REQ.PENDING, CFG_XFRAME_REQ.SLOT, CFG_XFRAME_DONE.GO,
    CFG_RS.UPDATE_COUNT, CFG_RS.FW_STATE, CFG_RS.BOOT_STATE, CFG_SRC_EN, CFG_XFRAME]

/-- The fields of the cal page after its header. -/
def calFields : List Fld :=
  [CAL_PERIOD, CAL_STATUS.PASSES, CAL_STATUS.REPAIRING, CAL_STATUS.PAUSED, CAL_STATUS.RUNNING, CAL_LAST_PASS,
    CAL_POS, CAL_COUNTS.REPAIRS, CAL_COUNTS.CORRECTED, CAL_VOTE_COUNT, CAL_REPAIR.PENDING, CAL_REPAIR.RESULT, CAL_REPAIR.ADDR, CAL_HELD_BANKS, CAL_HELD_SECTORS, CAL_CTRL.PASS_NOW, CAL_SRC_FB.SLOT, CAL_SRC_FB.KIND, CAL_SRC_AS.SLOT, CAL_SRC_AS.KIND]

/-- The fields of the cch page after its header. -/
def cchFields : List Fld :=
  [CCH_CTRL.FULL, CCH_CTRL.FORCE, CCH_CTRL.START, CCH_MASK_BANKS, CCH_MASK_SECTORS, CCH_RELEASE.SPACING,
    CCH_RELEASE.ORDER, CCH_DRAIN.LIMIT, CCH_STATE.RELEASE_CUT, CCH_STATE.FORCED, CCH_STATE.STEP, CCH_ERR.CODE, CCH_ERR_REGION.VALID, CCH_ERR_REGION.KIND, CCH_ERR_REGION.NUM, CCH_RET.KIND_MISS, CCH_RET.CARRIED, CCH_RET_FULL, CCH_CUT.TASKS, CCH_CUT.VALUES] ++
  [CCH_SWAP_TIME_LO, CCH_SWAP_TIME_HI, CCH_DURATION, CCH_ACTIVE_BANKS, CCH_ACTIVE_SECTORS, CCH_SHADOW_OK_BANKS,
    CCH_SHADOW_OK_SECTORS, CCH_BOOT.FULL_DONE, CCH_BOOT.BOOT_ONLY, CCH_BOOT.STEP]

/-- The fields of the key page after its header. -/
def keyFields : List Fld :=
  [KEY_SLOTS.SLOT, KEY_POLICY.ENC_REQUIRED, KEY_POLICY.SIGN_REQUIRED, KEY_POLICY.SHEET_KEY_SET,
    KEY_POLICY.SIGN_FUSE, KEY_LAST.ENCRYPTED, KEY_LAST.SIGNED, KEY_LAST.SLOT, KEY_PROG.CONFIRM, KEY_PROG.OP, KEY_PROG.SLOT, KEY_DATA]

/-- The fields of the fb page after its header. -/
def fbFields : List Fld :=
  [FB_STATE.OUT, FB_STATE.FROZEN, FB_STATE.RELEASED, FB_STATE.SHEET, FB_MEM_HV, FB_MEM_MIR, FB_MEM_ECC,
    FB_MEM_INIT, FB_LL_CLASH_LO, FB_LL_CLASH_HI, FB_LL_NULL_LO, FB_LL_NULL_HI, FB_WT_HALT_LO, FB_WT_HALT_HI, FB_ECC_COUNT.UNC, FB_ECC_COUNT.CORR, FB_MIRROR_DROP, FB_SCRUB.PASSES, FB_SCRUB.PERIOD, FB_SCRUB.EN] ++
  [FB_CTRL.CNT_CLR]

/-- The fields of the asec page after its header. -/
def asecFields : List Fld :=
  [AS_MUTE, AS_CELL_ERR, AS_GAIN_OVR.OVR, AS_GAIN_OVR.CODE, AS_LOOP_LIVE.OVER, AS_LOOP_LIVE.UNDER, AS_LOOP_EVT,
    AS_PIN_TRIP.VOUT, AS_PIN_TRIP.SHUNT, AS_PIN_RESTORE, AS_CLAMP, AS_COUNTS.MUTES, AS_COUNTS.TRIPS, AS_PMODE_LO, AS_PMODE_HI]

/-- The fields of the cv page after its header. -/
def cvFields : List Fld :=
  [CV_SCAN_MASK, CV_TRIG.DELAY, CV_TRIG.SEL, CV_TRIG.MODE, CV_SCAN.BUSY, CV_SCAN.START, CV_BLOCK.INJ_EVT,
    CV_BLOCK.EVT, CV_BLOCK.SCANS, CV_STATUS.PENDING_INJ, CV_STATUS.INJ_QUEUE, CV_STATUS.CAL_POS, CV_STATUS.CAL_DEGRADED, CV_STATUS.CAL_PENDING, CV_STATUS.FG_RUNNING, CV_STATUS.SCANNING, CV_CAL_CTRL.FG_START, CV_CAL_CTRL.BG_EN, CV_CAL_CTRL.INTERVAL, CV_CAL_LIMIT.SKEW] ++
  [CV_CAL_LIMIT.GAIN, CV_CAL_LIMIT.OFS, CV_SLICE_STATE.S, CV_COUNTS0.LOST, CV_COUNTS0.MISSED, CV_COUNTS1.INJ_DROPS,
    CV_COUNTS1.CAL_FAILS, CV_COUNTS1.BG_CALS, CV_INJ_SW.GO, CV_INJ_SW.CHAN, CV_INJ.DELAY, CV_INJ.EN, CV_INJ.KIND, CV_INJ.SEL, CV_INJ.CHAN, CV_INJ_LAST, CV_INJ_TIME_LO, CV_INJ_TIME_HI, CV_DIAG_CTRL.GO, CV_DIAG_CTRL.BUSY] ++
  [CV_DIAG_CTRL.PASS, CV_DIAG_CTRL.ABORTED, CV_DIAG_CTRL.DAC, CV_DIAG_CTRL.MODE, CV_DIAG_CTRL.CHAN,
    CV_DIAG_EXPECT.TOL, CV_DIAG_EXPECT.CODE, CV_DIAG_RESULT.OPEN, CV_DIAG_RESULT.FORCED, CV_CORR_APPLY.GO, CV_CAL_COMMIT.GO, CV_CAL_COMMIT.SLICE, CV_PHASE, CV_LADDER_NEG, CV_LADDER_POS, CV_FG_TIME, CV_SOFF, CV_SGAIN, CV_SSKEW, CV_SSTAT.FAILS] ++
  [CV_SSTAT.CALS, CV_COFF, CV_CGAIN, CV_CAP_NEG, CV_CAP_ZERO, CV_CAP_POS, CV_CAP_SKEW, CV_CAP_VALID]

/-- The fields of the fc page after its header. -/
def fcFields : List Fld :=
  [FC_PRESENT, FC_EVT_STATUS, FC_CTL.EN, FC_CTL.M2, FC_CTL.ORDER, FC_CTL.PRESET, FC_CTL.DECIM, FC_SRC.WIDE,
    FC_SRC.KIND, FC_SRC.CV, FC_SRC.NUM, FC_SHIFT.AUTO, FC_SHIFT.SHIFT, FC_GROWTH.S, FC_GROWTH.PRE, FC_GROWTH.G, FC_THR0, FC_HYST0, FC_THR1, FC_HYST1] ++
  [FC_THRCTL.STATE1, FC_THRCTL.STATE0, FC_THRCTL.EDGE1, FC_THRCTL.EDGE0, FC_LAST, FC_LAST_TIME_LO, FC_LAST_TIME_HI,
    FC_COUNTS.INVALID_LEFT, FC_COUNTS.LOST, FC_COUNTS2.EVT_LOST, FC_COUNTS2.OUTPUTS]

/-- The fields of the cp page after its header. -/
def cpFields : List Fld :=
  [CP_PRESENT, CP_LEVEL_LO.L, CP_LEVEL_HI.L, CP_SNAP.EN, CP_SNAP.ON_CHANGE, CP_SNAP.TM, CP_SNAP_LOST, CP_CFG.EN,
    CP_CFG.PRESS, CP_CFG.DIV, CP_CFG.HYST, CP_THR.HI, CP_THR.LO, CP_STATUS.TICKS, CP_STATUS.HI_CROSSED, CP_STATUS.LO_CROSSED, CP_STATUS.MUTED, CP_STATUS.SETTLED, CP_STATUS.LEVEL]

/-- The fields of the da page after its header. -/
def daFields : List Fld :=
  [DA_PRESENT, DA_TRIP, DA_RESTORE, DA_COMPLY, DA_CFG.EN, DA_CFG.KIND, DA_CFG.GROUP, DA_CFG.SPAN, DA_CODE, DA_SAFE,
    DA_STATUS.OUT_CODE, DA_STATUS.TWIN_WARM, DA_STATUS.TRIP, DA_STATUS.SPAN_BUSY, DA_STATUS.PUBLISHED, DA_STATUS.SAFE]

/-- The fields of the ls page after its header. -/
def lsFields : List Fld :=
  [LS_FIRE, LS_CFG.SRC, LS_CFG.SEL, LS_COUNT.MERGED, LS_COUNT.STROBES, LS_TIME_LO, LS_TIME_HI]

/-- The fields of the sch0 page after its header. -/
def sch0Fields : List Fld :=
  [SCH_CTRL.MODE, SCH_AFF_WAIT, SCH_CAP.URGENT, SCH_CAP.RECORDS, SCH_USE.LOW, SCH_USE.HELD, SCH_CANCEL,
    SCH_CANCEL_RES.VALID, SCH_CANCEL_RES.OUTCOME, SCH_CANCEL_RES.HANDLE, SCH_DISPATCHES, SCH_HW_LOST.SRC, SCH_HW_LOST.COUNT, SCH_STALE_DONE, SCH_REFUSED, SCH_HA_REQ.PENDING, SCH_HA_REQ.WORKER, SCH_HA_REQ.GROUP, SCH_HA_DECIDE.NONE, SCH_HA_DECIDE.HANDLE] ++
  [SCH_HA_CAND.VALID, SCH_HA_CAND.PRIO, SCH_HA_CAND.HANDLE, SCH_BROKE_HEAD, SCH_BROKE_TAIL, SCH_BROKE_CNT.DISCARD,
    SCH_BROKE_CNT.LOST, SCH_SRC_MAP.EN, SCH_SRC_MAP.EDGE, SCH_SRC_MAP.FLOW, SCH_SRC_MAP.PRIO, SCH_SRC_MAP.GROUP]

/-- The fields of the sch1 page after its header. -/
def sch1Fields : List Fld :=
  [SCH_WKR.EN, SCH_WKR.BOUND, SCH_WKR.SUSP, SCH_WKR.CANCEL, SCH_WKR.GROUP, SCH_WKR.DEPTH, SCH_WKR.IN_HAND, SCH_PROG]

/-- The fields of the sch2 page after its header. -/
def sch2Fields : List Fld :=
  [SCH_TRACE_CTRL.EVENTS, SCH_TRACE_FLOW.MASK, SCH_TRACE_FLOW.MATCH, SCH_TRACE_LOST, SCH_TRACE_COUNT]

/-- The fields of the sch3 page after its header. -/
def sch3Fields : List Fld :=
  [SCH_SQ_BASE_LO, SCH_SQ_BASE_HI, SCH_SQ_CFG.EN, SCH_SQ_CFG.SIZE, SCH_SQ_CFG.CREDIT, SCH_SQ_TAIL, SCH_SQ_HEAD,
    SCH_CQ_BASE_LO, SCH_CQ_BASE_HI, SCH_CQ_CFG.EN, SCH_CQ_CFG.IRQ_EN, SCH_CQ_CFG.SIZE, SCH_CQ_TAIL, SCH_CQ_HEAD, SCH_HQ_STATUS, SCH_HQ_DONE]

/-- The fields of the rs0 page after its header. -/
def rs0Fields : List Fld :=
  [RS_STATE.READ_ONLY, RS_STATE.REPLAYED, RS_STATE.STATE, RS_GEOM.RAW_GIB, RS_GEOM.DIES, RS_GEOM.CHANNELS,
    RS_CMD.GO, RS_CMD.CONFIRM, RS_CMD.SLOT, RS_CMD.OP, RS_SRC_ADDR_LO, RS_SRC_ADDR_HI, RS_SRC_LEN, RS_CMD_RES.BUSY, RS_CMD_RES.CFG_CODE, RS_CMD_RES.RESULT, RS_FMT.VAULT, RS_LIB_VALID_LO, RS_LIB_VALID_HI, RS_LIB_STARTUP.VALID] ++
  [RS_LIB_STARTUP.SLOT, RS_REFRESH.SWEEPS, RS_REFRESH.PERIOD, RS_REFRESH.THRESH, RS_BLOCKS.RETIRED,
    RS_BLOCKS.SPARE, RS_RESERVE.NEEDED, RS_RESERVE.ERASED, RS_HA_REQ.PENDING, RS_HA_REQ.KIND, RS_HA_REQ.PART, RS_HA_REQ.BLOCK, RS_HA_ANS.GO, RS_HA_ANS.BLOCK, RS_RAW.GO, RS_RAW.ERR, RS_RAW.OP, RS_RAW.BLOCK, RS_RAW.PAGE]

/-- The fields of the rs1 page after its header. -/
def rs1Fields : List Fld :=
  [RS_VT_CMD.GO, RS_VT_CMD.OP, RS_VT_ADDR_LO, RS_VT_ADDR_HI, RS_VT_LEN, RS_VT_KEY_LO, RS_VT_KEY_HI,
    RS_VT_STATUS.RESULT, RS_VT_STATUS.OWNER, RS_VT_STATUS.SOLO, RS_VT_STATUS.COMMITTING, RS_VT_STATUS.OPEN, RS_VT_STATUS.HOLD_OFF, RS_VT_SEQ, RS_VT_DURABLE, RS_VT_GOT, RS_VT_TXN.RECORDS, RS_VT_TXN.BYTES, RS_VT_KEYS, RS_VT_SPACE.CAP] ++
  [RS_VT_SPACE.USED]

/-- The fields of the rs2 page after its header. -/
def rs2Fields : List Fld :=
  [RS_CAP_RD.GO, RS_CAP_RD.STREAM, RS_CAP_RD_FIRST, RS_CAP_RD_COUNT, RS_CAP_RD_ADDR_LO, RS_CAP_RD_ADDR_HI,
    RS_CAP_RD_SKIP, RS_CAP_CFG.EN, RS_CAP_CFG.REARM, RS_CAP_CFG.TRIGGER, RS_CAP_CFG.TRIG, RS_CAP_CFG.SEL, RS_CAP_CFG.SIZE, RS_CAP_POST, RS_CAP_STATE, RS_CAP_NEXT, RS_CAP_OLDEST, RS_CAP_TRIG_BLK, RS_CAP_TRIG_TIME_LO, RS_CAP_TRIG_TIME_HI]

/-- The fields of the rs3 page after its header. -/
def rs3Fields : List Fld :=
  [RS_PR_CTRL.SAVE, RS_PR_CTRL.TRIG_HOLD, RS_PR_CTRL.HU_TRIP_EN, RS_PR_CTRL.PWR_FAIL_EN, RS_PR_CTRL.KEEP_HOST,
    RS_PR_CTRL.TRIG, RS_PR_CTRL.EN, RS_PR_VIN.HYST, RS_PR_VIN.HI, RS_PR_VIN.LO, RS_PR_HU.HYST, RS_PR_HU.HI, RS_PR_HU.LO, RS_PR_CAP, RS_PR_DIV, RS_PR_VMIN.EFF, RS_PR_VMIN.MV, RS_PR_OTHER, RS_PR_MARGIN, RS_PR_KEEP] ++
  [RS_PR_VHU.STALE, RS_PR_VHU.MV, RS_PR_AVAIL, PRESS_BUDGET, RS_PR_STATE.RESUMED, RS_PR_STATE.CAUSE,
    RS_PR_STATE.ARMED, RS_PR_STATE.STEP, RS_PR_LAST_TIME_LO, RS_PR_LAST_TIME_HI, RS_PR_LAST_DUR, RS_PR_LAST_LOST, RS_PR_COUNT, RS_PR_PLAN_LO, RS_PR_PLAN_HI]

/-- The fields of the bfe page after its header. -/
def bfeFields : List Fld :=
  [BFE_CFG.SIZE, BFE_IMAGE.B_VALID, BFE_IMAGE.A_VALID, BFE_IMAGE.COMMIT_PENDING, BFE_IMAGE.UPDATING,
    BFE_IMAGE.ACTIVE, BFE_BOOT.FELL_BACK, BFE_BOOT.BOOT_OK, BFE_BOOT.MAX_TRIES, BFE_BOOT.TRIES, BFE_CTRL.UPDATE_VIEW, BFE_CTRL.DISCARD, BFE_CTRL.COMMIT, BFE_UPD_SRC_LO, BFE_UPD_SRC_HI, BFE_UPD_OFF, BFE_UPD.GO, BFE_UPD.LEN, BFE_READS, BFE_WRITES.ERASES] ++
  [BFE_WRITES.PROGRAMS]

/-- The fields of the tw page after its header. -/
def twFields : List Fld :=
  [TW_CTRL.TIME_FOLLOW, TW_CTRL.COUCH_SYNC, TW_STATUS.SIDE, TW_STATUS.LIB_SYNCED, TW_STATUS.VAULT_SYNCED,
    TW_STATUS.SYNCED, TW_STATUS.LINK_UP, TW_STATUS.PEER_LINE, TW_STATUS.ROLE, TW_HB.MISSED, TW_HB.RUN, TW_LAG.MAX, TW_LAG.NOW, TW_TAKEOVER_TIME_LO, TW_TAKEOVER_TIME_HI, TW_TAKEOVER_DUR, TW_COUNTS.REPLAYS, TW_COUNTS.LINK_DOWNS, TW_REL.SKIPPED, TW_REL.SUPPRESSED] ++
  [TW_CFG.CLAIM_WAIT, TW_CFG.PAD_HOLD, TW_TIME_DROPS, TW_VAULT_DISCARD, TW_PEER_UID_LO, TW_PEER_UID_HI]

/-- The fields of the sn page after its header. -/
def snFields : List Fld :=
  [SN_CTRL.TIME_FOLLOW, SN_CTRL.ENUM, SN_CTRL.ROOT, SN_STATUS.TIME_LOCKED, SN_STATUS.ENUM_BUSY, SN_STATUS.LANE_UP,
    SN_STATUS.DEPTH, SN_STATUS.ISOLATED, SN_STATUS.ADDR_VALID, SN_STATUS.ADDR, SN_RANGE.VALID, SN_RANGE.LAST, SN_RANGE.FIRST, SN_COUNT, SN_TIME_OFFS, SN_DELAY.HOST_DROPS, SN_DELAY.NS, SN_STROBE_TX.GO, SN_STROBE_TX.K, SN_STROBE_T_LO] ++
  [SN_STROBE_T_HI, SN_STROBE_CNT.LATE, SN_STROBE_CNT.FIRED, SN_COUNTS.REPLAYS, SN_COUNTS.LANE_DOWNS, SN_UNROUTABLE,
    SN_SP.EN, SN_SP.DEST]

/-- The fields of the gb page after its header. -/
def gbFields : List Fld :=
  [GB_OUT, GB_DIR, GB_IN, GB_PADLOCK, GB_RISE_EN, GB_FALL_EN, GB_EDGE, GB_FUNC.HELD, GB_FUNC.WIN, GB_STATUS.COLD,
    GB_STATUS.VIO_OK, GB_STATUS.PULL_UP, GB_CFG]

/-- The fields of the sq page after its header. -/
def sqFields : List Fld :=
  [SQ_CFG.RATE, SQ_STATUS.LOSS_COUNT, SQ_STATUS.LOCKED, SQ_LANE_CTRL.EN, SQ_LANE_CTRL.CODING, SQ_LANE_CTRL.TX_INV,
    SQ_LANE_CTRL.RX_INV, SQ_LANE_CTRL.LOOP, SQ_LANE_CTRL.PRBS, SQ_LANE_CTRL.PRBS_CHECK, SQ_LANE_EQ.SWING, SQ_LANE_EQ.PRE, SQ_LANE_EQ.POST, SQ_LANE_EQ.CTLE, SQ_LANE_EQ.DFE_EN, SQ_LANE_STATUS.PRBS_LOCK, SQ_LANE_STATUS.ALIGNED, SQ_LANE_STATUS.SIGNAL, SQ_LANE_STATUS.RX_READY, SQ_LANE_STATUS.TX_READY] ++
  [SQ_LANE_ERR.CODE_ERRS, SQ_LANE_ERR.PRBS_ERRS, SQ_LANE_FLOW.OVERRUN, SQ_LANE_FLOW.UNDERRUN]

/-- The fields of the st page after its header. -/
def stFields : List Fld :=
  [ST_BYTES_LO, ST_BYTES_HI, ST_RING_CFG.EN, ST_RING_CFG.TASKS, ST_RING_CFG.DEST, ST_RING_CFG.CAP,
    ST_RING_CFG.SIZE, ST_RING_CFG.BLOCK, ST_RING_CFG.SRC, ST_RING_BASE_LO, ST_RING_BASE_HI, ST_RING_BUF.BLOCKS, ST_RING_BUF.BASE, ST_RING_WB_LO, ST_RING_WB_HI, ST_RING_WP, ST_RING_RP, ST_RING_FLUSH.NOW, ST_RING_FLUSH.TIMEOUT, ST_RING_LOST] ++
  [ST_RING_DISCARD]

/-- The fields of one flow table entry (R359); offsets from 0x0010_0000. -/
def flowFields : List Fld :=
  [FLOW.ORDERED, FLOW.TRACE, FLOW.WINDOW, FLOW.RELEASE, FLOW.LW_VALID, FLOW.LAST_WORKER, FLOW.OPEN, FLOW.RELEASES,
    FLOW.HELD]

end Sys2Proof.Machine
end

