-- ==== Sys2Proof/Config.lean ====
section
/-!
DEFINITION. What the part fixes, and the free values that the spec leaves open.
-/
namespace Sys2Proof

/-- The variants of R3. -/
inductive Variant where
  | l | m | s
  deriving DecidableEq, Repr

/-- What is fixed in one part: its variant, unique identifier, strap levels and the one-time-programmable
words of registers whose reset value the spec gives as OTP (key: BAR0 offset).  Not changed by any command. -/
structure Part where
  variant : Variant
  uidLo : Word
  uidHi : Word
  bankPull : Nat       -- BANK_PULL[7:0]
  twinSide : Bool      -- false side A, true side B
  bootSrc : Nat        -- BOOT_SRC[1:0]
  otp : List (Nat × Word)
  deriving DecidableEq, Repr

/-- Which free record of the scheduler store a new task takes, which R328 leaves open (an index into the list of
free records, applied to the draw). [Log 7 DESIGN CHOICE, 62 DESIGN CHOICE] -/
opaque Config.freeRecord : Nat → Nat

/-- Whether a quotient that a register holds in whole units is rounded up, where the spec gives no rounding
(the energies of R411). [Log 8 DESIGN CHOICE] -/
opaque Config.roundUp : Nat → Bool

/-- A word whose value the spec leaves open, applied to the draw. [Log 7 DESIGN CHOICE] -/
opaque Config.freeWord : Nat → BitVec 32

/-- A byte whose value the spec leaves open, applied to the draw and its place. [Log 7 DESIGN CHOICE] -/
opaque Config.freeByte : Nat → Nat → BitVec 8

/-- The NAND blocks (channel, CE and block as RS_HA_REQ.BLOCK holds them) that the boot copy occupies: the first
good blocks of R385, which depend on the part that the board populates. [Log 10 DESIGN CHOICE] -/
opaque Config.bootCopyBlock : Nat → Bool

/-- The NAND block (as RS_HA_REQ.BLOCK holds it) of a row address, which depends on the part that the board
populates. [Log 10 DESIGN CHOICE] -/
opaque Config.rowBlock : Nat → Nat

/-- Whether a capture read leaves no gap in host memory for the blocks that it skips, which R404 leaves open.
[Log 85 DESIGN CHOICE] -/
opaque Config.capPack : Bool

/-- The bytes of the SFDP table of R414, by BFE_CFG.SIZE in force, dummy cycles and address. [Log 11 DESIGN CHOICE] -/
opaque Config.sfdp : Nat → Nat → Nat → BitVec 8

/-- The long lines for which a configuration frame sets static driver taps, one entry a tap: by the frame's offset
in its bank and its data.  The spec gives the layout of no frame (R150, R165). [Log 9 DESIGN CHOICE] -/
opaque Config.staticTaps : Nat → List (BitVec 8) → List Nat

/-- Whether a configuration frame sets a bit of a word tile or a word lane (R119). [Log 9 DESIGN CHOICE] -/
opaque Config.frameWords : Nat → List (BitVec 8) → Bool

/-- The 11-bit SECDED field of the 64 bytes of a 512-bit word of a frame (R150), and the 7-bit one of a setting word (R209):
the spec gives their widths and no code. [Log 99 DESIGN CHOICE] -/
opaque Config.secded512 : List (BitVec 8) → BitVec 11
/-- [Log 99 DESIGN CHOICE] -/
opaque Config.secded32 : BitVec 32 → BitVec 7

/-- The SHA-256 hash of the Stervaov firmware key, which is fixed in the device (R181). [Log 11 DESIGN CHOICE] -/
opaque Config.firmwareKeyHash : List (BitVec 8)

end Sys2Proof
end

