-- ==== Sys2Proof/Machine/State.lean ====
section
/-!
DEFINITION. The state of the block as plain data.  Every register of BAR0 has its one home in `regs` (a
register not listed holds its reset value, `resetWord` of Machine/Pages.lean); what the spec gives the block
beside its registers stands in the fields below.
-/
namespace Sys2Proof.Machine

/-- Why a command cannot be carried out at all. -/
inductive Fault where
  /-- An access beyond the 4 MiB of BAR0 or the 64 MiB of BAR2 (R35): no such location reaches the function.
  Raised by the register and BAR2 accesses; safe. -/
  | outsideBar
  deriving DecidableEq, Repr

/-- Why a command has no meaning in this model. -/
inductive Refusal where
  /-- A command whose meaning has not been written; answered by Machine/Dispatch.lean only; safe. -/
  | notModelled (mnemonic : String)
  deriving DecidableEq, Repr

/-- One event timer (R82, R83): its next due event, the fall of its high level, whether it has started since
it was enabled. TM_CTRL.RUNNING and TM_COUNT stand in its registers. -/
structure Timer where
  due : Option Time
  fall : Option Time
  started : Bool
  deriving DecidableEq, Repr

/-- What a trigger event drives: the scan trigger or gate of a converter, with the level of a gate; a request
register of a converter; a load-strobe group; the snapshot; a capture stream; the fabric start line of a timer. -/
inductive Trig where
  | scan (n : Nat) (level : Bool)
  | inj (n k : Nat)
  | strobe (g : Nat)
  | snap
  | cap (n : Nat)
  | start (n : Nat)
  deriving DecidableEq, Repr

/-- A trigger event and its instant: the timestamp, and the loop edges since the lock. -/
structure TrigAt where
  what : Trig
  time : Time
  clk : Nat
  deriving DecidableEq, Repr

/-- The state-element modes of a macrocell (R94). -/
inductive MacMode where
  | hreg | tog | latch | comb
  deriving DecidableEq, Repr

/-- Where a group of terms is steered (R92): to no macrocell, to its own, or to the other of its pair. -/
inductive Steer where
  | none | own | pair
  deriving DecidableEq, Repr

/-- One product term (R91): its enable and the masks of the true and complement literals it selects.
Bits 0-35 are X0-X35 and bits 36-43 are Q0-Q7. -/
structure Term where
  en : Bool
  pos : Nat
  neg : Nat
  deriving DecidableEq, Repr

/-- The sheet's settings of one macrocell (R92-R94, R101, R113). -/
structure MacCfg where
  steer : Steer      -- of the group of the same number
  control : Bool     -- the first term of the group is the control term (R93)
  generate : Bool    -- the second term of the group is the generate term (R93)
  pol : Bool
  mode : MacMode
  carry : Bool
  init : Bool
  deriving DecidableEq, Repr

/-- The carry in of the base tile of a chain (R100). -/
inductive CarryIn where
  | zero | one | x35
  deriving DecidableEq, Repr

/-- The sheet's settings of one fine tile: 64 terms, 8 macrocells, join set (bit i is Xi), and for the base
tile of a carry chain the number of its tiles and its carry in. -/
structure FineCfg where
  terms : List Term
  mac : List MacCfg
  join : Nat
  chain : Nat        -- tiles of the chain of which this is the base tile; 0 for a tile that is no base
  inChain : Bool     -- the tile belongs to a carry chain
  carryIn : CarryIn
  deriving DecidableEq, Repr

/-- One fine tile: its settings, Q0-Q7, the values present at X0-X35 and which of them are new data, and CO. -/
structure FineTile where
  cfg : FineCfg
  q : Nat
  xv : Nat
  xnew : Nat
  co : Bool
  deriving DecidableEq, Repr

/-- The sheet's settings of one word tile (R104, R112, R113). -/
structure WordCfg where
  slots : List Word
  endSlot : Nat
  bound : Option Nat   -- fabric worker port to which PROG is bound
  linit : List Word
  deriving DecidableEq, Repr

/-- One word tile (R103). -/
structure WordTile where
  cfg : WordCfg
  l : List Word
  acc : BitVec 48
  prog : Word
  c0 : BitVec 16
  c1 : BitVec 16
  f : Bool
  pc : Nat
  ins : List (Option Word)
  outs : List (Option Word)
  halted : Bool
  deriving DecidableEq, Repr

/-- A fabric port of a bank (R130, R139, R334, R339, R371, R514): port A or B of a block memory, event port i, worker
port i, the stream port, the DMA port, the lane port of a serialiser lane. -/
inductive FabPort where
  | mem (b k : Nat) (second : Bool)
  | event (b i : Nat)
  | worker (b i : Nat)
  | stream (b : Nat)
  | dma (b : Nat)
  | lane (q l : Nat)
  deriving DecidableEq, Repr

/-- The producer of a bundle, of a route or of a long-line value (R125, R127, R130), or of a plain level (R67, R97). -/
inductive Src where
  | fine (b t : Nat)          -- outputs of a fine tile or chain: M0-M7 in bits 0-7, CO in bit 8
  | wordOut (b w o : Nat)     -- a word-tile output channel
  | net (id : Nat)            -- the inbound bits of a route
  | tap (b line : Nat)        -- a long-line read tap
  | port (p : FabPort)        -- the channel from a fabric port to the fabric
  | comp (c : Nat)            -- the two levels of a comparator (R296)
  | timer (n : Nat)           -- the output of an event timer (R85)
  | pad (p : Nat)             -- the input of a pad (R495)
  | cancel (b i : Nat)        -- the cancel line of a worker port (R339)
  deriving DecidableEq, Repr

/-- A consumer of a bundle or of a level. -/
inductive Dst where
  | x (b t pin srcBit : Nat)  -- external input `pin` of a fine tile takes bit `srcBit`
  | wordIn (b w ch : Nat)     -- a word-tile input channel takes the 32-bit value
  | net (id : Nat)            -- the outbound ports of a route
  | drive (b tap srcBit : Nat)  -- the data input of long-line driver tap 4*cluster + index of a bank
  | enable (b tap srcBit : Nat) -- the enable input of that driver tap, a level
  | port (p : FabPort) (lo : Nat) -- the channel to a fabric port takes the value at bit `lo` of its transfer
  | start (n srcBit : Nat)    -- the fabric start line of a timer, a level (R83)
  | trigger (n k srcBit : Nat)  -- fabric trigger line FTk of converter n, a level (R251)
  | strobe (k srcBit : Nat)   -- fabric strobe line k, a level (R312)
  | padOut (p srcBit : Nat)   -- the output data of a pad cell, a level (R494)
  | padEn (p srcBit : Nat)    -- the output enable of a pad cell, a level
  deriving DecidableEq, Repr

/-- The network on which a bundle travels; `level` is a plain level that no request accompanies (R97, R125). -/
inductive NetKind where
  | crossbar | route | wordLane | level
  deriving DecidableEq, Repr

/-- One bundle of a crossbar, one route or word lane, or one level: its producer, the bits of the producer's bundle that it
carries, its consumers, for a route the bits that begin a pair coded as 1-of-4 (R127), its cluster (32 times the bank plus
the cluster), the bank, cluster and inbound port of each receiver and the banks whose inbound edge its path crosses; and
its phase. -/
structure Net where
  kind : NetKind
  src : Src
  lo : Nat
  width : Nat
  pairs : Nat
  home : Nat
  dsts : List Dst
  recv : List (Nat × Nat × Nat)
  gates : List Nat
  val : Option Nat       -- the value presented by the producer, until every consumer has acknowledged it; a level: the last
  delivered : Bool       -- the value stands at the consumers
  deriving DecidableEq, Repr

/-- What has come in on the channel to a fabric port: the bits of the transfer, and the bit positions of the bundles
that have arrived. -/
structure PortIn where
  val : Nat
  got : List Nat
  deriving DecidableEq, Repr

/-- The scrubber of a bank (R142): the next 64-bit word (2048 * memory + word) of its pass, and the loop edge at which the
pass began. -/
structure Scrub where
  pos : Nat
  start : Nat
  deriving DecidableEq, Repr

/-- An access of a bank's memory from the host window (R195): the master, the BAR2 offset, its data (a write) or its
length (a read). -/
structure MemReq where
  off : Nat
  data : Option (List Byte)
  len : Nat
  be : Nat
  mas : Option Master      -- none: an applied write of the peer (R146)
  deriving DecidableEq, Repr

/-- A driver tap of a long line (R135): tap number 4*cluster + index, static or dynamic. -/
structure Tap where
  tap : Nat
  static : Bool
  deriving DecidableEq, Repr

/-- What the configuration frames of one bank set (the frames' bit layout is not given by the spec). -/
structure BankCfg where
  fine : List (Nat × FineCfg)
  word : List (Nat × WordCfg)
  nets : List (Nat × Net)
  taps : List (Nat × List Tap)
  hv : Nat
  mir : Nat
  ecc : Nat
  init : Nat
  aspect : List Nat      -- of memory k: 0 is x8, 1 x16, 2 x32, 3 x64, 4 x128
  workers : List (Nat × Nat)   -- bound fabric worker ports i of the bank (R338), each with the mask of the words it is offered
  events : List (Nat × Nat)    -- attached fabric event ports i of the bank, each with its PAYLOAD, 0-4 (R334)
  handles : Nat                -- event ports whose handle channel the sheet attaches, one bit each
  spans : List (Nat × Nat)     -- event ports i of the bank that the sheet attaches as span ports, each with its SPp (R488)
  deriving DecidableEq, Repr, Inhabited

/-- One retention entry of a plane (R160). -/
structure RetEntry where
  tag : Nat
  kind : Nat          -- 0 TILE, 1 WREG, 2 WACC, 3 WPROG, 4 WCTX
  bank : Nat
  tile : Nat
  reg : Nat
  mirror : Bool
  deriving DecidableEq, Repr

/-- A QUIRE that waits for host software's slot data (R176). -/
structure PendingQuire where
  slot : Nat
  targets : List Nat
  offset : Nat
  deriving DecidableEq, Repr

/-- A load in progress (R171): its source, the accepted header, the stored bytes of the body so far, the CRC
state over the plaintext, the frames written, the dictionary (data, or in host-assisted mode the CRC of each
slot), the lines with a static tap (bank, line), the QUIRE that waits, and the bytes taken from the loader's buffer that do
not yet make a command. `lib` is the library slot of sources 1 and 4; a load of source 0 reads the boot copy where it is 1. -/
structure Load where
  src : Nat
  lib : Nat
  header : List Byte
  body : List Byte
  crc : Word
  written : List Nat
  dict : List (Nat × List Byte)
  dictCrc : List (Nat × Word)
  taps : List (Nat × Nat)
  waiting : Option PendingQuire
  got : List Byte
  deriving DecidableEq, Repr

/-- The operation of the configuration controller (R171). -/
inductive CfgOp where
  | idle
  | load (l : Load)
  | resync (banks sectors : Nat)
  | update (fw : Bool) (step : Nat)   -- R181: the firmware or the boot region, and the step in progress (2-6)
  deriving DecidableEq, Repr

/-- A KEY_PROG operation in hand (R186). -/
structure KeyOp where
  op : Nat
  slot : Nat
  data : List Byte
  deriving DecidableEq, Repr

/-- A couch in progress (R191): its mask, whether its drain is forced, its start, the values read at step 4
for each incoming entry (R199), and the release steps done. CCH_STATE.STEP holds the step. -/
structure Couch where
  banks : Nat
  sectors : Nat
  start : Time
  buf : List (RetEntry × Option Nat)
  pads : List Nat          -- pads whose words are exchanged
  deriving DecidableEq, Repr

/-- Where the content of a region came from (R211): kind, library slot, watermark. -/
structure Origin where
  kind : Nat
  slot : Nat
  mark : List Byte
  deriving DecidableEq, Repr

/-- The calender's repair in hand (R212): a bank and its listed frames, or one setting word. -/
inductive Repair where
  | bank (b : Nat) (frames : List Nat)
  | word (key : Nat)
  deriving DecidableEq, Repr

/-- The couch of a start-up step (R205): not begun, in progress, or completed. -/
inductive BootPhase where
  | noCouch | couching | couched
  deriving DecidableEq, Repr

/-- What takes a slot of a round from slot 0 on (R257, R273): an injected request of a channel, the energy
conversion of HOLDUP_SENSE, or a diagnostic conversion. -/
inductive SlotUse where
  | inj (chan : Nat)
  | energy
  | diag
  deriving DecidableEq, Repr

/-- A scan that waits for its first slot (R252): the loop edge of the delayed trigger plus 40 ns, and whether a trigger
asked for it (a rising gate level otherwise). -/
structure ScanStart where
  bound : Nat
  trig : Bool
  deriving DecidableEq, Repr

/-- One conversion made and not yet out of the converter (R248): its raw code, the slice, the coefficients and
corrections that apply to it, its channel, sequence number, kind, validity, clip before correction, timestamp,
and whether it is the last of its scan. -/
structure Sample where
  raw : Int
  slice : Nat
  soff : Int
  sgain : Nat
  coff : Int
  cgain : Nat
  chan : Nat
  seq : Nat
  inj : Bool
  valid : Bool
  clip : Bool
  time : Time
  last : Bool
  deriving DecidableEq, Repr

/-- The background calibration (R259, R265): idle; S8 converting; S8 done; the slice of position k converting;
that slice done; a captured slice waiting for its commit. -/
inductive BgPhase where
  | idle
  | s8
  | s8Done
  | out
  | outDone
  | captured (slice : Nat)
  deriving DecidableEq, Repr

/-- An input-path test (R273): channel, mode, conversions made and the sum of their codes with the switch open
and closed, and the loop edge at which the switch closed. -/
structure Diag where
  chan : Nat
  mode : Nat
  nOpen : Nat
  sumOpen : Int
  nForced : Nat
  sumForced : Int
  closed : Option Nat
  deriving DecidableEq, Repr

/-- A coefficient set of a slice (R260): SOFF, SGAIN and SSKEW. -/
structure Coef where
  soff : Int
  sgain : Nat
  sskew : Int
  deriving DecidableEq, Repr

/-- One converter, its instants in loop edges: its round start and the next slot of the round (8 when all have passed),
what takes the round's first slots, the injected queue with the instants of arrival, the regular scan in
progress, the scans that wait, the changes of gate level and mask in the recent past (newest first), scan and injected counts, the block in progress, results under way, positions and the
positions that are dead, coefficients, corrections, calibrations and the input-path test. -/
structure Conv where
  round : Option Nat
  slot : Nat
  uses : List SlotUse
  injQ : List (Nat × (Nat × Nat))    -- channel, arrival, request register (4 for CV_INJ_SW)
  scan : List Nat
  scanSeq : Nat
  starts : List ScanStart
  level : Bool                       -- the selected timer output or fabric line
  gate : List (Nat × Bool)           -- instant of a change, level before it
  masks : List (Nat × Nat)           -- instant of a write, CV_SCAN_MASK before it
  enAt : Nat
  scanCount : Nat
  injCount : Nat
  blockScans : Nat
  blockNo : Nat
  blockTime : Option Time
  out : List Sample
  pos : List Nat                     -- slice at each position
  dead : List Nat                    -- positions of R260 whose results are invalid
  coef : List (Nat × Coef)           -- coefficients in force; unlisted: the factory's
  commits : List (Nat × Coef)        -- coefficients that come into force at the next round start
  corr : List (Nat × (Int × Nat))    -- COFF and CGAIN in force; unlisted: 0 and 0x1_0000
  corrNext : Option (List (Nat × (Int × Nat)))
  bg : BgPhase
  bgPos : Nat                        -- the position that the cycle calibrates
  bgRun : Bool                       -- BG_EN as the last round start took it
  fgReq : Bool
  hold : Bool                        -- no regular slot until the round start after a calibration
  diag : Option Diag
  diagTail : Option (Nat × Nat)      -- the channel of a test until 2 us after its switch opened, and when
  stop : Bool                        -- a block reset stops scans and diagnosis at the next round start
  deriving DecidableEq, Repr

/-- A converter at reset. -/
def convReset : Conv :=
  { round := none, slot := 8, uses := [], injQ := [], scan := [], scanSeq := 0, starts := [], level := false, gate := [],
    masks := [], enAt := 0, scanCount := 0, injCount := 0, blockScans := 0,
    blockNo := 0, blockTime := none, out := [], pos := List.range 8, dead := [], coef := [], commits := [],
    corr := [], corrNext := none, bg := .idle, bgPos := 0, bgRun := true, fgReq := false, hold := false,
    diag := none, diagTail := none, stop := false }

/-- One filter chain (R280): whether it runs, its integrators and the delay lines of its combs (oldest value
first), the inputs of the decimation period so far, whether one of them was clipped or invalid, and the outputs
after it that are invalid still (R286). -/
structure Chain where
  running : Bool
  ints : List Nat
  combs : List (List Nat)
  count : Nat
  clip : Bool
  bad : Bool
  tail : Nat
  deriving DecidableEq, Repr

/-- How the output stage of an analogue output channel is connected (R308, R313, R315, R320): off, driving the
pin, clamped at 0 V (or the gate at AGND), or warm behind its dummy load. -/
inductive Stage where
  | off | driving | clamp | warm
  deriving DecidableEq, Repr

/-- One analogue output channel: its stage, the span in force, whether a disable runs out its 5 us (R314), the
step of a span change (0 none; 2 moving to SAFE_CODE; 4 disconnected), the loop edge of the disable or of the disconnection,
whether a disable follows the change (R317) and whether SAFE_CODE counts as 0 there (R325), the runs of monitor ticks in
current limit and at the gate limit (R308, R309), and the tick of its last trip. -/
structure OutCh where
  stage : Stage
  span : Nat
  disabling : Bool
  step : Nat
  since : Nat
  thenOff : Bool
  zero : Bool
  lim : Nat
  gate : Nat
  tripAt : Option Nat
  deriving DecidableEq, Repr

/-- The states of a task record (R329); a released task is not held. -/
inductive TaskState where
  | held | ready | dispatched | running | partial' | complete
  deriving DecidableEq, Repr

/-- One task: its record (none once a broke record has freed it, R351), its handle, descriptor word 0, TIME and
payload words 4-7 (R327), the source it came from, its order of enqueue, of readiness and of completion, when
it became ready and was dispatched, its worker, whether the worker has written its progress word since
dispatch (R329), its cancel flag (R348), whether it is withdrawn (R561), and its release kind and status. -/
structure Task where
  rec? : Option Nat
  handle : Nat
  w0 : Word
  time : Time
  payload : List Word
  src : Nat
  st : TaskState
  readySeq : Nat
  readyAt : Time
  compSeq : Nat
  dispAt : Time
  worker : Option Nat
  prog : Bool
  flag : Bool
  withdrawn : Bool
  kind : Nat
  status : Word
  deriving DecidableEq, Repr

/-- An event of a hardware source (R331): its kind, timestamp and payload words 4 and 5. -/
structure HwEvent where
  kind : Nat
  time : Time
  w4 : Word
  w5 : Word
  deriving DecidableEq, Repr

/-- One block of a stream ring (R365): its items, the timestamp of the first, the items lost before it, whether
an earlier block was discarded before it, and its flags. -/
structure Block where
  data : List Byte
  count : Nat
  time : Time
  lost : Nat
  gap : Bool
  invalid : Bool
  torn : Bool
  start : Bool
  deriving DecidableEq, Repr

/-- One ring of a stream engine: the block being filled, the closed blocks that wait to be committed (oldest
first), the items lost and whether a block was discarded since the newest of them, and whether a block has
begun since EN was set. -/
structure Ring where
  cur : Option Block
  closed : List Block
  lost : Nat
  gap : Bool
  begun : Bool
  deriving DecidableEq, Repr

/-- One vault record of a transaction (R394): its key, and its value or a DELETE. -/
structure VtRec where
  key : Nat
  value : Option (List Byte)
  deriving DecidableEq, Repr

/-- A vault transaction (R395): its owner, records in order, entry bytes, and those not yet written. -/
structure Txn where
  owner : Nat
  recs : List VtRec
  bytes : Nat
  unwritten : Nat
  solo : Bool            -- accepted during the copy of R482, or the link has failed since (R400)
  deriving DecidableEq, Repr

/-- A vault operation that waits for its host DMA (R396). -/
inductive VtOp where
  | append (data : Option (List Byte))
  | get (bad : Bool)
  deriving DecidableEq, Repr

/-- A ream-store command or raw operation that runs (R420); a library write holds the sheet and the code of its
check. -/
inductive RsOp where
  | format
  | libFetch (slot : Nat) (sheet : Option (List Byte))   -- LIB_WRITE reads the sheet; none where the DMA meets an error
  | libWrite (slot : Nat) (sheet : List Byte)
  | libErase (slot : Nat)
  | setStartup (slot : Nat)
  | sweep
  | raw (op block page : Nat) (data : List Byte)
  deriving DecidableEq, Repr

/-- One capture stream (R403): the blocks held with their indices, oldest first, and the blocks still to come
after the trigger. -/
structure CapStream where
  blocks : List (Nat × List Byte)
  left : Nat
  deriving DecidableEq, Repr

/-- A capture read in progress (R404): stream, first block, count and host address. -/
structure CapRead where
  stream : Nat
  first : Nat
  count : Nat
  addr : Nat
  deriving DecidableEq, Repr

/-- A press in progress (R407): its cause, whether it ends in HOLD, its trigger instant, and the PG_CTRL word
at step 1 of each page that it switched off. RS_PR_STATE.STEP holds the step. -/
structure Press where
  cause : Nat
  hold : Bool
  start : Time
  pages : List (Nat × Word)
  doms : List Nat
  deriving DecidableEq, Repr

/-- The runs of reports that arm and start a press and resume from it (R405, R408): consecutive ticks at which
CP126 reported LO crossed, LO not crossed and HI crossed, and CP127 LO not crossed. -/
structure PressRuns where
  lo : Nat
  loOff : Nat
  hi : Nat
  huOff : Nat
  deriving DecidableEq, Repr

/-- A program or erase of the update image in hand (R418): the address, and the bytes programmed (none for an
erase of `len` bytes). -/
structure BfeOp where
  addr : Nat
  len : Nat
  data : Option (List Byte)
  deriving DecidableEq, Repr

/-- The boot-flash port (R414, R415): 8D-8D-8D mode, dummy cycles, WEL, the program or erase in hand (WIP), and
whether reset enable was the last command. -/
structure BfePort where
  octal : Bool
  dummy : Nat
  wel : Bool
  wip : Option BfeOp
  rstEn : Bool
  deriving DecidableEq, Repr

/-- The twin link beside its registers (chapter 16): when the own claim was raised, whether TWIN_PEER has read
CLAIM since, whether the claim is a takeover, since when TWIN_PEER has not read CLAIM, whether the line fault of
the episode has been raised, when the last heartbeat or surrender frame came, whether the heartbeat is lost,
whether CLAIM_WAIT runs, whether PAD_HOLD runs, the checkpoints of each flow, the frames sent, newest
first, and the loop edge up to which the class of mirrored state is taken (R465). Instants are loop edges, so that a
load of the timestamp moves none of them. -/
structure Twin where
  raised : Option Nat
  seen : Bool
  takeover : Bool
  clear : Option Nat
  lineFault : Bool
  lastHb : Nat
  hbLost : Bool
  waiting : Bool
  padHold : Bool
  ckpts : List (Nat × Time)
  out : List TwinMsg
  busyTo : Nat
  deriving DecidableEq, Repr

/-- A packet that the span link has sent: a span-port packet on a lane, a strobe packet, a time packet. -/
inductive SpanOut where
  | packet (lane dest : Nat) (desc : List Word)
  | strobe (lane k : Nat) (t : Time)
  | time (lane : Nat) (t : Time)
  deriving DecidableEq, Repr

/-- The hold latch of a pad: why it is engaged (bit 0 a couch, 1 a calender hold, 2 DOZE, 3 HOLD, 4 the time
after a claim, R475) and the level in it. -/
structure Pad where
  holds : Nat
  level : Bool
  deriving DecidableEq, Repr

/-- The ports of a user serialiser lane (R514, R515): transfers of five words (D0-D3, C) in the transmit and
the receive port, oldest first, whether a loss came before the next received one, and the transfer last put on
the line. -/
structure Lane where
  tx : List (List Word)
  rx : List (List Word)
  gap : Bool
  line : List Word
  deriving DecidableEq, Repr

/-- What the rail sequencer does (R536-R538): nothing; waits the delay of a step's rails; waits for RAIL_PG of
rails of a step; stands paused before a step; disables rails in descending order, with the next step to disable. -/
inductive SeqPhase where
  | idle
  | delay (step : Nat)
  | waitPg (step : Nat) (rails : List Nat)
  | paused (step : Nat)
  | failOff (step : Nat)
  deriving DecidableEq, Repr

/-- State of the registers, memories, outputs (chapter 02). -/
structure RegistersState where
  /-- Registers of BAR0 that differ from their reset value, by BAR0 offset, offsets rising. -/
  regs : List (Nat × Word)
  /-- Bytes of BAR2 that are not zero (block memories, scheduler store, stream buffers, recovery store), by BAR2 offset, offsets rising (R38). -/
  mem : List (Nat × Byte)
  /-- Bytes that the device has written to host memory by DMA, by host address, addresses rising. -/
  host : List (Nat × Byte)
  /-- MSI-X vectors sent, newest first (R41, R52). -/
  msix : List Nat
  /-- The data bytes the device returned to the last read, response channel or read frame. -/
  resp : List Byte
  /-- The ERR bit or poison of the last read or completion (R139, R141). -/
  respErr : Bool
  /-- The read latches of R13: high words, keyed by 2^24 * master identifier + offset of the low word. -/
  latch : List (Nat × Word)
  /-- The held low words of R14, keyed as `latch`. -/
  lowHold : List (Nat × Word)
  /-- The key sequence in hand of each master identifier (R54, R456, R507): register offset and writes seen (1 or 2). -/
  keys : List (Nat × (Nat × Nat))
  /-- For each page number, the PG_FAULT flags [2:0] set by a fault whose action is 1 (R52). -/
  faultIrq : List (Nat × Nat)
  /-- For each page number with PG_INJECT.ARM, the injected checks still to come (R450). -/
  injLeft : List (Nat × Nat)
  /-- For each page number, fault-log records lost since its previous record (R448). -/
  logLost : List (Nat × Nat)
  /-- Pages whose PG_FAULT_REACT parity INJECT_FREG has inverted (R451). -/
  fregBad : List Nat
  /-- Pages whose block reset is held, with the cause of R352 and word 3 of the broke records it will bring (R203, R432). -/
  heldReset : List (Nat × (Nat × Word))
  /-- The MGMT_SPI status byte [2:0] of the most recent read or write (R62). -/
  spiStatus : Nat
  /-- The status byte [2:0] of the most recent read or write of the recovery class (R64). -/
  recStatus : Nat
  deriving DecidableEq, Repr

/-- State of the timebase and timers (chapter 03). -/
structure TimebaseState where
  /-- The timestamp (R79). -/
  ts : Time
  /-- The loop has locked since the last reset: the timestamp and all timebase-driven functions run (R75). -/
  tbRun : Bool
  /-- The loop follows a valid TB_REF; false from a holdover until the relock (R77, R565). -/
  refOk : Bool
  /-- Loop edges, of both phases, since the lock: even at a rising edge (R74, R79). -/
  clk : Nat
  /-- Loop edges until the falling edge of the next slew tick, that edge counted; 0 without a slew (R79). -/
  slewLeft : Nat
  /-- For each measured domain (64 for AON) its run of measurements below 560, 9 once reported (R70). -/
  paceRun : List (Nat × Nat)
  /-- Event timers that have started (R82). -/
  timers : List (Nat × Timer)
  /-- Trigger events on their way to their consumers, oldest first (R85, R251, R256, R297, R312, R403). -/
  trig : List TrigAt
  deriving DecidableEq, Repr

/-- State of the tender (chapter 15). -/
structure TenderState where
  /-- ERROR# is asserted for a fault or safe state; DEV_ERRPIN.LEVEL reads it. -/
  errPin : Bool
  /-- The width, in 10 us units, of an ERROR# pulse in progress (R439, R440). -/
  errPulse : Option Nat
  /-- The 10 us minimum of HOST_NMI# is still running (R442). -/
  nmiHeld : Bool
  /-- Step 3 of R205 has completed since the last reset (R441). -/
  step3Done : Bool
  /-- Start-up is to start its load (the boot sheet of step 3, or the start-up sheet of step 6) as soon as the configuration controller is free (R205, R206). -/
  bootDue : Bool
  /-- How far the couch of the start-up step in hand has come (R205, R207). -/
  bootPhase : BootPhase
  /-- RESET# is held low and the chip reset holds at step 5 (R458, R459). -/
  resetLow : Bool
  /-- The management processor is being restarted (R455). -/
  mpDown : Bool
  /-- VDD_AON has fallen: the device is in OFF (R530). -/
  unpowered : Bool
  deriving DecidableEq, Repr

/-- State of the fabric (chapters 04 and 05). -/
structure FabricState where
  /-- Fine tiles that a sheet has set, by 512 * bank + tile. -/
  fine : List (Nat × FineTile)
  /-- Word tiles that a sheet has set, by 64 * bank + tile. -/
  word : List (Nat × WordTile)
  /-- Bundles and routes that a sheet has set. -/
  nets : List (Nat × Net)
  /-- Driver taps of each long line, by 64 * bank + line. -/
  taps : List (Nat × List Tap)
  /-- The value that waits at the data input of a long-line driver tap, and whether the tap drives it, by 128 * bank + tap (R135). -/
  tapIn : List (Nat × (Bool × Bool))
  /-- What has come in on the channels to the fabric ports (R130, R139), by `FabPort.key`. -/
  portIn : List (Nat × PortIn)
  /-- The attached fabric event ports 8 * bank + i with their PAYLOAD (R334). -/
  eventPay : List (Nat × Nat)
  /-- Fabric event ports 8 * bank + i whose handle channel the sheet attaches (R334). -/
  handleOut : List Nat
  /-- The scrubber of each bank (R142). -/
  scrubs : List (Nat × Scrub)
  /-- Banks whose memories take no access: from the exchange of a couch to its WR step (R195, R200). -/
  wrHeld : List Nat
  /-- Accesses of memories from the host window and the twin link that wait for the WR step, oldest first (R195). -/
  memWait : List MemReq
  /-- The aspect of each device memory 24 * bank + k (0 is x8, 1 x16, 2 x32, 3 x64, 4 x128); unlisted 0. -/
  aspect : List (Nat × Nat)
  /-- Upset bits (0-63 data, 64-71 check) of a 64-bit word of block memory, by its BAR2 offset. -/
  flips : List (Nat × List Nat)
  /-- Banks whose boundary gates are closed: before the first couch, by a couch or by a disable (R132, R147, R192, R208). -/
  gatesClosed : List Nat
  /-- Fabric banks whose elements are held in reset or not yet enabled by the staged release (R200, R208): every bank until its first couch. -/
  held : List Nat
  deriving DecidableEq, Repr

/-- State of the configuration (chapters 06 and 07). -/
structure ConfigurationState where
  /-- Configuration frames that are not all zero, by 65536 * physical plane + frame number (R151). -/
  frames : List (Nat × List Byte)
  /-- The check bits of the frames written since reset, keyed as frames; an unlisted frame has those of its zero data (R150, R151). -/
  frameChk : List (Nat × BitVec 96)
  /-- Setting words away from zero, by 16384 * copy + word; copy 0 is active, 1 shadow; word is 1024 * sector + word, or 8192 + pad (R152). -/
  setw : List (Nat × Word)
  /-- Retention entries of the active planes (R160). -/
  retA : List RetEntry
  /-- Retention entries of the shadow planes. -/
  retS : List RetEntry
  /-- The operation of the configuration controller (R171). -/
  cfgOp : CfgOp
  /-- Unconsumed bytes of the MGMT_SPI loader buffer (R177). -/
  loaderBuf : List Byte
  /-- The digests of the programmed key slots (R170); one-time programmable. -/
  keyHash : List (Nat × List Byte)
  /-- The sheet key (R169); one-time programmable. -/
  sheetKey : Option (List Byte)
  /-- Key slots (0-3), or the sheet key (4), that a one-time-programmable read has found uncorrectable (R186). -/
  keyBad : List Nat
  /-- The KEY_PROG operation in hand (R186). -/
  keyOp : Option KeyOp
  /-- The ream-store boot copy: image of the boot region (0) and the firmware region (1) (R183). -/
  bootCopy : List (Nat × List Byte)
  /-- The couch in progress (R191); its step stands in CCH_STATE.STEP. -/
  couch : Option Couch
  /-- Origin of the shadow content of bank b (key b) or sector s (key 32 + s) (R211). -/
  shadowSrc : List (Nat × Origin)
  /-- Repair source recorded for each region (R211). -/
  activeSrc : List (Nat × Origin)
  /-- Frames (65536 * plane + number) found uncorrectable and not repaired (R210). -/
  badFrames : List Nat
  /-- Active setting words in the state of R210 until repaired. -/
  badWords : List Nat
  /-- Banks b and sectors (32 + s) held after a failed repair whose shadow has had no fresh load or resync since (R190, R213). -/
  heldStale : List Nat
  /-- The calender's repair in hand (R212). -/
  repair : Option Repair
  /-- Repairs that wait for the one in hand, for a couch to end, or, in the safe state, for the chip reset (R203, R212, R444). -/
  repairDue : List Repair
  /-- The loop edge at which the calender pass in hand began (CAL_LAST_PASS). -/
  passStart : Nat
  /-- What the calender has read in the pass in progress: frames at 65536 * plane + number, setting words at 131072 + 16384 * copy + word (R209). -/
  passSeen : List Nat
  /-- A calender pass has fallen due while one was running (R209). -/
  passDue : Bool
  deriving DecidableEq, Repr

/-- State of the analogue array (chapter 08). -/
structure AnalogArrayState where
  /-- Mutes of pin paths, channels and comparator inputs, by 4 * sector + kind (1 pin, 2 channel, 3 comparator): a mask (R240). -/
  pathMute : List (Nat × Nat)
  /-- The loop edge of the latest cause of each mute in progress, by 32 * (4 * sector + kind) + number; kinds 0 cell, 1 pin, 2 channel, 3 comparator (R240). -/
  muteAt : List (Nat × Nat)
  /-- The loop edge of the latest trip of each pin (R236). -/
  pinTripAt : List (Nat × Nat)
  /-- The loop edge of the latest monitor tick of each sector (R235). -/
  loopAt : List (Nat × Nat)
  /-- The voltage in uV that the field gives at each analogue pin of the device; unlisted 0 (R220). -/
  pinV : List (Nat × Int)
  /-- The current in nA into IN_P of each cell of the device (R221: TIA); unlisted 0. -/
  cellI : List (Nat × Int)
  /-- The response in uV of each cell's biquad to its input (R223); unlisted 0. -/
  cellH : List (Nat × Int)
  /-- The integral in uV that each integrating cell holds (R224). -/
  intV : List (Nat × Rat)
  /-- The output in uV that the sample-and-hold of a cell holds; an unlisted one is transparent (R225). -/
  heldV : List (Nat × Rat)
  /-- For pin AIOn its run of over-limit monitor ticks, 0-100 (R236). -/
  pinRun : List (Nat × Nat)
  deriving DecidableEq, Repr

/-- State of the streams (chapter 13). -/
structure StreamsState where
  /-- Rings that have been enabled, by ring number 4 * engine + slot (R362). -/
  rings : List (Nat × Ring)
  /-- The word with which a fabric stream port waits on its handshake, by port (R371). -/
  portWait : List (Nat × Word)
  deriving DecidableEq, Repr

/-- State of the scheduler (chapter 12). -/
structure SchedulerState where
  /-- The tasks, in order of enqueue (R329). -/
  tasks : List Task
  /-- The generation of each record that has been taken (R328); unlisted 0. -/
  gens : List (Nat × Nat)
  /-- The next stamp of readiness and completion order. -/
  schSeq : Nat
  /-- Events that hardware sources have raised and the scheduler has not yet taken, by source code, oldest first (R332). -/
  hwDue : List (Nat × HwEvent)
  /-- The pending slots of the hardware sources, by source code (R333; a chain's slot, R288). -/
  hwSlot : List (Nat × HwEvent)
  /-- The submission with which a fabric event port or the span link waits, by source code: the eight words of its descriptor, with its TIME (R334). -/
  subWait : List (Nat × List Word)
  /-- The submission under way at a fabric event port 8 * bank + i: the tick at which its word 0 was accepted, and the words so far (R334). -/
  subIn : List (Nat × (Time × List Word))
  /-- The fabric event ports 8 * bank + i that a sheet attaches as span ports, each with its SPp (R488). -/
  spanPorts : List (Nat × Nat)
  /-- The submission with which a span port, by its event port 8 * bank + i, waits for the span link: the eight words of its descriptor (R488). -/
  spanWait : List (Nat × List Word)
  /-- The source code served last among waiting submissions of equal priority (R347). -/
  rotate : Nat
  /-- The level that each comparator last reported (R332); unlisted 0. -/
  compLevel : List (Nat × Nat)
  /-- Tasks that broke records took from a fabric port and whose late completions are still to come, by worker (R339). -/
  lateMark : List (Nat × Nat)
  /-- The 8-bit word mask of each bound fabric worker port (R339). -/
  wkrMask : List (Nat × Nat)
  /-- The descriptor words last presented on each fabric worker port's dispatch channel (R339). -/
  dispOut : List (Nat × List Word)
  /-- The handle last returned on each submitting source's handle channel (R334, R337). -/
  handleRet : List (Nat × Nat)
  /-- CANCEL notices that wait for room: completion queue and handle, oldest first (R350). -/
  notices : List (Nat × Nat)
  /-- Passes of each completion queue since its pointers were last set to 0, modulo 2 (R358); unlisted 0. -/
  cqPhase : List (Nat × Nat)
  /-- Release records delivered to management processor queues: queue, handle and kind, newest first (R346). -/
  mpRel : List (Nat × (Nat × Nat))
  /-- Scheduler strobe outputs that have risen, newest first (R346). -/
  strobeOut : List Nat
  /-- SCH_HQq_STATUS of each master, by 256 * queue + master identifier (R357). -/
  hqStatus : List (Nat × Word)
  /-- SCH_CANCEL_RES of each master identifier (R348). -/
  cancelRes : List (Nat × Word)
  /-- Host software has withdrawn the host-assisted request with NONE (R354). -/
  haSkip : Bool
  /-- The workers that were available at that NONE (R354). -/
  haSeen : List Nat
  /-- Flows that act as unordered with RELEASE 0 after a parity error (R361). -/
  flowBad : List Nat
  /-- After a takeover, the checkpointed TIME of each flow (R479). -/
  ckptSkip : List (Nat × Time)
  deriving DecidableEq, Repr

/-- State of the ream store, press and boot flash (chapter 14). -/
structure ReamStoreState where
  /-- The sheets of the library, by slot (R384, R387). -/
  lib : List (Nat × List Byte)
  /-- The durable value of each key of the vault (R398, R399). -/
  vault : List (Nat × List Byte)
  /-- The open vault transaction (R395). -/
  txn : Option Txn
  /-- The accepted commit that is not yet acknowledged (R397). -/
  vtCommit : Option Txn
  /-- The APPEND or GET in hand (R396). -/
  vtOp : Option VtOp
  /-- The ream-store command or raw operation in hand (R420). -/
  rsOp : Option RsOp
  /-- Blocks scheduled for refresh (R390). -/
  refresh : List Nat
  /-- Raw operations performed on the NAND, newest first (R392). -/
  nandOut : List RsOp
  /-- The capture streams (R402). -/
  caps : List (Nat × CapStream)
  /-- The capture read in hand (R404). -/
  capRead : Option CapRead
  /-- The press parameters in the store tables: the words at 0x040-0x05C of RS page 3 (R405, R423). -/
  prSaved : List Word
  /-- The loop edge at which HOLDUP_SENSE was last converted (R411). -/
  energyAt : Option Nat
  /-- The loop edge from which the next conversion of HOLDUP_SENSE is due (R411). -/
  energyNext : Nat
  /-- A conversion of HOLDUP_SENSE that has not been evaluated yet: its loop edge and its code (R411). -/
  energySample : Option (Nat × Int)
  /-- V(HOLDUP_SENSE) at that conversion, in microvolts. -/
  energyUv : Nat
  /-- The press in progress (R407). -/
  press : Option Press
  /-- A press plan has been written since chip reset (R28). -/
  prPlan : Bool
  /-- The vault index is being rebuilt from the store (RS page 1 source 1). -/
  vtRebuild : Bool
  /-- The vault size, in 256 MiB, with which the last FORMAT laid the store out (R386); kept in the store. -/
  vtFmt : Nat
  /-- Source 0 of RS page 3 has been raised since the last energy measurement (R423). -/
  energyTold : Bool
  /-- The runs of CP126 and CP127 reports (R405, R408). -/
  pressRuns : PressRuns
  /-- Bytes of the host firmware images that are not 0xFF, by 2^32 * image + address (R417). -/
  bfeImg : List (Nat × Byte)
  /-- BFE_CFG.SIZE as the last FORMAT applied it (R424); kept in the store. -/
  bfeSize : Nat
  /-- The boot-flash port. -/
  bfePort : BfePort
  /-- The BFE_UPD in hand (R418). -/
  bfeUpd : Option BfeOp
  /-- A BFE_UPD whose DMA waits (R36): its offset, its length and the bytes, none where the DMA meets an error. -/
  bfeFetch : Option (Nat × (Nat × Option (List Byte)))
  /-- HOST_RESET# is asserted (R536, R538). -/
  hostRst : Bool
  /-- An edge of HOST_RESET# that the boot-flash port has not yet met: true an assertion (R417). -/
  hostRstDue : Option Bool
  deriving DecidableEq, Repr

/-- State of the conversion (chapter 09). -/
structure ConversionState where
  /-- The converters whose state differs from reset, by number (R246-R277). -/
  convs : List (Nat × Conv)
  /-- Results that have left a converter for a filter chain and that the chain has not yet accepted (R255): chain, result word, timestamp, oldest first. -/
  chainIn : List (Nat × (Word × Time))
  deriving DecidableEq, Repr

/-- State of the filter chains and comparators (chapter 10). -/
structure FiltersState where
  /-- The filter chains that run, by number (R280, R289). -/
  chains : List (Nat × Chain)
  /-- The comparators that tick (R290, R294). -/
  cpRun : List Nat
  /-- Decided ticks of each running comparator since SETTLED was last cleared (R294); unlisted 0. -/
  cpSettle : List (Nat × Nat)
  /-- A comparator level has changed in the microsecond in progress (R297). -/
  cpChanged : Bool
  /-- The loop edge of the next tick of each running comparator (R290). -/
  cpNext : List (Nat × Nat)
  /-- Levels that comparators are to present: loop edge, comparator, level (R291, R293). -/
  cpDue : List (Nat × (Nat × Nat))
  /-- The tick of the last snapshot record, counted from lock (R297). -/
  snapLast : Option Nat
  deriving DecidableEq, Repr

/-- State of the analogue outputs (chapter 11). -/
structure OutputsState where
  /-- The analogue output channels whose state differs from reset, by channel (R304-R320). -/
  outCh : List (Nat × OutCh)
  /-- The loop edge of the last 10 us tick of the output monitors (R308). -/
  daTick : Option Nat
  /-- The loop edge of the last strobe of each load-strobe group that counted (R311). -/
  lsLast : List (Nat × Nat)
  deriving DecidableEq, Repr

/-- State of the pins and serialisers (chapter 17). -/
structure PinsState where
  /-- The hold latches of the pads, by device pad number (R195, R475, R496). -/
  pads : List (Nat × Pad)
  /-- Locked pads with the settings in force at their lock (R507), by device pad number. -/
  padLocks : List (Nat × Nat)
  /-- BAR0 offsets of GB registers with a parity error that nothing has rewritten (R519). -/
  gbBad : List Nat
  /-- User serialiser lanes, by 4 * quad + lane (R514). -/
  lanes : List (Nat × Lane)
  deriving DecidableEq, Repr

/-- State of the twin pairs and span systems (chapter 16). -/
structure LinksState where
  /-- The twin link beside its registers. -/
  twin : Twin
  /-- Packets that the span link has sent, newest first. -/
  snOut : List SpanOut
  /-- System strobes scheduled: strobe and system time, oldest first (R489). -/
  strobes : List (Nat × Time)
  deriving DecidableEq, Repr

/-- State of the power and board sequencing (chapter 18). -/
structure PowerState where
  /-- What the rail sequencer does. -/
  seqPhase : SeqPhase
  /-- SEQ_HOST_DELAY runs towards a release of HOST_RESET# (R536, R538). -/
  hostDelay : Bool
  /-- The switched domains that ramp now, at most 8 (R521). -/
  ramps : List Nat
  /-- The domains that DOZE switched off and that have not come back (R525). -/
  dozeOff : List Nat
  /-- A wake has ended HOLD and the chip reset of this cause waits until every counted supply is valid (R527). -/
  leaveHold : Option Nat
  /-- The domains that a press keeps off, and after a resume in the safe state until the next chip reset (R406, R446). -/
  pressOff : List Nat
  /-- A press or the safe state holds the steps of VDD_CORE (R73). -/
  pmbHeld : Bool
  /-- The target towards which VDD_CORE is stepped, in mV (R71); differs from PWR_VCORE_TARGET while a new target is held (R73). -/
  vcoreGoal : Nat
  /-- For each die its run of samples above 130 degrees, and 100 + run above 140 (R545). -/
  tempRun : List (Nat × Nat)
  /-- A host-command press that is to end in HOLD, or the park of a disabled press, is in progress (R526). -/
  holdEntry : Bool
  deriving DecidableEq, Repr

/-- The state of the block: the part, the queue of commands that wait, the counter of free values, and the state of each chapter's
units. -/
structure State extends RegistersState, TimebaseState, TenderState, FabricState, ConfigurationState, AnalogArrayState, StreamsState,
    SchedulerState, ReamStoreState, ConversionState, FiltersState, OutputsState, PinsState, LinksState, PowerState where
  /-- The part: variant, straps, factory words. -/
  part : Part
  /-- The commands that wait, first in, first out. -/
  pending : List Instr
  /-- The model's own count of free values drawn; no part of the device. -/
  free : Nat
  deriving DecidableEq, Repr

/-- The part the model resets as (which variant, straps and factory words a part has is the part's own; the
values here are named in the assumption log). [Log 1 DESIGN CHOICE] -/
def resetPart : Part :=
  { variant := .l, uidLo := 0, uidHi := 0, bankPull := 0, twinSide := false, bootSrc := 0, otp := [] }

/-- The block right after power-on reset (R457): every register at its reset value, nothing listed in any
memory, nothing in hand. [Log 3 DESIGN CHOICE] -/
def State.reset : State :=
  { part := resetPart,
    pending := [],
    free := 0,
    regs := [],
    mem := [],
    host := [],
    msix := [],
    resp := [],
    respErr := false,
    latch := [],
    lowHold := [],
    keys := [],
    faultIrq := [],
    injLeft := [],
    logLost := [],
    fregBad := [],
    heldReset := [],
    spiStatus := 0,
    recStatus := 0,
    ts := 0,
    tbRun := false,
    refOk := false,
    clk := 0,
    slewLeft := 0,
    paceRun := [],
    timers := [],
    trig := [],
    errPin := false,
    errPulse := none,
    nmiHeld := false,
    step3Done := false,
    bootDue := false,
    bootPhase := .noCouch,
    resetLow := false,
    mpDown := false,
    unpowered := false,
    fine := [],
    word := [],
    nets := [],
    taps := [],
    tapIn := [],
    portIn := [],
    eventPay := [],
    handleOut := [],
    scrubs := [],
    wrHeld := [],
    memWait := [],
    aspect := [],
    flips := [],
    gatesClosed := List.range 32,
    held := List.range 32,
    frames := [],
    frameChk := [],
    setw := [],
    retA := [],
    retS := [],
    cfgOp := .idle,
    loaderBuf := [],
    keyHash := [],
    sheetKey := none,
    keyBad := [],
    keyOp := none,
    bootCopy := [],
    couch := none,
    shadowSrc := [],
    activeSrc := [],
    badFrames := [],
    badWords := [],
    heldStale := [],
    repair := none,
    repairDue := [],
    passStart := 0,
    passSeen := [],
    passDue := false,
    pathMute := [],
    muteAt := [],
    pinTripAt := [],
    loopAt := [],
    pinV := [],
    cellI := [],
    cellH := [],
    intV := [],
    heldV := [],
    pinRun := [],
    rings := [],
    portWait := [],
    tasks := [],
    gens := [],
    schSeq := 0,
    hwDue := [],
    hwSlot := [],
    subWait := [],
    subIn := [],
    spanPorts := [],
    spanWait := [],
    rotate := 0,
    compLevel := [],
    lateMark := [],
    wkrMask := [],
    dispOut := [],
    handleRet := [],
    notices := [],
    cqPhase := [],
    mpRel := [],
    strobeOut := [],
    hqStatus := [],
    cancelRes := [],
    haSkip := false,
    haSeen := [],
    flowBad := [],
    ckptSkip := [],
    lib := [],
    vault := [],
    txn := none,
    vtCommit := none,
    vtOp := none,
    rsOp := none,
    refresh := [],
    nandOut := [],
    caps := [],
    capRead := none,
    prSaved := [],
    energyAt := none,
    energyNext := 0,
    energySample := none,
    energyUv := 0,
    press := none,
    prPlan := false,
    vtRebuild := false,
    vtFmt := 4,
    energyTold := false,
    pressRuns := { lo := 0, loOff := 0, hi := 0, huOff := 0 },
    bfeImg := [],
    bfeSize := 0,
    bfePort := { octal := false, dummy := 20, wel := false, wip := none, rstEn := false },
    bfeUpd := none,
    bfeFetch := none,
    hostRst := true,
    hostRstDue := none,
    convs := [],
    chainIn := [],
    chains := [],
    cpRun := [],
    cpSettle := [],
    cpChanged := false,
    cpNext := [],
    cpDue := [],
    snapLast := none,
    outCh := [],
    daTick := none,
    lsLast := [],
    pads := [],
    padLocks := [],
    gbBad := [],
    lanes := [],
    twin := { raised := none, seen := false, takeover := false, clear := none, lineFault := false, lastHb := 0, hbLost := false, waiting := false, padHold := false, ckpts := [], out := [], busyTo := 0 },
    snOut := [],
    strobes := [],
    seqPhase := .idle,
    hostDelay := false,
    ramps := [],
    dozeOff := [],
    leaveHold := none,
    pressOff := [],
    pmbHeld := false,
    vcoreGoal := 800,
    tempRun := [],
    holdEntry := false }

end Sys2Proof.Machine
end

