-- ==== Sys2Proof/Machine/Pages.lean ====
section
/-!
DEFINITION. The page map (R40), which pages and units a variant has (R3-R6), the fault sources of each page,
and the reset word of every register.
-/
namespace Sys2Proof.Machine
open Sys2Proof F

/-- The kinds of register page. -/
inductive PageKind where
  | dev | tnd | pwr0 | pwr1 | seq | tb0 | tb1 | mgt | cfg | cal | cch | key | fb | asec | cv | fc | cp | da
  | ls | sch0 | sch1 | sch2 | sch3 | rs0 | rs1 | rs2 | rs3 | bfe | tw | sn | gb | sq | st
  deriving DecidableEq, Repr

/-- The constants of the PCIe function (R35): its class code, its device identifier, and the maximum payload of a transfer
in bytes. [Log 14 PRESUMED] -/
def pciClass : Nat := 0x11_8000
/-- [Log 14 PRESUMED] -/
def pciDevice : Variant → Nat
  | .l => 0x0910
  | .m => 0x0911
  | .s => 0x0912
/-- [Log 14 PRESUMED] -/
def pciPayload : Nat := 512

-- Page numbers: the BAR0 offset of a page divided by 0x1000 (R40).
def pgDEV : Nat := 0x00
def pgTND : Nat := 0x01
def pgPWR : Nat := 0x02
def pgPMB : Nat := 0x03
def pgSEQ : Nat := 0x04
def pgTB : Nat := 0x05
def pgTM : Nat := 0x06
def pgMGT : Nat := 0x08
def pgCFG : Nat := 0x10
def pgCAL : Nat := 0x11
def pgCCH : Nat := 0x12
def pgKEY : Nat := 0x13
def pgFB (b : Nat) : Nat := 0x20 + b
def pgAS (s : Nat) : Nat := 0x40 + s
def pgCV (n : Nat) : Nat := 0x50 + n
def pgFC (n : Nat) : Nat := 0x58 + n
def pgCP (n : Nat) : Nat := 0x60 + n
def pgDA (n : Nat) : Nat := 0x68 + n
def pgLS : Nat := 0x6C
def pgSCH : Nat := 0x70
def pgWKR : Nat := 0x71
def pgTRC : Nat := 0x72
def pgHQ : Nat := 0x73
def pgRS : Nat := 0x80
def pgVT : Nat := 0x81
def pgCAP : Nat := 0x82
def pgPR : Nat := 0x83
def pgBFE : Nat := 0x88
def pgTW : Nat := 0x90
def pgSN : Nat := 0x91
def pgGB (n : Nat) : Nat := 0xA0 + n
def pgSQ (n : Nat) : Nat := 0xA8 + n
def pgST (n : Nat) : Nat := 0xB0 + n

/-- The kind and instance (unit number, or page index within the block) of a page number of the map of R40. -/
def pageAt (p : Nat) : Option (PageKind × Nat) :=
  if p == 0x00 then some (.dev, 0) else if p == 0x01 then some (.tnd, 0)
  else if p == 0x02 then some (.pwr0, 0) else if p == 0x03 then some (.pwr1, 1)
  else if p == 0x04 then some (.seq, 0)
  else if p == 0x05 then some (.tb0, 0) else if p == 0x06 then some (.tb1, 1)
  else if p == 0x08 then some (.mgt, 0)
  else if p == 0x10 then some (.cfg, 0) else if p == 0x11 then some (.cal, 0)
  else if p == 0x12 then some (.cch, 0) else if p == 0x13 then some (.key, 0)
  else if 0x20 ≤ p ∧ p < 0x40 then some (.fb, p - 0x20)
  else if 0x40 ≤ p ∧ p < 0x48 then some (.asec, p - 0x40)
  else if 0x50 ≤ p ∧ p < 0x54 then some (.cv, p - 0x50)
  else if 0x58 ≤ p ∧ p < 0x5C then some (.fc, p - 0x58)
  else if 0x60 ≤ p ∧ p < 0x64 then some (.cp, p - 0x60)
  else if 0x68 ≤ p ∧ p < 0x6C then some (.da, p - 0x68)
  else if p == 0x6C then some (.ls, 0)
  else if p == 0x70 then some (.sch0, 0) else if p == 0x71 then some (.sch1, 1)
  else if p == 0x72 then some (.sch2, 2) else if p == 0x73 then some (.sch3, 3)
  else if p == 0x80 then some (.rs0, 0) else if p == 0x81 then some (.rs1, 1)
  else if p == 0x82 then some (.rs2, 2) else if p == 0x83 then some (.rs3, 3)
  else if p == 0x88 then some (.bfe, 0)
  else if p == 0x90 then some (.tw, 0) else if p == 0x91 then some (.sn, 0)
  else if 0xA0 ≤ p ∧ p < 0xA8 then some (.gb, p - 0xA0)
  else if 0xA8 ≤ p ∧ p < 0xB0 then some (.sq, p - 0xA8)
  else if 0xB0 ≤ p ∧ p < 0xC0 then some (.st, p - 0xB0)
  else none

/-- PG_ID.TYPE of R40. -/
def pageType : PageKind → Nat
  | .dev => 0x0001 | .tnd => 0x0002 | .pwr0 => 0x0003 | .pwr1 => 0x0003 | .seq => 0x0004
  | .tb0 => 0x0005 | .tb1 => 0x0005 | .mgt => 0x0006 | .cfg => 0x0010 | .cal => 0x0011 | .cch => 0x0012
  | .key => 0x0013 | .fb => 0x0020 | .asec => 0x0030 | .cv => 0x0031 | .fc => 0x0032 | .cp => 0x0033
  | .da => 0x0034 | .ls => 0x0035 | .sch0 => 0x0040 | .sch1 => 0x0040 | .sch2 => 0x0040 | .sch3 => 0x0040
  | .rs0 => 0x0050 | .rs1 => 0x0050 | .rs2 => 0x0050 | .rs3 => 0x0050 | .bfe => 0x0051 | .tw => 0x0060
  | .sn => 0x0061 | .gb => 0x0070 | .sq => 0x0071 | .st => 0x0080

/-- The MSI-X vector of a page (R40). -/
def pageVector (p : Nat) : Option Nat :=
  match pageAt p with
  | none => none
  | some (k, i) => some (match k with
    | .dev => 0 | .tnd => 1 | .pwr0 => 2 | .pwr1 => 3 | .seq => 4 | .tb0 => 5 | .tb1 => 6 | .mgt => 7
    | .cfg => 8 | .cal => 9 | .cch => 10 | .key => 11 | .fb => 12 + i | .asec => 44 + i | .cv => 52 + i
    | .fc => 56 + i | .cp => 60 + i | .da => 64 + i | .ls => 68 | .sch0 => 69 | .sch1 => 70 | .sch2 => 71
    | .sch3 => 72 | .rs0 => 73 | .rs1 => 74 | .rs2 => 75 | .rs3 => 76 | .bfe => 77 | .tw => 78 | .sn => 79
    | .gb => 80 + i | .sq => 88 + i | .st => 96 + i)

/-- The switched power domains of a page (R40); none for a page of AON. -/
def pageDomains (p : Nat) : List Nat :=
  match pageAt p with
  | none => []
  | some (k, i) => match k with
    | .dev => [] | .tnd => [] | .pwr0 => [] | .pwr1 => [] | .seq => [] | .gb => []
    | .tb0 => [62] | .tb1 => [62] | .ls => [62] | .mgt => [58, 59]
    | .cfg => [61] | .cal => [61] | .cch => [61] | .key => [61]
    | .fb => [i] | .asec => [32 + i] | .cv => [40 + i] | .fc => [63] | .cp => [46]
    | .da => [44 + i / 2] | .sch0 => [60] | .sch1 => [60] | .sch2 => [60] | .sch3 => [60]
    | .rs0 => [56] | .rs1 => [56] | .rs2 => [56] | .rs3 => [56] | .bfe => [57] | .tw => [53] | .sn => [54]
    | .sq => [47 + i] | .st => [63]

/-- The number of fabric banks, analogue sectors, converters, filter chains and analogue outputs (R3). -/
def nBanks : Variant → Nat | .l => 32 | .m => 16 | .s => 8
def nSectors : Variant → Nat | .l => 8 | .m => 4 | .s => 2
def nConverters : Variant → Nat | .l => 4 | .m => 2 | .s => 1
def nChains : Variant → Nat | .l => 64 | .m => 32 | .s => 16
def nOutputs : Variant → Nat | .l => 64 | .m => 32 | .s => 16
/-- The scheduler's task records (R3). -/
def nRecords : Variant → Nat | .l => 16384 | .m => 8192 | .s => 4096
/-- DEV_VARIANT.VARIANT (R59), and the bit of a sheet's VARIANT_MASK (R153). -/
def variantCode : Variant → Nat | .l => 1 | .m => 2 | .s => 3
def variantBit (v : Variant) : Nat := variantCode v - 1
/-- Word tiles and word lanes are present on the GX9-L only (R3). -/
def hasWords (v : Variant) : Bool := v == .l

/-- A comparator is present (R4). -/
def cpPresent (v : Variant) (n : Nat) : Bool :=
  match v with
  | .l => n < 128
  | .m => n < 62 || n == 126 || n == 127
  | .s => n < 30 || n == 126 || n == 127

/-- A serialiser quad is present (R4). -/
def sqPresent (v : Variant) (q : Nat) : Bool :=
  match v with
  | .l => q < 8
  | .m => q < 2 || q == 6
  | .s => false

/-- A page of the map is present on a variant: some unit that it serves is (R4-R6). -/
def kindPresent (v : Variant) (k : PageKind) (i : Nat) : Bool :=
  match k with
  | .fb => i < nBanks v
  | .asec => i < nSectors v
  | .cv => i < nConverters v
  | .fc => 16 * i < nChains v
  | .cp => (List.range 32).any fun j => cpPresent v (32 * i + j)
  | .da => 16 * i < nOutputs v
  | .tw => v != .s
  | .sn => v == .l
  | .sq => sqPresent v i
  | _ => true

/-- A page number names a present page. -/
def pagePresent (v : Variant) (p : Nat) : Bool :=
  match pageAt p with
  | none => false
  | some (k, i) => kindPresent v k i

/-- A switched power domain exists on a variant (R4). -/
def domPresent (v : Variant) (d : Nat) : Bool :=
  if d < 32 then d < nBanks v
  else if d < 40 then d - 32 < nSectors v
  else if d < 44 then d - 40 < nConverters v
  else if 47 ≤ d ∧ d < 55 then sqPresent v (d - 47)
  else d < 64

/-- PG_CAPS.HOST_MODE_AVAIL (R26). -/
def hostMode : PageKind → Bool
  | .cfg => true | .cv => true | .sch0 => true | .st => true | .rs0 => true | .rs3 => true | .seq => true
  | _ => false

/-- The units of a shared page that are present, one bit each: FC_PRESENT, CP_PRESENT, DA_PRESENT. -/
def presentMask (v : Variant) (k : PageKind) (i : Nat) : Nat :=
  match k with
  | .fc => if 16 * i < nChains v then 0xFFFF else 0
  | .da => if 16 * i < nOutputs v then 0xFFFF else 0
  | .cp => ((List.range 32).map fun j => b2n (cpPresent v (32 * i + j)) * 2 ^ j).sum
  | _ => 0

/-- PG_CAPS.BLOCK, as each owning chapter gives it (0 where it gives none). -/
def capsBlock (v : Variant) (k : PageKind) (i : Nat) : Nat :=
  match k with
  | .seq => 16 * 256
  | .tb1 => 32
  | .cfg => nBanks v * 256 + nSectors v
  | .cal => nBanks v * 0x600 / 1024
  | .cch => 256
  | .fb => 24 * 256 + (if hasWords v then 64 else 0)
  | .asec => 32 * 256 + 16
  | .cv => 9 * 256 + 32
  | .fc => 16 * 256 + popCount (presentMask v .fc i) 16
  | .cp => 32 * 256 + popCount (presentMask v .cp i) 32
  | .da => 16 * 256 + popCount (presentMask v .da i) 16
  | .ls => 8 * 256
  | .sch0 => nRecords v / 256
  | .sch1 => 256
  | .st => 4 * 256
  | .rs0 => (if v == .l then 4 else 2) * 256
  | .tw => 4 * 256
  | .sn => 4 * 256
  | .gb => 32 * 256
  | .sq => 4 * 256
  | _ => 0

/-- The class of a fault source of a page (R425, R434 and the owning chapters): 1 corrected, 2 contained,
3 fatal, 0 for a reserved source. -/
def faultClass (k : PageKind) (src : Nat) : Nat :=
  let at' (l : List Nat) : Nat := l.getD src 0
  match k with
  | .dev => at' [2, 2]
  | .tnd => at' [1, 3, 3, 2]
  | .mgt => at' [1, 2]
  | .tb0 => at' [2, 2]
  | .tb1 => 0
  | .cfg => at' [1, 2, 2]
  | .key => at' [1, 2]
  | .cch => at' [1, 2, 2]
  | .cal => at' [1, 2, 2, 2, 1, 2]
  | .fb => at' [1, 2, 2, 2, 2, 2]
  | .asec => at' [2, 2, 2]
  | .cv => at' [2, 2, 2]
  | .fc => at' [2, 2]
  | .cp => at' [2]
  | .da => at' [2, 2]
  | .ls => at' [2]
  | .sch0 => at' [1, 2, 2, 2, 2]
  | .sch1 => 0
  | .sch2 => 0
  | .sch3 => at' [2]
  | .st => at' [1, 2, 2, 2]
  | .rs0 => at' [1, 2, 1, 2, 2]
  | .rs1 => at' [1, 2, 2]
  | .rs2 => at' [2]
  | .rs3 => at' [2, 2]
  | .bfe => at' [2, 2]
  | .pwr0 => at' [2, 3, 2]
  | .pwr1 => at' [2, 2, 2]
  | .seq => at' [2, 2, 2]
  | .tw => at' [1, 2, 2, 2]
  | .sn => at' [1, 2, 2, 2]
  | .gb => at' [2, 2, 2]
  | .sq => at' [2, 2]

/-- The class of a source of a page number; 0 for a page that is not there. -/
def srcClass (p src : Nat) : Nat :=
  match pageAt p with
  | none => 0
  | some (k, _) => faultClass k src

/-- The reset value of PG_FAULT_REACT (R430). -/
def reactReset (k : PageKind) : Nat :=
  ((List.range 8).map fun s =>
    (match faultClass k s with | 2 => 1 | 3 => 0xD | _ => 0) * 16 ^ s).sum

/-- The fields of a page kind after its header. -/
def kindFields : PageKind → List Fld
  | .dev => devFields | .tnd => tndFields | .pwr0 => pwr0Fields | .pwr1 => pwr1Fields | .seq => seqFields
  | .tb0 => tb0Fields | .tb1 => tb1Fields | .mgt => [] | .cfg => cfgFields | .cal => calFields
  | .cch => cchFields | .key => keyFields | .fb => fbFields | .asec => asecFields | .cv => cvFields
  | .fc => fcFields | .cp => cpFields | .da => daFields | .ls => lsFields | .sch0 => sch0Fields
  | .sch1 => sch1Fields | .sch2 => sch2Fields | .sch3 => sch3Fields | .rs0 => rs0Fields | .rs1 => rs1Fields
  | .rs2 => rs2Fields | .rs3 => rs3Fields | .bfe => bfeFields | .tw => twFields | .sn => snFields
  | .gb => gbFields | .sq => sqFields | .st => stFields

/-- The index of an offset within an arrayed register, if the field lies there. -/
def Fld.index? (f : Fld) (o : Nat) : Option Nat :=
  if o < f.off then none
  else if f.stride == 0 then (if o == f.off then some 0 else none)
  else if (o - f.off) % f.stride == 0 ∧ (o - f.off) / f.stride < f.count then some ((o - f.off) / f.stride)
  else none

/-- The fields of a page kind that lie in the register at a page offset. -/
def fieldsAt (k : PageKind) (o : Nat) : List Fld :=
  (if o < 0x40 then hdrFields else kindFields k).filter fun f => (f.index? o).isSome

/-- The bits of a field: for a field repeated in its register, all of its places. -/
def Fld.mask (f : Fld) : Nat :=
  ((List.range f.bcount).map fun k => (2 ^ (f.hi + 1 - f.lo) - 1) * 2 ^ (f.lo + f.bstep * k)).sum

/-- The reset bits of a field. -/
def Fld.resetBits (f : Fld) : Nat :=
  ((List.range f.bcount).map fun k => f.rst % 2 ^ (f.hi + 1 - f.lo) * 2 ^ (f.lo + f.bstep * k)).sum

/-- The units of filter, comparator and output pages and of the scheduler, calender and timebase registers
that are absent (R6): their registers behave as absent ones. -/
def absentUnit (v : Variant) (k : PageKind) (i o : Nat) : Bool :=
  match k with
  | .fc => decide (0x100 ≤ o) && decide (o < 0x500) && decide (nChains v ≤ 16 * i + (o - 0x100) / 0x40)
  | .cp => decide (0x100 ≤ o) && decide (o < 0x300) && !cpPresent v (32 * i + (o - 0x100) / 0x10)
  | .da => decide (0x100 ≤ o) && decide (o < 0x200) && decide (nOutputs v ≤ 16 * i + (o - 0x100) / 0x10)
  | .sch0 =>
    if 0x400 ≤ o ∧ o < 0x800 then
      let c := (o - 0x400) / 4
      if c < 0x80 then !cpPresent v c
      else if c < 0xC0 then decide (nChains v ≤ c - 0x80)
      else if c < 0xC4 then decide (nConverters v ≤ c - 0xC0)
      else if c < 0xD0 then true
      else decide (0xF0 ≤ c)
    else false
  | .sch1 =>
    if 0x100 ≤ o ∧ o < 0x480 then decide (nBanks v ≤ (o - 0x100) / 4 / 7)
    else if 0x500 ≤ o ∧ o < 0x880 then decide (nBanks v ≤ (o - 0x500) / 4 / 7)
    else false
  | .cal =>
    if 0x100 ≤ o ∧ o < 0x180 then decide (nBanks v ≤ (o - 0x100) / 4)
    else if 0x180 ≤ o ∧ o < 0x1A0 then decide (nSectors v ≤ (o - 0x180) / 4)
    else false
  | _ => false

/-- The default of a one-time-programmable word that the part does not list: zero, and for a slice's gain
unity in Q1.17 (R275). [Log 2 DESIGN CHOICE] -/
def otpDefault (k : PageKind) (o : Nat) : Nat :=
  match k with
  | .cv => if 0x100 ≤ o ∧ o < 0x190 ∧ o % 16 == 4 then 0x20000 else 0
  | _ => 0

/-- The counted supplies of a variant (R529), as PWR_SUPPLY.VALID holds them; the GX9-S has no VDD_SER. -/
def validSupplies (v : Variant) : Nat := match v with | .s => 0x73F | _ => 0x7FF

/-- Reset bits that depend on the page, the variant, the straps or the part's own words. -/
def resetExtra (pt : Part) (k : PageKind) (i p o : Nat) : Nat :=
  let v := pt.variant
  if o == 0x000 then pageType k * 0x10000 + (match k with | .pwr1 => 1 | .pwr0 => 0 | _ => i) * 0x100
  else if o == 0x004 then capsBlock v k i * 0x10000 + b2n (hostMode k) * 2
  else if o == 0x008 then
    match k with
    | .tnd => 0xD
    | .dev => 0xC | .pwr0 => 0xC | .pwr1 => 0xC | .seq => 0xD | .gb => 0xC | .tb0 => 0x1
    | _ => 0
  else if o == 0x01C then reactReset k
  else match k with
    | .dev =>
      if o == 0x040 then variantCode v
      else if o == 0x044 then pt.uidLo.toNat
      else if o == 0x048 then pt.uidHi.toNat
      else if o == 0x04C then pt.bankPull % 256 * 256 + b2n pt.twinSide * 4 + pt.bootSrc % 4
      else 0
    | .pwr0 => if o == 0x064 then 4 else 0
    | .tw => if o == 0x044 then b2n pt.twinSide * 2 ^ 15 else 0
    | .fc => if o == 0x040 then presentMask v .fc i else 0
    | .cp => if o == 0x040 then presentMask v .cp i else 0
    | .da => if o == 0x040 then presentMask v .da i else 0
    | .sch0 => if o == 0x048 then nRecords v % 2 ^ 15 else 0
    | .sch1 =>
      if 0x100 ≤ o ∧ o < 0x500 then
        let w := (o - 0x100) / 4
        if w < 0xE0 then 0x100 else if w < 0xE2 then 0x4000_1000 else if w < 0xF2 then 0x4000_0400
        else 0x4000_4000
      else 0
    | .cv =>
      if o == 0x05C then 2 * 2 ^ 16
      else if (0x100 ≤ o ∧ o < 0x190 ∧ o % 16 ≠ 12) ∨ o == 0x0A0 ∨ o == 0x0A4 then
        ((aget pt.otp (p * 0x1000 + o)).map BitVec.toNat).getD (otpDefault k o)
      else 0
    | .gb =>
      if o == 0x06C then b2n (bit pt.bankPull i)
      else if 0x100 ≤ o ∧ o < 0x180 then (if bit pt.bankPull i then 2 else 1) * 2 ^ 13 + 2 ^ 8 + 2 ^ 7
      else 0
    | _ => 0

/-- The number of the flow table window and of its end, the broke window and the MSI-X table (R37). -/
def flowBase : Nat := 0x0010_0000
def brokeBase : Nat := 0x0011_0000
def msixBase : Nat := 0x0030_0000

/-- The reset word of the BAR0 register at an offset: the Reset column of its table, with the values that the
page, the variant and the part give; for the windows, a flow table entry's WINDOW of 255 (R359) and the mask
bit that PCIe sets in each MSI-X table entry. [Log 3 DESIGN CHOICE] -/
def resetWord (pt : Part) (off : Nat) : Word :=
  if off < 0xC_0000 then
    match pageAt (off / 0x1000) with
    | none => 0
    | some (k, i) =>
      if kindPresent pt.variant k i ∧ !absentUnit pt.variant k i (off % 0x1000) then
        BitVec.ofNat 32 (((fieldsAt k (off % 0x1000)).map Fld.resetBits).sum
          + resetExtra pt k i (off / 0x1000) (off % 0x1000))
      else 0
  else if flowBase ≤ off ∧ off < brokeBase then (if off % 16 == 0 then 0x00FF_0000 else 0)
  else if msixBase ≤ off ∧ off < msixBase + 0x8000 then (if off % 16 == 12 then 1 else 0)
  else 0

end Sys2Proof.Machine
end

