-- ==== Sys2Proof/Machine/Ops.lean ====
section
/-!
DEFINITION. The named operations over registers, memories, timestamps and outputs that every family uses.
-/
namespace Sys2Proof.Machine
open Sys2Proof F

-- Registers -------------------------------------------------------------------------------------------------

/-- The word a register holds. -/
def State.reg (s : State) (off : Nat) : Word := (aget s.regs off).getD (resetWord s.part off)

/-- The state with a register holding a word; a register at its reset word is not listed. -/
def State.setReg (s : State) (off : Nat) (w : Word) : State :=
  { s with regs := if w = resetWord s.part off then adel s.regs off else aput s.regs off w }

/-- The BAR0 offset of the register of a field: page number, field, register index. -/
def Fld.addr (f : Fld) (pg i : Nat) : Nat := pg * 0x1000 + f.off + f.stride * i

/-- The number of bits of a field. -/
def Fld.len (f : Fld) : Nat := f.hi + 1 - f.lo

/-- The value of a field of a page: register index `i`, place `k` within the register. -/
def State.get (s : State) (pg : Nat) (f : Fld) (i : Nat := 0) (k : Nat := 0) : Nat :=
  bits (s.reg (f.addr pg i)).toNat (f.lo + f.bstep * k) f.len

/-- The state with a field set to the low bits of a value. -/
def State.set (s : State) (pg : Nat) (f : Fld) (v : Nat) (i : Nat := 0) (k : Nat := 0) : State :=
  s.setReg (f.addr pg i) (setBits (s.reg (f.addr pg i)) (f.lo + f.bstep * k) f.len v)

/-- A one-bit field as a Bool. -/
def State.flag (s : State) (pg : Nat) (f : Fld) (i : Nat := 0) (k : Nat := 0) : Bool := s.get pg f i k == 1

/-- The signed value of a field. -/
def State.getS (s : State) (pg : Nat) (f : Fld) (i : Nat := 0) : Int := sext f.len (s.get pg f i)

/-- A bit of a mask register. -/
def State.maskBit (s : State) (pg : Nat) (f : Fld) (n : Nat) (i : Nat := 0) : Bool := bit (s.get pg f i) n

/-- The state with a bit of a mask register set or cleared. -/
def State.setMaskBit (s : State) (pg : Nat) (f : Fld) (n : Nat) (v : Bool) (i : Nat := 0) : State :=
  s.setReg (f.addr pg i) (setBits (s.reg (f.addr pg i)) (f.lo + n) 1 (b2n v))

/-- A 64-bit value held in a low-word field and the word after it. -/
def State.get64 (s : State) (pg : Nat) (lo : Fld) (i : Nat := 0) : Nat :=
  (s.reg (lo.addr pg i)).toNat + (s.reg (lo.addr pg i + 4)).toNat * 2 ^ 32

/-- The state with a 64-bit value in a low-word field and the word after it. -/
def State.set64 (s : State) (pg : Nat) (lo : Fld) (v : Nat) (i : Nat := 0) : State :=
  (s.setReg (lo.addr pg i) (BitVec.ofNat 32 v)).setReg (lo.addr pg i + 4) (BitVec.ofNat 32 (v / 2 ^ 32))

/-- A saturating count one up. -/
def State.incSat (s : State) (pg : Nat) (f : Fld) (i : Nat := 0) : State :=
  s.set pg f (satInc f.len (s.get pg f i)) i

/-- A saturating count `n` up. -/
def State.addSat (s : State) (pg : Nat) (f : Fld) (n : Nat) (i : Nat := 0) : State :=
  s.set pg f (satAdd f.len (s.get pg f i) n) i

/-- A wrapping count one up. -/
def State.incWrap (s : State) (pg : Nat) (f : Fld) (i : Nat := 0) : State :=
  s.set pg f (wrapInc f.len (s.get pg f i)) i

/-- Every register from an offset up to another at its reset word. -/
def State.clearRegs (s : State) (lo hi : Nat) : State :=
  { s with regs := s.regs.filter fun e => !(decide (lo ≤ e.1) && decide (e.1 < hi)) }

-- Units and domains -----------------------------------------------------------------------------------------

/-- The variant of the part. -/
def State.variant (s : State) : Variant := s.part.variant

/-- A page is present. -/
def State.present (s : State) (pg : Nat) : Bool := pagePresent s.part.variant pg

/-- A switched power domain is on (PWR_ON). -/
def State.domOn (s : State) (d : Nat) : Bool :=
  if d < 32 then s.maskBit pgPWR PWR_ON_LO d else s.maskBit pgPWR PWR_ON_HI (d - 32)

/-- The domain of a page is on; a page of AON always is (R46, R47). -/
def State.pageOn (s : State) (pg : Nat) : Bool := (pageDomains pg).all s.domOn

/-- The safe state (R443): TND_STATUS.SAFE. -/
def State.safe (s : State) : Bool := s.flag pgTND TND_STATUS.SAFE

/-- A block is enabled and powered (R47). -/
def State.runs (s : State) (pg : Nat) : Bool := s.flag pg PG_CTRL.EN && s.pageOn pg

/-- A block accepts new work (R47, R48). -/
def State.accepts (s : State) (pg : Nat) : Bool := s.runs pg && !s.flag pg PG_CTRL.QUIESCE

/-- Host-assisted mode of a page's function (R26). -/
def State.hostAssisted (s : State) (pg : Nat) : Bool := bit (s.get pg PG_MODE.FUNC) 0

-- Timestamp -------------------------------------------------------------------------------------------------

/-- The timestamp as a number. -/
def State.now (s : State) : Nat := s.ts.toNat

-- Memories and host memory ----------------------------------------------------------------------------------

/-- The byte at a BAR2 offset; a byte not listed is zero (R143). [Log 86 DESIGN CHOICE] -/
def State.byte (s : State) (off : Nat) : Byte := (aget s.mem off).getD 0

/-- The state with a byte of BAR2 memory written. -/
def State.setByte (s : State) (off : Nat) (b : Byte) : State :=
  { s with mem := if b = 0 then adel s.mem off else aput s.mem off b }

/-- `n` bytes from a BAR2 offset. -/
def State.bytes (s : State) : Nat → Nat → List Byte
  | _, 0 => []
  | off, n + 1 => s.byte off :: State.bytes s (off + 1) n

/-- Bytes written from a BAR2 offset on. -/
def State.setBytes (s : State) : Nat → List Byte → State
  | _, [] => s
  | off, b :: r => State.setBytes (s.setByte off b) (off + 1) r

/-- Bytes written where the mask has a one (byte enables, lowest first). -/
def State.setBytesEn (s : State) : Nat → Nat → List Byte → State
  | _, _, [] => s
  | off, be, b :: r => State.setBytesEn (if be % 2 == 1 then s.setByte off b else s) (off + 1) (be / 2) r

/-- A range of BAR2 memory back to zero. -/
def State.clearBytes (s : State) (lo hi : Nat) : State :=
  { s with mem := s.mem.filter fun e => !(decide (lo ≤ e.1) && decide (e.1 < hi)) }

/-- Bytes written to host memory by DMA. [Log 6 DESIGN CHOICE] -/
def State.toHost (s : State) : Nat → List Byte → State
  | _, [] => s
  | a, b :: r => State.toHost { s with host := aput s.host a b } (a + 1) r

/-- A fresh free value's index: the state with the model's counter advanced. [Log 7 DESIGN CHOICE] -/
def State.draw (s : State) : Nat × State := (s.free, { s with free := s.free + 1 })

/-- The host link is up with Bus Master Enable set: DMA masters proceed (R36). -/
def State.dmaOk (s : State) : Bool :=
  !(s.get pgDEV DEV_HOSTLINK.RATE == 0) && s.flag pgDEV DEV_HOSTLINK.BME

-- Setting words and frames ----------------------------------------------------------------------------------

/-- The setting word at an index of a copy (0 active, 1 shadow). -/
def State.setting (s : State) (copy idx : Nat) : Word := (aget s.setw (16384 * copy + idx)).getD 0

/-- The state with a setting word written. -/
def State.setSetting (s : State) (copy idx : Nat) (w : Word) : State :=
  { s with setw := if w = 0 then adel s.setw (16384 * copy + idx) else aput s.setw (16384 * copy + idx) w }

/-- The 7 SECDED check bits that a setting word carries (R209). [Log 99 DESIGN CHOICE] -/
def State.settingCheck (s : State) (copy idx : Nat) : BitVec 7 := Config.secded32 (s.setting copy idx)

/-- The index of pad word `n` (R152). -/
def padIdx (n : Nat) : Nat := 8192 + n

/-- 512 zero bytes. -/
def zeroFrame : List Byte := List.replicate 512 0

/-- The data of a frame of a physical plane. -/
def State.frame (s : State) (plane n : Nat) : List Byte := (aget s.frames (65536 * plane + n)).getD zeroFrame

/-- The address check of a frame (R151): the CRC-8 of the plane bit and the high and low byte of its number. -/
def addrCheck (plane n : Nat) : Byte :=
  crc8 [BitVec.ofNat 8 plane, BitVec.ofNat 8 (n / 256), BitVec.ofNat 8 n]

/-- The 96 check bits of a frame (R150): the SECDED field of word w in [11w+10:11w], the address check in [95:88].
[Log 99 DESIGN CHOICE] -/
def frameBits (plane n : Nat) (d : List Byte) : BitVec 96 :=
  BitVec.ofNat 96 (((List.range 8).map fun w =>
    (Config.secded512 ((d.drop (64 * w)).take 64)).toNat * 2 ^ (11 * w)).sum + (addrCheck plane n).toNat * 2 ^ 88)

/-- The check bits that a frame of a physical plane holds. [Log 99 DESIGN CHOICE] -/
def State.frameCheck (s : State) (plane n : Nat) : BitVec 96 :=
  (aget s.frameChk (65536 * plane + n)).getD (frameBits plane n zeroFrame)

/-- The state with a frame written; the write computes fresh check bits (R150), so no mark stays on it. -/
def State.setFrame (s : State) (plane n : Nat) (d : List Byte) : State :=
  { s with
    frames := if d = zeroFrame then adel s.frames (65536 * plane + n) else aput s.frames (65536 * plane + n) d,
    frameChk := aput s.frameChk (65536 * plane + n) (frameBits plane n d),
    badFrames := s.badFrames.filter (· != 65536 * plane + n) }

/-- The physical plane active for a bank (R187). -/
def State.activePlane (s : State) (b : Nat) : Nat := b2n (s.maskBit pgCCH CCH_ACTIVE_BANKS b)

-- Helpers over lists of unit numbers ------------------------------------------------------------------------

/-- An operation applied for each number of a list, first to last. -/
def State.each (s : State) (l : List Nat) (f : State → Nat → State) : State := l.foldl f s

/-- A run of operations guarded by a condition. -/
def State.when (s : State) (c : Bool) (f : State → State) : State := if c then f s else s

/-- The members of a bit mask below `n`. -/
def maskList (m n : Nat) : List Nat := (List.range n).filter (bit m)

end Sys2Proof.Machine
end

