-- ==== Sys2Proof/Machine/Array.lean ====
section
/-!
DEFINITION. The analogue array as it stands (chapter 08): the setting words of a sector and their validity (R227), the
modes in force of cells and pins, the switch matrix (R230-R233), and the signals that the cells make of the field's
(R220-R226). Voltages are rational numbers of microvolts.
-/
namespace Sys2Proof

/-- The integral that a cell starts from when its mode becomes INTEGRATOR, and the output of a cell that its own inputs form
a loop through: the spec gives neither a value (R224, R557). [Log 103 DESIGN CHOICE] -/
opaque Config.startVolt : Nat → Rat
/-- [Log 103 DESIGN CHOICE] -/
opaque Config.loopVolt : Nat → Rat

namespace Machine
open F

/-- Setting word `w` (0x000-0x3FF) of a sector in a copy (R228). [Log 55 DESIGN CHOICE] -/
def State.asWord (s : State) (copy sec w : Nat) : Nat := (s.setting copy (1024 * sec + w)).toNat

/-- CELL_CTRL.MODE of a cell's active words (R229); OFF, the mode of the reset settings, while one of them is
uncorrectable (R210). -/
def State.cellMode (s : State) (sec j : Nat) : Nat :=
  if s.badWords.any fun w => w / 4 == 256 * sec + j then 0 else bits (s.asWord 0 sec (4 * j)) 28 4

/-- The invalid words of cell `j` (R227, R229): addresses within the sector. A second instrumentation cell is
checked in its MODE only (R221); the code of a field is checked in the modes that use it, reserved bits in all. -/
def State.cellBad (s : State) (sec j : Nat) : List Nat :=
  let c := s.asWord 0 sec (4 * j)
  let g := s.asWord 0 sec (4 * j + 1)
  let f := s.asWord 0 sec (4 * j + 2)
  let a := s.asWord 0 sec (4 * j + 3)
  let mode := bits c 28 4
  let pos := j % 4
  let split : Bool :=
    (mode == 3 && !((pos == 0 || pos == 2) && s.cellMode sec (j + 1) == 4)) ||
      (mode == 4 && !((pos == 1 || pos == 3) && s.cellMode sec (j - 1) == 3))
  if mode == 4 then (if split then [4 * j] else [])
  else
    let inP := bits c 23 5
    let inN := bits c 18 5
    let own := 4 + pos
    (if mode > 7 || inP > 23 || inN > 23 || bits c 0 17 != 0 || inP == own || inN == own || split
      then [4 * j] else []) ++
    (if bits g 6 26 != 0 || ((mode == 2 || mode == 3 || mode == 5 || mode == 7) && bits g 0 6 > 40)
      then [4 * j + 1] else []) ++
    (if bits f 22 10 != 0 || bits f 3 1 != 0 ||
        (mode == 7 && (bits f 16 6 < 2 || bits f 8 8 < 16 || bits f 0 3 > 4)) then [4 * j + 2] else []) ++
    (if bits a 28 4 != 0 || bits a 12 2 != 0 || (mode == 6 && bits a 23 5 > 19) then [4 * j + 3] else [])

/-- PIN_CFG holds a reserved value (R233). -/
def pinBad (w : Nat) : Bool :=
  let m := bits w 0 4
  let drv := bits w 4 5
  let burden := bits w 12 12
  bits w 24 8 != 0 || bits w 9 3 != 0 || m > 3 ||
    (if m == 2 then burden < 10 else burden != 0) || (if m == 3 then drv < 4 || drv > 23 else drv != 0)

/-- The invalid pin, bus, channel, comparator and reserved words of a sector (R227, R228, R231, R233). The
words of CP126, CP127 and of absent comparators have no effect. -/
def State.otherBad (s : State) (sec : Nat) : List Nat :=
  ((List.range 16).map (0x080 + ·)).filter (fun w => pinBad (s.asWord 0 sec w)) ++
  ((List.range 16).map (0x090 + ·)).filter (fun w => s.asWord 0 sec w > 48) ++
  ((List.range 16).map (0x0A0 + ·)).filter (fun w => s.asWord 0 sec w > 19) ++
  ((List.range 16).map (0x0B0 + ·)).filter (fun w =>
    let c := 16 * sec + (w - 0x0B0)
    cpPresent s.variant c && c != 126 && c != 127 && s.asWord 0 sec w > 19) ++
  ((s.setw.map Prod.fst).filter fun k => k / 1024 == sec && k % 1024 ≥ 0x0C0).map (· % 1024)

/-- Every invalid active setting word of a sector, as PG_FE_ADDR names it: sector in [12:10], word in [9:0]. -/
def State.sectorBad (s : State) (sec : Nat) : List Nat :=
  (((List.range 32).flatMap (s.cellBad sec)) ++ s.otherBad sec).map (1024 * sec + ·)

/-- The cells that an invalid word turns off (R227), as AS_CELL_ERR holds them. -/
def cellErrMask (l : List Nat) : Nat :=
  ((List.range 32).map fun j => b2n (l.any fun a => a % 1024 < 128 && a % 1024 / 4 == j) * 2 ^ j).sum

/-- The device listens: it is secondary, waits for its peer, or has surrendered (R238, R468: roles 1, 2, 4). -/
def State.listening (s : State) : Bool :=
  let r := s.get pgTW TW_STATUS.ROLE
  r == 1 || r == 2 || r == 4

/-- The sector is enabled and powered (R242). -/
def State.asOn (s : State) (sec : Nat) : Bool := s.runs (pgAS sec)

/-- The mode in force of a pin: PIN_CFG.PMODE, but VIN while the sector is off or disabled (R242), the word is
invalid (R227), the pin has tripped (R236), or a CINT or VOUT pin listens (R238). -/
def State.pinMode (s : State) (sec i : Nat) : Nat :=
  let w := s.asWord 0 sec (0x080 + i)
  let m := bits w 0 4
  if !s.asOn sec || pinBad w || s.badWords.contains (1024 * sec + 0x080 + i) then 0
  else if s.maskBit (pgAS sec) AS_PIN_TRIP.SHUNT i || s.maskBit (pgAS sec) AS_PIN_TRIP.VOUT i then 0
  else if s.listening && (m == 1 || m == 3) then 0
  else m

-- Cells (R221-R226, R229) ---------------------------------------------------------------------------------------

/-- The number of a cell in the device (R218). -/
def cellKey (sec j : Nat) : Nat := 32 * sec + j

/-- The mode that a cell runs in: OFF while its sector is off or disabled (R242), its words are invalid (R227) or one of them
is uncorrectable (R210). -/
def State.modeInForce (s : State) (sec j : Nat) : Nat :=
  if s.asOn sec && (s.cellBad sec j).isEmpty then s.cellMode sec j else 0

/-- The gain code in force: the override of a cell with LIVE_GAIN, or CELL_GAIN.CODE (R241). -/
def State.gainCode (s : State) (sec j : Nat) : Nat :=
  if bit (s.asWord 0 sec (4 * j)) 17 && s.get (pgAS sec) AS_GAIN_OVR.OVR (j / 4) (j % 4) == 1 then
    s.get (pgAS sec) AS_GAIN_OVR.CODE (j / 4) (j % 4)
  else bits (s.asWord 0 sec (4 * j + 1)) 0 6

/-- The gain of a code 4 E + M: 2^(E - 3) x 1.25^M (R222). -/
def gainOf (code : Nat) : Rat := (2 : Rat) ^ (code / 4) / 8 * (5 / 4 : Rat) ^ (code % 4)

/-- The transimpedance of a code, in ohms (R222). -/
def ohmsOf (code : Nat) : Rat := 10000 * gainOf code

/-- The time constant of an integrating cell from its CELL_AUX word, in ns: 1 us x 2^E x 1.25^M (R224). -/
def tauOf (aux : Nat) : Rat := 1000 * (2 : Rat) ^ (bits aux 23 5) * (5 / 4 : Rat) ^ (bits aux 21 2)

/-- The offset of CELL_AUX.TRIM, in uV (R226). -/
def trimOf (aux : Nat) : Rat := 50 * (sext 12 (bits aux 0 12) : Rat)

/-- A biquad (R223): its switching rate in Hz, its angular corner w0 in rad/s, its quality, and the coefficients of s^2, s
w0 and w0^2 in the numerator and the denominator of H(s). -/
structure Biquad where
  fsw : Rat
  w0 : Rat
  q : Rat
  num : Rat × (Rat × Rat)
  den : Rat × (Rat × Rat)
  deriving DecidableEq, Repr

/-- The biquad of a CELL_FILT word (R223); a reserved RESP, which R227 turns off, answers with the notch. -/
def biquadOf (w : Nat) : Biquad :=
  let fsw : Rat := 500000000 / (2 : Rat) ^ (bits w 4 4 + 4)
  let q : Rat := 32 / (bits w 16 6 : Rat)
  { fsw := fsw, w0 := fsw * (bits w 8 8 : Rat) / 1024, q := q, den := (1, (1 / q, 1)),
    num := match bits w 0 3 with
      | 0 => (0, (0, 1))
      | 1 => (1, (0, 0))
      | 2 => (0, (1 / q, 0))
      | 4 => (1, (-1 / q, 1))
      | _ => (1, (0, 1)) }

/-- The limit of a cell's output stage: 11 V (R221). -/
def limit11 (x : Rat) : Rat := if x < -11000000 then -11000000 else if 11000000 < x then 11000000 else x

/-- The output of timer `n` is high (R82). -/
def State.timerHigh (s : State) (n : Nat) : Bool := ((aget s.timers n).bind Timer.fall).isSome

/-- The output of the timer that a cell names holds its sample-and-hold (R225). -/
def State.timerHolds (s : State) (sec j : Nat) : Bool :=
  let a := s.asWord 0 sec (4 * j + 3)
  s.modeInForce sec j != 0 && bit a 19 && s.timerHigh (bits a 14 5)

-- The switch matrix (R230-R233) ------------------------------------------------------------------------------------
-- A node of a sector is a cell (0-31) or a pin (32 + pin).

/-- The driver of bus `b` of a sector (R231); every switch is open while the sector is off (R242). -/
def State.busNode (s : State) (sec b : Nat) : Option Nat :=
  let w := s.asWord 0 sec (0x090 + b)
  if s.asOn sec ∧ 1 ≤ w ∧ w ≤ 48 then some (w - 1) else none

/-- The sector of channel `c` of a converter, and the channel's number in it. -/
def chanSector (n c : Nat) : Nat := 2 * n + c / 16

/-- The source of a channel: a cell, or a pin taken directly or over a bus; none for AGND or no path, which a sector that is
off has none of (R242). -/
def State.chanNode (s : State) (n c : Nat) : Option Nat :=
  let w := s.asWord 0 (chanSector n c) (0x0A0 + c % 16)
  if !s.asOn (chanSector n c) then none
  else if w == 1 then some (32 + c % 16)
  else if w == 2 || w == 3 then some (2 * (c % 16) + (w - 2))
  else if 4 ≤ w ∧ w ≤ 19 then s.busNode (chanSector n c) (w - 4)
  else none

/-- The node that an input code of cell `j` selects (R229). -/
def State.inputNode (s : State) (sec j code : Nat) : List Nat :=
  let q := j / 4
  if code == 2 || code == 3 then [32 + 2 * q + (code - 2)]
  else if 4 ≤ code ∧ code ≤ 7 then [4 * q + (code - 4)]
  else if 8 ≤ code ∧ code ≤ 23 then (s.busNode sec (code - 8)).toList
  else []

/-- A pin is driven by the array: its mode in force is VOUT, and the safe state has not released it (R233, R243). -/
def State.pinDriven (s : State) (sec i : Nat) : Bool := s.pinMode sec i == 3 && !s.safe

/-- The source that DRV of a VOUT pin names (R230, R233). -/
def State.drvNode (s : State) (sec i : Nat) : List Nat :=
  s.inputNode sec (4 * (i / 2)) (bits (s.asWord 0 sec (0x080 + i)) 4 5)

/-- The nodes that feed a node directly: the inputs that a cell's mode in force uses (R221), the source of a driven pin. -/
def State.feeders (s : State) (sec node : Nat) : List Nat :=
  if node < 32 then
    let c := s.asWord 0 sec (4 * node)
    let inP := s.inputNode sec node (bits c 23 5)
    match s.modeInForce sec node with
    | 0 | 4 => []
    | 1 => inP
    | _ => inP ++ s.inputNode sec node (bits c 18 5)
  else if s.pinDriven sec (node - 32) then s.drvNode sec (node - 32)
  else []

-- Signals (R220, R221) ----------------------------------------------------------------------------------------------

/-- The output of a cell from the voltages at its inputs, before its sample-and-hold: what its mode makes of them with its
trim, limited at 11 V (R221-R226). A cell that is OFF, and the second of an instrumentation amplifier, give 0 V to whatever
reads them. [Log 55 DESIGN CHOICE] -/
def State.cellForm (s : State) (sec j : Nat) (p n : Rat) : Rat :=
  let k := cellKey sec j
  let g := gainOf (s.gainCode sec j)
  let t := trimOf (s.asWord 0 sec (4 * j + 3))
  match s.modeInForce sec j with
  | 0 | 4 => 0
  | 1 => limit11 (p + t)
  | 5 => limit11 (t - ((aget s.cellI k).getD 0 : Rat) * ohmsOf (s.gainCode sec j) / 1000)
  | 6 => limit11 ((aget s.intV k).getD (Config.startVolt k) + t)
  | 7 => limit11 (g * ((aget s.cellH k).getD 0 : Rat) + t)
  | _ => limit11 (g * (p - n) + t)

/-- The diagnostic DAC forces a test point (R272): the input of cell `x`, or pin `x - 32`, of a sector, in uV. -/
def State.dacAt (s : State) (sec x : Nat) : Option Rat :=
  match (aget s.convs (sec / 2)).bind Conv.diag with
  | none => none
  | some d =>
    if d.closed.isSome && d.mode == 0 && chanSector (sec / 2) d.chan == sec && s.chanNode (sec / 2) d.chan == some x then
      some (5000 * (s.getS (pgCV (sec / 2)) CV_DIAG_CTRL.DAC : Rat))
    else none

/-- The voltage at a node of a sector, within `k` steps upstream: what a sample-and-hold holds, what a cell forms of its
inputs, what drives a pin, or what the field gives there. An open input, and AGND, read 0 V (R557).
[Log 55 DESIGN CHOICE, 103 DESIGN CHOICE] -/
def State.nodeVolt (s : State) (sec : Nat) : Nat → Nat → Rat
  | 0, x => Config.loopVolt (64 * sec + x)
  | k + 1, x =>
    let inp (j code : Nat) : Rat :=
      match s.inputNode sec j code with | [] => 0 | y :: _ => State.nodeVolt s sec k y
    if x < 32 then
      let c := s.asWord 0 sec (4 * x)
      if !s.asOn sec then 0
      else
        match aget s.heldV (cellKey sec x) with
        | some v => v
        | none => s.cellForm sec x ((s.dacAt sec x).getD (inp x (bits c 23 5))) (inp x (bits c 18 5))
    else if s.pinDriven sec (x - 32) then
      inp (4 * ((x - 32) / 2)) (bits (s.asWord 0 sec (0x080 + (x - 32))) 4 5)
    else ((aget s.pinV (16 * sec + (x - 32))).getD 0 : Rat)

/-- The voltage at a node; none is 0 V (R231: AGND). -/
def State.volt (s : State) (sec : Nat) (x : Option Nat) : Rat :=
  match x with | none => 0 | some x => s.nodeVolt sec 64 x

/-- The voltage that a channel of a converter carries: its source's, or the diagnostic DAC's on a pin path. -/
def State.chanVolt (s : State) (n c : Nat) : Rat :=
  let sec := chanSector n c
  match s.chanNode n c with
  | none => 0
  | some x => if x < 32 then s.volt sec (some x) else (s.dacAt sec x).getD (s.volt sec (some x))

/-- The voltages at the inputs of a cell. -/
def State.cellInputs (s : State) (sec j : Nat) : Rat × Rat :=
  let c := s.asWord 0 sec (4 * j)
  (s.volt sec (s.inputNode sec j (bits c 23 5)).head?, s.volt sec (s.inputNode sec j (bits c 18 5)).head?)

/-- What the field presents has changed: the voltages at pins, the currents into and the biquad responses of cells that the
new values name. -/
def State.setField (s : State) (f : Signals) : State :=
  let put (l : List (Nat × Int)) (n : List (Nat × Int)) : List (Nat × Int) :=
    n.foldl (fun t (e : Nat × Int) => aput t e.1 e.2) l
  { s with pinV := put s.pinV f.pins, cellI := put s.cellI f.currents, cellH := put s.cellH f.responses }

-- Integrators (R224) ---------------------------------------------------------------------------------------------------

/-- The cells whose active words have MODE 6. -/
def State.integrators (s : State) : List Nat :=
  (s.setw.filter fun (e : Nat × Word) =>
    decide (e.1 < 8192) && decide (e.1 % 1024 < 128) && e.1 % 4 == 0 && e.2.toNat / 2 ^ 28 == 6).map fun (e : Nat × Word) => e.1 / 1024 * 32 + e.1 % 1024 / 4

/-- `e` ns pass for one integrating cell: held at 0 V by its timer, or integrating the difference of its inputs, limited at
11 V. [Log 103 DESIGN CHOICE] -/
def State.integral (s : State) (e k : Nat) : Rat :=
  let sec := k / 32
  let j := k % 32
  let a := s.asWord 0 sec (4 * j + 3)
  let v := (aget s.intV k).getD (Config.startVolt k)
  if bit a 20 && s.timerHigh (bits a 14 5) then 0
  else
    let i := s.cellInputs sec j
    limit11 (v + (i.1 - i.2) * (e : Rat) / tauOf a)

/-- `e` ns pass for the analogue array. -/
def State.integrateAll (s : State) (e : Nat) : State :=
  let l := s.integrators.filter fun k => s.modeInForce (k / 32) (k % 32) == 6
  if e = 0 ∨ l.isEmpty then s
  else { s with intV := l.foldl (fun t k => aput t k (s.integral e k)) s.intV }

end Machine
end Sys2Proof
end

