-- ==== Sys2Proof/Machine/Flags.lean ====
section
/-!
DEFINITION. Status bits, interrupt conditions and vectors: the flag computations of R51 and R52.
-/
namespace Sys2Proof.Machine
open Sys2Proof F

/-- The word of a header register of a page. -/
def State.hdr (s : State) (pg off : Nat) : Word := s.reg (pg * 0x1000 + off)

/-- The interrupt condition of a page (R52): an enabled status bit, or a recorded fault with action code 1. -/
def State.irqCond (s : State) (pg : Nat) : Bool :=
  ((s.hdr pg 0x010) &&& (s.hdr pg 0x014)) != 0 ||
    Nat.land ((s.hdr pg 0x018).toNat % 8) ((aget s.faultIrq pg).getD 0) != 0

/-- The MSI-X table entry of a vector is masked: its vector control word is at 0x0030_0000 + 16 v + 12 (R37). -/
def State.vectorMasked (s : State) (v : Nat) : Bool := (s.reg (msixBase + 16 * v + 12)).toNat % 2 == 1

/-- The pending bit of a vector; the pending bit array starts at 0x0030_8000 (R37). [Log 14 PRESUMED] -/
def State.setVectorPending (s : State) (v : Nat) (p : Bool) : State :=
  let o := msixBase + 0x8000 + v / 32 * 4
  s.setReg o (setBits (s.reg o) (v % 32) 1 (b2n p))

/-- An MSI-X vector is sent; while its table entry is masked, or the function may not write to the host (Bus Master
Enable 0 or the link down, R36), its pending bit is set instead (R52: masking and pending follow the PCIe rules).
[Log 6 DESIGN CHOICE, 14 PRESUMED] -/
def State.sendVector (s : State) (v : Nat) : State :=
  if s.vectorMasked v || !s.dmaOk then s.setVectorPending v true else { s with msix := v :: s.msix }

/-- The pending vectors that are not masked are sent, lowest first, once the function may write to the host again.
[Log 14 PRESUMED] -/
def State.sendPending (s : State) : State :=
  s.each (List.range 2048) fun s v =>
    if s.dmaOk && !s.vectorMasked v && bit (s.reg (msixBase + 0x8000 + v / 32 * 4)).toNat (v % 32) then
      { s.setVectorPending v false with msix := v :: s.msix }
    else s

/-- A present page sends its vector. -/
def State.sendPage (s : State) (pg : Nat) : State :=
  match pageVector pg with
  | none => s
  | some v => if s.present pg then s.sendVector v else s

/-- The page sends its vector if an update has made its interrupt condition true (R52). -/
def State.irqRise (s : State) (pg : Nat) (s' : State) : State :=
  if s'.irqCond pg && !s.irqCond pg then s'.sendPage pg else s'

/-- The page sends its vector again after a write to PG_STATUS or PG_FAULT that leaves its condition true, or
that makes it true (R52). -/
def State.irqAfterWrite (s : State) (pg : Nat) : State := if s.irqCond pg then s.sendPage pg else s

/-- A hardware set of PG_STATUS bit `n` (R51): the bit is set, PG_SET_COUNT counts the set, and the interrupt
condition is evaluated again. -/
def State.setStatus (s : State) (pg n : Nat) : State :=
  s.irqRise pg ((s.setReg (pg * 0x1000 + 0x010) (setBits (s.hdr pg 0x010) n 1 1)).incWrap pg PG_SET_COUNT)

/-- Several hardware sets of one page. -/
def State.setStatuses (s : State) (pg : Nat) (l : List Nat) : State := s.each l fun s n => s.setStatus pg n

-- Time (R74, R79) -------------------------------------------------------------------------------------------------

def stSLEW_DONE : Nat := 3

/-- Loop edges from this one to the falling edge of the next slew tick, where a slew begins or goes on here: the
2^k-th tick after the present one, k of TB_SLEW_RATE (R79). -/
def State.slewEdges (s : State) : Nat := 2 ^ (s.get pgTB TB_SLEW_RATE + 1) + 1 - s.clk % 2

/-- The page of a comparator and a field of it. -/
def cpPage (c : Nat) : Nat := pgCP (c / 32)
def State.cp (s : State) (c : Nat) (f : Fld) : Nat := s.get (cpPage c) f (c % 32)
def State.setCp (s : State) (c : Nat) (f : Fld) (v : Nat) : State := s.set (cpPage c) f v (c % 32)

/-- The level that a comparator presents (R293). -/
def State.cpLevel (s : State) (c : Nat) : Nat := s.cp c CP_STATUS.LEVEL

/-- A comparator presents a level. -/
def State.cpPresentLevel (s : State) (c l : Nat) : State :=
  let changed := s.cpLevel c != l
  let s := s.setCp c CP_STATUS.LEVEL l
  let s :=
    if c % 32 < 16 then s.set (cpPage c) CP_LEVEL_LO.L l 0 (c % 16)
    else s.set (cpPage c) CP_LEVEL_HI.L l 0 (c % 16)
  { s with cpChanged := s.cpChanged || changed }

/-- The levels that comparators are to present by this edge are presented (R291, R293). -/
def State.presentDue (s : State) : State :=
  (s.cpDue.filter fun (e : Nat × (Nat × Nat)) => decide (e.1 ≤ s.clk)).foldl
    (fun s (e : Nat × (Nat × Nat)) => s.cpPresentLevel e.2.1 e.2.2)
    { s with cpDue := s.cpDue.filter fun (e : Nat × (Nat × Nat)) => decide (s.clk < e.1) }

/-- `e` loop edges pass, none of them the falling edge of a slew tick: the timestamp counts each (R79), the analogue
array integrates for 1 ns each, and comparators present what is due. -/
def State.skipEdges (s : State) (e : Nat) : State :=
  { s.integrateAll e with ts := s.ts + BitVec.ofNat 64 e, clk := s.clk + e, slewLeft := s.slewLeft - e }.presentDue

/-- The falling edge of a slew tick (R79): the count moves by 2 or holds, and the slew that is left comes 1 ns nearer
to 0; at 0 SLEW_DONE is set. [Log 36 DEDUCED] -/
def State.slewEdge (s : State) : State :=
  let a := s.getS pgTB TB_SLEW_AMOUNT
  let a' := if 0 < a then a - 1 else if a < 0 then a + 1 else 0
  let step : Nat := if 0 < a then 2 else if a < 0 then 0 else 1
  let s := { s.integrateAll 1 with ts := s.ts + BitVec.ofNat 64 step, clk := s.clk + 1, slewLeft := 0 }.presentDue
  let s := s.set pgTB TB_SLEW_AMOUNT (trunc 32 a')
  if a' = 0 then s.setStatus pgTB stSLEW_DONE else { s with slewLeft := s.slewEdges }

/-- `e` loop edges pass with the slew ticks among them; `k` bounds the slew ticks. -/
def State.runEdges : Nat → State → Nat → State
  | 0, s, _ => s
  | k + 1, s, e =>
    if s.slewLeft = 0 ∨ e < s.slewLeft then s.skipEdges e
    else State.runEdges k (s.skipEdges (s.slewLeft - 1)).slewEdge (e - s.slewLeft)

/-- `e` loop edges pass. [Log 4 DESIGN CHOICE] -/
def State.advance (s : State) (e : Nat) : State := State.runEdges (e / 16 + 2) s e

/-- The loop runs on to the first edge at which the timestamp reaches or passes `t`; `k` bounds the slew ticks. -/
def State.runTo : Nat → State → Nat → State
  | 0, s, _ => s
  | k + 1, s, t =>
    if t ≤ s.now then s
    else if s.slewLeft = 0 ∨ t - s.now < s.slewLeft then s.skipEdges (t - s.now)
    else State.runTo k (s.skipEdges (s.slewLeft - 1)).slewEdge t

/-- Time has run on to the first edge at which the timestamp reaches or passes an instant, if that lies ahead
(R79, R82). [Log 4 DESIGN CHOICE] -/
def State.reach (s : State) (t : Time) : State := State.runTo ((t.toNat - s.now) / 16 + 2) s t.toNat

/-- Time has run on to an edge of the loop, if that lies ahead. [Log 4 DESIGN CHOICE] -/
def State.reachClk (s : State) (c : Nat) : State := s.advance (c - s.clk)

/-- The timestamp at a loop edge that is present or has passed. [Log 5 DESIGN CHOICE] -/
def State.tsAt (s : State) (edge : Nat) : Time := s.ts - BitVec.ofNat 64 (s.clk - edge)

/-- The tick of a loop edge: the rising edge at or after it. -/
def tickOf (edge : Nat) : Nat := (edge + 1) / 2

/-- The next loop edge, from the present one on, of an event that comes every `period` edges from edge `off` and last came at
`last`. -/
def State.beat (s : State) (last : Option Nat) (off period : Nat) : Nat :=
  let from' := match last with | none => s.clk | some l => max s.clk (l + 1)
  off + (from' - off + (period - 1)) / period * period

/-- The next rising edge of the loop: the next tick. [Log 4 DESIGN CHOICE] -/
def State.nextTick (s : State) : State := s.advance (2 - s.clk % 2)

/-- The rising edge at or after this edge: the tick at which a write is applied. -/
def State.toTick (s : State) : State := s.advance (s.clk % 2)

-- PG_STATUS bits of the header
def stMODE_REJECT : Nat := 31
def stLOCKED_WRITE : Nat := 30

/-- TW_STATUS.ROLE (R468): 0 unpaired, 1 listening, 2 secondary, 3 primary, 4 surrendered. -/
def State.role (s : State) : Nat := s.get pgTW TW_STATUS.ROLE

/-- The device acts as a secondary (R468): roles 2 and 4. -/
def State.secondary (s : State) : Bool := s.role == 2 || s.role == 4

/-- A frame handed to the twin link (R465); nothing is sent while the link is down. [Log 6 DESIGN CHOICE] -/
def State.twinSend (s : State) (f : TwinMsg) : State :=
  if s.flag pgTW TW_STATUS.LINK_UP then { s with twin := { s.twin with out := f :: s.twin.out } } else s

/-- A frame of mirrored state from the primary (R477). -/
def State.mirror (s : State) (f : TwinMsg) : State := if s.role == 3 then s.twinSend f else s

-- Banks ------------------------------------------------------------------------------------------------------------

/-- The elements of a bank run: its domain is on, the staged release has enabled them, and no safe state and no
calender hold stalls their handshakes (R149, R200). -/
def State.bankRuns (s : State) (b : Nat) : Bool :=
  s.present (pgFB b) && s.pageOn (pgFB b) && !s.held.contains b && !s.flag (pgFB b) FB_STATE.FROZEN

/-- The memories of a bank take fabric accesses: a sheet has been couched, no couch stands between its exchange and its WR
step, and neither the safe state nor the calender stalls the bank (R195, R200, R208). -/
def State.memRuns (s : State) (b : Nat) : Bool :=
  s.present (pgFB b) && s.pageOn (pgFB b) && s.flag (pgFB b) FB_STATE.SHEET && !s.wrHeld.contains b &&
    !s.flag (pgFB b) FB_STATE.FROZEN

/-- The fabric event, stream and DMA ports of a bank accept transfers (R147, R192). -/
def State.portOpen (s : State) (b : Nat) : Bool := s.bankRuns b && !s.gatesClosed.contains b

end Sys2Proof.Machine
end

