-- ==== Sys2Proof/Machine/FabricCore.lean ====
section
/-!
DEFINITION. Fine tiles, word tiles and the networks between them (chapters 04 and 05): values, handshakes,
initial values.
-/
namespace Sys2Proof.Machine
open Sys2Proof F

-- PG_STATUS bits of the FB page (R149)
def stLL_CLASH : Nat := 0
def stECC_CORR : Nat := 1
def stECC_UNC : Nat := 2
def stWT_TRAP : Nat := 3
def stMIRROR_DROP : Nat := 4
def stSCRUB_PASS : Nat := 5

-- Tiles -------------------------------------------------------------------------------------------------------

/-- The key of a fine tile, and of a word tile. -/
def fineKey (b t : Nat) : Nat := 512 * b + t
def wordKey (b w : Nat) : Nat := 64 * b + w

def State.setFine (s : State) (b t : Nat) (x : FineTile) : State := { s with fine := aput s.fine (fineKey b t) x }
def State.setWord (s : State) (b w : Nat) (x : WordTile) : State := { s with word := aput s.word (wordKey b w) x }

/-- A couch of the bank is between its exchange and step 11, where the incoming mirror flags take effect (R199).
[Log 51 DEDUCED] -/
def State.mirrorPaused (s : State) (b : Nat) : Bool :=
  match s.couch with | some c => bit c.banks b && decide (5 ≤ s.get pgCCH CCH_STATE.STEP) | none => false

/-- A retained location is mirrored (R116): kind (0 TILE, 1 WREG, 2 WACC, 3 WPROG, 4 WCTX), tile, register. -/
def State.mirroredLoc (s : State) (kind b t r : Nat) : Bool :=
  !s.mirrorPaused b && s.retA.any fun e => e.mirror && e.kind == kind && e.bank == b && e.tile == t && (kind != 1 || e.reg == r)

/-- On a secondary, a mirrored location is written only from the twin link (R117). -/
def State.mirrorHeld (s : State) (kind b t r : Nat) : Bool := s.secondary && s.mirroredLoc kind b t r

-- Fine tiles (R91-R102) -----------------------------------------------------------------------------------------

def macOff : MacCfg :=
  { steer := .none, control := false, generate := false, pol := false, mode := .comb, carry := false, init := false }
def FineCfg.macAt (c : FineCfg) (m : Nat) : MacCfg := c.mac.getD m macOff

/-- A product term over the 44 signals: X0-X35 in bits 0-35, Q0-Q7 in bits 36-43 (R91). -/
def termVal (t : Term) (sig : Nat) : Bool := t.en && Nat.land t.pos sig == t.pos && Nat.land t.neg sig == 0

def FineCfg.term (c : FineCfg) (n sig : Nat) : Bool :=
  match c.terms[n]? with
  | none => false
  | some t => termVal t sig

/-- The OR of the terms of group `g` that have no role (R92, R93). -/
def FineCfg.groupSum (c : FineCfg) (g sig : Nat) : Bool :=
  (List.range 8).any fun i =>
    c.term (8 * g + i) sig && !(i == 0 && (c.macAt g).control) && !(i == 1 && (c.macAt g).generate)

/-- The sum of macrocell `m`: the groups steered to it (R92). -/
def FineCfg.sum (c : FineCfg) (m sig : Nat) : Bool :=
  let p := if m % 2 == 0 then m + 1 else m - 1
  ((c.macAt m).steer == .own && c.groupSum m sig) || ((c.macAt p).steer == .pair && c.groupSum p sig)

/-- The control term of a macrocell; none where it has no control term. -/
def FineCfg.ctl (c : FineCfg) (m sig : Nat) : Option Bool :=
  if (c.macAt m).control then some (c.term (8 * m) sig) else none

/-- The carry into each macrocell and out of the tile, from the carry in (R100, R101): the first `m` cells. Macrocell k
reads the signals `sg k`. -/
def FineCfg.carryAt (c : FineCfg) (sg : Nat → Nat) (ci : Bool) : Nat → Bool
  | 0 => ci
  | m + 1 =>
    let k := c.carryAt sg ci m
    if (c.macAt m).carry then ((c.macAt m).generate && c.term (8 * m + 1) (sg m)) || (c.sum m (sg m) && k) else k

/-- D of a macrocell (R93, R101). -/
def FineCfg.d (c : FineCfg) (m : Nat) (sg : Nat → Nat) (ci : Bool) : Bool :=
  let p := xor (c.sum m (sg m)) (c.macAt m).pol
  if (c.macAt m).carry then xor p (c.carryAt sg ci m) else p

/-- The 44 signals of a tile. -/
def signals (x q : Nat) : Nat := x % 2 ^ 36 + q % 256 * 2 ^ 36

/-- The bits of the eight macrocells. -/
def byteOf (f : Nat → Bool) : Nat := ((List.range 8).map fun m => b2n (f m) * 2 ^ m).sum

/-- The states after the transparent latches have followed D (R94); macrocell m sees the external inputs `xs m`.
[Log 40 DESIGN CHOICE, 97 DESIGN CHOICE] -/
def FineCfg.latched (c : FineCfg) (xs : Nat → Nat) (q : Nat) (ci : Bool) : Nat :=
  let sg := fun m => signals (xs m) q
  byteOf fun m =>
    if (c.macAt m).mode == .latch then (if (c.ctl m (sg m)).getD true then c.d m sg ci else bit q m) else bit q m

/-- The states after a capture event (R94): the clear wins. [Log 97 DESIGN CHOICE] -/
def FineCfg.captured (c : FineCfg) (xs : Nat → Nat) (q : Nat) (ci : Bool) : Nat :=
  let sg := fun m => signals (xs m) q
  byteOf fun m =>
    let clear := (c.ctl m (sg m)).getD false
    match (c.macAt m).mode with
    | .hreg => !clear && c.d m sg ci
    | .tog => !clear && xor (bit q m) (c.d m sg ci)
    | _ => bit q m

/-- A registered tile (R95): some macrocell is a handshake register or a toggle. -/
def FineCfg.registered (c : FineCfg) : Bool := c.mac.any fun m => m.mode == .hreg || m.mode == .tog

/-- A pass-through tile (R95): every macrocell is COMB. -/
def FineCfg.passThrough (c : FineCfg) : Bool := c.mac.all fun m => m.mode == .comb

/-- The signals that every macrocell of a tile sees while nothing changes. -/
def FineTile.sig (t : FineTile) : Nat → Nat := fun _ => signals t.xv t.q

/-- The carry into the base tile of a chain (R100). -/
def FineTile.baseCarry (t : FineTile) (xv : Nat) : Bool :=
  match t.cfg.carryIn with
  | .zero => false
  | .one => true
  | .x35 => bit xv 35

/-- The carry into a tile (R100): the carry out of the tile below it in its chain; `k` bounds the tiles of the column. -/
def State.carryInto : Nat → State → Nat → Nat → Bool
  | 0, _, _, _ => false
  | k + 1, s, b, t =>
    match aget s.fine (fineKey b t) with
    | none => false
    | some x =>
      if x.cfg.chain != 0 then x.baseCarry x.xv
      else if !x.cfg.inChain || t % 32 == 0 then false
      else
        match aget s.fine (fineKey b (t - 1)) with
        | none => false
        | some y => y.cfg.carryAt y.sig (State.carryInto k s b (t - 1)) 8

/-- The carry into tile `t` of bank `b`. -/
def State.carryIn (s : State) (b t : Nat) : Bool := State.carryInto 32 s b t

/-- The base tile of a tile's chain; `k` bounds the tiles of the column. -/
def State.chainBase : Nat → State → Nat → Nat → Nat
  | 0, _, _, t => t
  | k + 1, s, b, t =>
    match aget s.fine (fineKey b t) with
    | none => t
    | some x => if x.cfg.chain != 0 || !x.cfg.inChain || t % 32 == 0 then t else State.chainBase k s b (t - 1)

/-- The tiles of the chain whose base tile is `t` (R100). -/
def State.chainTiles (s : State) (b t : Nat) : List (Nat × FineTile) :=
  match aget s.fine (fineKey b t) with
  | none => []
  | some x => (List.range x.cfg.chain).filterMap fun i => (aget s.fine (fineKey b (t + i))).map fun y => (t + i, y)

/-- The tiles that capture or forward as one stage with a tile: its chain, or itself (R102). -/
def State.stage (s : State) (b t : Nat) : List (Nat × FineTile) :=
  match aget s.fine (fineKey b t) with
  | none => []
  | some x => if x.cfg.inChain then s.chainTiles b (State.chainBase 32 s b t) else [(t, x)]

/-- The value that a tile's outputs present: states, or D for a COMB macrocell, and in bit 8 CO: as the last capture of
its chain left it, or of a chain with no register the carry out as it is (R94, R100, R101). -/
def State.outVal (s : State) (b t : Nat) (x : FineTile) : Nat :=
  let ci := s.carryIn b t
  let top := x.cfg.inChain && ((s.stage b t).getLast?.map Prod.fst) == some t
  let co := if (s.stage b t).any (fun e => e.2.cfg.registered) then x.co else top && x.cfg.carryAt x.sig ci 8
  byteOf (fun m => if (x.cfg.macAt m).mode == .comb then x.cfg.d m x.sig ci else bit x.q m) + b2n co * 256

/-- Every input of the tile's join set carries new data (R95). -/
def FineTile.joined (t : FineTile) : Bool := Nat.land t.cfg.join t.xnew == t.cfg.join

-- Word tiles ------------------------------------------------------------------------------------------------------

/-- A word tile at its initial values (R113). -/
def WordCfg.initial (c : WordCfg) : WordTile :=
  { cfg := c, l := (List.range 8).map fun i => c.linit.getD i 0, acc := 0, prog := 0, c0 := 0, c1 := 0, f := false,
    pc := 0, ins := [none, none, none, none], outs := [none, none], halted := false }

/-- A fine tile at its initial values (R113). A COMB macrocell has no state: its feedback and its retained bit read 0.
[Log 97 DESIGN CHOICE] -/
def FineCfg.initial (c : FineCfg) : FineTile :=
  { cfg := c, q := byteOf fun m => (c.macAt m).init && (c.macAt m).mode != .comb, xv := 0, xnew := 0, co := false }

-- Networks --------------------------------------------------------------------------------------------------------

/-- The bank of a fabric port; lane l of SQq connects to FB(2q + 1) (R514). -/
def FabPort.bank : FabPort → Nat
  | .mem b _ _ => b
  | .event b _ => b
  | .worker b _ => b
  | .stream b => b
  | .dma b => b
  | .lane q _ => 2 * q + 1

/-- A number for each fabric port. -/
def FabPort.key : FabPort → Nat
  | .mem b k second => 48 * b + 2 * k + b2n second
  | .event b i => 2048 + 8 * b + i
  | .worker b i => 2304 + 8 * b + i
  | .stream b => 2560 + b
  | .dma b => 2592 + b
  | .lane q l => 2624 + 4 * q + l

/-- The bank in which a producer lies; none for the inbound bits of a route and for what lies outside the banks. -/
def Src.bank : Src → Option Nat
  | .fine b _ => some b
  | .wordOut b _ _ => some b
  | .tap b _ => some b
  | .port p => some p.bank
  | .cancel b _ => some b
  | .net _ | .comp _ | .timer _ | .pad _ => none

/-- The bank in which a consumer lies. -/
def Dst.bank : Dst → Option Nat
  | .x b _ _ _ => some b
  | .wordIn b _ _ => some b
  | .drive b _ _ => some b
  | .enable b _ _ => some b
  | .port p _ => some p.bank
  | .net _ | .start _ _ | .trigger _ _ _ | .strobe _ _ | .padOut _ _ | .padEn _ _ => none

/-- A consumer outside the fabric that the OUT step of staged release connects (R200). -/
def Dst.line : Dst → Bool
  | .start _ _ | .trigger _ _ _ | .strobe _ _ => true
  | _ => false

/-- No bundle of a producer waits for an acknowledge. -/
def State.srcFree (s : State) (x : Src) : Bool :=
  s.nets.all fun (e : Nat × Net) => e.2.src != x || e.2.kind == .level || e.2.val.isNone

/-- A producer presents a value on every bundle that it feeds (R126, R128); each carries its bits of it. -/
def State.present' (s : State) (x : Src) (v : Nat) : State :=
  { s with nets := s.nets.map fun (e : Nat × Net) =>
      if e.2.src = x ∧ e.2.kind ≠ .level then
        (e.1, { e.2 with val := some (bits v e.2.lo e.2.width), delivered := false })
      else e }

/-- What has come in on the channel to a fabric port. -/
def State.portGot (s : State) (p : FabPort) : PortIn := (aget s.portIn p.key).getD { val := 0, got := [] }

/-- A transfer stands whole on the channel to a fabric port: every bundle that feeds the channel has arrived.
[Log 98 DESIGN CHOICE] -/
def State.portFull (s : State) (p : FabPort) : Bool :=
  (aget s.portIn p.key).isSome && s.nets.all fun (e : Nat × Net) =>
    e.2.dsts.all fun d => match d with | .port q lo => q != p || (s.portGot p).got.contains lo | _ => true

/-- A chain that takes its inputs from the fabric stream port of bank `b` (R278). -/
def State.chainOfPort (s : State) (c b : Nat) : Bool :=
  s.get (pgFC (c / 16)) FC_SRC.KIND (c % 16) == 1 && s.get (pgFC (c / 16)) FC_SRC.NUM (c % 16) == b

/-- The submission or word that a fabric port has handed on and that still waits: for the scheduler or the span link (R334,
R488), for a ring or for a filter chain (R279, R371). -/
def State.portBusy (s : State) (p : FabPort) : Bool :=
  match p with
  | .event b i => (aget s.subWait (0x100 + 8 * b + i)).isSome || (aget s.spanWait (8 * b + i)).isSome
  | .stream b => (aget s.portWait b).isSome || s.chainIn.any fun (e : Nat × (Word × Time)) => s.chainOfPort e.1 b
  | _ => false

/-- A consumer can take a value: a word-tile input whose buffer is empty, a route whose value has left, a driver
tap with no value waiting, a fabric-port channel between transfers; a fine-tile input whose last value has been
captured. -/
def State.dstFree (s : State) (d : Dst) : Bool :=
  match d with
  | .x b t pin _ =>
    match aget s.fine (fineKey b t) with
    | none => true
    | some x => !(bit x.cfg.join pin && bit x.xnew pin)
  | .wordIn b w ch =>
    match aget s.word (wordKey b w) with
    | none => false
    | some x => (x.ins.getD ch none).isNone
  | .net id =>
    match aget s.nets id with
    | none => false
    | some n => n.val.isNone
  | .drive b tap _ => (aget s.tapIn (128 * b + tap)).isNone
  | .port p lo => !(s.portGot p).got.contains lo && !s.portBusy p
  | .enable _ _ _ | .start _ _ | .trigger _ _ _ | .strobe _ _ | .padOut _ _ | .padEn _ _ => true

/-- A value reaches a consumer. [Log 98 DESIGN CHOICE] -/
def State.deliver (s : State) (v : Nat) (d : Dst) : State :=
  match d with
  | .x b t pin k =>
    match aget s.fine (fineKey b t) with
    | none => s
    | some x =>
      s.setFine b t { x with
        xv := x.xv % 2 ^ pin + b2n (bit v k) * 2 ^ pin + x.xv / 2 ^ (pin + 1) * 2 ^ (pin + 1),
        xnew := Nat.lor x.xnew (2 ^ pin) }
  | .wordIn b w ch =>
    match aget s.word (wordKey b w) with
    | none => s
    | some x => s.setWord b w { x with ins := x.ins.set ch (some (BitVec.ofNat 32 v)) }
  | .net id =>
    match aget s.nets id with
    | none => s
    | some n => { s with nets := aput s.nets id { n with val := some (bits v n.lo n.width), delivered := false } }
  | .drive b tap k => { s with tapIn := aput s.tapIn (128 * b + tap) (bit v k, false) }
  | .port p lo =>
    let g := s.portGot p
    { s with portIn := aput s.portIn p.key { val := Nat.lor g.val (v * 2 ^ lo), got := lo :: g.got } }
  | .enable _ _ _ | .start _ _ | .trigger _ _ _ | .strobe _ _ | .padOut _ _ | .padEn _ _ => s

/-- A consumer has acknowledged the value that stands at it. A fine-tile input outside the join set and a word-tile
buffer acknowledge at once; a fabric port when it has taken the transfer. [Log 42 DEDUCED] -/
def State.acked (s : State) (d : Dst) : Bool :=
  match d with
  | .x b t pin _ =>
    match aget s.fine (fineKey b t) with
    | none => true
    | some x => !(bit x.cfg.join pin && bit x.xnew pin)
  | .wordIn _ _ _ => true
  | .net id =>
    match aget s.nets id with
    | none => true
    | some n => n.val.isNone
  | .drive b tap _ => (aget s.tapIn (128 * b + tap)).isNone
  | .port p lo => !(s.portGot p).got.contains lo && !s.portBusy p
  | .enable _ _ _ | .start _ _ | .trigger _ _ _ | .strobe _ _ | .padOut _ _ | .padEn _ _ => true

/-- A delivered value that every consumer has acknowledged leaves its bundle or route (steps 4 to 7 of R126 and
R128); a route's consumers are the bundles of its inbound bits as well. [Log 42 DEDUCED] -/
def State.netDone (s : State) (e : Nat × Net) : Bool :=
  e.2.kind != .level && e.2.val.isSome && e.2.delivered && e.2.dsts.all s.acked &&
    (e.2.kind == .crossbar || s.srcFree (.net e.1))

/-- The driver taps of a line. -/
def State.lineTaps (s : State) (b line : Nat) : List Tap := (aget s.taps (64 * b + line)).getD []

/-- The joined inputs of every tile of a stage acknowledged. -/
def State.clearJoined (s : State) (b : Nat) (l : List (Nat × FineTile)) : State :=
  l.foldl (fun s (e : Nat × FineTile) =>
    match aget s.fine (fineKey b e.1) with
    | none => s
    | some f => s.setFine b e.1 { f with xnew := Nat.land f.xnew (2 ^ 36 - 1 - f.cfg.join) }) s

/-- A lane with nothing in its ports. -/
def laneOff : Lane := { tx := [], rx := [], gap := false, line := [] }
def State.lane (s : State) (q l : Nat) : Lane := (aget s.lanes (4 * q + l)).getD laneOff
def State.setLane (s : State) (q l : Nat) (x : Lane) : State :=
  { s with lanes := if x = laneOff then adel s.lanes (4 * q + l) else aput s.lanes (4 * q + l) x }

/-- A transfer of a lane port as one value of its channel: D0 in the lowest bits, then D1-D3 and C (R514). -/
def laneVal (t : List Word) : Nat := leNat (t.flatMap wordBytes)
def laneWords (v : Nat) : List Word := (List.range 5).map fun i => BitVec.ofNat 32 (v / 2 ^ (32 * i))

/-- The lane port of a lane presents its oldest received transfer to the fabric, where the channel is free and the sheet
attaches it (R514). [Log 98 DESIGN CHOICE] -/
def State.lanePresent (s : State) (q l : Nat) : State :=
  let x := s.lane q l
  match x.rx with
  | [] => s
  | t :: r =>
    if (s.nets.any fun (e : Nat × Net) => decide (e.2.src = .port (.lane q l))) && s.srcFree (.port (.lane q l)) then
      (s.setLane q l { x with rx := r }).present' (.port (.lane q l)) (laneVal t)
    else s

/-- The lane port of a lane takes the transfer that stands on its channel, while it holds fewer than 64 (R514). -/
def State.laneTake (s : State) (q l : Nat) : State :=
  let x := s.lane q l
  if s.portFull (.lane q l) && decide (x.tx.length < 64) then
    { s.setLane q l { x with tx := x.tx ++ [laneWords (s.portGot (.lane q l)).val] } with
      portIn := adel s.portIn (FabPort.lane q l).key }
  else s

/-- The next word that the dispatch channel of worker port `w` carries is presented (R339). -/
def State.nextWord (s : State) (w : Nat) : State :=
  match aget s.dispOut w with
  | some (v :: r) =>
    { s with dispOut := if r.isEmpty then adel s.dispOut w else aput s.dispOut w r }.present'
      (.port (.worker (w / 7) (w % 7))) v.toNat
  | _ => { s with dispOut := adel s.dispOut w }

/-- What a producer does once every consumer has acknowledged its value: a word-tile output is empty (R110); a
pass-through tile or chain passes the acknowledge back (R97, R102); the value of a long line's driver tap counts as taken
(R135); a worker port presents the next word of its dispatch channel (R339), and a lane port its next transfer (R514). -/
def State.emptyOut (s : State) (x : Src) : State :=
  if !s.srcFree x then s
  else
    match x with
    | .wordOut b w o =>
      match aget s.word (wordKey b w) with
      | none => s
      | some t => s.setWord b w { t with outs := t.outs.set o none }
    | .fine b t =>
      let st := s.stage b t
      if (st.all fun e => e.2.cfg.passThrough) && (st.all fun e => s.srcFree (.fine b e.1)) then s.clearJoined b st else s
    | .tap b line =>
      let l := s.lineTaps b line
      { s with tapIn := s.tapIn.filter fun (e : Nat × (Bool × Bool)) =>
          !(e.1 / 128 == b && e.2.2 && l.any fun t => t.tap == e.1 % 128) }
    | .port (.worker b i) => s.nextWord (7 * b + i)
    | .port (.lane q l) => s.lanePresent q l
    | _ => s

/-- One pass over the bundles: acknowledged values leave, and with them what their producers held. -/
def State.settleOnce (s : State) : State :=
  match s.nets.find? s.netDone with
  | none => s
  | some e =>
    let s := { s with nets := aput s.nets e.1 { e.2 with val := none, delivered := false } }
    s.emptyOut e.2.src

/-- A pass-through tile, or a chain of them, whose joined inputs are all new forwards them as its output request; with no
consumer they are acknowledged at once (R97, R102). -/
def State.forwardOne (s : State) (b t : Nat) : State :=
  let st := s.stage b t
  if !st.isEmpty && (st.all fun e => e.2.cfg.passThrough) && (st.any fun e => e.2.cfg.join != 0) &&
      (st.all fun e => e.2.joined) && (st.all fun e => s.srcFree (.fine b e.1)) && s.bankRuns b then
    let s := st.foldl (fun s (e : Nat × FineTile) => s.present' (.fine b e.1) (s.outVal b e.1 e.2)) s
    if st.all fun e => s.srcFree (.fine b e.1) then s.clearJoined b st else s
  else s

def State.settleN : Nat → State → State
  | 0, s => s
  | k + 1, s => State.settleN k s.settleOnce

/-- All acknowledges that follow from one another; each bundle's value leaves at most once. -/
def State.settle (s : State) : State := State.settleN s.nets.length s

/-- A fabric port has taken the transfer that stood on its channel. -/
def State.takePort (s : State) (p : FabPort) : State := { s with portIn := adel s.portIn p.key }.settle

/-- A long line is held at null (R137). -/
def State.lineNull (s : State) (b line : Nat) : Bool :=
  if line < 32 then s.maskBit (pgFB b) FB_LL_NULL_LO line else s.maskBit (pgFB b) FB_LL_NULL_HI (line - 32)

end Sys2Proof.Machine
end

