-- ==== Sys2Proof/Machine/StreamCore.lean ====
section
/-!
DEFINITION. Stream rings (chapter 13): offering an item, closing and discarding blocks, the bytes of a block.
-/
namespace Sys2Proof.Machine
open Sys2Proof F

-- PG_STATUS bits of the ST page (R380): COMMIT is bit k, LOSS bit 4 + k
def stST_LOSS : Nat := 4
def stCFG_REJECT : Nat := 8
def stRP_REJECT : Nat := 9
def stBUF_WRITE : Nat := 10

/-- Stream source codes of R363. -/
def srcTrace : Nat := 0x60
def srcPort (b : Nat) : Nat := 0x80 + b
def srcSnapshot : Nat := 0xC0
def srcFaultLog : Nat := 0xC1

/-- The source exists on a variant (R363). -/
def srcPresent (v : Variant) (src : Nat) : Bool :=
  if src < 0x04 then src < nConverters v
  else if 0x10 ≤ src ∧ src < 0x50 then src - 0x10 < nChains v
  else if src == 0x60 then true
  else if 0x80 ≤ src ∧ src < 0xA0 then src - 0x80 < nBanks v
  else src == 0xC0 || src == 0xC1

/-- Format code and item bytes of a source (R363); a task ring has format 7 and items of no fixed length. -/
def srcFormat (src : Nat) : Nat :=
  if src < 0x04 then 1 else if src < 0x50 then 2 else if src == 0x60 then 3 else if src < 0xA0 then 4
  else if src == 0xC0 then 5 else 6

def formatSize (fmt : Nat) : Nat :=
  match fmt with | 3 => 16 | 5 => 40 | 6 => 32 | 7 => 32 | _ => 4

/-- An empty ring. -/
def emptyRing : Ring := { cur := none, closed := [], lost := 0, gap := false, begun := false }

/-- The state of ring `r`. -/
def State.ring (s : State) (r : Nat) : Ring := (aget s.rings r).getD emptyRing

def State.setRing (s : State) (r : Nat) (x : Ring) : State :=
  { s with rings := if x = emptyRing then adel s.rings r else aput s.rings r x }

/-- The page of a ring. -/
def ringPage (r : Nat) : Nat := pgST (r / 4)

/-- A field of ring `r`. -/
def State.rget (s : State) (r : Nat) (f : Fld) : Nat := s.get (ringPage r) f (r % 4)

/-- Block bytes B, buffer blocks, and host-ring blocks C (R365, R368; in host-assisted mode R377). -/
def State.ringB (s : State) (r : Nat) : Nat := 2 ^ (s.rget r ST_RING_CFG.BLOCK + 8)
def State.ringBlocks (s : State) (r : Nat) : Nat := s.rget r ST_RING_BUF.BLOCKS
def State.ringC (s : State) (r : Nat) : Nat :=
  if s.hostAssisted (ringPage r) then s.ringBlocks r
  else 2 ^ (s.rget r ST_RING_CFG.SIZE + 12) / s.ringB r

/-- The ring is enabled. -/
def State.ringEn (s : State) (r : Nat) : Bool := s.rget r ST_RING_CFG.EN == 1

/-- The enabled ring that carries a source (R363). -/
def State.ringOf (s : State) (src : Nat) : Option Nat :=
  (List.range 64).find? fun r =>
    s.ringEn r && s.rget r ST_RING_CFG.TASKS == 0 && s.rget r ST_RING_CFG.SRC == src

/-- The enabled task ring of an engine (R376). -/
def State.taskRing (s : State) (e : Nat) : Option Nat :=
  ((List.range 4).map (4 * e + ·)).find? fun r => s.ringEn r && s.rget r ST_RING_CFG.TASKS == 1

/-- The ring accepts items: it is enabled, its engine runs, the page is not quiesced (R47, R380), and no press is
in progress (R375, R407). -/
def State.ringAccepts (s : State) (r : Nat) : Bool := s.ringEn r && s.accepts (ringPage r) && s.press.isNone

/-- Format of what a ring carries. -/
def State.ringFormat (s : State) (r : Nat) : Nat :=
  if s.rget r ST_RING_CFG.TASKS == 1 then 7 else srcFormat (s.rget r ST_RING_CFG.SRC)

/-- The block in progress closes (R367): TORN if a further item would still have fitted. -/
def State.closeBlock (s : State) (r : Nat) : State :=
  let x := s.ring r
  match x.cur with
  | none => s
  | some b =>
    let torn := decide (b.data.length + formatSize (s.ringFormat r) ≤ s.ringB r - 32)
    s.setRing r { x with cur := none, closed := x.closed ++ [{ b with torn := torn }] }

/-- Whether an item of `n` bytes fits the block in progress. -/
def State.itemFits (s : State) (r n : Nat) : Bool :=
  match (s.ring r).cur with
  | none => false
  | some b => decide (b.data.length + n ≤ s.ringB r - 32)

/-- An item is placed in the ring's buffer, or `none` where it cannot be accepted (R371). A new block takes the
losses before it. -/
def State.placeItem (s : State) (r : Nat) (item : List Byte) (t : Time) (invalid : Bool) : Option State :=
  if !s.ringAccepts r then none
  else
    let s := if s.itemFits r item.length then s else s.closeBlock r
    let x := s.ring r
    match x.cur with
    | some b =>
      let b' := { b with data := b.data ++ item, count := b.count + 1, invalid := b.invalid || invalid }
      some (s.setRing r { x with cur := some b' })
    | none =>
      if x.closed.length < s.ringBlocks r then
        let b : Block :=
          { data := item, count := 1, time := t, lost := x.lost, gap := x.gap, invalid := invalid, torn := false,
            start := !x.begun }
        some (s.setRing r { x with cur := some b, lost := 0, gap := false, begun := true })
      else none

/-- The closing that a full block undergoes when its next item arrives, accepted or not. -/
def State.closeFull (s : State) (r n : Nat) : State :=
  if s.ringAccepts r && !s.itemFits r n then s.closeBlock r else s

/-- A loss to ring `r` (R371): counted in ST_RINGk_LOST and for the next block, and flagged. -/
def State.loseItem (s : State) (r : Nat) : State :=
  let x := s.ring r
  ((s.setRing r { x with lost := satInc 32 x.lost }).incSat (ringPage r) ST_RING_LOST (r % 4)).setStatus
    (ringPage r) (stST_LOSS + r % 4)

/-- A source other than a fabric stream port or a task ring presents an item (R371). Answers the state and
whether the item was lost to an enabled ring; with no enabled ring the item goes nowhere. -/
def State.offerItem (s : State) (src : Nat) (item : List Byte) (t : Time) (invalid : Bool := false) :
    Bool × State :=
  match s.ringOf src with
  | none => (false, s)
  | some r =>
    match s.placeItem r item t invalid with
    | some s' => (false, s')
    | none => (true, (s.closeFull r item.length).loseItem r)

/-- A fabric stream port presents a word, or waits with it (R371). -/
def State.offerPort (s : State) (b : Nat) (w : Word) : State :=
  let waits := { s with portWait := aput s.portWait b w }
  match s.ringOf (srcPort b) with
  | none => waits
  | some r =>
    match s.placeItem r (wordBytes w) s.ts false with
    | some s' => s'
    | none => { (s.closeFull r 4) with portWait := aput s.portWait b w }

/-- A waiting fabric stream port is served again after room or a ring has come. -/
def State.servePort (s : State) (r : Nat) : State :=
  let src := s.rget r ST_RING_CFG.SRC
  if s.ringEn r && s.rget r ST_RING_CFG.TASKS == 0 && decide (0x80 ≤ src) && decide (src < 0xA0) then
    match aget s.portWait (src - 0x80) with
    | none => s
    | some w => ({ s with portWait := adel s.portWait (src - 0x80) }.offerPort (src - 0x80) w).settle
  else s

/-- Every uncommitted block of a ring discarded (R373): its items go to the LOST field of the next committed
block, and each adds 1 to ST_RINGk_DISCARD. [Log 66 DEDUCED] -/
def State.discardRing (s : State) (r : Nat) : State :=
  let x := s.ring r
  let l := x.closed ++ x.cur.toList
  if l.isEmpty then s
  else
    let lost := satAdd 32 x.lost ((l.map fun b => b.count + b.lost).sum)
    (s.setRing r { x with cur := none, closed := [], lost := lost, gap := true }).addSat
      (ringPage r) ST_RING_DISCARD l.length (r % 4)

/-- One closed block of a ring discarded (R373, fault source 1): `n` counts from the oldest. Its items go to
the LOST field of the next committed block. [Log 66 DEDUCED] -/
def State.discardBlock (s : State) (r n : Nat) : State :=
  let x := s.ring r
  match x.closed[n]? with
  | none =>
    match x.cur with
    | none => s
    | some b =>
      (s.setRing r { x with cur := none, lost := satAdd 32 x.lost (b.count + b.lost), gap := true }).addSat
        (ringPage r) ST_RING_DISCARD 1 (r % 4)
  | some b =>
    let before := x.closed.take n
    let x' : Ring :=
      match x.closed.drop (n + 1) with
      | c :: rest =>
        { x with closed := before ++ { c with lost := satAdd 32 c.lost (b.count + b.lost), gap := true } :: rest }
      | [] =>
        match x.cur with
        | some c =>
          let c := { c with lost := satAdd 32 c.lost (b.count + b.lost), gap := true }
          { x with closed := before, cur := some c }
        | none => { x with closed := before, lost := satAdd 32 x.lost (b.count + b.lost), gap := true }
    (s.setRing r x').addSat (ringPage r) ST_RING_DISCARD 1 (r % 4)

/-- The bytes of a committed block of ring `r` (R365). `dev` is the span address of the device. [Log 66 DEDUCED] -/
def State.blockBytes (s : State) (r dev : Nat) (b : Block) : List Byte :=
  let src := if s.rget r ST_RING_CFG.TASKS == 1 then 0xFF else s.rget r ST_RING_CFG.SRC
  let w1 := dev % 2 ^ 14 * 2 ^ 18 + r * 2 ^ 12 + r / 4 * 2 ^ 8 + src
  let flags := b2n b.torn + 2 * b2n (b.gap || b.lost != 0) + 4 * b2n b.invalid + 8 * b2n b.start
  let w3 := flags * 2 ^ 24 + s.ringFormat r * 2 ^ 16 + b.count
  let hd := leBytes 4 0x42535847 ++ leBytes 4 w1 ++ leBytes 4 (s.rget r ST_RING_WP) ++ leBytes 4 w3 ++
    leBytes 8 b.time.toNat ++ leBytes 4 b.lost ++ leBytes 4 (crc32 b.data).toNat
  let body := hd ++ b.data
  body ++ List.replicate (s.ringB r - body.length) 0

/-- A block reset of an ST page (R373, R380). EN of the page goes to 0 with every block reset (R49); the rings
keep their configuration. [Log 65 DEDUCED] -/
def State.streamBlockReset (s : State) (e : Nat) : State :=
  let s := s.each ((List.range 4).map (4 * e + ·)) State.discardRing
  let s := s.clearRegs (pgST e * 0x1000 + 0x040) (pgST e * 0x1000 + 0x048)
  s.each (List.range 4) fun s k => (s.set (pgST e) ST_RING_LOST 0 k).set (pgST e) ST_RING_DISCARD 0 k

end Sys2Proof.Machine
end

