-- ==== Sys2Proof/Machine/SchedCore.lean ====
section
/-!
DEFINITION. The scheduler's shared operations (chapter 12): records and flows, enqueue, broke records, entries
of the completion queues, trace records, and the clearing resets.
-/
namespace Sys2Proof.Machine
open Sys2Proof F

-- PG_STATUS bits of page 0 (R356) and page 3 (R357: bit q REFUSED of queue q)
def stSCH_CANCEL_DONE : Nat := 0
def stSCH_HA_REQ : Nat := 1
def stSCH_HW_LOST : Nat := 2
def stSCH_REFUSED : Nat := 3
def stSCH_BROKE : Nat := 4
def stSCH_FLOW_BUSY : Nat := 5
def stSCH_CFG_REJECT : Nat := 6
def stSCH_STORE_WRITE : Nat := 7
def stSCH_HA_REJECT : Nat := 8
def stSCH_STALL : Nat := 9
def stHQ_CFG_REJECT : Nat := 14

-- Descriptor fields (R327) --------------------------------------------------------------------------------

def dFlow (w0 : Word) : Nat := bits w0.toNat 20 12
def dPrio (w0 : Word) : Nat := bits w0.toNat 14 6
def dGroup (w0 : Word) : Nat := bits w0.toNat 8 6
def dKind (w0 : Word) : Nat := bits w0.toNat 4 4
def dFlags (w0 : Word) : Nat := bits w0.toNat 0 4

def Task.flow (t : Task) : Nat := dFlow t.w0
def Task.prio (t : Task) : Nat := dPrio t.w0
def Task.group (t : Task) : Nat := dGroup t.w0

/-- A descriptor word 0 with zero KIND flags beyond those given (R331). -/
def mkW0 (flow prio group kind : Nat) : Word :=
  BitVec.ofNat 32 (flow % 4096 * 2 ^ 20 + prio % 64 * 2 ^ 14 + group % 64 * 2 ^ 8 + kind % 16 * 16)

/-- The handle of a record and generation (R328). -/
def mkHandle (gen rec : Nat) : Nat := gen * 2 ^ 14 + rec
def handleRec (h : Nat) : Nat := h % 2 ^ 14
def handleGen (h : Nat) : Nat := h / 2 ^ 14 % 2 ^ 10

/-- Word n of a payload. -/
def payWord (l : List Word) (n : Nat) : Word := l.getD n 0

/-- The descriptor words 0-7 of a task (R327). -/
def Task.words (t : Task) : List Word :=
  [t.w0, BitVec.ofNat 32 t.handle, t.time.setWidth 32, (t.time >>> 32).setWidth 32,
    payWord t.payload 0, payWord t.payload 1, payWord t.payload 2, payWord t.payload 3]

/-- A submission is refused (R336): `p` holds words 4-7. -/
def subRefused (w0 : Word) (p : List Word) : Bool :=
  let len := (payWord p 2).toNat
  dFlags w0 / 4 != 0 || (decide (1 ≤ dKind w0) && decide (dKind w0 ≤ 6)) ||
    (dFlags w0 % 2 == 1 && (len == 0 || decide (65536 < len) || payWord p 3 != 0))

-- Workers (R338) ------------------------------------------------------------------------------------------

/-- The kinds of worker. -/
inductive WkrKind where
  | port (b i : Nat) | mp (q : Nat) | stream (e : Nat) | host (q : Nat)
  deriving DecidableEq, Repr

/-- The worker of an identifier. -/
def wkrKind (w : Nat) : WkrKind :=
  if w < 0xE0 then .port (w / 7) (w % 7) else if w < 0xE2 then .mp (w - 0xE0)
  else if w < 0xF2 then .stream (w - 0xE2) else .host (w - 0xF2)

def wkrDepth (w : Nat) : Nat :=
  match wkrKind w with | .port _ _ => 1 | .mp _ => 16 | .stream _ => 4 | .host _ => 64

/-- The worker exists on the variant (R6). -/
def wkrPresent (v : Variant) (w : Nat) : Bool := if w < 0xE0 then w / 7 < nBanks v else w < 256

/-- The task is in the worker's hand. -/
def Task.inHand (t : Task) (w : Nat) : Bool :=
  t.worker == some w && (t.st == .dispatched || t.st == .running || t.st == .partial')

def State.inHand (s : State) (w : Nat) : List Task := s.tasks.filter (·.inHand w)

-- Flows (R344, R359) --------------------------------------------------------------------------------------

/-- A field of flow `f`. -/
def State.flowGet (s : State) (f : Nat) (x : Fld) : Nat :=
  bits (s.reg (flowBase + 16 * f + x.off)).toNat x.lo x.len

def State.flowSet (s : State) (f : Nat) (x : Fld) (v : Nat) : State :=
  let o := flowBase + 16 * f + x.off
  s.setReg o (setBits (s.reg o) x.lo x.len v)

def State.flowOrdered (s : State) (f : Nat) : Bool := s.flowGet f FLOW.ORDERED == 1 && !s.flowBad.contains f
def State.flowRelease (s : State) (f : Nat) : Nat := if s.flowBad.contains f then 0 else s.flowGet f FLOW.RELEASE

/-- The open tasks of a flow (R344): every task of it that is not HELD. -/
def State.openTasks (s : State) (f : Nat) : Nat :=
  (s.tasks.filter fun t => t.flow == f && t.st != .held).length

def State.heldTasks (s : State) (f : Nat) : Nat :=
  (s.tasks.filter fun t => t.flow == f && t.st == .held).length

/-- Records held, and those held by tasks of priority 8-63 (R347). -/
def State.recHeld (s : State) : Nat := (s.tasks.filter fun t => t.rec?.isSome).length
def State.recLow (s : State) : Nat := (s.tasks.filter fun t => t.rec?.isSome && decide (8 ≤ t.prio)).length

/-- The counts that registers show of the tasks of a flow and of a worker, and SCH_USE. -/
def State.syncFlow (s : State) (f : Nat) : State :=
  (s.flowSet f FLOW.OPEN (s.openTasks f)).flowSet f FLOW.HELD (s.heldTasks f)

def State.syncUse (s : State) : State :=
  (s.set pgSCH SCH_USE.LOW s.recLow).set pgSCH SCH_USE.HELD s.recHeld

def State.syncWkr (s : State) (w : Nat) : State :=
  let l := s.inHand w
  (s.set pgWKR SCH_WKR.IN_HAND l.length w).set pgWKR SCH_WKR.CANCEL (b2n (l.any (·.flag))) w

/-- The registers that follow one task's change. -/
def State.syncTask (s : State) (t : Task) : State :=
  let s := (s.syncFlow t.flow).syncUse
  match t.worker with | none => s | some w => s.syncWkr w

/-- A task replaced; `p` picks it by its handle and record. -/
def State.putTask (s : State) (t t' : Task) : State :=
  { s with tasks := s.tasks.map fun x => if x = t then t' else x }

def State.dropTask (s : State) (t : Task) : State := { s with tasks := s.tasks.filter (· ≠ t) }

/-- A fresh stamp of order. -/
def State.stamp (s : State) : Nat × State := (s.schSeq, { s with schSeq := s.schSeq + 1 })

/-- The scheduler is a secondary or has surrendered (R478). -/
def State.shadowed (s : State) : Bool :=
  let r := s.get pgTW TW_STATUS.ROLE
  r == 2 || r == 4

-- Trace (R355) --------------------------------------------------------------------------------------------

/-- A trace record written while the trace runs and its event is selected. -/
def State.traceRec (s : State) (ev flow detail prio src handle : Nat) : State :=
  if !s.runs pgTRC || !s.maskBit pgTRC SCH_TRACE_CTRL.EVENTS ev then s
  else
    let w0 := ev * 2 ^ 28 + flow * 2 ^ 16 + src
    let w1 := detail * 2 ^ 30 + prio * 2 ^ 24 + handle
    let (lost, s) := s.offerItem srcTrace (leBytes 4 w0 ++ leBytes 4 w1 ++ leBytes 8 s.now) s.ts
    let s := s.incWrap pgTRC SCH_TRACE_COUNT
    if lost then (s.incSat pgTRC SCH_TRACE_LOST).setStatus pgTRC 0 else s

/-- The trace of a decision on a task: the flow's TRACE, the MATCH test, or the descriptor's TRACE flag. -/
def State.trace (s : State) (t : Task) (ev detail src : Nat) : State :=
  let sel := s.flowGet t.flow FLOW.TRACE == 1 ||
    Nat.land t.flow (s.get pgTRC SCH_TRACE_FLOW.MASK) == s.get pgTRC SCH_TRACE_FLOW.MATCH ||
    bit (dFlags t.w0) 1
  if sel then s.traceRec ev t.flow detail t.prio src t.handle else s

/-- A source begins (0) or ends (1) waiting for a record. -/
def State.traceStall (s : State) (src detail : Nat) (w0 : Word) : State :=
  let s := s.traceRec 5 (dFlow w0) detail (dPrio w0) src 0
  if detail == 0 then s.setStatus pgSCH stSCH_STALL else s

-- Enqueue (R329, R344, R347) ------------------------------------------------------------------------------

/-- The scheduler accepts new tasks (R343). -/
def State.schAccepts (s : State) : Bool := s.accepts pgSCH

/-- A record is free for a priority (R347). [Log 62 DESIGN CHOICE] -/
def State.recFree (s : State) (prio : Nat) : Bool :=
  decide (s.recHeld < nRecords s.variant) && (decide (prio < 8) || decide (s.recLow < nRecords s.variant - 1024))

/-- The free records; which one a task takes is not specified (R328). -/
def State.freeRecs (s : State) : List Nat :=
  let used := s.tasks.filterMap (·.rec?)
  (List.range (nRecords s.variant)).filter fun r => !used.contains r

/-- A task takes a record: READY, or HELD where its ordered flow is full or holds HELD tasks. Answers its
handle. [Log 62 DESIGN CHOICE] -/
def State.enqueue (s : State) (w0 : Word) (time : Time) (payload : List Word) (src : Nat) : Nat × State :=
  let (n, s) := s.draw
  let l := s.freeRecs
  let r := l.getD (Config.freeRecord n % l.length) 0
  let g := (aget s.gens r).getD 0
  let g := if g == 1023 then 1 else g + 1
  let s := { s with gens := aput s.gens r g }
  let (q, s) := s.stamp
  let f := dFlow w0
  let held := s.flowOrdered f && (decide (s.flowGet f FLOW.WINDOW < s.openTasks f) || decide (0 < s.heldTasks f))
  let t : Task :=
    { rec? := some r, handle := mkHandle g r, w0 := w0, time := time, payload := payload, src := src,
      st := if held then .held else .ready, readySeq := q, readyAt := s.ts, compSeq := 0, dispAt := 0,
      worker := none, prog := false, flag := false, withdrawn := false, kind := 0, status := 0 }
  let s := { s with tasks := s.tasks ++ [t], haSkip := s.haSkip && held }
  (t.handle, (s.syncTask t).trace t 0 0 src)

/-- The descriptor of a hardware source's event under its map entry (R331, R332). -/
def State.hwDesc (s : State) (src : Nat) (e : HwEvent) : Word × List Word :=
  (mkW0 (s.get pgSCH SCH_SRC_MAP.FLOW src) (s.get pgSCH SCH_SRC_MAP.PRIO src)
      (s.get pgSCH SCH_SRC_MAP.GROUP src) e.kind,
    [e.w4, e.w5, 0, BitVec.ofNat 32 (src % 1024)])

/-- A hardware source raises an event; with its map entry disabled the event is ignored (R332). -/
def State.raiseHw (s : State) (src : Nat) (e : HwEvent) : State :=
  if s.pageOn pgSCH && s.get pgSCH SCH_SRC_MAP.EN src == 1 then { s with hwDue := s.hwDue ++ [(src, e)] } else s

/-- The priority of what a waiting source offers, slots and submissions alike. -/
def State.waitPrio (s : State) (src : Nat) : Option Nat :=
  match aget s.hwSlot src with
  | some e => some (dPrio (s.hwDesc src e).1)
  | none => (aget s.subWait src).map fun l => dPrio (payWord l 0)

/-- The source served next among those that wait: highest priority, then rotating order of source code from
the one served last (R347). -/
def State.nextWaiting (s : State) : Option Nat :=
  let codes := s.hwSlot.map Prod.fst ++ s.subWait.map Prod.fst
  let key (c : Nat) : Nat :=
    ((s.waitPrio c).getD 64) * 2048 + (c + 2047 - s.rotate) % 1024
  codes.foldl (fun best c =>
    match best with
    | none => some c
    | some b => if key c < key b then some c else some b) none

/-- TIME and payload of a submission, of the eight words of its descriptor: TIME is the tick at which a fabric event port
accepted word 0 (R334), or the sender's (R488). -/
def subTime (l : List Word) : Time × List Word := (payWord l 3 ++ payWord l 2, l.drop 4)

/-- The handle of a submission, or 0 for a refused one, is returned to its source: on the handle channel of a fabric event
port, where the sheet attaches it, and to the span link (R334, R337). -/
def State.returnHandle (s : State) (c h : Nat) : State :=
  if c == 0x210 then { s with handleRet := aput s.handleRet c h }
  else if s.handleOut.contains (c - 0x100) then
    { s with handleRet := aput s.handleRet c h }.present' (.port (.event ((c - 0x100) / 8) (c % 8))) h
  else s

/-- One waiting source is served, if a record is free for it. -/
def State.serveOne (s : State) : State :=
  match s.nextWaiting with
  | none => s
  | some c =>
    if !s.schAccepts || !s.recFree ((s.waitPrio c).getD 64) then s
    else
      match aget s.hwSlot c with
      | some e =>
        let (w0, p) := s.hwDesc c e
        let s := { s with hwSlot := adel s.hwSlot c, rotate := c }
        let (_, s) := s.enqueue w0 e.time p c
        s.traceStall c 1 w0
      | none =>
        match aget s.subWait c with
        | none => s
        | some l =>
          let s := { s with subWait := adel s.subWait c, rotate := c }
          let (t, p) := subTime l
          let (h, s) := s.enqueue (payWord l 0) t p c
          ((s.returnHandle c h).traceStall c 1 (payWord l 0)).settle

/-- Every waiting source served as records allow. -/
def State.serveWaiting (s : State) : State :=
  s.each (List.range (s.hwSlot.length + s.subWait.length)) fun s _ => s.serveOne

/-- HELD tasks of a flow become ready as releases close earlier ones (R344); a withdrawn one becomes COMPLETE
in its turn (R561). -/
def State.openHeld (s : State) (f : Nat) : State :=
  s.each (List.range (s.heldTasks f)) fun s _ =>
    if s.flowOrdered f && decide (s.flowGet f FLOW.WINDOW < s.openTasks f) then s
    else
      match s.tasks.find? fun t => t.flow == f && t.st == .held with
      | none => s
      | some t =>
        let (q, s) := s.stamp
        if t.withdrawn then s.putTask t { t with st := .complete, compSeq := q, kind := 2 }
        else
          { s.putTask t { t with st := .ready, readySeq := q, readyAt := s.ts } with haSkip := false }

-- Completion queues (R346, R357, R358) --------------------------------------------------------------------

def State.cqSize (s : State) (q : Nat) : Nat := 2 ^ (s.get pgHQ SCH_CQ_CFG.SIZE q + 4)

/-- Entries of queue `q` that host software has not consumed. -/
def State.cqUsed (s : State) (q : Nat) : Nat :=
  let e := s.cqSize q
  (s.get pgHQ SCH_CQ_TAIL q + e - s.get pgHQ SCH_CQ_HEAD q) % e

/-- Entries reserved for DISPATCH entries (R563): offered tasks whose entry is not yet written. -/
def State.cqReserved (s : State) (q : Nat) : Nat :=
  ((s.inHand (0xF2 + q)).filter fun t => t.st == .dispatched).length

/-- The queue can be written: it is enabled, its page runs, and DMA proceeds. -/
def State.cqOn (s : State) (q : Nat) : Bool :=
  s.get pgHQ SCH_CQ_CFG.EN q == 1 && s.runs pgHQ && s.dmaOk

/-- An entry written to completion queue `q`; `ws` are words 0 and 2-7, `ctl` is word 1 [30:0]. -/
def State.writeCq (s : State) (q : Nat) (ctl : Nat) (w0 : Word) (ws : List Word) : State :=
  let tail := s.get pgHQ SCH_CQ_TAIL q
  let empty := s.cqUsed q == 0
  let ph := 1 - (aget s.cqPhase q).getD 0 % 2
  let w1 := BitVec.ofNat 32 (ph * 2 ^ 31 + ctl)
  let line := (w0 :: w1 :: (ws ++ List.replicate (6 - ws.length) 0)).flatMap wordBytes
  let s := s.toHost (s.get64 pgHQ SCH_CQ_BASE_LO q + 32 * tail) line
  let tail' := (tail + 1) % s.cqSize q
  let s := s.set pgHQ SCH_CQ_TAIL tail' q
  let s := if tail' == 0 then { s with cqPhase := aput s.cqPhase q (((aget s.cqPhase q).getD 0 + 1) % 2) } else s
  if empty && s.get pgHQ SCH_CQ_CFG.IRQ_EN q == 1 then s.sendVector (1024 + q) else s

/-- Word 1 of an entry without its PHASE. -/
def cqCtl (entry kind handle : Nat) : Nat := entry * 2 ^ 28 + kind * 2 ^ 26 + handle % 2 ^ 24

/-- Room for one more entry, reserved entries counted as occupied. -/
def State.cqRoom (s : State) (q : Nat) : Bool :=
  s.cqOn q && decide (s.cqUsed q + s.cqReserved q + 1 < s.cqSize q)

/-- The oldest CANCEL notice of a queue is written once it has room (R350). [Log 63 DEDUCED] -/
def State.writeNotice (s : State) (q : Nat) : State :=
  match s.notices.find? fun n => n.1 == q with
  | none => s
  | some n =>
    if s.cqRoom q then
      { s.writeCq q (cqCtl 3 0 n.2) 0 [] with notices := s.notices.erase n }
    else s

/-- A queue has no notice that waits before a later entry. -/
def State.noNotice (s : State) (q : Nat) : Bool := !s.notices.any fun n => n.1 == q

-- Broke records (R351-R353) -------------------------------------------------------------------------------

/-- What caused a cut: a cause of R352 and, for a fault reaction, word 3 of the record. -/
structure Cut where
  cause : Nat
  attr : Word
  deriving DecidableEq, Repr

/-- Word 3 of a broke record: page type, instance, source and class of the fault. -/
def cutAttr (typ inst src cls : Nat) : Word :=
  BitVec.ofNat 32 (typ * 2 ^ 16 + inst * 2 ^ 8 + src * 2 ^ 4 + cls)

/-- The broke record of a task (R352). -/
def State.brokeWords (s : State) (t : Task) (c : Cut) : List Byte :=
  let w := t.worker.getD 0
  let st := match t.st with | .running => 1 | .partial' => 2 | _ => 0
  leBytes 4 (w * 2 ^ 24 + t.handle) ++
    leBytes 4 (t.flow * 2 ^ 20 + st * 2 ^ 16 + c.cause * 2 ^ 8) ++
    leBytes 4 (s.get pgWKR SCH_PROG w) ++ wordBytes c.attr ++ leBytes 8 t.dispAt.toNat ++ leBytes 8 s.now

/-- The words written from an offset of BAR0 on. -/
def State.setRegs (s : State) : Nat → List Word → State
  | _, [] => s
  | o, w :: r => State.setRegs (s.setReg o w) (o + 4) r

/-- The task is on a worker. -/
def Task.onWorker (t : Task) : Bool := t.st == .dispatched || t.st == .running || t.st == .partial'

/-- A broke record written to the broke window, or counted as lost, and offered to stream source 0xC1 (R353). A fabric
worker port that had the task in hand is marked for its late completion (R339). -/
def State.brokeRecord (s : State) (t : Task) (c : Cut) : State :=
  let line := s.brokeWords t c
  let h := s.get pgSCH SCH_BROKE_HEAD
  let h' := (h + 1) % 2048
  let s :=
    if h' == s.get pgSCH SCH_BROKE_TAIL then s.incSat pgSCH SCH_BROKE_CNT.LOST
    else (s.setRegs (brokeBase + 32 * h) (leWords line)).set pgSCH SCH_BROKE_HEAD h'
  let s := (s.offerItem srcFaultLog line s.ts).2
  let s := s.setStatus pgSCH stSCH_BROKE
  let s := s.trace t 6 0 (t.worker.getD 0)
  match t.worker.map wkrKind with
  | some (.port b i) =>
    let w := 7 * b + i
    if t.onWorker then
      { s with
        lateMark := aput s.lateMark w ((aget s.lateMark w).getD 0 + 1),
        dispOut := if t.st == .dispatched then adel s.dispOut w else s.dispOut }
    else s
  | _ => s

/-- Every task on a worker that `p` names is cut off (R351): broke record, record freed, BROKE release to come
in its turn. -/
def State.cutWorkers (s : State) (p : Nat → Bool) (c : Cut) : State :=
  let l := s.tasks.filter fun t => t.onWorker && p (t.worker.getD 256)
  let s := l.foldl (fun s t =>
    let s := s.brokeRecord t c
    let (q, s) := s.stamp
    let t' := { t with rec? := none, st := .complete, kind := 3, compSeq := q, flag := false, status := 0 }
    (s.putTask t t').syncTask t) s
  if l.isEmpty then s else s.serveWaiting

/-- A store error destroys a record: the task is treated as broke whatever its state (R361). -/
def State.breakRecord (s : State) (r : Nat) (c : Cut) : State :=
  match s.tasks.find? fun t => t.rec? == some r with
  | none => s
  | some t =>
    let s := s.brokeRecord t c
    let (q, s) := s.stamp
    let t' := { t with rec? := none, st := .complete, kind := 3, compSeq := q, flag := false, status := 0 }
    ((s.putTask t t').syncTask t).serveWaiting

/-- A clearing reset (R351): broke records for the tasks on workers; HELD, READY and COMPLETE tasks and the
events of hardware pending slots discarded and counted. [Log 65 DEDUCED] -/
def State.schedClear (s : State) (c : Cut) : State :=
  let cut := s.tasks.filter Task.onWorker
  let gone := s.tasks.filter fun t => !t.onWorker && t.rec?.isSome
  let n := gone.length + s.hwSlot.length + s.hwDue.length
  let s := cut.foldl (fun s t => s.brokeRecord t c) s
  let all := s.tasks
  let s := { s with tasks := [], hwSlot := [], hwDue := [], notices := [], haSkip := false }
  let s := s.set pgSCH SCH_BROKE_CNT.DISCARD (min n 0xFFFF)
  (all.foldl (fun s t => s.syncTask t) s).syncUse

/-- The pointers of submission and completion queue `q` set to 0; the PHASE count starts afresh (R358). -/
def State.clearSq (s : State) (q : Nat) : State := (s.set pgHQ SCH_SQ_HEAD 0 q).set pgHQ SCH_SQ_TAIL 0 q

def State.clearCq (s : State) (q : Nat) : State :=
  let s := (s.set pgHQ SCH_CQ_HEAD 0 q).set pgHQ SCH_CQ_TAIL 0 q
  { s with cqPhase := adel s.cqPhase q }

/-- A block reset of a scheduler page (R351, R356, R357, R360). [Log 65 DEDUCED] -/
def State.schedBlockReset (s : State) (page : Nat) (c : Cut) : State :=
  match page with
  | 0 =>
    let s := s.schedClear c
    let o := pgSCH * 0x1000
    s.clearRegs (o + 0x058) (o + 0x08C)
  | 1 => s
  | 2 => s.clearRegs (pgTRC * 0x1000 + 0x048) (pgTRC * 0x1000 + 0x050)
  | _ =>
    let s := s.cutWorkers (fun w => decide (0xF2 ≤ w) && decide (w < 0x100)) c
    let s := { s with notices := [] }
    s.each (List.range 14) fun s q =>
      (((s.set pgHQ SCH_SQ_CFG.EN 0 q).set pgHQ SCH_CQ_CFG.EN 0 q).clearSq q).clearCq q

end Sys2Proof.Machine
end

