-- ==== Sys2Proof/Machine/AnalogCore.lean ====
section
/-!
DEFINITION. What changes the analogue array (chapter 08): the modes in force of its pins, mutes (R240), holds (R225),
cell errors and block resets.
-/
namespace Sys2Proof.Machine
open Sys2Proof F

/-- The pin modes in force of a sector written to AS_PMODE; a loop monitor that stops or starts clears its
AS_LOOP_LIVE bits and its over-limit run, without an AS_LOOP_EVT (R556). From CINT to CEXT or back it runs on. -/
def State.refreshPins (s : State) (sec : Nat) : State :=
  s.each (List.range 16) fun s i =>
    let old := bits (s.get (pgAS sec) (if i < 8 then AS_PMODE_LO else AS_PMODE_HI)) (4 * (i % 8)) 4
    let new := s.pinMode sec i
    if old == new then s
    else
      let f := if i < 8 then AS_PMODE_LO else AS_PMODE_HI
      let s := s.set (pgAS sec) f
        (setBits (BitVec.ofNat 32 (s.get (pgAS sec) f)) (4 * (i % 8)) 4 new).toNat
      let loop (m : Nat) : Bool := m == 1 || m == 2
      let s := if loop old && loop new then s else
        ((s.set (pgAS sec) AS_LOOP_LIVE.OVER 0 0 i).set (pgAS sec) AS_LOOP_LIVE.UNDER 0 0 i)
      { s with pinRun := adel s.pinRun (16 * sec + i) }

/-- The sample-and-hold of a cell takes the output that the cell has in another state, the one before a change, unless it
holds one already (R225). -/
def State.holdFrom (s old : State) (sec j : Nat) : State :=
  if (aget s.heldV (cellKey sec j)).isSome then s
  else { s with heldV := aput s.heldV (cellKey sec j) (old.volt sec (some j)) }

/-- The sample-and-hold of a cell is transparent again, unless a mute or the cell's timer holds it (R225). -/
def State.release (s : State) (sec j : Nat) : State :=
  if s.maskBit (pgAS sec) AS_MUTE j || s.timerHolds sec j then s else { s with heldV := adel s.heldV (cellKey sec j) }

/-- The kinds of mutes, numbered. -/
def muteKey : MuteKind → Nat
  | .cell => 0 | .pin => 1 | .chan => 2 | .cmp => 3

/-- A mute of a pin path, channel or comparator input (R240). -/
def State.mutePath (s : State) (sec key n : Nat) : State :=
  let m := (aget s.pathMute key).getD 0
  if bit m n then s
  else { s with pathMute := aput s.pathMute key (m + 2 ^ n) }.incWrap (pgAS sec) AS_COUNTS.MUTES

/-- A mute begins or is extended (R240), 2 us from this cause, which has changed the state `old`: the cell, pin path, channel
or comparator input is held, a cell at the output that it had before. Every mute that begins counts. -/
def State.muteFrom (s old : State) (sec : Nat) (what : MuteKind) (n : Nat) : State :=
  let s := { s with muteAt := aput s.muteAt (32 * (4 * sec + muteKey what) + n) s.clk }
  match what with
  | .cell =>
    if s.maskBit (pgAS sec) AS_MUTE n then s
    else ((s.holdFrom old sec n).setMaskBit (pgAS sec) AS_MUTE n true).incWrap (pgAS sec) AS_COUNTS.MUTES
  | _ => s.mutePath sec (4 * sec + muteKey what) n

/-- A mute whose cause comes next. -/
def State.mute (s : State) (sec : Nat) (what : MuteKind) (n : Nat) : State := s.muteFrom s sec what n

/-- A pin path, channel or comparator input is muted. -/
def State.pathMuted (s : State) (sec : Nat) (what : MuteKind) (n : Nat) : Bool :=
  match what with
  | .cell => s.maskBit (pgAS sec) AS_MUTE n
  | .pin => bit ((aget s.pathMute (4 * sec + 1)).getD 0) n
  | .chan => bit ((aget s.pathMute (4 * sec + 2)).getD 0) n
  | .cmp => bit ((aget s.pathMute (4 * sec + 3)).getD 0) n

/-- Every cell that is not OFF in the active words muted (R242), as the sector of the state `old` comes on. -/
def State.muteRunning (s old : State) (sec : Nat) : State :=
  s.each (List.range 32) fun s j => if s.cellMode sec j == 0 then s else s.muteFrom old sec .cell j

/-- The cells of a sector are OFF (R242): nothing is held and no integral stays. -/
def State.cellsOff (s : State) (sec : Nat) : State :=
  { s with
    heldV := s.heldV.filter fun (e : Nat × Rat) => e.1 / 32 != sec,
    intV := s.intV.filter fun (e : Nat × Rat) => e.1 / 32 != sec }

/-- The cells of a sector that its active words turn off put into AS_CELL_ERR (R227); a set of the register is
an event, PG_STATUS bit [4] CELL_ERR. -/
def State.markCellErr (s : State) (sec : Nat) : State :=
  let m := cellErrMask (s.sectorBad sec)
  let s := s.set (pgAS sec) AS_CELL_ERR m
  if m == 0 then s else s.setStatus (pgAS sec) 4

/-- What a block reset of an AS page does to the array (R243), the re-check of the setting words apart: integrators at 0 V,
sample-and-holds tracking, overrides, trips, loop events, cell errors and counts cleared. -/
def State.asBlockReset (s : State) (sec : Nat) : State :=
  let p := pgAS sec
  let s := s.clearRegs (p * 0x1000 + 0x044) (p * 0x1000 + 0x068)
  let s := s.clearRegs (p * 0x1000 + 0x06C) (p * 0x1000 + 0x074)
  let s := s.clearRegs (p * 0x1000 + 0x07C) (p * 0x1000 + 0x080)
  { s with
    pinRun := s.pinRun.filter fun e => e.1 / 16 != sec,
    heldV := s.heldV.filter fun (e : Nat × Rat) => e.1 / 32 != sec,
    intV := (s.integrators.filter fun k => k / 32 == sec).foldl (fun t k => aput t k 0) s.intV }

/-- The output of timer `n` moves: the cells whose sample-and-hold follows it hold at its rising edge and are released at its
falling edge (R225). -/
def State.timerCells (s : State) (n : Nat) (rising : Bool) : State :=
  let l := s.setw.filter fun (e : Nat × Word) =>
    decide (e.1 < 8192) && decide (e.1 % 1024 < 128) && e.1 % 4 == 3 && bit e.2.toNat 19 && bits e.2.toNat 14 5 == n
  l.foldl (fun s (e : Nat × Word) =>
    let sec := e.1 / 1024
    let j := e.1 % 1024 / 4
    if s.modeInForce sec j == 0 then s else if rising then s.holdFrom s sec j else s.release sec j) s

end Sys2Proof.Machine
end

