-- ==== Sys2Proof/Machine/Trigger.lean ====
section
/-!
DEFINITION. The ways by which trigger events reach their consumers (R85, R251, R256, R297, R312, R403): timer outputs,
fabric lines, scheduler strobe outputs and system strobes, to the converters, load-strobe groups, snapshots and
capture streams whose registers select them.
-/
namespace Sys2Proof.Machine
open Sys2Proof F

/-- A trigger event at an instant goes on its way. -/
def State.pushTrig (s : State) (w : Trig) (t : Time) (c : Nat) : State :=
  { s with trig := s.trig ++ [{ what := w, time := t, clk := c }] }

/-- The oldest trigger event of a kind, with the state in which its consumer has taken it. [Log 104 DESIGN CHOICE] -/
def State.takeTrig (s : State) (p : Trig → Bool) : Option (TrigAt × State) :=
  (s.trig.find? fun e => p e.what).map fun e => (e, { s with trig := s.trig.erase e })

/-- The loop edge of an instant that is present or has passed. -/
def State.edgeClk (s : State) (t : Time) : Nat := s.clk - (s.now - t.toNat)

/-- The instant at which a line that moves at this edge has passed its two-tick synchronisation: 4-6 ns later, at a
tick (R83, R252, R312). -/
def State.synced (s : State) : Time × Nat :=
  let x := s.advance (4 + s.clk % 2)
  (x.ts, x.clk)

/-- The converter takes scan triggers: enabled, powered and not quiesced (R254). -/
def State.scanTakes (s : State) (n : Nat) : Bool := s.accepts (pgCV n)

/-- A request register of a converter takes its trigger (R254, R256): it is enabled as the trigger falls. -/
def State.injTakes (s : State) (n k : Nat) : Bool := s.accepts (pgCV n) && s.get (pgCV n) CV_INJ.EN k == 1

/-- An edge of a timer output to the consumers that select it (R85): converter triggers and gates, request registers,
load-strobe groups, the snapshot, capture streams. -/
def State.timerOut (s : State) (n : Nat) (rising : Bool) (t : Time) : State :=
  let c := s.edgeClk t
  let s := s.timerCells n rising
  let s := s.each (List.range 4) fun s i =>
    let p := pgCV i
    let mode := s.get p CV_TRIG.MODE
    let s := if s.get p CV_TRIG.SEL == n && ((mode == 1 && rising && s.scanTakes i) || mode == 2) then
        s.pushTrig (.scan i rising) t c else s
    s.each (List.range 4) fun s k =>
      if rising && s.injTakes i k && s.get p CV_INJ.KIND k == 0 && s.get p CV_INJ.SEL k == n then
        s.pushTrig (.inj i k) t c
      else s
  if !rising then s
  else
    let s := s.each (List.range 8) fun s g =>
      if s.accepts pgLS && s.get pgLS LS_CFG.SRC g == 1 && s.get pgLS LS_CFG.SEL g == n then s.pushTrig (.strobe g) t c else s
    let s := if s.flag (pgCP 0) CP_SNAP.EN && s.get (pgCP 0) CP_SNAP.TM == n then s.pushTrig .snap t c else s
    s.each (List.range 16) fun s j =>
      if s.get pgCAP RS_CAP_CFG.TRIG j == 1 && s.get pgCAP RS_CAP_CFG.SEL j == n then s.pushTrig (.cap j) t c else s

/-- A rise of scheduler strobe output `k` (R346), to the load-strobe groups and capture streams that select it. -/
def State.strobeRise (s : State) (k : Nat) : State :=
  let s := { s with strobeOut := k :: s.strobeOut }
  let s := s.each (List.range 8) fun s g =>
    if s.accepts pgLS && s.get pgLS LS_CFG.SRC g == 3 && s.get pgLS LS_CFG.SEL g == k then s.pushTrig (.strobe g) s.ts s.clk else s
  s.each (List.range 16) fun s j =>
    if s.get pgCAP RS_CAP_CFG.TRIG j == 2 && s.get pgCAP RS_CAP_CFG.SEL j == k then s.pushTrig (.cap j) s.ts s.clk
    else s

/-- System strobe `k` (R489), to the load-strobe groups that select it. -/
def State.systemStrobe (s : State) (k : Nat) (t : Time) : State :=
  s.each (List.range 8) fun s g =>
    if s.accepts pgLS && s.get pgLS LS_CFG.SRC g == 4 && s.get pgLS LS_CFG.SEL g == k then s.pushTrig (.strobe g) t (s.edgeClk t) else s

/-- A move of fabric trigger line `k` of converter `n` (R251, R252, R256). -/
def State.triggerLine (s : State) (n k : Nat) (level : Bool) : State :=
  let p := pgCV n
  let x := s.synced
  let mode := s.get p CV_TRIG.MODE
  let s := if s.get p CV_TRIG.SEL == k && ((mode == 3 && level && s.scanTakes n) || mode == 4) then
      s.pushTrig (.scan n level) x.1 x.2 else s
  s.each (List.range 4) fun s j =>
    if level && s.injTakes n j && s.get p CV_INJ.KIND j == 1 && s.get p CV_INJ.SEL j == k then
      s.pushTrig (.inj n j) x.1 x.2
    else s

/-- A rising edge of fabric strobe line `k` (R312). -/
def State.strobeLine (s : State) (k : Nat) : State :=
  let x := s.synced
  s.each (List.range 8) fun s g =>
    if s.accepts pgLS && s.get pgLS LS_CFG.SRC g == 2 && s.get pgLS LS_CFG.SEL g == k then s.pushTrig (.strobe g) x.1 x.2 else s

/-- A rising edge of the fabric start line of timer `n` (R83). -/
def State.startLine (s : State) (n : Nat) : State :=
  let x := s.synced
  if s.get pgTM TM_CTRL.START_SRC n == 3 then s.pushTrig (.start n) x.1 x.2 else s

end Sys2Proof.Machine
end

