-- ==== Sys2Proof/Machine/Levels.lean ====
section
/-!
DEFINITION. The fabric's plain levels (chapters 04 and 05), worker progress, what a block reset of a bank and a closed
gate do.
-/
namespace Sys2Proof.Machine
open Sys2Proof F

-- Plain levels (R67, R97, R98) -------------------------------------------------------------------------------------

/-- The level that a net holds at a bit. -/
def Net.level (n : Net) (k : Nat) : Bool := bit (n.val.getD 0) k

/-- The level at the enable input of a driver tap (R135). -/
def State.tapEnable (s : State) (b tap : Nat) : Bool :=
  s.nets.any fun (e : Nat × Net) => e.2.dsts.any fun d =>
    match d with | .enable b' t' k => b' == b && t' == tap && e.2.level k | _ => false

/-- A tap is enabled: static, or dynamic with its enable input at 1 (R135). -/
def State.tapEnabled (s : State) (b : Nat) (t : Tap) : Bool := t.static || s.tapEnable b t.tap

/-- The level of a fabric trigger line (R251). -/
def State.ftLevel (s : State) (n k : Nat) : Bool :=
  s.nets.any fun (e : Nat × Net) => e.2.dsts.any fun d =>
    match d with | .trigger n' k' j => n' == n && k' == k && e.2.level j | _ => false

/-- The signal of a pad cell of bank `b`: its output data (`en` false) or its output enable; none where the bank's sheet
feeds none. -/
def State.padCell (s : State) (b p : Nat) (en : Bool) : Option Bool :=
  s.nets.findSome? fun (e : Nat × Net) =>
    if e.1 / 65536 != b then none
    else e.2.dsts.findSome? fun d =>
      match d with
      | .padOut q k => if q == p && !en then some (e.2.level k) else none
      | .padEn q k => if q == p && en then some (e.2.level k) else none
      | _ => none

/-- The level that a producer of plain levels gives: the outputs of a tile, comparator levels, timer outputs, pad inputs,
cancel lines. -/
def State.levelOf (s : State) (x : Src) : Nat :=
  match x with
  | .fine b t => match aget s.fine (fineKey b t) with | none => 0 | some f => s.outVal b t f
  | .comp c =>
    if c % 32 < 16 then s.get (pgCP (c / 32)) CP_LEVEL_LO.L 0 (c % 32) else s.get (pgCP (c / 32)) CP_LEVEL_HI.L 0 (c % 32 - 16)
  | .timer n => b2n (((aget s.timers n).bind Timer.fall).isSome)
  | .pad p => b2n (s.maskBit (pgGB (p / 32)) GB_IN (p % 32))
  | .cancel b i => b2n ((s.inHand (7 * b + i)).any Task.flag)
  | _ => 0

/-- The transparent latches of a tile follow D (R94). A mirrored tile of a secondary keeps its value (R117).
[Log 96 DESIGN CHOICE] -/
def State.latchTile (s : State) (b t : Nat) : State :=
  match aget s.fine (fineKey b t) with
  | none => s
  | some x =>
    if s.bankRuns b && !s.mirrorHeld 0 b t 0 then
      s.setFine b t { x with q := x.cfg.latched (fun _ => x.xv) x.q (s.carryIn b t) }
    else s

/-- A level reaches a consumer, having been `old`. -/
def State.levelTo (s : State) (old v : Nat) (d : Dst) : State :=
  match d with
  | .x b t pin k =>
    match aget s.fine (fineKey b t) with
    | none => s
    | some x => s.setFine b t { x with
        xv := x.xv % 2 ^ pin + b2n (bit v k) * 2 ^ pin + x.xv / 2 ^ (pin + 1) * 2 ^ (pin + 1) }
  | .start n k => if !bit old k && bit v k then s.startLine n else s
  | .trigger n j k => if bit old k != bit v k then s.triggerLine n j (bit v k) else s
  | .strobe j k => if !bit old k && bit v k then s.strobeLine j else s
  | _ => s

/-- One level follows its producer. A line to a timer, converter or load-strobe group reads low until the OUT step of its
bank (R200, R312). [Log 96 DESIGN CHOICE] -/
def State.levelNet (s : State) (e : Nat × Net) : State :=
  if e.2.kind != .level then s
  else
    let open' := !(e.2.dsts.any Dst.line) || (match e.2.src.bank with | none => true | some b => s.flag (pgFB b) FB_STATE.OUT)
    let v := if open' then bits (s.levelOf e.2.src) e.2.lo e.2.width else 0
    if e.2.val == some v then s
    else
      e.2.dsts.foldl (fun s d => s.levelTo (e.2.val.getD 0) v d)
        { s with nets := aput s.nets e.1 { e.2 with val := some v } }

/-- Every level follows its producer once, and every latch of the fabric D. [Log 96 DESIGN CHOICE] -/
def State.levelPass (s : State) : State :=
  let s := s.nets.foldl State.levelNet s
  (s.fine.filter fun (e : Nat × FineTile) => e.2.cfg.mac.any fun m => m.mode == .latch).foldl
    (fun s (e : Nat × FineTile) => s.latchTile (e.1 / 512) (e.1 % 512)) s

/-- The fabric's levels and latches as they stand once every change has passed on: at most one pass for each level net,
and one more. [Log 96 DESIGN CHOICE] -/
def State.flow (s : State) : State :=
  (List.range ((s.nets.filter fun (e : Nat × Net) => e.2.kind == .level).length + 1)).foldl (fun s _ => s.levelPass) s

-- Worker progress (R112) --------------------------------------------------------------------------------------------

/-- A write to PROG reaches the scheduler's record of worker `w`: the progress word, and that its tasks have
written it since dispatch (R112, R329). -/
def State.progWord (s : State) (w : Nat) (v : Word) : State :=
  { s.set pgWKR SCH_PROG v.toNat w with
    tasks := s.tasks.map fun t =>
      if t.inHand w then { t with prog := true, st := if t.st == .running then .partial' else t.st } else t }

-- Resets and gates ----------------------------------------------------------------------------------------------------

/-- The tokens that the bundles of a bank hold are dropped, with what stands on the channels to its fabric ports. A value
of another bank's producer that waits for a consumer of this bank goes on waiting (R193); one that stands at such a
consumer is acknowledged as the consumer loses it. -/
def State.clearBankNets (s : State) (b : Nat) : State :=
  { s with
    nets := s.nets.map fun (e : Nat × Net) =>
      if e.1 / 65536 == b || e.2.src.bank == some b then (e.1, { e.2 with val := none, delivered := false }) else e,
    tapIn := s.tapIn.filter fun (e : Nat × (Bool × Bool)) => e.1 / 128 != b,
    subIn := s.subIn.filter fun (e : Nat × (Time × List Word)) => e.1 / 8 != b,
    dispOut := s.dispOut.filter fun (e : Nat × List Word) => e.1 / 7 != b || (s.inHand e.1).any fun t => t.st == .dispatched,
    portIn := s.portIn.filter fun (e : Nat × PortIn) =>
      !((decide (e.1 < 2048) && e.1 / 48 == b) || (decide (2048 ≤ e.1) && decide (e.1 < 2304) && (e.1 - 2048) / 8 == b) ||
        (decide (2304 ≤ e.1) && decide (e.1 < 2560) && (e.1 - 2304) / 8 == b) || e.1 == 2560 + b || e.1 == 2592 + b ||
        (decide (2624 ≤ e.1) && 2 * ((e.1 - 2624) / 4) + 1 == b)) }

/-- Every state element of a bank at its initial value, with no retained value (R113). [Log 42 DEDUCED] -/
def State.initBank (s : State) (b : Nat) : State :=
  let s := { s with
    fine := s.fine.map fun (e : Nat × FineTile) => if e.1 / 512 = b then (e.1, e.2.cfg.initial) else e,
    word := s.word.map fun (e : Nat × WordTile) => if e.1 / 64 = b then (e.1, e.2.cfg.initial) else e }
  (s.clearBankNets b).settle.flow

/-- A block reset of an FB page (R149). Block memories keep their contents (R143). -/
def State.fbBlockReset (s : State) (b : Nat) : State :=
  let p := pgFB b * 0x1000
  (s.initBank b).clearRegs (p + 0x054) (p + 0x074)

/-- The mask of a running couch names the bank: the couch controller owns its gates (R132, R192). -/
def State.couching (s : State) (b : Nat) : Bool :=
  match s.couch with | some c => bit c.banks b | none => false

/-- The inbound gates of a bank close, or reopen, for a write of its PG_CTRL.EN or QUIESCE (R147); those that a running
couch has closed stay so until its step 11 (R132). -/
def State.bankGates (s : State) (b : Nat) : State :=
  let closed := !s.flag (pgFB b) PG_CTRL.EN || s.flag (pgFB b) PG_CTRL.QUIESCE || s.couching b
  { s with gatesClosed := if closed then (if s.gatesClosed.contains b then s.gatesClosed else b :: s.gatesClosed)
      else s.gatesClosed.filter (· != b) }

end Sys2Proof.Machine
end

