-- ==== Sys2Proof/Machine/Crypto.lean ====
section
/-!
DEFINITION. The algorithms that the sheet checks name (R153, R162, R168, R169): SHA-256 (FIPS 180-4), AES-256 in
Galois/Counter Mode (FIPS 197, NIST SP 800-38D) and ECDSA verification over P-256 (FIPS 186).  The spec names
these standards and does not repeat them; their constants are the standards' own.
-/
namespace Sys2Proof.Machine
open Sys2Proof

-- SHA-256 ---------------------------------------------------------------------------------------------------------

/-- The first 32 bits after the point of the `k`-th root of `p` (`p` below 16^k), found bit by bit. -/
def rootFraction (k p : Nat) : Word :=
  BitVec.ofNat 32 ((List.range 36).foldl (fun r i => if (r + 2 ^ (35 - i)) ^ k ≤ p * 2 ^ (32 * k) then r + 2 ^ (35 - i) else r) 0)

/-- The first 64 primes. -/
def shaPrimes : List Nat :=
  (List.range 312).filter fun n => decide (2 ≤ n) && (List.range 18).all fun d => decide (d < 2) || d == n || n % d != 0

/-- The round constants: cube roots of the first 64 primes. -/
def shaK : List Word := shaPrimes.map (rootFraction 3)

/-- The initial hash value: square roots of the first 8 primes. -/
def shaInit : List Word := (shaPrimes.take 8).map (rootFraction 2)

/-- The sum without carry of a word's rotations to the right. -/
def turns (l : List Nat) (x : Word) : Word := l.foldl (fun y n => y ^^^ x.rotateRight n) 0

/-- The message schedule, newest word first, longer by `n` words. -/
def shaWords : Nat → List Word → List Word
  | 0, l => l
  | n + 1, l =>
    let old := l.getD 14 0
    let young := l.getD 1 0
    shaWords n ((l.getD 15 0 + l.getD 6 0 + (turns [7, 18] old ^^^ old >>> 3) + (turns [17, 19] young ^^^ young >>> 10)) :: l)

/-- One round: the four words that began as `a` and the four that began as `e`, each newest first, take one more; `kw` is the
round's constant and message word. -/
def shaRound (v : List Word × List Word) (kw : Word) : List Word × List Word :=
  match v with
  | (a :: b :: c :: d, e :: f :: g :: h) =>
    let t := (e &&& (f ^^^ g) ^^^ g) + turns [6, 11, 25] e + h.headD 0 + kw
    ((t + turns [2, 13, 22] a + (a &&& (b ||| c) ||| b &&& c)) :: a :: b :: [c], (t + d.headD 0) :: e :: f :: [g])
  | v => v

/-- The rounds of one block of 16 message words. -/
def shaRounds (w h : List Word) : List Word :=
  let r := (List.zipWith (· + ·) shaK (shaWords 48 w.reverse).reverse).foldl shaRound (h.take 4, h.drop 4)
  r.1 ++ r.2

/-- Big-endian words of a list of bytes. -/
def beWords : List Byte → List Word
  | a :: b :: c :: d :: r => (a ++ b ++ c ++ d : BitVec 32) :: beWords r
  | _ => []

/-- The bytes of a word, most significant first. -/
def beBytes (w : Word) : List Byte := (wordBytes w).reverse

/-- Whole blocks hashed, at most `n` of them. -/
def shaBlocks : Nat → List Byte → List Word → List Word
  | 0, _, h => h
  | n + 1, m, h =>
    if m.isEmpty then h
    else shaBlocks n (m.drop 64) (List.zipWith (· + ·) h (shaRounds (beWords (m.take 64)) h))

/-- The bytes that follow a message of `n` bytes, up to a whole number of blocks: a one bit, zeros, the length in bits. -/
def shaTail (n : Nat) : List Byte :=
  0x80 :: (leBytes 8 (8 * n) ++ List.replicate ((119 - n % 64) % 64) 0).reverse

/-- The SHA-256 digest, byte 0 first. [Log 12 PRESUMED] -/
def sha256 (m : List Byte) : List Byte := (shaBlocks (m.length / 64 + 2) (m ++ shaTail m.length) shaInit).flatMap beBytes

-- AES-256 ---------------------------------------------------------------------------------------------------------

/-- Doubling in GF(2^8). -/
def xtime (b : Byte) : Byte := if b &&& 0x80 = 0x80 then (b <<< 1) ^^^ 0x1B else b <<< 1

/-- The product in GF(2^8). -/
def gmul8 (a b : Byte) : Byte :=
  ((List.range 8).foldl (fun (s : Byte × Byte) i =>
    (if bit b.toNat i then s.1 ^^^ s.2 else s.1, xtime s.2)) (0, a)).1

/-- The inverse in GF(2^8), 0 for 0: the 254th power. -/
def ginv8 (a : Byte) : Byte :=
  let p2 := gmul8 a a
  let p3 := gmul8 p2 a
  let p6 := gmul8 p3 p3
  let p7 := gmul8 p6 a
  let p14 := gmul8 p7 p7
  let p15 := gmul8 p14 a
  let p30 := gmul8 p15 p15
  let p31 := gmul8 p30 a
  let p62 := gmul8 p31 p31
  let p63 := gmul8 p62 a
  let p126 := gmul8 p63 p63
  let p127 := gmul8 p126 a
  gmul8 p127 p127

/-- The S-box. -/
def sbox (a : Byte) : Byte :=
  let x := ginv8 a
  x ^^^ x.rotateLeft 1 ^^^ x.rotateLeft 2 ^^^ x.rotateLeft 3 ^^^ x.rotateLeft 4 ^^^ 0x63

/-- The key schedule's words, four bytes each, newest first, extended by `n` words. -/
def aesExpand : Nat → List (List Byte) → Byte → List (List Byte)
  | 0, l, _ => l
  | n + 1, l, rc =>
    let prev := l.headD []
    let i := l.length % 8
    let t := if i == 0 then
        match prev.map sbox with
        | a :: r => (match r ++ [a] with | x :: y => (x ^^^ rc) :: y | [] => [])
        | [] => []
      else if i == 4 then prev.map sbox else prev
    aesExpand n (List.zipWith (· ^^^ ·) t (l.getD 7 []) :: l) (if i == 0 then xtime rc else rc)

/-- The fifteen round keys of a 32-byte key. -/
def aesKeys (key : List Byte) : List (List Byte) :=
  let ws := (aesExpand 52 ((List.range 8).map fun i => (key.drop (4 * i)).take 4).reverse 1).reverse
  (List.range 15).map fun r => ((ws.drop (4 * r)).take 4).flatten

def aesShift (s : List Byte) : List Byte :=
  (List.range 16).map fun i => s.getD ((i % 4 + 4 * ((i / 4 + i % 4) % 4))) 0

def aesMix (s : List Byte) : List Byte :=
  (List.range 16).map fun i =>
    let c (k : Nat) : Byte := s.getD (4 * (i / 4) + (i + k) % 4) 0
    gmul8 (c 0) 2 ^^^ gmul8 (c 1) 3 ^^^ c 2 ^^^ c 3

def aesRounds : List (List Byte) → List Byte → List Byte
  | [], s => s
  | [k], s => List.zipWith (· ^^^ ·) (aesShift (s.map sbox)) k
  | k :: r, s => aesRounds r (List.zipWith (· ^^^ ·) (aesMix (aesShift (s.map sbox))) k)

/-- One block enciphered. -/
def aesBlock (keys : List (List Byte)) (s : List Byte) : List Byte :=
  aesRounds (keys.drop 1) (List.zipWith (· ^^^ ·) s (keys.headD []))

/-- A product in GF(2^128) with GCM's bit order. -/
def gmul128 (x y : BitVec 128) : BitVec 128 :=
  ((List.range 128).foldl (fun (s : BitVec 128 × BitVec 128) i =>
    (if x.getMsbD i then s.1 ^^^ s.2 else s.1,
     if s.2.getLsbD 0 then (s.2 >>> 1) ^^^ (0xE1#128 <<< 120) else s.2 >>> 1)) (0, y)).1

/-- The block of up to 16 bytes at the front, zero-padded. -/
def block128 (l : List Byte) : BitVec 128 :=
  BitVec.ofNat 128 (beNat ((l ++ List.replicate (16 - l.length) 0).take 16))

def ghashN : Nat → BitVec 128 → List Byte → BitVec 128 → BitVec 128
  | 0, _, _, y => y
  | n + 1, h, l, y => if l.isEmpty then y else ghashN n h (l.drop 16) (gmul128 (y ^^^ block128 l) h)

/-- The GCM tag of ciphertext `c` with additional data `a` (SP 800-38D). [Log 12 PRESUMED] -/
def gcmTag (key iv a c : List Byte) : List Byte :=
  let ks := aesKeys key
  let h := block128 (aesBlock ks (List.replicate 16 0))
  let y := ghashN (a.length / 16 + 1) h a 0
  let y := ghashN (c.length / 16 + 1) h c y
  let lens := (leBytes 8 (8 * a.length)).reverse ++ (leBytes 8 (8 * c.length)).reverse
  let y := gmul128 (y ^^^ block128 lens) h
  let e := aesBlock ks (iv ++ [0, 0, 0, 1])
  List.zipWith (· ^^^ ·) ((leBytes 16 y.toNat).reverse) e

/-- Byte `n` of the GCM key stream. -/
def gcmStream (ks : List (List Byte)) (iv : List Byte) (n : Nat) : Byte :=
  (aesBlock ks (iv ++ (leBytes 4 (n / 16 + 2)).reverse)).getD (n % 16) 0

/-- Bytes deciphered whose first lies at offset `off` of the message; each block's key stream is formed once.
[Log 12 PRESUMED] -/
def gcmDecipher (key iv : List Byte) (off : Nat) (l : List Byte) : List Byte :=
  let ks := aesKeys key
  let first := off / 16
  let st := (List.range (l.length / 16 + 2)).flatMap fun i =>
    aesBlock ks (iv ++ (leBytes 4 (first + i + 2)).reverse)
  List.zipWith (· ^^^ ·) l (st.drop (off % 16))

-- P-256 -------------------------------------------------------------------------------------------------------------

def p256P : Nat := 0xffffffff00000001000000000000000000000000ffffffffffffffffffffffff
def p256N : Nat := 0xffffffff00000000ffffffffffffffffbce6faada7179e84f3b9cac2fc632551
def p256B : Nat := 0x5ac635d8aa3a93e7b3ebbd55769886bc651d06b0cc53b0f63bce3c3e27d2604b
def p256G : Nat × Nat :=
  (0x6b17d1f2e12c4247f8bce6e563a440f277037d812deb33a0f4a13945d898c296,
   0x4fe342e2fe1a7f9b8ee7eb4a7c0f9e162bce33576b315ececbb6406837bf51f5)

/-- A power modulo `m`, the exponent below 2^256. -/
def powMod (b e m : Nat) : Nat :=
  (List.range 256).foldl (fun a i =>
    let a := a * a % m
    if bit e (255 - i) then a * b % m else a) (1 % m)

/-- The inverse modulo a prime. -/
def invMod (a m : Nat) : Nat := powMod (a % m) (m - 2) m

/-- The sum of two points; none is the point at infinity. -/
def ecAdd (a b : Option (Nat × Nat)) : Option (Nat × Nat) :=
  match a, b with
  | none, q => q
  | q, none => q
  | some (x1, y1), some (x2, y2) =>
    let p := p256P
    if x1 == x2 && (y1 + y2) % p == 0 then none
    else
      let l := if x1 == x2 then (3 * x1 * x1 + (p - 3)) * invMod (2 * y1) p % p
        else (y2 + p - y1) * invMod (x2 + p - x1) p % p
      let x3 := (l * l + 2 * p - x1 - x2) % p
      some (x3, (l * (x1 + p - x3) + p - y1) % p)

/-- A multiple of a point, the factor below 2^256. -/
def ecMul (k : Nat) (q : Option (Nat × Nat)) : Option (Nat × Nat) :=
  (List.range 256).foldl (fun a i =>
    let a := ecAdd a a
    if bit k (255 - i) then ecAdd a q else a) none

/-- The ECDSA P-256 signature (r, s) over a SHA-256 digest verifies under a public key. [Log 12 PRESUMED] -/
def ecdsaVerify (hash : List Byte) (r s x y : Nat) : Bool :=
  let n := p256N
  let p := p256P
  let on := decide (x < p) && decide (y < p) && y * y % p == (x * x * x + (p - 3) * x + p256B) % p
  if !on || r == 0 || s == 0 || decide (n ≤ r) || decide (n ≤ s) then false
  else
    let w := invMod s n
    let e := beNat hash
    match ecAdd (ecMul (e * w % n) (some p256G)) (ecMul (r * w % n) (some (x, y))) with
    | none => false
    | some (px, _) => px % n == r

end Sys2Proof.Machine
end

