-- ==== Sys2Proof/Machine/Operands.lean ====
section
/-!
DEFINITION. The operand forms of the register commands: which offsets there are, who may reach them, locked
fields and stored-value rules, 64-bit pairs, and key sequences (chapter 02).
-/
namespace Sys2Proof.Machine
open Sys2Proof F

-- PG_STATUS bits of the DEV page (R59)
def stLINK_UP : Nat := 0
def stLINK_DOWN : Nat := 1
def stABSENT_WRITE : Nat := 2
def stBAD_ACCESS : Nat := 3
def stOFF_WRITE : Nat := 4
def stRO_WRITE : Nat := 5
def stUNREACHABLE : Nat := 6

/-- A page of the AON domain. -/
def isAon (pg : Nat) : Bool := (pageAt pg).isSome && (pageDomains pg).isEmpty

/-- The kind of a page that is present. -/
def State.kind? (s : State) (pg : Nat) : Option PageKind :=
  if s.present pg then (pageAt pg).map Prod.fst else none

/-- An offset of BAR0 beyond the register pages that the map of R37 gives. -/
def windowAt (off : Nat) : Bool :=
  (decide (flowBase ≤ off) && decide (off < flowBase + 0x2_0000)) ||
    (decide (msixBase ≤ off) && decide (off < msixBase + 0x8100))

/-- An offset of BAR0 that is absent or unmapped (R5, R6, R44). [Log 91 DESIGN CHOICE] -/
def State.absentAt (s : State) (off : Nat) : Bool :=
  if off < 0xC_0000 then
    match pageAt (off / 0x1000) with
    | none => true
    | some (k, i) => !s.present (off / 0x1000) || absentUnit s.variant k i (off % 0x1000)
  else !windowAt off

/-- An offset beyond the header of a page whose domain is off (R45). [Log 30 DEDUCED] -/
def State.offAt (s : State) (off : Nat) : Bool :=
  decide (off < 0xC_0000) && decide (0x40 ≤ off % 0x1000) && !s.pageOn (off / 0x1000)

-- Locks (R54-R56) -----------------------------------------------------------------------------------------

/-- Lock mask bit `b` of a page is in force. -/
def State.locked (s : State) (pg b : Nat) : Bool := s.maskBit pg PG_LOCK b

/-- A write met a locked field that it would have changed (R56). -/
def State.lockedWrite (s : State) (pg : Nat) : State := s.setStatus pg stLOCKED_WRITE

-- Stored values -------------------------------------------------------------------------------------------

/-- PG_FAULT_REACT as stored (R430). -/
def reactStored (k : PageKind) (v : Nat) : Nat :=
  ((List.range 8).map fun n =>
    let x := bits v (4 * n) 4
    let e := x / 8 * 8
    let c := if x % 8 ≥ 6 then 1 else x % 8
    (match faultClass k n with
      | 0 => 0
      | 3 => 8 + (if c == 4 || c == 5 then c else 5)
      | _ =>
        if c == 3 && (k == .dev || k == .tnd || k == .pwr0 || k == .pwr1 || k == .seq || k == .gb) then e + 1
        else e + c) * 16 ^ n).sum

/-- The value that a field stores of a written one: the ranges and roundings of the register tables. -/
def State.stored (s : State) (pg : Nat) (k : PageKind) (f : Fld) (i v : Nat) : Nat :=
  match k with
  | .dev => if f = DEV_ERRPIN.PULSE then clampN 1 1000 v else v
  | .tnd => if f = TND_WATCH.MP_TIMEOUT then clampN 10 1000 v else v
  | .tb0 => if f = TB_SLEW_RATE then clampN 4 20 v else v
  | .tb1 =>
    if f = TM_CTRL.START_SRC ∨ f = TM_CTRL.MODE then (if v ≥ 4 then 0 else v)
    else if f = TM_PERIOD then max v 20
    else if f = TM_WIDTH then clampN 4 (s.get pg TM_PERIOD i - 1) v
    else v
  | .fb => if f = FB_SCRUB.PERIOD then max v 1 else v
  | .cfg => if f = CFG_SRC_ADDR_LO then v / 4 * 4 else v
  | .cch =>
    if f = CCH_DRAIN.LIMIT then max v 1 else if f = CCH_RELEASE.ORDER then (if v ≥ 6 then 0 else v) else v
  | .cal => if f = CAL_PERIOD then clampN 50 10000 v else v
  | .cv =>
    if f = CV_BLOCK.SCANS then max v 1
    else if f = CV_TRIG.MODE then (if v ≥ 6 then 0 else v)
    else if f = CV_CAL_CTRL.INTERVAL then clampN 5 1000 v else v
  | .fc => if f = FC_SHIFT.SHIFT then min v 72 else v
  | .cp => if f = CP_CFG.DIV then clampN 1 1000 v else v
  | .sch3 =>
    if f = SCH_SQ_BASE_LO ∨ f = SCH_CQ_BASE_LO then v / 4096 * 4096
    else if f = SCH_SQ_CFG.SIZE ∨ f = SCH_CQ_CFG.SIZE then min v 12
    else if f = SCH_SQ_CFG.CREDIT then min v (nRecords s.variant) else v
  | .st =>
    if f = ST_RING_CFG.SIZE then min v 22
    else if f = ST_RING_CFG.BLOCK then min v 8
    else if f = ST_RING_BASE_LO then v / 4096 * 4096
    else if f = ST_RING_BUF.BLOCKS then clampN 2 8192 v
    else if f = ST_RING_WB_LO then v / 8 * 8 else v
  | .rs0 =>
    if f = RS_FMT.VAULT then clampN 1 16 v
    else if f = RS_REFRESH.PERIOD then max v 1
    else if f = RS_REFRESH.THRESH then clampN 10 90 v else v
  | .rs1 => if f = RS_VT_ADDR_LO then v / 8 * 8 else v
  | .rs3 =>
    if f = RS_PR_VMIN.EFF then clampN 50 100 v
    else if f = RS_PR_MARGIN then max v 10 else v
  | .bfe =>
    if f = BFE_BOOT.MAX_TRIES then max v 1
    else if f = BFE_UPD_OFF then v / 4096 * 4096 else v
  | .tw => if f = TW_CFG.CLAIM_WAIT then max v 1 else v
  | .pwr1 =>
    if f = PWR_VCORE_LIMIT then clampN 650 880 v
    else if f = PWR_VCORE_TARGET then clampN 650 (s.get pg PWR_VCORE_LIMIT) v else v
  | .seq => if f = SEQ_RAIL.PG_TIMEOUT then max v 1 else v
  | _ => v

-- Plain writes (R15, R16, R56) ----------------------------------------------------------------------------

/-- One field of a register written: place `p` of a field repeated in its register. -/
def State.writePlace (s : State) (pg : Nat) (k : PageKind) (f : Fld) (i p : Nat) (v : Word) : State :=
  let new := bits v.toNat (f.lo + f.bstep * p) f.len
  let old := s.get pg f i p
  match f.acc with
  | .rw =>
    if (match f.lock with | none => false | some b => s.locked pg b) then s
    else s.set pg f (s.stored pg k f i new) i p
  | .w1c => s.set pg f (Nat.land old (2 ^ f.len - 1 - new)) i p
  | _ => s

/-- The write would change a locked field. -/
def State.meetsLock (s : State) (pg o : Nat) (k : PageKind) (v : Word) : Bool :=
  (fieldsAt k o).any fun f =>
    match f.acc, f.lock with
    | .rw, some b =>
      s.locked pg b && (List.range f.bcount).any fun p =>
        bits v.toNat (f.lo + f.bstep * p) f.len != s.get pg f ((f.index? o).getD 0) p
    | _, _ => false

/-- A write of a plain register of a present page: each writable field takes its stored value, each W1C field
clears where a one is written, locked fields keep theirs and are flagged. [Log 91 DESIGN CHOICE] -/
def State.plainWrite (s : State) (off : Nat) (v : Word) : State :=
  let pg := off / 0x1000
  let o := off % 0x1000
  match s.kind? pg with
  | none => s
  | some k =>
    let hit := s.meetsLock pg o k v
    let s := (fieldsAt k o).foldl (fun s f =>
      s.each (List.range f.bcount) fun s p => s.writePlace pg k f ((f.index? o).getD 0) p v) s
    if hit then s.lockedWrite pg else s

/-- A write of a register that stores `v'` in place of the value written, some fields taking no new value; a locked field
that the value written would change is flagged all the same (R56). -/
def State.plainWriteAs (s : State) (off : Nat) (v v' : Word) : State :=
  let pg := off / 0x1000
  let o := off % 0x1000
  match s.kind? pg with
  | none => s
  | some k => if s.meetsLock pg o k v && !s.meetsLock pg o k v' then (s.plainWrite off v').lockedWrite pg else s.plainWrite off v'

/-- Applies an operation under a lock bit: with the lock in force nothing is applied, and a write that would
have changed the field is flagged. -/
def State.underLock (s : State) (pg b : Nat) (changes : Bool) (f : State → State) : State :=
  if s.locked pg b then (if changes then s.lockedWrite pg else s) else f s

-- 64-bit pairs (R13, R14) ---------------------------------------------------------------------------------

/-- The low words of the 64-bit values of a page kind; the high word follows each. -/
def pairLows : PageKind → List Fld
  | .dev => [DEV_UID_LO]
  | .tnd => [TND_RESET_TIME_LO, TND_SAFE_TIME_LO]
  | .tb0 => [TB_TIME_LO, TB_TIME_SET_LO]
  | .tb1 => [TM_START_TIME_LO]
  | .cfg => [CFG_SRC_ADDR_LO, CFG_SHEET_ID_LO]
  | .cch => [CCH_SWAP_TIME_LO]
  | .cv => [CV_INJ_TIME_LO]
  | .fc => [FC_LAST_TIME_LO]
  | .ls => [LS_TIME_LO]
  | .sch3 => [SCH_SQ_BASE_LO, SCH_CQ_BASE_LO]
  | .st => [ST_BYTES_LO, ST_RING_BASE_LO, ST_RING_WB_LO]
  | .rs0 => [RS_SRC_ADDR_LO]
  | .rs1 => [RS_VT_ADDR_LO, RS_VT_KEY_LO]
  | .rs2 => [RS_CAP_RD_ADDR_LO, RS_CAP_TRIG_TIME_LO]
  | .rs3 => [RS_PR_LAST_TIME_LO]
  | .bfe => [BFE_UPD_SRC_LO]
  | .tw => [TW_TAKEOVER_TIME_LO, TW_PEER_UID_LO]
  | .sn => [SN_STROBE_T_LO]
  | _ => []

/-- The BAR0 offset is the low word of a 64-bit pair. -/
def State.isPairLow (s : State) (off : Nat) : Bool :=
  match s.kind? (off / 0x1000) with
  | none => false
  | some k =>
    let o := off % 0x1000
    o == 0x028 || (pairLows k).any fun f => (f.index? o).isSome

/-- The BAR0 offset is the low word of a pair that can be written. -/
def State.isWrPairLow (s : State) (off : Nat) : Bool :=
  match s.kind? (off / 0x1000) with
  | none => false
  | some k => (pairLows k).any fun f => f.acc == .rw && (f.index? (off % 0x1000)).isSome

/-- The key of a master and a pair. -/
def pairKey (m : Master) (lowOff : Nat) : Nat := 2 ^ 24 * m.id + lowOff

/-- A low-word write is held for its master and pair (R14); a locked pair holds nothing. [Log 19 DEDUCED] -/
def State.holdLow (s : State) (m : Master) (off : Nat) (v : Word) : State :=
  let pg := off / 0x1000
  match s.kind? pg with
  | none => s
  | some k =>
    if (fieldsAt k (off % 0x1000)).any fun f => match f.lock with | none => false | some b => s.locked pg b then
      (if s.reg off ≠ v then s.lockedWrite pg else s)
    else { s with lowHold := aput s.lowHold (pairKey m off) v }

/-- The low word that goes with a high-word write: the held one, or the present one; none stays held.
[Log 19 DEDUCED] -/
def State.takeLow (s : State) (m : Master) (lowOff : Nat) : Word × State :=
  match aget s.lowHold (pairKey m lowOff) with
  | some w => (w, { s with lowHold := adel s.lowHold (pairKey m lowOff) })
  | none => (s.reg lowOff, s)

/-- A plain pair written with both halves together. [Log 19 DEDUCED] -/
def State.writePair (s : State) (m : Master) (hiOff : Nat) (v : Word) : State :=
  let (w, s) := s.takeLow m (hiOff - 4)
  (s.plainWrite (hiOff - 4) w).plainWrite hiOff v

-- Key sequences (R54, R456, R507) -------------------------------------------------------------------------

/-- A BAR0 write of a master restarts its key sequences at other registers (R54). -/
def State.restartKeys (s : State) (m : Master) (off : Nat) : State :=
  match aget s.keys m.id with
  | some (o, _) => if o = off then s else { s with keys := adel s.keys m.id }
  | none => s

/-- The writes of the sequence at a register that a master has made so far. -/
def State.keyStage (s : State) (m : Master) (off : Nat) : Nat :=
  match aget s.keys m.id with
  | some (o, n) => if o = off then n else 0
  | none => 0

def State.setKey (s : State) (m : Master) (off n : Nat) : State :=
  { s with keys := if n = 0 then adel s.keys m.id else aput s.keys m.id (off, n) }

/-- A write to a register with a key sequence of two keys: the third write is answered with `true`. A wrong
second write that is itself the first key begins a sequence anew. [Log 20 DEDUCED] -/
def State.keyWrite (s : State) (m : Master) (off : Nat) (k1 k2 v : Word) : Bool × State :=
  match s.keyStage m off with
  | 2 => (true, s.setKey m off 0)
  | 1 => if v = k2 then (false, s.setKey m off 2) else (false, s.setKey m off (if v = k1 then 1 else 0))
  | _ => (false, s.setKey m off (if v = k1 then 1 else 0))

-- The way of a register write to its page -----------------------------------------------------------------

/-- A write that is absent or unmapped (R5, R44). -/
def State.absentWrite (s : State) : State :=
  (s.incSat pgDEV DEV_ABSENT_WRITES).setStatus pgDEV stABSENT_WRITE

/-- The DMA port of a fabric bank that takes no transfers (R147, R192). -/
def State.portShut (s : State) (m : Master) : Bool := match m with | .fabric b => !s.portOpen b | _ => false

/-- A register write of a master on its way: key sequences restart, then reach (R60), absence (R5), and power
(R45) are checked in this order, and what is left is applied. A device that is OFF or held by RESET# takes none, and a
fabric bank's DMA port waits while its bank takes no transfers (R147, R192). [Log 17 DEDUCED, 18 DESIGN CHOICE] -/
def State.gate (s : State) (m : Master) (off : Nat) (body : State → State) : State :=
  let s := s.restartKeys m off
  if s.unpowered || s.resetLow || s.portShut m then s
  else if m.isPort && decide (0x5000 ≤ off) then s.setStatus pgDEV stUNREACHABLE
  else if s.absentAt off then s.absentWrite
  else if s.offAt off then s.setStatus pgDEV stOFF_WRITE
  else body s

/-- The gate of a register given by page number and field. -/
def State.gateF (s : State) (m : Master) (pg : Nat) (f : Fld) (i : Nat) (body : State → State) : State :=
  s.gate m (f.addr pg i) body

end Sys2Proof.Machine
end

