-- ==== Sys2Proof/Machine/SheetCore.lean ====
section
/-!
DEFINITION. Sheets (chapter 06): the header and its checks, the commands of the body and their checks, and what
the end of a load does.
-/
namespace Sys2Proof.Machine
open Sys2Proof F

-- PG_STATUS bits of the CFG page (R184) and the KEY page (R186)
def stLOAD_DONE : Nat := 0
def stLOAD_FAIL : Nat := 1
def stXFRAME_REQ : Nat := 2
def stRESYNC_DONE : Nat := 3
def stRS_UPDATE_DONE : Nat := 4
def stRS_UPDATE_FAIL : Nat := 5
def stBUSY_REJECT : Nat := 6
def stRS_FALLBACK : Nat := 7
def stPROG_DONE : Nat := 0
def stPROG_FAIL : Nat := 1
def stSIG_REJECT : Nat := 2

-- Load codes (R178)
def ldHEADER : Nat := 0x01
def ldVARIANT : Nat := 0x02
def ldSOURCE : Nat := 0x03
def ldMODE : Nat := 0x04
def ldUNSIGNED : Nat := 0x05
def ldUNENCRYPTED : Nat := 0x06
def ldKEY : Nat := 0x07
def ldSIGNATURE : Nat := 0x08
def ldDECKLE : Nat := 0x10
def ldCONTENTION : Nat := 0x11
def ldCOMMAND : Nat := 0x12
def ldQUIRE : Nat := 0x13
def ldOVERLAP : Nat := 0x14
def ldRETAIN : Nat := 0x15
def ldXFRAME : Nat := 0x16
def ldLENGTH : Nat := 0x17
def ldABORT : Nat := 0x18
def ldINTERNAL : Nat := 0x19
def ldWORDS : Nat := 0x1A
def ldCOUNT : Nat := 0x20
def ldCRC : Nat := 0x21
def ldWATERMARK : Nat := 0x22
def ldAUTH_TAG : Nat := 0x23

-- Bytes of a header or command --------------------------------------------------------------------------------------

/-- `n` bytes from offset `o`. -/
def slice (l : List Byte) (o n : Nat) : List Byte := (l.drop o).take n
/-- The little-endian number of `n` bytes at offset `o`. -/
def leAt (l : List Byte) (o n : Nat) : Nat := leNat (slice l o n)
/-- The big-endian number of `n` bytes at offset `o`. -/
def beAt (l : List Byte) (o n : Nat) : Nat := beNat (slice l o n)
/-- `n` bytes at offset `o` are all zero. -/
def zeroAt (l : List Byte) (o n : Nat) : Bool := (slice l o n).all (· == 0)

-- Header fields (R153)
def hdrVariant (h : List Byte) : Nat := leAt h 6 1
def hdrFlags (h : List Byte) : Nat := leAt h 7 1
def hdrSigned (h : List Byte) : Bool := bit (hdrFlags h) 0
def hdrEncrypted (h : List Byte) : Bool := bit (hdrFlags h) 1
def hdrBoot (h : List Byte) : Bool := bit (hdrFlags h) 2
def hdrFirmware (h : List Byte) : Bool := bit (hdrFlags h) 3
def hdrWords (h : List Byte) : Bool := bit (hdrFlags h) 4
def hdrBanks (h : List Byte) : Nat := leAt h 0x0C 4
def hdrSectors (h : List Byte) : Nat := leAt h 0x10 1
def hdrKeySlot (h : List Byte) : Nat := leAt h 0x11 1
def hdrBody (h : List Byte) : Nat := leAt h 0x14 4
def hdrMark (h : List Byte) : List Byte := slice h 0x20 32
def hdrIv (h : List Byte) : List Byte := slice h 0x40 12
def hdrTag (h : List Byte) : List Byte := slice h 0x50 16

/-- MAGIC, FORMAT and the reserved bytes and bits are as R153 gives. -/
def hdrForm (h : List Byte) : Bool :=
  slice h 0 4 == [0x47, 0x58, 0x53, 0x48] && leAt h 4 2 == 1 && zeroAt h 0x12 2 && zeroAt h 0x4C 4 &&
    zeroAt h 0x60 32 && bits (hdrVariant h) 3 5 == 0 && bits (hdrFlags h) 5 3 == 0

/-- The format checks of R154; a header cut short by the input fails them. -/
def hdrBad (h : List Byte) : Bool :=
  h.length != 256 || !hdrForm h || (hdrBanks h == 0 && hdrSectors h == 0) ||
    leAt h 8 4 != 1536 * popCount (hdrBanks h) 32 || decide (hdrBody h < 8) || hdrBody h % 4 != 0 || hdrFirmware h

/-- The signature of a header verifies over its bytes 0x000-0x07F (R167 order 8). -/
def hdrVerifies (h : List Byte) : Bool :=
  ecdsaVerify (sha256 (h.take 0x80)) (beAt h 0x80 32) (beAt h 0xA0 32) (beAt h 0xC0 32) (beAt h 0xE0 32)

/-- A key slot is programmed, not revoked and readable, and holds the hash of a header's public key (R167, R170,
R186). -/
def State.slotMatches (s : State) (h : List Byte) : Bool :=
  let k := hdrKeySlot h
  decide (k < 4) && s.get pgKEY KEY_SLOTS.SLOT 0 k == 1 && !s.keyBad.contains k &&
    aget s.keyHash k == some (sha256 (slice h 0xC0 64))

/-- The header checks of R167 from order 2 on: the code of the first that fails, 0 for none. [Log 44 DEDUCED] -/
def State.headerCode (s : State) (h : List Byte) : Nat :=
  let v := s.variant
  if hdrBad h then ldHEADER
  else if !bit (hdrVariant h) (variantBit v) || decide (2 ^ nBanks v ≤ hdrBanks h) ||
      decide (2 ^ nSectors v ≤ hdrSectors h) || (hdrWords h && hdrVariant h != 1) then ldVARIANT
  else if hdrEncrypted h && s.hostAssisted pgCFG then ldMODE
  else if !hdrSigned h && (s.flag pgKEY KEY_POLICY.SIGN_FUSE || s.flag pgKEY KEY_POLICY.SIGN_REQUIRED) then
    ldUNSIGNED
  else if !hdrEncrypted h && s.flag pgKEY KEY_POLICY.ENC_REQUIRED then ldUNENCRYPTED
  else if (hdrSigned h && !s.slotMatches h) ||
      (hdrEncrypted h && (!s.flag pgKEY KEY_POLICY.SHEET_KEY_SET || s.keyBad.contains 4)) then ldKEY
  else if hdrSigned h && !hdrVerifies h then ldSIGNATURE
  else 0

-- Repair sources and shadow contents (R211) ---------------------------------------------------------------------------

/-- The repair source of a region (bank b at key b, sector s at key 32 + s), with its CAL_SRC register. -/
def State.setOrigin (s : State) (r : Nat) (o : Origin) : State :=
  let s := { s with activeSrc := aput s.activeSrc r o }
  if r < 32 then (s.set pgCAL CAL_SRC_FB.KIND o.kind r).set pgCAL CAL_SRC_FB.SLOT o.slot r
  else (s.set pgCAL CAL_SRC_AS.KIND o.kind (r - 32)).set pgCAL CAL_SRC_AS.SLOT o.slot (r - 32)

/-- The region numbers of a mask of banks and sectors. -/
def regions (banks sectors : Nat) : List Nat := maskList banks 32 ++ (maskList sectors 8).map (32 + ·)

/-- The shadow plane of a region no longer matches its active plane: a shadow-plane repair source reverts to none. -/
def State.shadowChanged (s : State) (r : Nat) : State :=
  match aget s.activeSrc r with
  | some o => if o.kind = 3 then s.setOrigin r { o with kind := 0 } else s
  | none => s

/-- A region of the shadow marked TORN (R163, R210). -/
def State.markTorn (s : State) (r : Nat) : State :=
  (if r < 32 then s.setMaskBit pgCFG CFG_TORN_BANKS r true else s.setMaskBit pgCFG CFG_TORN_SECTORS (r - 32) true).shadowChanged r

/-- The physical plane that is shadow for a bank. -/
def State.shadowPlane (s : State) (b : Nat) : Nat := 1 - s.activePlane b

/-- The regions, and at 64 + p the pad words, held after a failed repair that a load or resync of the named regions leaves
without a fresh shadow (R213). -/
def State.freshen (s : State) (banks sectors : Nat) : List Nat :=
  s.heldStale.filter fun r =>
    if r < 64 then !(regions banks sectors).contains r
    else !bit banks (bits (s.setting 0 (padIdx (r - 64))).toNat 24 5)

-- The end of an operation (R178, R179) ----------------------------------------------------------------------------------

/-- An operation starts: CFG_ERR and CFG_ERR_FRAME no longer hold the last one's (R179). [Log 47 DEDUCED] -/
def State.clearErr (s : State) (src : Nat) : State :=
  let s := (s.set pgCFG CFG_ERR.SRC src).set pgCFG CFG_ERR.CODE 0
  (s.setReg (CFG_ERR_FRAME.VALID.addr pgCFG 0) 0).set pgCFG CFG_ERR_OFFSET 0

/-- A load ends with a code, the byte offset of the command that stopped it, and the offending target (kind and
number); what the loader's buffer still holds of its input is dropped. [Log 100 DESIGN CHOICE] -/
def State.endLoad (s : State) (l : Load) (code off : Nat) (frame : Option (Nat × Nat)) : State :=
  let s := { s with cfgOp := .idle, loaderBuf := if l.src = 3 then [] else s.loaderBuf }
  let s := (s.set pgCFG CFG_STATE.OP 0).set pgCFG CFG_XFRAME_REQ.PENDING 0
  let s := (s.set pgCFG CFG_ERR.SRC l.src).set pgCFG CFG_ERR.CODE code
  let s := if code == 0 then s else s.set pgCFG CFG_ERR_OFFSET (if code < 0x10 then 2 ^ 32 - 1 else off)
  let s := match frame with
    | none => s
    | some (k, n) =>
      ((s.set pgCFG CFG_ERR_FRAME.VALID 1).set pgCFG CFG_ERR_FRAME.KIND k).set pgCFG CFG_ERR_FRAME.ADDR n
  let s := if code == ldSIGNATURE then s.setStatus pgKEY stSIG_REJECT else s
  if code == 0 then
    let h := l.header
    let s := s.set pgCFG CFG_TORN_BANKS (Nat.land (s.get pgCFG CFG_TORN_BANKS) (2 ^ 32 - 1 - hdrBanks h))
    let s := s.set pgCFG CFG_TORN_SECTORS (Nat.land (s.get pgCFG CFG_TORN_SECTORS) (255 - hdrSectors h))
    let s := s.set pgCCH CCH_SHADOW_OK_BANKS (Nat.lor (s.get pgCCH CCH_SHADOW_OK_BANKS) (hdrBanks h))
    let s := s.set pgCCH CCH_SHADOW_OK_SECTORS (Nat.lor (s.get pgCCH CCH_SHADOW_OK_SECTORS) (hdrSectors h))
    let o : Origin :=
      { kind := if l.src = 0 then 1 else if l.src = 1 then 2 else 0, slot := if l.src = 1 then l.lib else 0,
        mark := hdrMark h }
    let s := { s with
      shadowSrc := (regions (hdrBanks h) (hdrSectors h)).foldl (fun t r => aput t r o) s.shadowSrc,
      heldStale := s.freshen (hdrBanks h) (hdrSectors h) }
    let s := s.set64 pgCFG CFG_SHEET_ID_LO (leAt h 0x18 8)
    let s := (s.set pgKEY KEY_LAST.ENCRYPTED (b2n (hdrEncrypted h))).set pgKEY KEY_LAST.SIGNED (b2n (hdrSigned h))
    (s.set pgKEY KEY_LAST.SLOT (hdrKeySlot h)).setStatus pgCFG stLOAD_DONE
  else s.setStatus pgCFG stLOAD_FAIL

/-- The load in progress stops with a code (ABORT, INTERNAL); other operations are not loads. -/
def State.stopLoad (s : State) (code : Nat) : State :=
  match s.cfgOp with
  | .load l => s.endLoad l code l.body.length none
  | _ => s

/-- A running operation ended without a result: a block reset or a press (R175, R181, R184). -/
def State.abortOp (s : State) : State :=
  match s.cfgOp with
  | .idle => s
  | .load l => s.endLoad l ldABORT l.body.length none
  | _ => { s with cfgOp := .idle }.set pgCFG CFG_STATE.OP 0

-- The input of a load (R172) ------------------------------------------------------------------------------------------------

/-- The BAR2 offset of the boot region and of the firmware region of the recovery store. [Log 45 DESIGN CHOICE] -/
def regionBase (fw : Bool) : Nat := if fw then 0x130_0000 else 0x100_0000
/-- [Log 45 DESIGN CHOICE] -/
def regionSize (fw : Bool) : Nat := if fw then 0x10_0000 else 0x30_0000

/-- Bytes of a recovery-store image from offset `o`: of the region, or of its copy in the ream store (R183). -/
def State.imageBytes (s : State) (fw copy : Bool) (o n : Nat) : List Byte :=
  if copy then slice ((aget s.bootCopy (b2n fw)).getD []) o n
  else s.bytes (regionBase fw + o) (min n (regionSize fw - o))

/-- The image that a region of the recovery store holds. -/
def State.regionImage (s : State) (fw : Bool) : List Byte :=
  s.imageBytes fw false 0 (256 + hdrBody (s.imageBytes fw false 0 256))

/-- A load of source 0 reads the boot copy: the strap names it, or the fallback is in use (R183, R206). -/
def State.bootFromCopy (s : State) : Bool := s.part.bootSrc == 1 || s.get pgCFG CFG_RS.BOOT_STATE == 3

/-- Up to `n` bytes of the input of a load from offset `o` of the sheet (R172): of the recovery store, of the library slot,
of the first CFG_SRC_LEN bytes in host memory, of the loader's bytes, or of the peer's slot; what comes from outside the
device stands in `raw`. Source 5 is an image in the controller's hands (R182, R212). -/
def State.loadInput (s : State) (l : Load) (raw : List Byte) (o n : Nat) : List Byte :=
  match l.src with
  | 0 => s.imageBytes false (l.lib == 1) o n
  | 1 => slice ((aget s.lib l.lib).getD []) o n
  | 2 => raw.take (min n (s.get pgCFG CFG_SRC_LEN - o))
  | 3 => (l.got ++ s.loaderBuf).take n
  | _ => raw.take n

/-- The loader has not delivered the next `n` bytes of the sheet yet. -/
def State.loaderWaits (s : State) (l : Load) (n : Nat) : Bool :=
  l.src == 3 && decide ((l.got ++ s.loaderBuf).length < n)

/-- The controller takes what the loader's buffer holds while the rest of a header or command is still to come (R177). -/
def State.loaderTake (s : State) (l : Load) : State :=
  { s with cfgOp := .load { l with got := l.got ++ s.loaderBuf }, loaderBuf := [] }

/-- The `n` bytes of a header or command of a load are consumed: those of the loader leave its buffer (R177). -/
def State.loaderDrop (s : State) (l : Load) (n : Nat) : Load × State :=
  if l.src = 3 then
    ({ l with got := l.got.drop n }, { s with loaderBuf := s.loaderBuf.drop (n - l.got.length) })
  else (l, s)

-- Starting a load (R171, R163) --------------------------------------------------------------------------------------------

/-- An operation may start (R171). -/
def State.cfgFree (s : State) : Bool :=
  s.cfgOp == .idle && s.couch.isNone && s.accepts pgCFG

/-- A load of a source starts; its header is still to come. -/
def newLoad (src lib : Nat) : Load :=
  { src := src, lib := lib, header := [], body := [], crc := crc32Init, written := [], dict := [], dictCrc := [],
    taps := [], waiting := none, got := [] }

def State.startLoad (s : State) (src lib : Nat) : State :=
  if !s.cfgFree then s.setStatus pgCFG stBUSY_REJECT
  else
    let s := { s with cfgOp := .load (newLoad src (if src = 0 then b2n s.bootFromCopy else lib)) }
    ((s.clearErr src).set pgCFG CFG_STATE.OP 1).set pgCFG CFG_FRAMES 0

/-- What an accepted header does before the first command (R163). -/
def State.acceptHeader (s : State) (l : Load) (h : List Byte) : State :=
  let banks := hdrBanks h
  let secs := hdrSectors h
  let s := (regions banks secs).foldl State.markTorn s
  let inSec := fun (e : Nat × Word) => e.1 / 16384 == 1 && decide (e.1 % 16384 < 8192) && bit secs (e.1 % 16384 / 1024)
  let s := { s with setw := s.setw.filter fun e => !inSec e }
  let s := s.each (List.range 256) fun s p =>
    let w := s.setting 1 (padIdx p)
    if bit w.toNat 31 && bit banks (bits w.toNat 24 5) then s.setSetting 1 (padIdx p) (setBits w 31 1 0) else s
  let s := { s with
    retS := s.retS.filter fun e => !bit banks e.bank,
    cfgOp := .load { l with header := h } }
  s.set pgCFG CFG_STATE.OP 2

/-- The header of a load is checked (R167). [Log 44 DEDUCED] -/
def State.takeHeader (s : State) (l : Load) (h : List Byte) (avail : Bool) : State :=
  let empty := match l.src with
    | 1 => (aget s.lib l.lib).isNone || s.get pgRS RS_STATE.STATE != 2
    | 4 => !s.flag pgTW TW_STATUS.LINK_UP || !avail
    | _ => false
  if !bit (s.get pgCFG CFG_SRC_EN) l.src || empty then s.endLoad l ldSOURCE 0 none
  else
    let c := s.headerCode h
    if c == 0 then s.acceptHeader l h else s.endLoad l c 0 none

-- Commands of the body (R155-R162) ------------------------------------------------------------------------------------------

/-- The number of bytes of a command from its plaintext header; none for a malformed header (R156). -/
def cmdLen (p : List Byte) : Option Nat :=
  let n45 := leAt p 4 2
  let n67 := leAt p 6 2
  match leAt p 0 1 with
  | 0x01 => if leAt p 1 1 ≤ 1 ∧ zeroAt p 3 1 ∧ zeroAt p 6 2 then some 520 else none
  | 0x02 =>
    if leAt p 1 1 = 1 ∧ zeroAt p 3 1 ∧ n67 ≠ 0 then some 8
    else if leAt p 1 1 = 0 ∧ zeroAt p 3 1 ∧ n45 ≠ 0 ∧ zeroAt p 6 2 then some (8 + (2 * n45 + 3) / 4 * 4) else none
  | 0x03 => if zeroAt p 1 3 ∧ n67 ≠ 0 then some 8 else none
  | 0x04 => if leAt p 1 1 ≤ 1 ∧ zeroAt p 2 2 ∧ n67 ≠ 0 ∧ n67 ≤ 1024 then some (8 + 4 * n67) else none
  | 0x05 =>
    let n := leAt p 4 4
    if zeroAt p 1 3 ∧ n ≠ 0 ∧ n ≤ 65536 then some (8 + 8 * n) else none
  | 0x0F => if zeroAt p 1 3 then some 8 else none
  | _ => none

/-- What a command found: the code that stops the load, with its target, or none. -/
abbrev Stop := Option (Nat × Option (Nat × Nat))

/-- The first frame target that fails R164. -/
def frameStop (banks : Nat) (written : List Nat) (targets : List Nat) : Stop :=
  match targets.find? fun n => !bit banks (n / 0x600) || written.contains n with
  | none => none
  | some n => some (if bit banks (n / 0x600) then ldOVERLAP else ldDECKLE, some (0, n))

/-- A list names a value twice: the second place. -/
def dupAt : List Nat → List Nat → Option Nat
  | _, [] => none
  | seen, x :: r => if seen.contains x then some x else dupAt (x :: seen) r

/-- One frame decoded and written (R119, R165): a frame that sets a word-tile bit on a variant without word tiles,
or a second static tap of a line, is not written. -/
def State.putFrame (s : State) (l : Load) (n : Nat) (d : List Byte) : Stop × Load × State :=
  let b := n / 0x600
  let lines := (Config.staticTaps (n % 0x600) d).map fun x => 64 * b + x
  if !hasWords s.variant && Config.frameWords (n % 0x600) d then (some (ldWORDS, some (0, n)), l, s)
  else if (dupAt (l.taps.map fun (t : Nat × Nat) => 64 * t.1 + t.2) lines).isSome then
    (some (ldCONTENTION, some (0, n)), l, s)
  else
    let l := { l with written := n :: l.written, taps := l.taps ++ lines.map fun x => (x / 64, x % 64) }
    let s := s.setFrame (s.shadowPlane b) n d
    (none, l, s.set pgCFG CFG_FRAMES l.written.length)

/-- Frames written in turn until one stops the load. -/
def State.putFrames (s : State) (l : Load) (d : List Byte) : List Nat → Stop × Load × State
  | [] => (none, l, s)
  | n :: r =>
    match s.putFrame l n d with
    | (none, l, s) => State.putFrames s l d r
    | x => x

/-- The frames that a QUIRE names. -/
def quireTargets (p : List Byte) : List Nat :=
  if leAt p 1 1 = 1 then (List.range (leAt p 6 2)).map (leAt p 4 2 + ·)
  else (List.range (leAt p 4 2)).map fun i => leAt p (8 + 2 * i) 2

/-- The padding of a QUIRE's list is zero (R156). -/
def quirePad (p : List Byte) : Bool := leAt p 1 1 = 1 || (p.drop (8 + 2 * leAt p 4 2)).all (· == 0)

/-- Targets checked for R164, a target named twice by the command included. -/
def targetStop (l : Load) (targets : List Nat) : Stop :=
  match frameStop (hdrBanks l.header) l.written targets with
  | some x => some x
  | none => (dupAt [] targets).map fun n => (ldOVERLAP, some (0, n))

/-- FRAME (R156, R157). -/
def State.cmdFrame (s : State) (l : Load) (p : List Byte) : Stop × Load × State :=
  let n := leAt p 4 2
  let d := slice p 8 512
  match targetStop l [n] with
  | some x => (some x, l, s)
  | none =>
    match s.putFrame l n d with
    | (none, l, s) =>
      let slot := leAt p 2 1
      if leAt p 1 1 = 0 then (none, l, s)
      else if s.hostAssisted pgCFG then (none, { l with dictCrc := aput l.dictCrc slot (crc32 d) }, s)
      else (none, { l with dict := aput l.dict slot d }, s)
    | x => x

/-- QUIRE (R157); in host-assisted mode it asks for the slot and waits (R176). [Log 44 DEDUCED] -/
def State.cmdQuire (s : State) (l : Load) (p : List Byte) (off : Nat) : Stop × Load × State :=
  let slot := leAt p 2 1
  let ts := quireTargets p
  let undef : Stop := some (ldQUIRE, ts.head?.map fun n => (0, n))
  if !quirePad p then (some (ldCOMMAND, none), l, s)
  else
    match targetStop l ts with
    | some x => (some x, l, s)
    | none =>
      if s.hostAssisted pgCFG then
        if (aget l.dictCrc slot).isNone then (undef, l, s)
        else
          let s := ((s.set pgCFG CFG_XFRAME_REQ.SLOT slot).set pgCFG CFG_XFRAME_REQ.PENDING 1).set pgCFG CFG_STATE.OP 3
          (none, { l with waiting := some { slot := slot, targets := ts, offset := off } },
            s.setStatus pgCFG stXFRAME_REQ)
      else
        match aget l.dict slot with
        | none => (undef, l, s)
        | some d => s.putFrames l d ts

/-- ZERO (R156). -/
def State.cmdZero (s : State) (l : Load) (p : List Byte) : Stop × Load × State :=
  let ts := (List.range (leAt p 6 2)).map (leAt p 4 2 + ·)
  match targetStop l ts with
  | some x => (some x, l, s)
  | none => s.putFrames l zeroFrame ts

/-- The setting word index, and the check of one analogue or pad target (R159, R164). -/
def State.settingStop (s : State) (l : Load) (space a : Nat) (w : Word) : Stop :=
  let banks := hdrBanks l.header
  if space = 0 then
    if 8192 ≤ a then some (ldCOMMAND, none)
    else if bit (hdrSectors l.header) (a / 1024) then none else some (ldDECKLE, some (1, a))
  else if 256 ≤ a then some (ldCOMMAND, none)
  else
    let old := (s.setting 1 (padIdx a)).toNat
    if (bit old 31 && !bit banks (bits old 24 5)) || (bit w.toNat 31 && !bit banks (bits w.toNat 24 5)) then
      some (ldDECKLE, some (2, a))
    else none

/-- ANALOG (R159). A word address beyond the space stops the load before any target is checked further. -/
def State.cmdAnalog (s : State) (l : Load) (p : List Byte) : Stop × Load × State :=
  let space := leAt p 1 1
  let first := leAt p 4 2
  let ws := leWords (slice p 8 (4 * leAt p 6 2))
  let ts := (List.range ws.length).map fun i => (first + i, ws.getD i 0)
  let top := if space = 0 then 8192 else 256
  if top < first + ws.length then (some (ldCOMMAND, none), l, s)
  else
    match ts.findSome? fun (t : Nat × Word) => s.settingStop l space t.1 t.2 with
    | some x => (some x, l, s)
    | none =>
      (none, l, ts.foldl (fun s (t : Nat × Word) =>
        s.setSetting 1 (if space = 0 then t.1 else padIdx t.1) t.2) s)

/-- A retention entry of R160. -/
def retEntry (e : Nat) : RetEntry :=
  { tag := bits e 0 20, kind := bits e 20 3, bank := bits e 24 5, tile := bits e 29 9, reg := bits e 38 3,
    mirror := bit e 23 }

/-- The check of one RETAIN entry (R161) against the entries that the shadow plane would hold. -/
def retStop (l : Load) (held : List RetEntry) (i e : Nat) : Stop :=
  let x := retEntry e
  if bits e 41 23 != 0 then some (ldCOMMAND, none)
  else if x.tag == 0 || decide (4 < x.kind) || (x.kind != 0 && decide (63 < x.tile)) || (x.kind != 1 && x.reg != 0) ||
      (x.kind != 0 && hdrVariant l.header != 1) || (held.any fun y => y.tag == x.tag) ||
      decide (65536 ≤ held.length) || (x.mirror && decide (512 ≤ (held.filter RetEntry.mirror).length)) then
    some (ldRETAIN, some (3, i))
  else if !bit (hdrBanks l.header) x.bank then some (ldDECKLE, some (3, i))
  else none

/-- The entries of a RETAIN command, checked in turn. -/
def retAll (l : Load) (held : List RetEntry) : Nat → List Nat → Stop × List RetEntry
  | _, [] => (none, held)
  | i, e :: r =>
    match retStop l held i e with
    | some x => (some x, held)
    | none => retAll l (held ++ [retEntry e]) (i + 1) r

/-- RETAIN (R160, R161): the entries of a refused command are not kept. [Log 44 DEDUCED] -/
def State.cmdRetain (s : State) (l : Load) (p : List Byte) : Stop × Load × State :=
  let es := (List.range (leAt p 4 4)).map fun i => leAt p (8 + 8 * i) 8
  match retAll l s.retS 0 es with
  | (none, held) => (none, l, { s with retS := held })
  | (some x, _) => (some x, l, s)

/-- The checks at END (R162); `l.body` is the body as stored, END included. [Log 44 DEDUCED] -/
def State.endStop (s : State) (l : Load) (p : List Byte) : Stop :=
  let h := l.header
  let low := (maskList (hdrBanks h) 32).findSome? fun b =>
    ((List.range 1536).map (1536 * b + ·)).find? fun n => !l.written.contains n
  match low with
  | some n => some (ldCOUNT, some (0, n))
  | none =>
    if (l.crc ^^^ 0xFFFFFFFF).toNat ≠ leAt p 4 4 then some (ldCRC, none)
    else if sha256 l.body ≠ hdrMark h then some (ldWATERMARK, none)
    else if hdrEncrypted h ∧ gcmTag (s.sheetKey.getD []) (hdrIv h) (h.take 0x20) l.body ≠ hdrTag h then
      some (ldAUTH_TAG, none)
    else none

/-- The opcodes of R156. -/
def knownOp (op : Nat) : Bool := [0x01, 0x02, 0x03, 0x04, 0x05, 0x0F].contains op

/-- One command of the body: `op` is the opcode of its row, `raw` its bytes as stored where they come from outside the
device. A command whose opcode is another row's is not this one's to carry out. The command is deciphered, measured, and
carried out whole; a stop names its offset. [Log 44 DEDUCED] -/
def State.loadCmd (s : State) (op : Nat) (raw : List Byte) : State :=
  match s.cfgOp with
  | .load l =>
    let off := l.body.length
    let h := l.header
    if l.header.isEmpty || l.waiting.isSome then s
    else if hdrBody h < off + 8 then s.endLoad l ldLENGTH off none
    else if s.loaderWaits l 8 then s.loaderTake l
    else
      let dec (x : List Byte) : List Byte :=
        if hdrEncrypted h then gcmDecipher (s.sheetKey.getD []) (hdrIv h) off x else x
      let head := dec (s.loadInput l raw (256 + off) 8)
      if head.length < 8 then s.endLoad l ldLENGTH off none
      else if leAt head 0 1 ≠ op ∧ knownOp (leAt head 0 1) then s
      else
        match cmdLen head with
        | none => s.endLoad l ldCOMMAND off none
        | some n =>
          let st := s.loadInput l raw (256 + off) n
          if hdrBody h < off + n ∨ (op = 0x0F ∧ hdrBody h ≠ off + 8) then s.endLoad l ldLENGTH off none
          else if s.loaderWaits l n then s.loaderTake l
          else if st.length < n then s.endLoad l ldLENGTH off none
          else
            let p := dec st
            let (l, s) := s.loaderDrop l n
            let l1 := { l with
              body := l.body ++ st, crc := if op = 0x0F then l.crc else p.foldl crc32Byte l.crc }
            if op = 0x0F then
              match s.endStop l1 p with
              | none => s.endLoad l1 0 off none
              | some (c, f) => s.endLoad l1 c off f
            else
              let r := match op with
                | 0x01 => s.cmdFrame l1 p
                | 0x02 => s.cmdQuire l1 p off
                | 0x03 => s.cmdZero l1 p
                | 0x04 => s.cmdAnalog l1 p
                | _ => s.cmdRetain l1 p
              match r with
              | (none, l2, s) => { s with cfgOp := .load l2 }
              | (some (c, f), l2, s) => s.endLoad l2 c off f
  | _ => s

-- Whole images (R182, R183, R387) -------------------------------------------------------------------------------------------

/-- The commands of an image in turn, at most `n` of them. -/
def State.loadAll : Nat → State → List Byte → State
  | 0, s, _ => s.stopLoad ldLENGTH
  | n + 1, s, body =>
    match s.cfgOp with
    | .load l =>
      let st := body.drop l.body.length
      let dec (x : List Byte) : List Byte :=
        if hdrEncrypted l.header then gcmDecipher (s.sheetKey.getD []) (hdrIv l.header) l.body.length x else x
      State.loadAll n (s.loadCmd (leAt (dec (st.take 1)) 0 1) st) body
    | _ => s

/-- The state whose shadow planes an image has been written to, on a copy in hardware decompression: the dictionary is in
hand. -/
def State.expand (s : State) (img : List Byte) : State :=
  let s := { s with cfgOp := .load (newLoad 5 0) }.set pgCFG PG_MODE.FUNC 0
  State.loadAll (img.length / 8 + 1) (s.acceptHeader (newLoad 5 0) (img.take 256)) (img.drop 256)

/-- The check of an image exactly as a load from host memory checks it, the enable of that source included (R167, R182),
carried out on a copy of the state: the code, its offset and its target; 0 for a sound image. -/
def State.checkSheet (s : State) (img : List Byte) : Nat × Nat × Word :=
  let c := if bit (s.get pgCFG CFG_SRC_EN) 2 then s.headerCode (img.take 256) else ldSOURCE
  let r := if c == 0 then s.expand img else s.endLoad (newLoad 5 0) c 0 none
  (r.get pgCFG CFG_ERR.CODE, r.get pgCFG CFG_ERR_OFFSET, r.reg (CFG_ERR_FRAME.VALID.addr pgCFG 0))

/-- The part of an image that a region holds: header and body. -/
def imageOf (img : List Byte) : List Byte := img.take (256 + hdrBody (img.take 256))

/-- The watermark of an image is that of its body (R168). -/
def markOk (img : List Byte) : Bool := sha256 (slice img 256 (hdrBody (img.take 256))) == hdrMark (img.take 256)

/-- The check of a firmware image (R182). [Log 11 DESIGN CHOICE] -/
def State.checkFirmware (s : State) (img : List Byte) : Nat :=
  let h := img.take 256
  let n := hdrBody h
  let body := slice img 256 n
  if h.length ≠ 256 ∨ !hdrForm h ∨ hdrFlags h ≠ 9 ∨ leAt h 8 4 ≠ 0 ∨ hdrBanks h ≠ 0 ∨ hdrSectors h ≠ 0 ∨
      hdrKeySlot h ≠ 0 ∨ !zeroAt h 0x40 12 ∨ !zeroAt h 0x50 16 then ldHEADER
  else if !bit (hdrVariant h) (variantBit s.variant) then ldVARIANT
  else if sha256 (slice h 0xC0 64) ≠ Config.firmwareKeyHash then ldKEY
  else if !hdrVerifies h then ldSIGNATURE
  else if n < 8 ∨ n % 4 ≠ 0 ∨ 2 ^ 20 < n ∨ body.length ≠ n ∨ slice body (n - 8) 4 ≠ [0x0F, 0, 0, 0] then ldLENGTH
  else if (crc32 (body.take (n - 8))).toNat ≠ leAt body (n - 4) 4 then ldCRC
  else if sha256 body ≠ hdrMark h then ldWATERMARK
  else 0

end Sys2Proof.Machine
end

