-- ==== Sys2Proof/Machine/OutputCore.lean ====
section
/-!
DEFINITION. Analogue output channels (chapter 11): disables, span changes, strobes, the safe state, warm tracking.
-/
namespace Sys2Proof.Machine
open Sys2Proof F

-- PG_STATUS bits of the DA page (R325) and of the LS page (R326)
def stDA_TRIP : Nat := 0
def stDA_COMPLY : Nat := 1
def stSPAN_DONE : Nat := 2
def stDA_REJECT : Nat := 3
def stLS_REJECT : Nat := 8

/-- A channel at reset: unpublished, in the span of DA_CFG's reset value. -/
def outReset : OutCh :=
  { stage := .off, span := 1, disabling := false, step := 0, since := 0, thenOff := false, zero := false, lim := 0,
    gate := 0, tripAt := none }

def State.out (s : State) (c : Nat) : OutCh := (aget s.outCh c).getD outReset

def State.setOut (s : State) (c : Nat) (x : OutCh) : State :=
  { s with outCh := if x = outReset then adel s.outCh c else aput s.outCh c x }

def State.modOut (s : State) (c : Nat) (f : OutCh → OutCh) : State := s.setOut c (f (s.out c))

def daPage (c : Nat) : Nat := pgDA (c / 16)
def State.da (s : State) (c : Nat) (f : Fld) : Nat := s.get (daPage c) f (c % 16)
def State.setDa (s : State) (c : Nat) (f : Fld) (v : Nat) : State := s.set (daPage c) f v (c % 16)

def State.published (s : State) (c : Nat) : Bool := s.da c DA_STATUS.PUBLISHED == 1
def State.tripped (s : State) (c : Nat) : Bool := s.da c DA_STATUS.TRIP == 1
def State.spanBusy (s : State) (c : Nat) : Bool := s.da c DA_STATUS.SPAN_BUSY == 1

/-- The channel exists on the part. -/
def State.outHere (s : State) (c : Nat) : Bool := decide (c < nOutputs s.variant)

def pageOuts (i : Nat) : List Nat := (List.range 16).map (16 * i + ·)

/-- The output that a code stands for in a span (R307): uV in spans 0-3, nA in spans 4-6. -/
def spanOutput (span code : Nat) : Rat :=
  match span with
  | 0 => (code : Rat) * 5000000 / 65536
  | 1 => (code : Rat) * 10000000 / 65536
  | 2 => (sext 16 code : Rat) * 5000000 / 32768
  | 3 => (sext 16 code : Rat) * 10000000 / 32768
  | 4 => (code : Rat) * 20000000 / 65536
  | 5 => 4000000 + (code : Rat) * 16000000 / 65536
  | _ => (code : Rat) * 24000000 / 65536

/-- What a channel gives at its pin, or in its loop (R307, R308, R313): 0 where its stage does not drive. -/
def State.outValue (s : State) (c : Nat) : Rat :=
  if (s.out c).stage == .driving then spanOutput (s.out c).span (s.da c DA_STATUS.OUT_CODE) else 0

/-- The code, span, SAFE_CODE and input register of a channel sent to the twin peer (R477). -/
def State.mirrorOut (s : State) (c : Nat) : State :=
  s.mirror (.analog c (s.da c DA_STATUS.OUT_CODE) (s.da c DA_CFG.SPAN) (s.da c DA_SAFE) (s.da c DA_CODE))

/-- The channel at SAFE_CODE without a strobe. -/
def State.outToSafe (s : State) (c code : Nat) : State := (s.setDa c DA_STATUS.OUT_CODE code).mirrorOut c

/-- A published channel is disabled (R314): SAFE_CODE at once, unpublished 5 us later; during a span change it
follows the change (R317). -/
def State.daDisable (s : State) (c code : Nat) : State :=
  if s.spanBusy c then s.modOut c fun x => { x with thenOff := true, zero := x.zero || code != s.da c DA_SAFE }
  else if !s.published c || (s.out c).disabling then s
  else
    (((s.outToSafe c code).setDa c DA_STATUS.SAFE 1)).modOut c fun x => { x with disabling := true, since := s.clk }

/-- PG_CTRL.EN of a DA page has changed: written 0, it disables every channel (R314). -/
def State.daCtrl (s : State) (i : Nat) (wasEn : Bool) : State :=
  if wasEn && !s.flag (pgDA i) PG_CTRL.EN then
    s.each (pageOuts i) fun s c => s.daDisable c (s.da c DA_SAFE)
  else s

/-- The channel's trip is over: its bits clear (R308). -/
def State.clearTrip (s : State) (c : Nat) : State :=
  let s := (s.setDa c DA_STATUS.TRIP 0).setMaskBit (daPage c) DA_TRIP (c % 16) false
  s.modOut c fun x => { x with lim := 0, tripAt := none }

/-- A block reset of a DA page (R314), PG_CTRL.EN being 0 already: the runs of every channel count anew. -/
def State.daBlockReset (s : State) (i : Nat) : State :=
  s.each (pageOuts i) fun s c =>
    let trip := s.tripped c
    let s := (s.daDisable c (s.da c DA_SAFE)).modOut c fun x => { x with lim := 0, gate := 0 }
    if trip then
      (s.clearTrip c).modOut c fun x => if x.step == 0 then { x with stage := .off } else x
    else s

/-- A block reset of the LS page (R326). -/
def State.lsBlockReset (s : State) : State :=
  s.each (List.range 8) fun s g =>
    ((s.set pgLS LS_CFG.SRC 0 g).set pgLS LS_COUNT.MERGED 0 g).set pgLS LS_COUNT.STROBES 0 g

/-- The safe state is entered (R317, R318): published channels move to SAFE_CODE; a span change runs on. -/
def State.daSafe (s : State) : State :=
  s.each (List.range 64) fun s c =>
    if s.published c && !s.spanBusy c then (s.outToSafe c (s.da c DA_SAFE)).setDa c DA_STATUS.SAFE 1 else s

/-- Warm tracking (R320, R322): in a role that drives no shared output every enabled channel runs warm, one that is clamped
as soon as its clamp ends, and no channel is published; a warm channel of a device that drives them connects and is
published. -/
def State.daWarm (s : State) (c : Nat) : State :=
  if !s.outHere c then s
  else if s.listening then
    let warm := s.da c DA_CFG.EN == 1 && s.pageOn (daPage c)
    let s := (s.setDa c DA_STATUS.TWIN_WARM (b2n warm)).setDa c DA_STATUS.PUBLISHED 0
    s.modOut c fun x =>
      { x with
        disabling := false,
        stage := if x.stage == .clamp then .clamp else if warm then .warm else .off }
  else if s.da c DA_STATUS.TWIN_WARM == 1 then
    ((s.setDa c DA_STATUS.TWIN_WARM 0).setDa c DA_STATUS.PUBLISHED 1).modOut c fun x =>
      { x with stage := if x.stage == .clamp then .clamp else .driving }
  else s

def State.daWarmAll (s : State) : State := s.each (List.range 64) State.daWarm

/-- The domain of a channel goes off, or the chip is reset: it is unpublished (R313, R317). -/
def State.daOff (s : State) (c : Nat) : State := { s with outCh := adel s.outCh c }

-- Strobes (R310-R312) ---------------------------------------------------------------------------------------

/-- A strobe updates the channel: enabled, neither tripped nor in a span change, not moving to or held at
SAFE_CODE by a disable or the safe state, and not warm. [Log 59 DEDUCED] -/
def State.takesStrobe (s : State) (c g : Nat) : Bool :=
  s.outHere c && s.da c DA_CFG.GROUP == g && s.da c DA_CFG.EN == 1 && s.accepts (daPage c) && !s.tripped c &&
    !s.spanBusy c && !(s.out c).disabling && !s.safe && !s.listening

/-- The channel publishes its input register. -/
def State.publish (s : State) (c : Nat) : State :=
  let s := (s.setDa c DA_STATUS.OUT_CODE (s.da c DA_CODE)).setDa c DA_STATUS.PUBLISHED 1
  ((s.setDa c DA_STATUS.SAFE 0).modOut c fun x => { x with stage := .driving }).mirrorOut c

/-- A strobe of a group at a loop edge that counts: its instant, its status, and the channels of the group. -/
def State.strobeNow (s : State) (g edge : Nat) : State :=
  let s := { s with lsLast := aput s.lsLast g edge }
  let s := ((s.incWrap pgLS LS_COUNT.STROBES g).set64 pgLS LS_TIME_LO (s.tsAt edge).toNat g).setStatus pgLS g
  s.each ((List.range 64).filter fun c => s.takesStrobe c g) State.publish

/-- A strobe of a group at a loop edge: merged if less than 100 ns after the last that counted. -/
def State.strobe (s : State) (g edge : Nat) : State :=
  if !s.accepts pgLS then s
  else
    match aget s.lsLast g with
    | some l => if l ≤ edge ∧ edge < l + 100 then s.incSat pgLS LS_COUNT.MERGED g else s.strobeNow g edge
    | none => s.strobeNow g edge

/-- The strobe events on their way that fell before a loop edge take effect first (R311): what is written at that edge
waits for a later one. [Log 59 DEDUCED] -/
def State.serveStrobes (s : State) (edge : Nat) : State :=
  let due (e : TrigAt) : Bool := (match e.what with | .strobe _ => true | _ => false) && decide (tickOf e.clk < tickOf edge)
  (s.trig.filter due).foldl (fun s (e : TrigAt) => match e.what with | .strobe g => s.strobe g e.clk | _ => s)
    { s with trig := s.trig.filter fun e => !due e }

/-- A new input code meets the last strobe of its group (R311): applied at the strobe's tick, it is published by it. -/
def State.meetStrobe (s : State) (c : Nat) : State :=
  let g := s.da c DA_CFG.GROUP
  match aget s.lsLast g with
  | some l => if tickOf l = tickOf s.clk ∧ s.takesStrobe c g then s.publish c else s
  | none => s

end Sys2Proof.Machine
end

