-- ==== Sys2Proof/Machine/ConvCore.lean ====
section
/-!
DEFINITION. The converters' shared operations (chapter 09): what a channel's path includes, corrections, the
queue of injected requests, scans, and block reset.
-/
namespace Sys2Proof.Machine
open Sys2Proof F

-- PG_STATUS bits of the CV page (R276)
def stBLOCK_DONE : Nat := 0
def stINJ_DONE : Nat := 1
def stOVERRUN : Nat := 2
def stINJ_OVERFLOW : Nat := 3
def stFG_DONE : Nat := 4
def stCAL_CAPTURE : Nat := 5
def stDIAG_DONE : Nat := 6
def stSLICE_RETIRED : Nat := 7
def stCV_LOST : Nat := 8
def stCV_REJECT : Nat := 9

/-- The state of a converter. -/
def State.conv (s : State) (n : Nat) : Conv := (aget s.convs n).getD convReset

def State.setConv (s : State) (n : Nat) (c : Conv) : State :=
  { s with convs := if c = convReset then adel s.convs n else aput s.convs n c }

def State.modConv (s : State) (n : Nat) (f : Conv → Conv) : State := s.setConv n (f (s.conv n))

-- Channel paths (R231, R249) --------------------------------------------------------------------------------

/-- The nodes within `k` steps upstream of a list of nodes, the list included. -/
def State.upstream (s : State) (sec : Nat) : Nat → List Nat → List Nat
  | 0, l => l
  | k + 1, l =>
    let m := l ++ l.flatMap (s.feeders sec)
    State.upstream s sec k ((List.range 48).filter m.contains)

/-- Every node of a channel's path. -/
def State.chanPath (s : State) (n c : Nat) : List Nat :=
  match s.chanNode n c with
  | none => []
  | some x => s.upstream (chanSector n c) 32 [x]

/-- The channel's source is muted: its cell, its direct pin path or the channel itself (R270, R240). -/
def State.chanMuted (s : State) (n c : Nat) : Bool :=
  let sec := chanSector n c
  s.pathMuted sec .chan (c % 16) ||
    (match s.chanNode n c with
      | none => false
      | some x => if x < 32 then s.pathMuted sec .cell x else s.pathMuted sec .pin (x - 32))

/-- The channel's source includes a pin beyond the clamp threshold (R269). -/
def State.chanClamped (s : State) (n c : Nat) : Bool :=
  (s.chanPath n c).any fun x => decide (32 ≤ x) && s.maskBit (pgAS (chanSector n c)) AS_CLAMP (x - 32)

/-- The channel's path includes the test point of an input-path test at a loop edge (R270, R272): from the
closing of the test switch until 2 us after it opens. -/
def State.chanUnderTest (s : State) (n c x : Nat) : Bool :=
  let k := s.conv n
  let hit (d : Nat) : Bool :=
    chanSector n d == chanSector n c &&
      (match s.chanNode n d with | none => false | some x => (s.chanPath n c).contains x)
  (match k.diag with | none => false | some d => d.closed.isSome && hit d.chan) ||
    (match k.diagTail with
      | none => false
      | some (d, t0) => decide (x < t0 + 2000) && hit d)

-- Coefficients and corrections ------------------------------------------------------------------------------

/-- The coefficient set of a slice in force. -/
def State.coefOf (s : State) (n k : Nat) : Coef :=
  let r (f : Fld) : Nat := (resetWord s.part (f.addr (pgCV n) k)).toNat
  (aget (s.conv n).coef k).getD
    { soff := sext 16 (r CV_SOFF), sgain := bits (r CV_SGAIN) 0 18, sskew := sext 12 (r CV_SSKEW) }

/-- COFF and CGAIN of a channel in force. -/
def State.corrOf (s : State) (n c : Nat) : Int × Nat := (aget (s.conv n).corr c).getD (0, 0x10000)

/-- The corrected code before saturation (R266). -/
def corrected (r soff : Int) (sgain : Nat) (coff : Int) (cgain : Nat) : Int :=
  roundDiv (((64 * r - soff) * sgain - coff * 2 ^ 19) * cgain) (2 ^ 39)

/-- The staged corrections of every channel (R267). -/
def State.staged (s : State) (n : Nat) : List (Nat × (Int × Nat)) :=
  (List.range 32).map fun c =>
    (c, (sext 20 (s.get (pgCV n) CV_COFF c), s.get (pgCV n) CV_CGAIN c))

/-- The coefficient registers of a slice as they stand. -/
def State.coefRegs (s : State) (n k : Nat) : Coef :=
  { soff := s.getS (pgCV n) CV_SOFF k, sgain := s.get (pgCV n) CV_SGAIN k, sskew := s.getS (pgCV n) CV_SSKEW k }

-- Injected requests (R256) ----------------------------------------------------------------------------------

/-- A request (channel, edge of arrival, source) joins the queue behind those of earlier ticks and, within its tick, in the
order of R256. -/
def injInsert (e : Nat × (Nat × Nat)) : List (Nat × (Nat × Nat)) → List (Nat × (Nat × Nat))
  | [] => [e]
  | (x : Nat × (Nat × Nat)) :: r =>
    if tickOf e.2.1 < tickOf x.2.1 ∨ (tickOf e.2.1 = tickOf x.2.1 ∧ e.2.2 < x.2.2) then e :: x :: r else x :: injInsert e r

/-- The injected requests that have not yet started (R256): those of the queue, and those placed in slots still to come. -/
def Conv.waiting (c : Conv) : Nat :=
  c.injQ.length + ((c.uses.drop c.slot).filter fun u => match u with | .inj _ => true | _ => false).length

/-- A request reaches the converter at a loop edge; of five that wait the last in order has found four and is dropped. -/
def State.injArrive (s : State) (n chan src edge : Nat) : State :=
  let full := decide (4 ≤ (s.conv n).waiting)
  let s := s.modConv n fun c =>
    let q := injInsert (chan, (edge, src)) c.injQ
    { c with injQ := if full then q.dropLast else q }
  if full then (s.incSat (pgCV n) CV_COUNTS1.INJ_DROPS).setStatus (pgCV n) stINJ_OVERFLOW else s

/-- Injected requests are queued or running. -/
def Conv.injBusy (c : Conv) : Bool :=
  !c.injQ.isEmpty || (c.uses.drop c.slot).any (fun u => match u with | .inj _ => true | _ => false) ||
    c.out.any (·.inj)

/-- No conversion is queued or running (R254: PG_CTRL.IDLE). -/
def Conv.idle (c : Conv) : Bool := c.scan.isEmpty && !c.injBusy && c.out.isEmpty

-- Scans (R250-R254) -----------------------------------------------------------------------------------------

/-- The value in force at half-nanosecond `x`, from the changes that came later (loop edge, value before). -/
def valueAt {α : Type} (x : Int) (now : α) (l : List (Nat × α)) : α :=
  match (l.filter fun (e : Nat × α) => decide (x < 2 * (e.1 : Int))).getLast? with
  | none => now
  | some e => e.2

/-- The channels of a mask, ascending. -/
def maskChans (m : Nat) : List Nat := maskList m 32

/-- A trigger of a scan at a loop edge (R250, R252). -/
def State.scanTriggered (s : State) (n edge : Nat) (trig : Bool) : State :=
  if !s.accepts (pgCV n) || s.get (pgCV n) CV_SCAN_MASK == 0 then s
  else
    s.modConv n fun c =>
      { c with
        starts := c.starts ++ [{ bound := edge + s.get (pgCV n) CV_TRIG.DELAY + 40, trig := trig }] }

/-- PG_CTRL of a converter has been written: counts begin anew when EN becomes 1 (R253, R255, R258), and scans
that wait, or whose trigger is on its way, are given up when no new scan may start (R254). -/
def State.convCtrl (s : State) (n : Nat) (wasEn : Bool) : State :=
  let en := s.flag (pgCV n) PG_CTRL.EN
  let s :=
    if en && !wasEn then
      s.modConv n fun c =>
        { c with
          scanCount := 0, injCount := 0, blockNo := 0, blockScans := 0, blockTime := none, enAt := s.clk }
    else s
  if s.accepts (pgCV n) then s
  else
    let mode := s.get (pgCV n) CV_TRIG.MODE
    let mine (e : TrigAt) : Bool := match e.what with | .scan m _ => m == n && (mode == 1 || mode == 3) | _ => false
    { s with trig := s.trig.filter fun e => !mine e }.modConv n fun c => { c with starts := [] }

/-- A foreground calibration is requested (R262, R263): merged with one pending or running. -/
def State.fgRequest (s : State) (n : Nat) : State :=
  let c := s.conv n
  if c.fgReq || s.flag (pgCV n) CV_STATUS.FG_RUNNING then s
  else
    let s := s.modConv n fun c => { c with fgReq := true }
    if c.injBusy then (s.set (pgCV n) CV_STATUS.CAL_PENDING 1).set (pgCV n) CV_STATUS.PENDING_INJ 0 else s

/-- A slice's state (CV_SLICE_STATE), a retired one staying retired. -/
def State.sliceState (s : State) (n k v : Nat) : State :=
  if s.get (pgCV n) CV_SLICE_STATE.S 0 k == 3 then s else s.set (pgCV n) CV_SLICE_STATE.S v 0 k

/-- A slice is retired. -/
def State.retired (s : State) (n k : Nat) : Bool := s.get (pgCV n) CV_SLICE_STATE.S 0 k == 3

/-- The background cycle is given up (R560, R262): a slice that is out resumes its position with its old
coefficients, and S8 is idle. -/
def State.bgAbandon (s : State) (n : Nat) : State :=
  let c := s.conv n
  let k := c.bgPos
  let s :=
    match c.bg with
    | .idle => s
    | .s8 | .s8Done => s.sliceState n 8 2
    | .out | .outDone => (s.sliceState n 8 2).sliceState n k 0
    | .captured j => (s.sliceState n 8 2).when (j != 8) fun s => s.sliceState n j 0
  let s :=
    match c.bg with
    | .out | .outDone => s.modConv n fun c => { c with pos := c.pos.set k k }
    | .captured j => s.when (j != 8) fun s => s.modConv n fun c => { c with pos := c.pos.set k k }
    | _ => s
  (s.modConv n fun c => { c with bg := .idle }).set (pgCV n) CV_STATUS.CAL_POS 15

/-- A block reset of a CV page (R277), PG_CTRL apart. -/
def State.convBlockReset (s : State) (n : Nat) : State :=
  let b := pgCV n * 0x1000
  let s := s.clearRegs (b + 0x060) (b + 0x068)
  let s := s.clearRegs (b + 0x07C) (b + 0x088)
  let s := s.clearRegs (b + 0x300) (b + 0x420)
  s.modConv n fun c => { c with injQ := [], stop := true }

/-- The converter's domain goes off, or the chip is reset: its state and its registers' coefficients are the
factory's again (R277). -/
def State.convOff (s : State) (n : Nat) : State :=
  { s with convs := adel s.convs n }

/-- The converter's domain has come on: a foreground calibration is due (R262). -/
def State.convOn (s : State) (n : Nat) : State := s.fgRequest n

end Sys2Proof.Machine
end

