-- ==== Sys2Proof/Machine/FilterCore.lean ====
section
/-!
DEFINITION. Filter chains and window comparators (chapter 10): parameters, the datapath, starting and stopping.
-/
namespace Sys2Proof.Machine
open Sys2Proof F

-- PG_STATUS bits of the FC page (R301) and of the CP page (R303)
def stTHR_EVT : Nat := 0
def stFC_LOST : Nat := 1
def stEVT_LOST : Nat := 2
def stFC_REJECT : Nat := 3
def stVALID_AGAIN : Nat := 4
def stCP_SETTLED : Nat := 0
def stCP_REJECT : Nat := 1
def stSNAP_LOST : Nat := 2

/-- A chain that does not run. -/
def chainOff : Chain :=
  { running := false, ints := [], combs := [], count := 0, clip := false, bad := false, tail := 0 }

def State.chain (s : State) (c : Nat) : Chain := (aget s.chains c).getD chainOff

def State.setChain (s : State) (c : Nat) (x : Chain) : State :=
  { s with chains := if x = chainOff then adel s.chains c else aput s.chains c x }

/-- The page of a chain and a field of it. -/
def fcPage (c : Nat) : Nat := pgFC (c / 16)
def State.fc (s : State) (c : Nat) (f : Fld) : Nat := s.get (fcPage c) f (c % 16)
def State.setFc (s : State) (c : Nat) (f : Fld) (v : Nat) : State := s.set (fcPage c) f v (c % 16)

/-- Order N, decimation R and differential delay M of a chain (R283). -/
def State.fcParams (s : State) (c : Nat) : Nat × Nat × Nat :=
  match s.fc c FC_CTL.PRESET with
  | 0 => (3, 8, 1)
  | 1 => (4, 32, 1)
  | 2 => (5, 256, 1)
  | 3 => (5, 2048, 1)
  | _ => (s.fc c FC_CTL.ORDER, s.fc c FC_CTL.DECIM, 1 + s.fc c FC_CTL.M2)

/-- The input width W (R278). -/
def State.fcWidth (s : State) (c : Nat) : Nat :=
  if s.fc c FC_SRC.KIND == 1 && s.fc c FC_SRC.WIDE == 1 then 24 else 16

/-- The least exponent whose power of two reaches a number. -/
def clog2 (x : Nat) : Nat := (findIdx? (fun g => decide (x ≤ 2 ^ g)) 256).getD 256

/-- Growth, pre-shift and shift (R281). -/
def State.fcGrowth (s : State) (c : Nat) : Nat × Nat × Nat :=
  let (n, r, m) := s.fcParams c
  let w := s.fcWidth c
  let g := clog2 ((r * m) ^ n)
  let pre := w + g - 72
  (g, pre, if s.fc c FC_SHIFT.AUTO == 1 then w - pre + g - 24 else min (s.fc c FC_SHIFT.SHIFT) 72)

/-- A chain change (R281, R285, R287): the datapath cleared, its values fixed anew, the next N x R + 2 outputs
invalid, both thresholds not crossed. [Log 58 DEDUCED] -/
def State.changeChain (s : State) (c : Nat) : State :=
  let (n, r, m) := s.fcParams c
  let (g, pre, sh) := s.fcGrowth c
  let s := ((s.setFc c FC_GROWTH.G g).setFc c FC_GROWTH.PRE pre).setFc c FC_GROWTH.S sh
  let s := (s.setFc c FC_THRCTL.STATE0 0).setFc c FC_THRCTL.STATE1 0
  let s := s.setFc c FC_COUNTS.INVALID_LEFT (n * r + 2)
  if (s.chain c).running then
    s.setChain c
      { chainOff with
        running := true, ints := List.replicate n 0, combs := List.replicate n (List.replicate m 0) }
  else s

/-- The chain exists on the part. -/
def State.chainHere (s : State) (c : Nat) : Bool := decide (c < nChains s.variant)

/-- A chain runs while FC_CTL.EN = 1 and its page accepts work (R289). -/
def State.chainWanted (s : State) (c : Nat) : Bool :=
  s.chainHere c && s.fc c FC_CTL.EN == 1 && s.accepts (fcPage c)

/-- The chain starts or stops as its enables now say (R289). -/
def State.chainSync (s : State) (c : Nat) : State :=
  match s.chainWanted c, (s.chain c).running with
  | true, false => (s.setChain c { chainOff with running := true }).changeChain c
  | false, true => s.setChain c chainOff
  | _, _ => s

/-- The sixteen chains of an FC page. -/
def pageChains (i : Nat) : List Nat := (List.range 16).map (16 * i + ·)

/-- PG_CTRL, PG_STATUS or power of an FC page has changed. -/
def State.fcSync (s : State) (i : Nat) : State := s.each (pageChains i) State.chainSync

/-- A block reset of an FC page (R289): every chain stopped, counters, event bits and pending events cleared,
thresholds not crossed; PG_CTRL.EN is 0 already. -/
def State.fcBlockReset (s : State) (i : Nat) : State :=
  let s := s.set (pgFC i) FC_EVT_STATUS 0
  let s := s.each (pageChains i) fun s c =>
    let s := (((s.chainSync c).setFc c FC_COUNTS.INVALID_LEFT 0).setFc c FC_COUNTS.LOST 0)
    let s := ((s.setFc c FC_COUNTS2.EVT_LOST 0).setFc c FC_COUNTS2.OUTPUTS 0)
    (s.setFc c FC_THRCTL.STATE0 0).setFc c FC_THRCTL.STATE1 0
  let mine (k : Nat) : Bool := decide (0x080 ≤ k) && decide (k < 0x0C0) && (k - 0x080) / 16 == i
  { s with
    hwDue := s.hwDue.filter fun e => !mine e.1, hwSlot := s.hwSlot.filter fun e => !mine e.1,
    chainIn := s.chainIn.filter fun e => e.1 / 16 != i }

-- Fabric stream ports (R278, R371) ---------------------------------------------------------------------------

/-- The running chains that take their inputs from the fabric stream port of bank `b`. -/
def State.portChains (s : State) (b : Nat) : List Nat :=
  (List.range 64).filter fun c => s.chainOfPort c b && (s.chain c).running

/-- A word stands whole at the fabric stream port of bank `b`, and the port takes it. -/
def State.streamReady (s : State) (b : Nat) : Bool :=
  s.portFull (.stream b) && !s.portBusy (.stream b) && s.portOpen b

/-- The fabric stream port of bank `b` takes the word that stands at it: for the ring that carries it, and for every chain
that selects it; with neither it waits. -/
def State.takeStream (s : State) (b : Nat) : State :=
  let w : Word := BitVec.ofNat 32 (s.portGot (.stream b)).val
  let l := s.portChains b
  let s := { s with
    portIn := adel s.portIn (FabPort.stream b).key,
    chainIn := s.chainIn ++ l.map fun c => (c, (w, s.ts)) }
  (if l.isEmpty || (s.ringOf (srcPort b)).isSome then s.offerPort b w else s).settle

-- Comparators (R290-R298) -----------------------------------------------------------------------------------

/-- The comparator belongs to the press (R298). -/
def State.cpPress (s : State) (c : Nat) : Bool := (c == 126 || c == 127) && s.flag pgPR RS_PR_CTRL.EN

/-- A comparator ticks, in a domain that is on, while it is enabled on an enabled page, and while the press owns it (R290,
R294, R298). -/
def State.cpWanted (s : State) (c : Nat) : Bool :=
  cpPresent s.variant c && s.pageOn (cpPage c) &&
    (s.cpPress c || (s.flag (cpPage c) PG_CTRL.EN && s.cp c CP_CFG.EN == 1))

/-- The tick period of a comparator in loop edges: DIV microseconds, one for a comparator of the press (R290, R298). -/
def State.cpPeriod (s : State) (c : Nat) : Nat := 1000 * (if s.cpPress c then 1 else max 1 (s.cp c CP_CFG.DIV))

/-- The first tick instant of a comparator after a loop edge: 4 ns x c + k x DIV us after lock (R290). -/
def State.cpAfter (s : State) (c edge : Nat) : Nat :=
  4 * c + (edge + 1 - 4 * c + (s.cpPeriod c - 1)) / s.cpPeriod c * s.cpPeriod c

/-- SETTLED is cleared and counted anew (R294). -/
def State.cpUnsettle (s : State) (c : Nat) : State :=
  let s := s.setCp c CP_STATUS.SETTLED 0
  { s with cpSettle := adel s.cpSettle c }

/-- Both thresholds not crossed, level 0b00 (R294). -/
def State.cpClear (s : State) (c : Nat) : State :=
  let s := ((s.setCp c CP_STATUS.LO_CROSSED 0).setCp c CP_STATUS.HI_CROSSED 0).setCp c CP_STATUS.MUTED 0
  (s.cpUnsettle c).cpPresentLevel c 0

/-- No tick of a comparator is set and no level is on its way. -/
def State.cpForget (s : State) (c : Nat) : State :=
  { s with cpNext := adel s.cpNext c, cpDue := s.cpDue.filter fun (e : Nat × (Nat × Nat)) => e.2.1 != c }

/-- A comparator starts or stops as its enables now say; at a start the scheduler's kept level is 0b00 (R332) and the first
tick is the next instant of its own. -/
def State.cpSync (s : State) (c : Nat) : State :=
  match s.cpWanted c, s.cpRun.contains c with
  | true, false =>
    let s := (s.cpForget c).cpClear c
    { s with cpRun := c :: s.cpRun, compLevel := adel s.compLevel c, cpNext := aput s.cpNext c (s.cpAfter c s.clk) }
  | false, true =>
    let s := (s.cpForget c).cpClear c
    { s with cpRun := s.cpRun.filter (· != c) }
  | _, _ => s

def pageComps (i : Nat) : List Nat := (List.range 32).map (32 * i + ·)

def State.cpSyncPage (s : State) (i : Nat) : State := s.each (pageComps i) State.cpSync

/-- A block reset of a CP page (R303): every comparator disabled but those that the press owns. -/
def State.cpBlockReset (s : State) (i : Nat) : State :=
  let s := s.each (pageComps i) fun s c => if s.cpPress c then s else (s.setCp c CP_CFG.EN 0).cpSync c
  if i == 0 then s.set (pgCP 0) CP_SNAP_LOST 0 else s

end Sys2Proof.Machine
end

