-- ==== Sys2Proof/Machine/PadCore.lean ====
section
/-!
DEFINITION. User pads and serialiser quads (chapter 17): settings, winning functions, what a pad drives, hold
latches, lanes.
-/
namespace Sys2Proof.Machine
open Sys2Proof F

-- PG_STATUS bits of the GB page (R519) and of the SQ page (R520)
def stGB_EDGE : Nat := 0
def stOWNED_WRITE : Nat := 1
def stGB_REJECT : Nat := 2
def stVIO_CHANGE : Nat := 3
def stSQ_LOSS : Nat := 4
def stLOCK_LOST : Nat := 8
def stSQ_REJECT : Nat := 9

-- Settings (R497-R501, R508) --------------------------------------------------------------------------------

/-- The active pad word of a device pad. -/
def State.padWord (s : State) (p : Nat) : Nat := (s.setting 0 (padIdx p)).toNat

def State.padOwned (s : State) (p : Nat) : Bool := bit (s.padWord p) 31
def State.padOwner (s : State) (p : Nat) : Nat := bits (s.padWord p) 24 5

/-- An active pad word that holds a reserved value in its settings (R497). -/
def padWordBad (w : Nat) : Bool := bits w 13 2 == 3 || bits w 10 2 == 3 || bits w 0 6 != 0

/-- Settings of a pad word, a reserved value taking its reset value (R497, R501). -/
def padSettings (w rst : Nat) : Nat :=
  let pull := if bits w 13 2 == 3 then bits rst 13 2 else bits w 13 2
  let slew := if bits w 10 2 == 3 then bits rst 10 2 else bits w 10 2
  bits w 15 7 * 2 ^ 15 + pull * 2 ^ 13 + bits w 12 1 * 2 ^ 12 + slew * 2 ^ 10 + bits w 6 4 * 2 ^ 6

/-- The fields that a lock freezes: FUNC_EN, PULL, KEEPER, SLEW (R507). -/
def lockedBits : Nat := 127 * 2 ^ 15 + 3 * 2 ^ 13 + 2 ^ 12 + 3 * 2 ^ 10

/-- The settings of a pad before its lock: its word's when it is owned, else GB_CFG (R498). -/
def State.padBase (s : State) (p : Nat) : Nat :=
  if s.padOwned p then padSettings (s.padWord p) (resetWord s.part (GB_CFG.addr (pgGB (p / 32)) (p % 32))).toNat
  else s.get (pgGB (p / 32)) GB_CFG (p % 32)

/-- The settings of a pad in force (R508). -/
def State.padInForce (s : State) (p : Nat) : Nat :=
  match aget s.padLocks p with
  | none => s.padBase p
  | some l => Nat.lor (Nat.land l lockedBits) (Nat.land (s.padBase p) (2 ^ 22 - 1 - lockedBits))

/-- Function `f` may claim the pad. -/
def State.funcEn (s : State) (p f : Nat) : Bool := bit (s.padInForce p) (15 + f)

/-- No couch has run since chip reset: the pads are in the cold-load state (R499). -/
def State.padsCold (s : State) : Bool := s.flag (pgGB 0) GB_STATUS.COLD

/-- Functions 0-3 claim the pad (R493). -/
def State.claims (s : State) (p f : Nat) : Bool :=
  s.funcEn p f &&
    match f with
    | 0 => s.padOwned p && s.present (pgFB (s.padOwner p)) && s.flag (pgFB (s.padOwner p)) FB_STATE.OUT
    | 1 => s.flag pgTM PG_CTRL.EN && s.get pgTM TM_CTRL.EN (p % 32) == 1
    | 2 => s.flag pgLS PG_CTRL.EN && s.get pgLS LS_CFG.SRC (p % 8) != 0
    | 3 =>
      let c := p % 128
      cpPresent s.variant c && (s.cpPress c || (s.flag (cpPage c) PG_CTRL.EN && s.cp c CP_CFG.EN == 1))
    | _ => false

/-- The winning function (R494); GPIO when none claims the pad, and in the cold-load state. -/
def State.padWin (s : State) (p : Nat) : Nat :=
  if s.padsCold then 7 else ((List.range 4).find? (s.claims p)).getD 7

/-- What a pad presents: the strap's weak pull, high impedance (keeper and pull as selected), or a driven level. -/
inductive PadOut where
  | strap (up : Bool)
  | open'
  | level (v : Bool)
  deriving DecidableEq, Repr

/-- The level that the pad's winning function drives; none where it only reads the pad (R493, R502): the data of the pad
cell of its bank while its output enable is high, or with no output enable of its own while the sheet feeds data; the output
of its timer; a pulse of 20 ns from each strobe of its group; a threshold of its comparator; GB_OUT. -/
def State.funcLevel (s : State) (p : Nat) : Option Bool :=
  match s.padWin p with
  | 0 =>
    let d := s.padCell (s.padOwner p) p false
    if (s.padCell (s.padOwner p) p true).getD d.isSome then some (d.getD false) else none
  | 1 => some ((aget s.timers (p % 32)).any fun t => t.fall.isSome)
  | 2 => some (match aget s.lsLast (p % 8) with | none => false | some e => decide (s.clk < e + 20))
  | 3 => some (bit (s.cpLevel (p % 128)) (p / 128))
  | _ =>
    let g := pgGB (p / 32)
    if s.maskBit g GB_DIR (p % 32) && s.flag g PG_CTRL.EN &&
        !(s.gbBad.any fun o => o / 0x1000 == g) then some (s.maskBit g GB_OUT (p % 32))
    else none

/-- What the pad's winning function presents; an open-drain output drives low only (R497). -/
def State.funcOut (s : State) (p : Nat) : PadOut :=
  match s.funcLevel p with
  | none => .open'
  | some v => if v && bit (s.padInForce p) 6 then .open' else .level v

def State.padLatch (s : State) (p : Nat) : Pad := (aget s.pads p).getD { holds := 0, level := false }

def State.setPad (s : State) (p : Nat) (x : Pad) : State :=
  { s with pads := if x = { holds := 0, level := false } then adel s.pads p else aput s.pads p x }

/-- The level that a pad last had, as its synchroniser saw it (R504). [Log 60 DEDUCED] -/
def State.padLevel (s : State) (p : Nat) : Bool := s.maskBit (pgGB (p / 32)) GB_IN (p % 32)

/-- The safe mode of a pad (R445). -/
def State.padSafe (s : State) (p : Nat) : PadOut :=
  if s.padOwned p then
    match bits (s.padWord p) 22 2 with
    | 0 => .level false
    | 1 => .level true
    | 2 => .open'
    | _ => .level (s.padLatch p).level
  else .level (s.padLatch p).level

/-- What a pad presents to the board: the cold-load state (R499), the listening state (R475), the safe mode
(R445; also while its active word is uncorrectable, R210), its hold latch, or its winning function. -/
def State.padOut (s : State) (p : Nat) : PadOut :=
  if s.unpowered then .open'
  else if s.padsCold then .strap (bit s.part.bankPull (p / 32))
  else if s.listening then .open'
  else if s.safe || s.badWords.contains (padIdx p) then s.padSafe p
  else if (s.padLatch p).holds != 0 then .level (s.padLatch p).level
  else s.funcOut p

/-- The hold latch of a pad engages for a reason; a latch that was open takes the pad's level. -/
def State.holdPad (s : State) (r p : Nat) : State :=
  let x := s.padLatch p
  if bit x.holds r then s
  else s.setPad p { holds := x.holds + 2 ^ r, level := if x.holds == 0 then s.padLevel p else x.level }

/-- A reason for a pad's hold latch ends. -/
def State.releasePad (s : State) (r p : Nat) : State :=
  let x := s.padLatch p
  if bit x.holds r then s.setPad p { x with holds := x.holds - 2 ^ r } else s

/-- Every pad held, or released, for a reason. -/
def State.holdAll (s : State) (r : Nat) : State := s.each (List.range 256) fun s p => s.holdPad r p
def State.releaseAll (s : State) (r : Nat) : State := s.each (List.range 256) fun s p => s.releasePad r p

/-- The pads of the active words that a bank owns. -/
def State.padsOf (s : State) (b : Nat) : List Nat :=
  (List.range 256).filter fun p => s.padOwned p && s.padOwner p == b

/-- The level of every pad taken into its hold latch, for the modes of R445. [Log 60 DEDUCED] -/
def State.latchLevels (s : State) : State :=
  s.each (List.range 256) fun s p =>
    let x := s.padLatch p
    if x.holds == 0 then s.setPad p { x with level := s.padLevel p } else s

/-- The pad levels and GB_OUT of a bank sent to the twin peer (R477). -/
def State.mirrorPads (s : State) (b : Nat) : State :=
  s.mirror (.gpio b (BitVec.ofNat 32 (s.get (pgGB b) GB_IN)) (BitVec.ofNat 32 (s.get (pgGB b) GB_OUT)))

/-- The bits of a bank's GB_PADLOCK. -/
def State.padLocked (s : State) (b i : Nat) : Bool := s.maskBit (pgGB b) GB_PADLOCK i

/-- A block reset of a GB page (R519). -/
def State.gbBlockReset (s : State) (b : Nat) : State :=
  let g := pgGB b
  let s := (s.set g GB_OUT 0).set g GB_EDGE 0
  s.set g GB_DIR (Nat.land (s.get g GB_DIR) (s.get g GB_PADLOCK))

-- Serialiser quads (R511-R518) ------------------------------------------------------------------------------

/-- A user lane works: quad enabled, powered and locked, lane enabled, not in the safe state (R444, R516). -/
def State.laneOn (s : State) (q l : Nat) : Bool :=
  decide (q < 6) && decide (l < 4) && s.present (pgSQ q) && s.runs (pgSQ q) && s.flag (pgSQ q) SQ_STATUS.LOCKED &&
    s.get (pgSQ q) SQ_LANE_CTRL.EN l == 1 && !s.safe

/-- A lane's alignment changes (R513). -/
def State.setAligned (s : State) (q l : Nat) (v : Bool) : State :=
  if (s.get (pgSQ q) SQ_LANE_STATUS.ALIGNED l == 1) == v then s
  else (s.set (pgSQ q) SQ_LANE_STATUS.ALIGNED (b2n v) l).setStatus (pgSQ q) l

/-- A block reset of an SQ page (R520): every lane disabled, counts cleared, the loop left locked. -/
def State.sqBlockReset (s : State) (q : Nat) : State :=
  let p := pgSQ q
  let s := s.set p SQ_STATUS.LOSS_COUNT 0
  s.each (List.range 4) fun s l =>
    let s := (s.set p SQ_LANE_CTRL.EN 0 l).setReg (SQ_LANE_ERR.CODE_ERRS.addr p l) 0
    let s := (s.setReg (SQ_LANE_FLOW.OVERRUN.addr p l) 0).setReg (SQ_LANE_STATUS.ALIGNED.addr p l) 0
    s.setLane q l laneOff

end Sys2Proof.Machine
end

