-- ==== Sys2Proof/Machine/TwinCore.lean ====
section
/-!
DEFINITION. The twin link's shared operations (chapter 16): frames sent, roles, claims, surrender.
-/
namespace Sys2Proof.Machine
open Sys2Proof F

-- PG_STATUS bits of the TW page
def stTW_LINK_UP : Nat := 0
def stTW_LINK_DOWN : Nat := 1
def stTW_TAKEOVER : Nat := 2
def stTW_SURRENDERED : Nat := 3
def stTW_SYNCED : Nat := 4
def stTW_VAULT_SYNCED : Nat := 5
def stTW_LINE_FAULT : Nat := 6
def stTW_WITHDRAWN : Nat := 7
def stTW_REJECT : Nat := 8

/-- TWIN_PEER as read (R466): 0 NONE, 1 LIVE, 2 CLAIM. -/
def State.peer (s : State) : Nat := s.get pgTW TW_STATUS.PEER_LINE

/-- A live peer (R466). -/
def State.peerLive (s : State) : Bool := s.peer != 0

/-- TWIN_CLAIM as driven (R466): 0 NONE, 1 LIVE, 2 CLAIM. -/
def State.claimLine (s : State) : Nat :=
  if s.unpowered || s.flag pgTND TND_STATUS.VOTE_LOST || s.get pgPWR PWR_STATE.CURRENT == 2 then 0
  else if s.twin.raised.isSome || s.role == 3 || (s.role == 0 && s.step3Done) then 2
  else if s.tbRun then 1 else 0

/-- The pin modes of a sector refreshed; a CINT shunt that opens or closes mutes its direct pin path (R240). -/
def State.refreshShunts (s : State) (sec : Nat) : State :=
  let mode (s : State) (i : Nat) := bits (s.get (pgAS sec) (if i < 8 then AS_PMODE_LO else AS_PMODE_HI)) (4 * (i % 8)) 4
  let s' := s.refreshPins sec
  s'.each ((List.range 16).filter fun i => (mode s i == 1) != (mode s' i == 1)) fun s i => s.mute sec .pin i

/-- The role changes, and the shared outputs with it (R238, R322, R468, R475). -/
def State.setRole (s : State) (r : Nat) : State :=
  let s := s.set pgTW TW_STATUS.ROLE r
  (s.each (List.range (nSectors s.variant)) State.refreshShunts).daWarmAll

/-- A claim is raised (R469). -/
def State.raiseClaim (s : State) (takeover : Bool) : State :=
  { s with twin := { s.twin with raised := some s.clk, seen := s.peer == 2, takeover := takeover, waiting := false } }

/-- The side strap: true for side B (TW_STATUS.SIDE). -/
def State.sideB (s : State) : Bool := s.flag pgTW TW_STATUS.SIDE

/-- A listening device acts on TWIN_PEER (R470): secondary beside a claim; with no peer, or on side A, it raises a
claim; on side B it waits TW_CFG.CLAIM_WAIT. -/
def State.listen (s : State) : State :=
  if s.role != 1 || s.twin.raised.isSome then s
  else
    match s.peer with
    | 2 => { s with twin := { s.twin with waiting := false } }.setRole 2
    | 0 => s.raiseClaim false
    | _ => if s.sideB then { s with twin := { s.twin with waiting := true } } else s.raiseClaim false

/-- TW PG_CTRL.EN becomes 1 (R468): an unpaired device listens. [Log 83 DEDUCED] -/
def State.startListening (s : State) : State := if s.role == 0 then (s.setRole 1).listen else s

/-- A secondary takes over while TWIN_PEER does not read CLAIM (R473). [Log 83 DEDUCED] -/
def State.tryTakeOver (s : State) : State :=
  if s.role == 2 && s.peer != 2 && s.twin.raised.isNone then s.raiseClaim true else s

/-- The heartbeat is lost (R473). [Log 83 DEDUCED] -/
def State.lostHeartbeat (s : State) : State :=
  let s := { s with twin := { s.twin with hbLost := true } }
  if s.role == 2 && s.peer == 2 then s.set pgTW TW_STATUS.LINK_UP 0 else s.tryTakeOver

/-- The flags of a pair in step (R482). -/
def State.clearSynced (s : State) : State :=
  ((s.set pgTW TW_STATUS.SYNCED 0).set pgTW TW_STATUS.VAULT_SYNCED 0).set pgTW TW_STATUS.LIB_SYNCED 0

/-- The link goes down (R464, R471); the fault of a failed link apart. -/
def State.takeLinkDown (s : State) : State :=
  if s.flag pgTW TW_STATUS.LINK_UP then
    let s := (s.set pgTW TW_STATUS.LINK_UP 0).clearSynced
    let s := { s with vtCommit := s.vtCommit.map fun (t : Txn) => { t with solo := true } }
    ((s.incWrap pgTW TW_COUNTS.LINK_DOWNS).setStatus pgTW stTW_LINK_DOWN).lostHeartbeat
  else s

/-- The device surrenders (R472): frame, claim line, outputs, role. In role 2 only the role changes. -/
def State.surrender (s : State) : State :=
  let r := s.role
  if r == 0 || r == 4 then s
  else if r == 2 then (s.setRole 4)
  else
    let s := s.twinSend .surrender
    let s := { s with twin := { s.twin with raised := none, takeover := false, waiting := false, padHold := false } }
    ((s.releaseAll 4).setRole 4).setStatus pgTW stTW_SURRENDERED

/-- A block reset of the TW page: the link retrains, the counts are cleared, the role stays. -/
def State.twBlockReset (s : State) : State :=
  let s := s.takeLinkDown
  let o := pgTW * 0x1000
  let s := s.clearRegs (o + 0x048) (o + 0x04C)
  (s.clearRegs (o + 0x05C) (o + 0x064)).clearRegs (o + 0x068) (o + 0x06C)

/-- A block reset of the SN page: every lane retrains, the counts are cleared, address and ranges stay. -/
def State.snBlockReset (s : State) : State :=
  let s := s.set pgSN SN_STATUS.LANE_UP 0
  let s := (s.set pgSN SN_DELAY.HOST_DROPS 0).set pgSN SN_UNROUTABLE 0
  let o := pgSN * 0x1000
  s.clearRegs (o + 0x06C) (o + 0x074)

end Sys2Proof.Machine
end

