-- ==== Sys2Proof/Machine/CouchCore.lean ====
section
/-!
DEFINITION. Couches (chapter 07): what an active plane sets in a bank, the drain, the retention algorithm, the
exchange and the release steps; the calender's holds.
-/
namespace Sys2Proof

/-- What the 768 logic and routing frames of a bank set; the spec gives the bit layout of no frame (R144, R150).
[Log 9 DESIGN CHOICE] -/
opaque Config.bankCfg : Nat → List (List Byte) → Machine.BankCfg

namespace Machine
open F

-- PG_STATUS bits of the CCH page (R216) and of the CAL page (R217)
def stCOUCH_DONE : Nat := 0
def stCOUCH_REFUSED : Nat := 1
def stDRAIN_CUT : Nat := 2
def stLOCK_LATE : Nat := 3
def stBOOT_FULL_DONE : Nat := 4
def stBOOT_FULL_FAIL : Nat := 5
def stPASS_DONE : Nat := 0
def stCORRECTED : Nat := 1
def stREPAIR_DONE : Nat := 2
def stREPAIR_FAIL : Nat := 3
def stSHADOW_TORN : Nat := 4
def stVOTE_FIX : Nat := 5

-- Refusal codes (R190)
def cchBUSY : Nat := 0x01
def cchABSENT : Nat := 0x02
def cchDRAIN : Nat := 0x08
def cchPRESS : Nat := 0x09

-- What an active plane sets in a bank --------------------------------------------------------------------------

/-- The 768 logic and routing frames of the active plane of a bank (R144). -/
def State.bankFrames (s : State) (b : Nat) : List (List Byte) :=
  (List.range 768).map fun i => s.frame (s.activePlane b) (0x600 * b + i)

/-- The active sheet of a bank. [Log 9 DESIGN CHOICE] -/
def State.bankSheet (s : State) (b : Nat) : BankCfg := Config.bankCfg b (s.bankFrames b)

/-- Entries under the keys of one unit replaced: `n` keys a unit. -/
def setUnit {α : Type} (l : List (Nat × α)) (n u : Nat) (new : List (Nat × α)) : List (Nat × α) :=
  let kept := l.filter fun (e : Nat × α) => e.1 / n != u
  new.foldl (fun t (e : Nat × α) => if e.1 < n then aput t (n * u + e.1) e.2 else t) kept

/-- A route takes 1 to 32 bits, adjacent bits in pairs, from the 64 outbound ports of its cluster to 1 to 8 receivers with 64
inbound ports each (R127); a word lane, on the GX9-L only, 32 bits to 1 to 4 receivers (R130). -/
def netOk (v : Variant) (n : Net) : Bool :=
  match n.kind with
  | .route =>
    decide (1 ≤ n.width) && decide (n.width ≤ 32) && decide (1 ≤ n.recv.length) && decide (n.recv.length ≤ 8) &&
      (n.recv.all fun r => decide (r.2.2 + n.width ≤ 64)) && decide (n.pairs < 2 ^ (n.width - 1)) &&
      Nat.land n.pairs (2 * n.pairs) == 0
  | .wordLane => hasWords v && n.width == 32 && decide (1 ≤ n.recv.length) && decide (n.recv.length ≤ 4)
  | .crossbar | .level => true

/-- The outbound ports that the routes of a cluster take. -/
def portsOut (l : List (Nat × Net)) (home : Nat) : Nat :=
  ((l.filter fun (e : Nat × Net) => e.2.kind == .route && e.2.home == home).map fun e => e.2.width).sum

/-- The bundles, routes and levels of a bank's sheet that its wiring can hold (R127, R130), in their order: a route for which
its cluster has no outbound port left is none. -/
def goodNets (v : Variant) (b : Nat) (l : List (Nat × Net)) : List (Nat × Net) :=
  l.foldl (fun acc (e : Nat × Net) =>
    if e.1 / 65536 == b && netOk v e.2 && (e.2.kind != .route || decide (portsOut acc e.2.home + e.2.width ≤ 64)) then
      acc ++ [(e.1, { e.2 with val := none, delivered := false })]
    else acc) []

/-- The bindings of PROG that worker ports accept (R112): ports 0x00 to 0xDF, each one binding, those of other banks' tiles
first. -/
def State.goodBound (s : State) (b : Nat) (l : List (Nat × WordCfg)) : List (Nat × WordCfg) :=
  let taken := (s.word.filter fun (e : Nat × WordTile) => e.1 / 64 != b).filterMap fun e => e.2.cfg.bound
  (l.foldl (fun (acc : List Nat × List (Nat × WordCfg)) (e : Nat × WordCfg) =>
    match e.2.bound with
    | none => (acc.1, acc.2 ++ [e])
    | some p =>
      if p < 0xE0 ∧ !acc.1.contains p then (p :: acc.1, acc.2 ++ [e])
      else (acc.1, acc.2 ++ [(e.1, { e.2 with bound := none })])) (taken, [])).2

/-- The active sheet of a bank put into force (R147, R149, R338): tiles at their initial values, bundles, routes,
long-line taps, memory aspects and flags (a memory whose ECC changes has its check column computed afresh), bound
worker ports. Bundles and routes of bank b are numbered from
65536 b. [Log 9 DESIGN CHOICE] -/
def State.applySheet (s : State) (b : Nat) : State :=
  let c := s.bankSheet b
  let s := s.clearBankNets b
  let s := { s with
    fine := setUnit s.fine 512 b (c.fine.map fun (e : Nat × FineCfg) => (e.1, e.2.initial)),
    word := if hasWords s.variant then
        setUnit s.word 64 b ((s.goodBound b c.word).map fun (e : Nat × WordCfg) => (e.1, e.2.initial)) else s.word,
    nets := (goodNets s.variant b c.nets).foldl (fun t (e : Nat × Net) => aput t e.1 e.2)
      (s.nets.filter fun (e : Nat × Net) => e.1 / 65536 != b),
    taps := setUnit s.taps 64 b c.taps,
    eventPay := setUnit s.eventPay 8 b ((c.events.filter fun (e : Nat × Nat) => e.1 < 8).map fun (e : Nat × Nat) =>
      (e.1, min e.2 4)),
    spanPorts := setUnit s.spanPorts 8 b ((c.spans.filter fun (e : Nat × Nat) => e.1 < 8 && e.2 < 32).map fun (e : Nat × Nat) =>
      (8 * b + e.1, e.2)),
    handleOut := (s.handleOut.filter fun p => p / 8 != b) ++ (maskList c.handles 8).map (8 * b + ·),
    aspect := setUnit s.aspect 24 b
      (((List.range 24).map fun k => (k, c.aspect.getD k 0)).filter fun (e : Nat × Nat) => e.2 != 0) }
  let p := pgFB b
  let s := s.clearRegs (p * 0x1000 + 0x05C) (p * 0x1000 + 0x06C)
  let was := s.get p FB_MEM_ECC
  let s := { s with flips := s.flips.filter fun (e : Nat × List Nat) =>
    !(e.1 / 0x4000 / 24 == b && bit was (e.1 / 0x4000 % 24) != bit c.ecc (e.1 / 0x4000 % 24)) }
  let s := ((s.set p FB_MEM_HV c.hv).set p FB_MEM_MIR c.mir).set p FB_MEM_INIT c.init
  let s := s.set p FB_MEM_ECC c.ecc
  let s := s.set p FB_STATE.SHEET 1
  let s := s.each (List.range 7) fun s i =>
    let w := 7 * b + i
    let s := s.set pgWKR SCH_WKR.BOUND (b2n (c.workers.any fun (e : Nat × Nat) => e.1 == i)) w
    { s with wkrMask := match aget c.workers i with | some m => aput s.wkrMask w m | none => adel s.wkrMask w }
  s.settle.flow

/-- The bytes of a memory's initial image in the active plane (R144). -/
def State.initImage (s : State) (b k : Nat) : List Byte :=
  (List.range 32).flatMap fun i => s.frame (s.activePlane b) (0x600 * b + 0x300 + 32 * k + i)

/-- The memory images of a bank written (R144): each INIT memory takes its image; check columns of the others whose
ECC becomes enabled are computed from their data. -/
def State.writeImages (s : State) (b : Nat) : State :=
  s.each (List.range 24) fun s k =>
    let off := (24 * b + k) * 0x4000
    let drop (s : State) : State :=
      { s with flips := s.flips.filter fun (e : Nat × List Nat) => e.1 / 0x4000 != 24 * b + k }
    if s.maskBit (pgFB b) FB_MEM_INIT k then drop ((s.clearBytes off (off + 0x4000)).setBytes off (s.initImage b k))
    else s

/-- A bank whose domain has come on: memories cleared, INIT images written, elements at their initial values, the
staged release run through (R522); a bank not yet couched, or whose release was cut, stays held. -/
def State.restoreBank (s : State) (b : Nat) : State :=
  let off := 24 * b * 0x4000
  let s := { s.clearBytes off (off + 24 * 0x4000) with
    flips := s.flips.filter fun (e : Nat × List Nat) => e.1 / 0x4000 / 24 != b }
  if s.held.contains b then s
  else
    let s := (s.applySheet b).writeImages b
    (s.set (pgFB b) FB_STATE.RELEASED 1).set (pgFB b) FB_STATE.OUT 1

-- Retained locations (R114, R115) -------------------------------------------------------------------------------

/-- The value of a tagged location: for WCTX the PC in [3:0], F in [4], C0 in [20:5] and C1 in [36:21]. -/
def State.taggedVal (s : State) (e : RetEntry) : Option Nat :=
  if e.kind = 0 then (aget s.fine (fineKey e.bank e.tile)).map FineTile.q
  else (aget s.word (wordKey e.bank e.tile)).map fun t =>
    match e.kind with
    | 1 => (t.l.getD e.reg 0).toNat
    | 2 => t.acc.toNat
    | 3 => t.prog.toNat
    | _ => t.pc + b2n t.f * 2 ^ 4 + t.c0.toNat * 2 ^ 5 + t.c1.toNat * 2 ^ 21

/-- A value written to a tagged location (R115): a COMB macrocell ignores its bit; a PC beyond END is 0.
[Log 97 DESIGN CHOICE] -/
def State.writeTagged (s : State) (e : RetEntry) (v : Nat) : State :=
  if e.kind = 0 then
    match aget s.fine (fineKey e.bank e.tile) with
    | none => s
    | some t => s.setFine e.bank e.tile { t with
        q := byteOf fun m => if (t.cfg.macAt m).mode == .comb then bit t.q m else bit v m }
  else
    match aget s.word (wordKey e.bank e.tile) with
    | none => s
    | some t =>
      let t := match e.kind with
        | 1 => { t with l := t.l.set e.reg (BitVec.ofNat 32 v) }
        | 2 => { t with acc := BitVec.ofNat 48 v }
        | 3 => { t with prog := BitVec.ofNat 32 v }
        | _ => { t with
            pc := if t.cfg.endSlot < bits v 0 4 then 0 else bits v 0 4,
            f := bit v 4, c0 := BitVec.ofNat 16 (bits v 5 16), c1 := BitVec.ofNat 16 (bits v 21 16) }
      s.setWord e.bank e.tile t

-- The calender's hold (R212) -------------------------------------------------------------------------------------

/-- A bank frozen, or no longer, by the calender; a bank of the safe state stays frozen. -/
def State.freeze (s : State) (b : Nat) (v : Bool) : State :=
  s.set (pgFB b) FB_STATE.FROZEN (b2n (v || s.safe))

/-- A bank placed in hold: handshakes stall, its pads' hold latches engage. -/
def State.calHold (s : State) (b : Nat) : State :=
  (s.padsOf b).foldl (fun s p => s.holdPad 1 p) (s.freeze b true)

/-- The hold of a bank ends. -/
def State.calRelease (s : State) (b : Nat) : State :=
  (s.padsOf b).foldl (fun s p => s.releasePad 1 p) (s.freeze b false)

/-- The bank that the calender's repair in hand holds. -/
def State.repairBank (s : State) : Option Nat :=
  match s.repair with | some (.bank b _) => some b | _ => none

-- The request (R190) -----------------------------------------------------------------------------------------------

/-- The pads whose words a couch exchanges (R190). -/
def State.couchPads (s : State) (banks sectors : Nat) : List Nat :=
  let full := banks == 2 ^ nBanks s.variant - 1 && sectors == 2 ^ nSectors s.variant - 1
  (List.range 256).filter fun p =>
    let a := (s.setting 0 (padIdx p)).toNat
    let h := (s.setting 1 (padIdx p)).toNat
    let owned := bit a 31 || bit h 31
    (owned && (bit banks (bits a 24 5) || bit banks (bits h 24 5))) || (full && !owned)

/-- The first check of R190 that a request fails: its code, and the offending region or pad. -/
def State.couchCheck (s : State) (banks sectors : Nat) (peerOk : Bool) : Option (Nat × Option (Nat × Nat)) :=
  let first (bm sm : Nat) : Option (Nat × Nat) :=
    match (maskList banks 32).find? (bit bm) with
    | some b => some (0, b)
    | none => ((maskList sectors 8).find? (bit sm)).map fun x => (1, x)
  let torn := first (s.get pgCFG CFG_TORN_BANKS) (s.get pgCFG CFG_TORN_SECTORS)
  let empty := first (2 ^ 32 - 1 - s.get pgCCH CCH_SHADOW_OK_BANKS) (255 - s.get pgCCH CCH_SHADOW_OK_SECTORS)
  let rep := (maskList banks 32).find? fun b => s.repairBank == some b || s.heldStale.contains b
  let pad := (s.couchPads banks sectors).find? fun p =>
    let a := (s.setting 0 (padIdx p)).toNat
    bit a 31 && !bit banks (bits a 24 5)
  if s.couch.isSome || s.cfgOp != .idle || !s.accepts pgCCH then some (cchBUSY, none)
  else if (banks == 0 && sectors == 0) || decide (2 ^ nBanks s.variant ≤ banks) ||
      decide (2 ^ nSectors s.variant ≤ sectors) then some (cchABSENT, none)
  else if s.safe || s.press.isSome then some (0x07, none)
  else if torn.isSome then some (0x03, torn)
  else if empty.isSome then some (0x04, empty)
  else if rep.isSome then some (0x06, rep.map fun b => (0, b))
  else if pad.isSome then some (0x05, pad.map fun p => (2, p))
  else if !peerOk then some (0x0A, none)
  else none

/-- A refusal: COUCH_REFUSED and CCH_ERR. -/
def State.couchRefuse (s : State) (code : Nat) (r : Option (Nat × Nat)) : State :=
  let s := (s.set pgCCH CCH_ERR.CODE code).setReg (CCH_ERR_REGION.VALID.addr pgCCH 0) 0
  let s := match r with
    | none => s
    | some (k, n) => ((s.set pgCCH CCH_ERR_REGION.VALID 1).set pgCCH CCH_ERR_REGION.KIND k).set pgCCH
        CCH_ERR_REGION.NUM n
  s.setStatus pgCCH stCOUCH_REFUSED

/-- The worker ports of a bank suspended, or no longer (R192, R338). -/
def State.suspendPorts (s : State) (b : Nat) (v : Bool) : State :=
  s.each (List.range 7) fun s i => s.set pgWKR SCH_WKR.SUSP (b2n v) (7 * b + i)

/-- Gates of a bank reopen as its page's EN and QUIESCE say, and its ports accept again. -/
def State.reopen (s : State) (b : Nat) : State := (s.bankGates b).suspendPorts b false

/-- A couch that has passed its checks starts: steps 1 and 2 of R191. -/
def State.startCouch (s : State) (banks sectors : Nat) : State :=
  let c : Couch := { banks := banks, sectors := sectors, start := s.ts, buf := [], pads := s.couchPads banks sectors }
  let s := { s with couch := some c }
  let s := s.setReg (CCH_STATE.STEP.addr pgCCH 0) 0
  let s := s.set pgCCH CCH_STATE.STEP 2
  s.each (maskList banks 32) fun s b =>
    { s with gatesClosed := if s.gatesClosed.contains b then s.gatesClosed else b :: s.gatesClosed }.suspendPorts b true

-- Steps 3 to 6 -------------------------------------------------------------------------------------------------------

/-- Step 3: the hold latches of the exchanged pads engage; the calender pauses. -/
def State.couchLatch (s : State) (c : Couch) : State :=
  let s := c.pads.foldl (fun s p => s.holdPad 0 p) s
  let s := s.each (maskList c.banks 32) fun s b => s.set (pgFB b) FB_STATE.OUT 0
  s.set pgCAL CAL_STATUS.PAUSED 1

/-- Step 4 (R199): the values carried to each incoming entry, and the tags met with differing kinds. -/
def State.couchRead (s : State) (c : Couch) : List (RetEntry × Option Nat) × Nat :=
  let out := s.retA.filter fun e => bit c.banks e.bank
  let inc := s.retS.filter fun e => bit c.banks e.bank
  (inc.map fun e =>
     (e, match out.find? fun o => o.tag == e.tag with
       | some o => if o.kind = e.kind then s.taggedVal o else none
       | none => none),
   (inc.filter fun e => out.any fun o => o.tag == e.tag && o.kind != e.kind).length)

/-- The cells, channels, comparators and direct pin paths of a sector whose words differ between two states are
muted (R196, R240), and a tripped pin whose PIN_CFG changes is no longer tripped (R236). -/
def State.muteChanged (old s : State) (sec : Nat) : State :=
  let diff (w : Nat) : Bool := old.asWord 0 sec w != s.asWord 0 sec w && s.pageOn (pgAS sec)
  let s := s.each (List.range 32) fun s j =>
    if (List.range 4).any fun k => diff (4 * j + k) then s.muteFrom old sec .cell j else s
  s.each (List.range 16) fun s i =>
    let s := if diff (0x080 + i) then
        ((s.setMaskBit (pgAS sec) AS_PIN_TRIP.SHUNT i false).setMaskBit (pgAS sec) AS_PIN_TRIP.VOUT i false).mute sec
          .pin i
      else s
    let s := if diff (0x0A0 + i) then s.mute sec .chan i else s
    if diff (0x0B0 + i) then s.mute sec .cmp i else s

/-- The setting words of an index exchanged between the active and the shadow copy. -/
def State.swapWord (s : State) (idx : Nat) : State :=
  let a := s.setting 0 idx
  let h := s.setting 1 idx
  (s.setSetting 0 idx h).setSetting 1 idx a

/-- Step 5 (R188, R211): the planes, setting words, pads, retention tables and repair sources of the mask are
exchanged in one event. A word whose repair has failed leaves the state of R210 only with a fresh shadow (R213).
[Log 51 DEDUCED] -/
def State.exchange (s : State) (c : Couch) : State :=
  let bs := maskList c.banks 32
  let ss := maskList c.sectors 8
  let s := s.set pgCCH CCH_ACTIVE_BANKS (Nat.xor (s.get pgCCH CCH_ACTIVE_BANKS) c.banks)
  let s := s.set pgCCH CCH_ACTIVE_SECTORS (Nat.xor (s.get pgCCH CCH_ACTIVE_SECTORS) c.sectors)
  let mine (e : RetEntry) : Bool := bit c.banks e.bank
  let a := s.retA
  let h := s.retS
  let s := { s with
    retA := (a.filter fun e => !mine e) ++ h.filter mine, retS := (h.filter fun e => !mine e) ++ a.filter mine }
  let words := (s.setw.map fun (e : Nat × Word) => e.1 % 16384).filter fun k => decide (k < 8192) && bit c.sectors (k / 1024)
  let s := words.eraseDups.foldl State.swapWord s
  let s := c.pads.foldl (fun s p => s.swapWord (padIdx p)) s
  let bad (k : Nat) : Bool :=
    if k < 8192 then bit c.sectors (k / 1024) && !s.heldStale.contains (32 + k / 1024)
    else c.pads.contains (k - 8192) && !s.heldStale.contains (64 + (k - 8192))
  let s := { s with badWords := s.badWords.filter fun k => !bad k }
  let s := s.each (bs ++ ss.map (32 + ·)) fun s r =>
    let none' : Origin := { kind := 0, slot := 0, mark := [] }
    let o := (aget s.activeSrc r).getD none'
    let n := (aget s.shadowSrc r).getD none'
    let s := { s with shadowSrc := aput s.shadowSrc r { o with kind := if o.kind = 3 then 0 else o.kind } }
    s.setOrigin r n
  s.set64 pgCCH CCH_SWAP_TIME_LO s.now

/-- Steps 5 and 6 in the banks and sectors of the mask: sheets put into force and held, memory images written, holds
of failed repairs ended, mutes begun. The faults of invalid words are raised beside (R227, R497). -/
def State.couchApply (old s : State) (c : Couch) : State :=
  let s := s.each (maskList c.banks 32) fun s b =>
    let s := { s with
      held := if s.held.contains b then s.held else b :: s.held,
      wrHeld := if s.wrHeld.contains b then s.wrHeld else b :: s.wrHeld }
    let s := (s.calRelease b).setMaskBit pgCAL CAL_HELD_BANKS b false
    let s := s.set (pgFB b) FB_STATE.RELEASED 0
    (s.applySheet b).writeImages b
  let s := s.each (maskList c.sectors 8) fun s sec =>
    let s := if s.heldStale.contains (32 + sec) then s else s.setMaskBit pgCAL CAL_HELD_SECTORS sec false
    let o := pgAS sec * 0x1000
    let s := (s.clearRegs (o + 0x048) (o + 0x068)).set (pgAS sec) PG_CTRL.EN 1
    let s := { s with intV := s.intV.filter fun (e : Nat × Rat) => e.1 / 32 != sec || s.cellMode sec (e.1 % 32) == 6 }
    ((State.muteChanged old s sec).markCellErr sec).refreshShunts sec
  (List.range 8).foldl (fun s n => s.set (pgGB n) GB_STATUS.COLD 0) s

-- Release (R200) ------------------------------------------------------------------------------------------------------

/-- The release steps: output enables, write enables, reset release. -/
inductive RelStep where
  | out | wr | rst
  deriving DecidableEq, Repr

/-- The order of CCH_RELEASE.ORDER (R200). -/
def relOrder (o : Nat) : List RelStep :=
  match o with
  | 1 => [.out, .rst, .wr]
  | 2 => [.wr, .out, .rst]
  | 3 => [.wr, .rst, .out]
  | 4 => [.rst, .out, .wr]
  | 5 => [.rst, .wr, .out]
  | _ => [.out, .wr, .rst]

/-- OUT: the pads of the mask pass to the incoming sheet's functions, and the fabric outputs to comparator references, load
strobes and timers are connected. -/
def State.relOut (s : State) (c : Couch) : State :=
  let s := c.pads.foldl (fun s p => s.releasePad 0 p) s
  (s.each (maskList c.banks 32) fun s b => s.set (pgFB b) FB_STATE.OUT 1).flow

/-- RST (R199): state elements take their retained or initial values. `upset` are the tags of buffer entries that
cannot be corrected. Answers the number of values carried. -/
def State.relRst (s : State) (c : Couch) (upset : List Nat) : Nat × State :=
  let l := c.buf.filter fun (e : RetEntry × Option Nat) => e.2.isSome && !upset.contains e.1.tag
  (l.length, (l.foldl (fun s (e : RetEntry × Option Nat) => s.writeTagged e.1 (e.2.getD 0)) s).flow)

/-- Elements run once both the write enables and the reset release have been performed. -/
def State.relRun (s : State) (c : Couch) : State :=
  ({ s with held := s.held.filter fun b => !bit c.banks b }).settle.flow

/-- The values that a couch cuts at a forced drain (R194) stand in the routes and word lanes that cross the edge of its
mask and have reached the far side without an acknowledge. [Log 50 DEDUCED] -/
def State.crosses (c : Couch) (n : Net) : Bool :=
  (n.kind == .route || n.kind == .wordLane) && (n.gates.any (bit c.banks) ||
    (match n.src.bank with
      | some b => bit c.banks b && n.recv.any fun (r : Nat × (Nat × Nat)) => !bit c.banks r.1
      | none => false))

/-- The routes whose handshake is under way across the edge of the mask. -/
def State.openGates (s : State) (c : Couch) : List (Nat × Net) :=
  s.nets.filter fun (e : Nat × Net) => e.2.val.isSome && e.2.delivered && State.crosses c e.2

/-- The fabric event ports of the mask whose submission is under way or waits for the scheduler or the span link, by source
code, and the stream ports whose word waits for its ring: ports that are not between transfers (R192). -/
def State.portsBusy (s : State) (c : Couch) : List Nat × List Nat :=
  (((s.subWait.map Prod.fst) ++ (s.subIn.map fun (e : Nat × (Time × List Word)) => 0x100 + e.1) ++
      (s.spanWait.map fun (e : Nat × List Word) => 0x100 + e.1)).filter fun e =>
      decide (0x100 ≤ e) && decide (e < 0x200) && bit c.banks ((e - 0x100) / 8),
    (s.portWait.filter fun (e : Nat × Word) => decide (e.1 < 32) && bit c.banks e.1).map Prod.fst)

/-- The drain is complete (R192): every gate closed, every port of the mask between transfers, every task of its ports
released. [Log 50 DEDUCED] -/
def State.drained (s : State) (c : Couch) : Bool :=
  (s.openGates c).isEmpty && (s.portsBusy c).1.isEmpty && (s.portsBusy c).2.isEmpty &&
    !(s.tasks.any fun t => match t.worker with
      | some w => decide (w < 0xE0) && bit c.banks (w / 7) && t.st != .held && t.st != .ready
      | none => false)

/-- A value cut at a forced drain: the far side goes to null, the near producer's handshake completes.
[Log 50 DEDUCED] -/
def State.cutNet (s : State) (e : Nat × Net) : State :=
  let s := { s with nets := aput s.nets e.1 { e.2 with val := none, delivered := false } }
  let s := e.2.dsts.foldl (fun s d =>
    match d with
    | .x b t pin _ =>
      match aget s.fine (fineKey b t) with
      | none => s
      | some x => if bit x.cfg.join pin && bit x.xnew pin then s.setFine b t { x with xnew := x.xnew - 2 ^ pin } else s
    | _ => s) s
  s.emptyOut e.2.src

-- The calender (R209-R215) -----------------------------------------------------------------------------------------

/-- The calender works (R215). -/
def State.calOn (s : State) : Bool := s.runs pgCAL && s.tbRun && !s.unpowered

/-- A calender pass starts. -/
def State.calPass (s : State) : State :=
  { (s.set pgCAL CAL_STATUS.RUNNING 1).set pgCAL CAL_POS 0 with passStart := s.clk, passSeen := [], passDue := false }

/-- CAL PG_CTRL.EN or the power of PD61 has changed (R209, R215): the first pass starts, or the pass stops. -/
def State.calCtrl (s : State) (wasOn : Bool) : State :=
  if s.runs pgCAL then (if wasOn then s else s.calPass)
  else { s with passDue := false }.set pgCAL CAL_STATUS.RUNNING 0

/-- CAL_REPAIR.PENDING and CAL_STATUS.REPAIRING as the repairs stand. -/
def State.syncRepair (s : State) : State :=
  (s.set pgCAL CAL_STATUS.REPAIRING (b2n s.repair.isSome)).set pgCAL CAL_REPAIR.PENDING
    (b2n (s.repair.isSome || !s.repairDue.isEmpty))

/-- The frames of the active plane of a bank that have failed their check. [Log 52 DEDUCED] -/
def State.badActive (s : State) (b : Nat) : List Nat :=
  s.badFrames.filter fun k => k / 65536 == s.activePlane b && k % 65536 / 0x600 == b

/-- The least of a list of numbers. -/
def leastOf (l : List Nat) : Nat := l.foldl min (l.headD 0)

/-- The repair of a bank or word must wait: for the one in hand, for a couch of its bank, in the safe state. -/
def State.repairWaits (s : State) (r : Repair) : Bool :=
  s.repair.isSome || s.safe ||
    (match r, s.couch with
      | .bank b _, some c => bit c.banks b
      | _, _ => false)

/-- A repair begins (R212): a bank in hold with its bad frames listed, or a word; a configuration operation is stopped
with ABORT. A bank whose bad frames are no longer active needs none. [Log 52 DEDUCED] -/
def State.repairStart (s : State) (r : Repair) : State :=
  match r with
  | .bank b _ =>
    match s.badActive b with
    | [] => s
    | k :: l =>
      let s := ({ s with repair := some (.bank b (k :: l)) }.calHold b).abortOp
      s.set pgCAL CAL_REPAIR.ADDR (leastOf (k :: l) % 2 ^ 17)
  | .word k => if s.badWords.contains k then { s with repair := some (.word k) }.abortOp else s

/-- The first waiting repair that need wait no longer begins. -/
def State.repairNext (s : State) : State :=
  match s.repairDue.find? fun r => !s.repairWaits r with
  | none => s.syncRepair
  | some r => ({ s with repairDue := s.repairDue.filter (· != r) }.repairStart r).syncRepair

/-- A repair is asked for. [Log 52 DEDUCED] -/
def State.repairAsk (s : State) (r : Repair) : State :=
  ({ s with repairDue := if s.repairDue.contains r then s.repairDue else s.repairDue ++ [r] }).repairNext

-- The couch of a start-up step (R205-R207) --------------------------------------------------------------------------------

/-- The step of R205 in progress; start-up of a part right after reset stands at step 1. [Log 48 DEDUCED] -/
def State.bootStep (s : State) : Nat :=
  let k := s.get pgTND TND_STATUS.STEP
  if k == 0 && s.get pgCCH CCH_BOOT.STEP == 0 then 1 else k

/-- A step of R205 has completed: CCH_BOOT.STEP and the step now in progress; nothing is waited for. -/
def State.bootMark (s : State) (n : Nat) : State :=
  let s := { s with bootPhase := .noCouch }.set pgCCH CCH_BOOT.STEP n
  (s.set pgTND TND_STATUS.STEP (if n == 7 then 0 else n + 1)).set pgTND TND_STATUS.WAIT 0

/-- What start-up waits for (TND_STATUS.WAIT). -/
def State.bootWait (s : State) (w : Nat) : State := s.set pgTND TND_STATUS.WAIT w

/-- A foreground calibration that start-up waits for is asked for or runs. -/
def State.calPending (s : State) : Bool :=
  (List.range 4).any fun n =>
    s.present (pgCV n) && s.pageOn (pgCV n) && ((s.conv n).fgReq || s.flag (pgCV n) CV_STATUS.FG_RUNNING)

/-- Step 7 ends once no foreground calibration is outstanding. -/
def State.bootSeven (s : State) : State := if s.bootStep == 7 && !s.calPending then s.bootMark 7 else s

/-- Step 6 fails (R207): the boot sheet keeps running, and step 7 follows; CCH_BOOT.STEP stays at the last step completed. -/
def State.bootOnly (s : State) : State :=
  let s := ({ s with bootDue := false, bootPhase := .noCouch }.set pgTND TND_STATUS.STEP 7).set pgTND TND_STATUS.WAIT 0
  ((s.set pgCCH CCH_BOOT.BOOT_ONLY 1).setStatus pgCCH stBOOT_FULL_FAIL).bootSeven

/-- The start-up step in hand fails for its load or its couch (R207): step 3 has failed from every source, or the boot sheet
runs on without the start-up sheet. [Log 49 DEDUCED] -/
def State.bootFail (s : State) : State :=
  let s := { s with bootPhase := .noCouch }
  if s.bootStep == 6 then s.bootOnly else if s.bootStep == 3 then s.bootWait 2 else s

/-- A couch ends before its commit point (R194, R203): gates reopen, latches release, nothing is exchanged;
the start-up step that asked for it fails (R207). [Log 51 DEDUCED] -/
def State.couchBack (s : State) (c : Couch) : State :=
  let s := c.pads.foldl (fun s p => s.releasePad 0 p) s
  let s := s.each (maskList c.banks 32) State.reopen
  let s := { s with couch := none }.setReg (CCH_STATE.STEP.addr pgCCH 0) 0
  if s.bootPhase == .couching then s.bootFail else s

end Machine
end Sys2Proof
end

