-- ==== Sys2Proof/Machine/ReamCore.lean ====
section
/-!
DEFINITION. The ream store's shared operations (chapter 14): capture streams, vault transactions and the energy
check.
-/
namespace Sys2Proof.Machine
open Sys2Proof F

-- PG_STATUS bits of RS pages 0 (R420), 1 (R421), 2 (R422: bit n FROZEN) and 3 (R423)
def stRS_CMD_DONE : Nat := 0
def stRS_MOUNTED : Nat := 1
def stRS_HA_REQ : Nat := 2
def stRS_RAW_DONE : Nat := 3
def stRS_READ_ONLY : Nat := 4
def stRS_SWEEP_DONE : Nat := 5
def stVT_COMMIT_DONE : Nat := 0
def stVT_OP_DONE : Nat := 1
def stVT_HOLD_OFF_ON : Nat := 2
def stVT_HOLD_OFF_OFF : Nat := 3
def stCAP_READ_DONE : Nat := 16
def stPR_PRESS_START : Nat := 0
def stPR_RESUMED : Nat := 1
def stPR_ARMED : Nat := 2
def stPR_STALE : Nat := 3

/-- The store is mounted (R388). -/
def State.mounted (s : State) : Bool := s.get pgRS RS_STATE.STATE == 2

/-- The store takes no write (R389). -/
def State.readOnly (s : State) : Bool := s.flag pgRS RS_STATE.READ_ONLY

-- Boot-flash images (R414-R418) ------------------------------------------------------------------------

-- PG_STATUS bits of the BFE page (R424)
def stBFE_COMMIT_DONE : Nat := 0
def stBFE_SWITCHED : Nat := 1
def stBFE_FALLBACK : Nat := 2
def stBFE_UPD_DONE : Nat := 3
def stBFE_HOST_WRITE : Nat := 4

/-- Bytes of the emulated device: 64, 128 or 256 MiB (R414). -/
def State.bfeBytes (s : State) : Nat := 2 ^ (26 + s.bfeSize)

/-- The active image and the update image (R417, R418). -/
def State.bfeActive (s : State) : Nat := s.get pgBFE BFE_IMAGE.ACTIVE
def State.bfeOther (s : State) : Nat := 1 - s.bfeActive

/-- A byte of an image. -/
def State.imgByte (s : State) (img a : Nat) : Byte := (aget s.bfeImg (img * 2 ^ 32 + a)).getD 0xFF

/-- [Log 3 DESIGN CHOICE] -/
def State.setImgByte (s : State) (img a : Nat) (b : Byte) : State :=
  let k := img * 2 ^ 32 + a
  { s with bfeImg := if b = 0xFF then adel s.bfeImg k else aput s.bfeImg k b }

/-- An erase of a range of the update image. -/
def State.bfeErase (s : State) (img addr len : Nat) : State :=
  { s with
    bfeImg := s.bfeImg.filter fun e =>
      !(e.1 / 2 ^ 32 == img && decide (addr ≤ e.1 % 2 ^ 32) && decide (e.1 % 2 ^ 32 < addr + len)) }

/-- Bytes programmed: a program only clears bits (R415). [Log 16 PRESUMED] -/
def State.bfeProgram (s : State) (img : Nat) : List (Nat × Byte) → State
  | [] => s
  | (a, b) :: r => State.bfeProgram (s.setImgByte img a (s.imgByte img a &&& b)) img r

/-- The program or erase in hand takes effect on the update image and WIP clears (R418). -/
def State.bfeFinish (s : State) : State :=
  match s.bfePort.wip with
  | none => s
  | some op =>
    let img := s.bfeOther
    let s := { s with bfePort := { s.bfePort with wip := none } }
    match op.data with
    | none => (s.bfeErase img op.addr op.len).incWrap pgBFE BFE_WRITES.ERASES
    | some d =>
      let page := op.addr / 256 * 256
      let cells := (List.range d.length).map fun i => (page + (op.addr + i) % 256, d.getD i 0xFF)
      (s.bfeProgram img cells).incWrap pgBFE BFE_WRITES.PROGRAMS

/-- The erase and program of BFE_UPD complete (R418, R424); by how many BFE_WRITES counts them is not stated. -/
def State.bfeUpdFinish (s : State) : State :=
  match s.bfeUpd with
  | none => s
  | some op =>
    let img := s.bfeOther
    let s := { s with bfeUpd := none }.bfeErase img op.addr op.len
    let d := (op.data.getD []).take op.len
    let cells := ((List.range d.length).map fun i => (op.addr + i, d.getD i 0xFF)).filter fun e =>
      decide (e.1 < s.bfeBytes)
    let (n, s) := (s.bfeProgram img cells).draw
    let s := s.setReg (BFE_WRITES.ERASES.addr pgBFE 0) (Config.freeWord n)
    s.setStatus pgBFE stBFE_UPD_DONE

-- Capture streams (R402, R403) ----------------------------------------------------------------------------

def State.cap (s : State) (n : Nat) : CapStream := (aget s.caps n).getD { blocks := [], left := 0 }
def State.setCap (s : State) (n : Nat) (c : CapStream) : State := { s with caps := aput s.caps n c }

/-- The blocks that stream `n` holds when it is full: SIZE x 16 MiB / B. -/
def State.capSize (s : State) (n b : Nat) : Nat := s.get pgCAP RS_CAP_CFG.SIZE n * 2 ^ 24 / b

/-- A stream provides room while it is recording or triggered (R402); none before mount. -/
def State.capRoom (s : State) (n b : Nat) : Bool :=
  let st := s.get pgCAP RS_CAP_STATE n
  s.mounted && !s.readOnly && (st == 1 || st == 2) && decide (0 < s.capSize n b)

/-- The stream freezes (R403). -/
def State.capFreeze (s : State) (n : Nat) : State := (s.set pgCAP RS_CAP_STATE 3 n).setStatus pgCAP n

/-- A committed block is written to a capture stream: it overwrites the oldest when full, and a triggered stream
freezes after RS_CAPn_POST further blocks. -/
def State.capWrite (s : State) (n : Nat) (blk : List Byte) : State :=
  let c := s.cap n
  let idx := s.get pgCAP RS_CAP_NEXT n
  let l := c.blocks ++ [(idx, blk)]
  let keep := s.capSize n blk.length
  let l := l.drop (l.length - keep)
  let s := s.set pgCAP RS_CAP_NEXT (idx + 1) n
  let s := s.set pgCAP RS_CAP_OLDEST ((l.head?.map Prod.fst).getD 0) n
  if s.get pgCAP RS_CAP_STATE n == 2 then
    let s := s.setCap n { blocks := l, left := c.left - 1 }
    if c.left ≤ 1 then s.capFreeze n else s
  else s.setCap n { blocks := l, left := c.left }

/-- The trigger of a recording stream at an instant (R403). -/
def State.capTrigger (s : State) (n : Nat) (t : Time) : State :=
  if s.get pgCAP RS_CAP_STATE n != 1 then s
  else
    let post := s.get pgCAP RS_CAP_POST n
    let s := s.set pgCAP RS_CAP_TRIG_BLK (s.get pgCAP RS_CAP_NEXT n) n
    let s := s.set64 pgCAP RS_CAP_TRIG_TIME_LO t.toNat n
    let s := s.set pgCAP RS_CAP_STATE 2 n
    let s := s.setCap n { s.cap n with left := post }
    if post == 0 then s.capFreeze n else s

/-- Room for one committed block (R368, R374, R377). -/
def State.ringRoom (s : State) (r : Nat) : Bool :=
  if s.rget r ST_RING_CFG.DEST == 1 then s.capRoom (s.rget r ST_RING_CFG.CAP) (s.ringB r)
  else
    decide ((s.rget r ST_RING_WP + 2 ^ 32 - s.rget r ST_RING_RP) % 2 ^ 32 < s.ringC r) &&
      (s.hostAssisted (ringPage r) || s.dmaOk)

/-- The oldest closed block of a ring is committed, if there is room: written to the ring, into a capture stream
(R374), or in host-assisted mode into the buffer region (R377); WP advances, and the write-back follows (R368). -/
def State.commitBlock (s : State) (r : Nat) : State :=
  match (s.ring r).closed with
  | [] => s
  | b :: rest =>
    if !s.ringRoom r then s
    else
      let pg := ringPage r
      let k := r % 4
      let blk := s.blockBytes r (s.get pgSN SN_STATUS.ADDR) b
      let wp := s.rget r ST_RING_WP
      let bb := s.ringB r
      let s := s.setRing r { s.ring r with closed := rest }
      let place := wp % s.ringC r * bb
      let s :=
        if s.rget r ST_RING_CFG.DEST == 1 then s.capWrite (s.rget r ST_RING_CFG.CAP) blk
        else if s.hostAssisted pg then
          s.setBytes (0xE00000 + s.rget r ST_RING_BUF.BASE * 4096 + place) blk
        else s.toHost (s.get64 pg ST_RING_BASE_LO k + place) blk
      let s := s.set pg ST_RING_WP (wp + 1) k
      let wb := s.get64 pg ST_RING_WB_LO k
      let s :=
        if s.rget r ST_RING_CFG.DEST == 0 && !s.hostAssisted pg && wb != 0 then
          s.toHost wb (leBytes 4 (s.rget r ST_RING_WP))
        else s
      let s := s.set64 pg ST_BYTES_LO ((s.get64 pg ST_BYTES_LO + bb) % 2 ^ 64)
      (s.setStatus pg k).servePort r

-- Vault (R394-R399) ---------------------------------------------------------------------------------------

/-- The entries of R394 read from bytes; `none` where one breaks R394 or fails its CRC. `fuel` bounds the
entries. -/
def parseEntries : Nat → List Byte → Option (List VtRec)
  | _, [] => some []
  | 0, _ => none
  | fuel + 1, l =>
    let key := leNat (l.take 8)
    let w := leNat ((l.drop 8).take 4)
    let crc := leNat ((l.drop 12).take 4)
    let del := bit w 31
    let n := if del then 0 else w % 2 ^ 17
    let padded := (n + 7) / 8 * 8
    let val := (l.drop 16).take n
    let pad := (l.drop (16 + n)).take (padded - n)
    if l.length < 16 + padded ∨ key = 2 ^ 64 - 1 ∨ bits w 17 14 ≠ 0 ∨ 65536 < w % 2 ^ 17 ∨ pad.any (· != 0) ∨
        (crc32 val).toNat ≠ crc then none
    else
      match parseEntries fuel (l.drop (16 + padded)) with
      | none => none
      | some r => some ({ key := key, value := if del then none else some val } :: r)

/-- The records of a transaction applied in order: the later record of a key stands. -/
def applyRecs (v : List (Nat × List Byte)) (l : List VtRec) : List (Nat × List Byte) :=
  l.foldl (fun v r => match r.value with | some x => aput v r.key x | none => adel v r.key) v

/-- The open transaction's registers. -/
def State.setTxn (s : State) (t : Option Txn) : State :=
  let s := { s with txn := t }
  let s := s.set pgVT RS_VT_STATUS.OPEN (b2n t.isSome)
  let s := s.set pgVT RS_VT_STATUS.OWNER ((t.map Txn.owner).getD 0)
  let s := s.set pgVT RS_VT_TXN.RECORDS ((t.map fun x => x.recs.length).getD 0)
  s.set pgVT RS_VT_TXN.BYTES ((t.map Txn.bytes).getD 0)

/-- In a twin pair, and the vaults are out of step: the link is down or the copy of R482 is not over. -/
def State.unpairedVault (s : State) : Bool :=
  let role := s.get pgTW TW_STATUS.ROLE
  (role == 2 || role == 3 || role == 4) && !(s.flag pgTW TW_STATUS.LINK_UP && s.flag pgTW TW_STATUS.VAULT_SYNCED)

/-- The accepted commit is acknowledged (R397): its records are durable, RS_VT_DURABLE takes its number. SOLO reads 1
where the commit was accepted during the copy (R482) or the link has failed since it was accepted (R400).
[Log 70 DEDUCED] -/
def State.acknowledge (s : State) : State :=
  match s.vtCommit with
  | none => s
  | some t =>
    let v := applyRecs s.vault t.recs
    let s := { s with vault := v, vtCommit := none }
    let s := s.set pgVT RS_VT_DURABLE (s.get pgVT RS_VT_SEQ)
    let s := s.set pgVT RS_VT_KEYS v.length
    let (n, s) := s.draw
    let s := s.set pgVT RS_VT_SPACE.USED (Config.freeWord n).toNat
    let s := (s.set pgVT RS_VT_STATUS.COMMITTING 0).set pgVT RS_VT_STATUS.SOLO (b2n (t.solo || s.unpairedVault))
    s.setStatus pgVT stVT_COMMIT_DONE

/-- A vault operation ends with a result code (R396). -/
def State.vtResult (s : State) (code : Nat) : State :=
  (s.set pgVT RS_VT_STATUS.RESULT code).setStatus pgVT stVT_OP_DONE

-- The energy check (R406, R411, R412) ---------------------------------------------------------------------

/-- A press has started and has not ended. -/
def State.pressOn (s : State) : Bool := s.press.isSome

/-- Hardware-mode flash management waits while the management processor restarts (R455). [Log 74 DEDUCED] -/
def State.flashWaits (s : State) : Bool := s.mpDown && !s.hostAssisted pgRS

/-- The measurement is older than 1 ms (R411). -/
def State.energyOld (s : State) : Bool :=
  match s.energyAt with
  | none => true
  | some t => decide (1000000 < s.clk - t)

/-- The press write rate r in bytes per microsecond (R407). -/
def State.pressRate (s : State) : Nat := 375 * s.get pgRS RS_GEOM.CHANNELS

/-- Bytes of accepted commits not yet written. -/
def State.dirtyVault (s : State) : Nat := (s.vtCommit.map Txn.unwritten).getD 0

/-- Bytes held in the buffer regions of rings with DEST = 1. -/
def State.dirtyCapture (s : State) : Nat :=
  ((s.rings.map fun e =>
    if s.rget e.1 ST_RING_CFG.DEST == 1 then
      e.2.closed.length * s.ringB e.1 + (match e.2.cur with | none => 0 | some b => 32 + b.data.length)
    else 0)).sum

/-- The analogue output channels that are enabled. -/
def State.enabledOutputs (s : State) : Nat :=
  ((List.range 64).filter fun c => s.get (pgDA (c / 16)) DA_CFG.EN (c % 16) == 1).length

/-- P_press in milliwatts (R406). -/
def State.pressPower (s : State) : Nat :=
  2400 + 25 * s.enabledOutputs + 190 * popCount (s.get pgPR RS_PR_KEEP) (nBanks s.variant) +
    1200 * s.get pgPR RS_PR_CTRL.KEEP_HOST

/-- PRESS_BUDGET in microjoules as a numerator and denominator, with `extra` bytes added to D_v (R411). -/
def State.budget (s : State) (extra : Nat) : Nat × Nat :=
  let eff := s.get pgPR RS_PR_VMIN.EFF
  let r := s.pressRate
  let d := s.dirtyVault + extra + s.dirtyCapture
  ((100 + s.get pgPR RS_PR_MARGIN) * (s.pressPower * 100 + s.get pgPR RS_PR_OTHER * eff) * (1803 * r + d),
    100 * eff * r * 1000)

/-- V_hu in microvolts, as a numerator over 256 (R411). -/
def State.vhu256 (s : State) : Nat := s.energyUv * s.get pgPR RS_PR_DIV

/-- E_avail in microjoules as a numerator and denominator (R411). -/
def State.availEnergy (s : State) : Nat × Nat :=
  let v := s.vhu256
  let vm := s.get pgPR RS_PR_VMIN.MV * 1000 * 256
  (if v < vm then 0 else s.get pgPR RS_PR_CAP * (v * v - vm * vm), 2 * 10 ^ 12 * 256 * 256)

/-- The vault is in HOLD_OFF (R412). -/
def State.holdOff (s : State) (extra : Nat) : Bool :=
  let a := s.availEnergy
  let b := s.budget extra
  decide (b.2 = 0) || decide (a.1 * b.2 < b.1 * a.2) || s.energyOld || !s.flag pgPR RS_PR_STATE.ARMED ||
    decide (s.get pgRS RS_RESERVE.ERASED < s.get pgRS RS_RESERVE.NEEDED)

/-- RS_VT_STATUS.HOLD_OFF follows R412; a change is an event. -/
def State.syncHoldOff (s : State) : State :=
  let h := s.holdOff 0
  let was := s.flag pgVT RS_VT_STATUS.HOLD_OFF
  if h == was then s
  else
    (s.set pgVT RS_VT_STATUS.HOLD_OFF (b2n h)).setStatus pgVT (if h then stVT_HOLD_OFF_ON else stVT_HOLD_OFF_OFF)

/-- A whole number that stands for a quotient whose rounding the spec does not state; with denominator 0 the
quotient itself is open. [Log 8 DESIGN CHOICE] -/
def State.quotient (s : State) (a : Nat × Nat) : Nat × State :=
  let (n, s) := s.draw
  if a.2 = 0 then ((Config.freeWord n).toNat, s)
  else (a.1 / a.2 + b2n (decide (a.1 % a.2 ≠ 0) && Config.roundUp n), s)

-- The library and the vault as a whole (R387, R388, R477) ---------------------------------------------------

/-- The vault takes new contents as the peer gives them (R400, R477, R482). -/
def State.takeVault (s : State) (seq : Nat) (v : List (Nat × List Byte)) : State :=
  let s := { s with vault := v }.set pgVT RS_VT_KEYS v.length
  let (n, s) := s.draw
  let s := s.set pgVT RS_VT_SPACE.USED (Config.freeWord n).toNat
  (s.set pgVT RS_VT_SEQ seq).set pgVT RS_VT_DURABLE seq

/-- A bit of a slot mask of the library (R387). -/
def State.setLibValid (s : State) (slot : Nat) (v : Bool) : State :=
  if slot < 32 then s.setMaskBit pgRS RS_LIB_VALID_LO slot v else s.setMaskBit pgRS RS_LIB_VALID_HI (slot - 32) v

/-- A library slot is rewritten. [Log 69 DEDUCED] -/
def State.putSlot (s : State) (slot : Nat) (d : List Byte) : State :=
  { s with lib := aput s.lib slot d }.setLibValid slot true

/-- A library slot is emptied. -/
def State.emptySlot (s : State) (slot : Nat) : State := { s with lib := adel s.lib slot }.setLibValid slot false

/-- The start-up choice (R387). -/
def State.setStartup (s : State) (slot : Nat) : State :=
  (s.set pgRS RS_LIB_STARTUP.SLOT slot).set pgRS RS_LIB_STARTUP.VALID 1

/-- A request to host software for flash management (R392): one at a time. [Log 69 DEDUCED] -/
def State.haReq (s : State) (kind part block : Nat) : State :=
  if s.flag pgRS RS_HA_REQ.PENDING then s
  else
    let s := (s.set pgRS RS_HA_REQ.PENDING 1).set pgRS RS_HA_REQ.KIND kind
    ((s.set pgRS RS_HA_REQ.PART part).set pgRS RS_HA_REQ.BLOCK block).setStatus pgRS stRS_HA_REQ

end Sys2Proof.Machine
end

