-- ==== Sys2Proof/Machine/TimeCore.lean ====
section
/-!
DEFINITION. The timestamp's loads and slews (R79, R80) and the event timers (R82-R84, R564, R566).
-/
namespace Sys2Proof.Machine
open Sys2Proof F

-- PG_STATUS bits of TB page 0 (R87) and TB page 1 (R88)
def stLOCK_ACQUIRED : Nat := 0
def stHOLDOVER_ENTERED : Nat := 1
def stTIME_SET_DONE : Nat := 2
def stPACE_WARN : Nat := 4
def stREF_CHANGED : Nat := 5
def stTIMER_EVENT : Nat := 0
def stSTART_LATE : Nat := 1

-- Timestamp ---------------------------------------------------------------------------------------------------

/-- A slew of a signed number of ns begins, or replaces the one in progress (R79). A write of 0, which leaves nothing
to absorb, ends it and sets no SLEW_DONE. [Log 95 DESIGN CHOICE] -/
def State.startSlew (s : State) (ns : Int) : State :=
  let s := s.set pgTB TB_SLEW_AMOUNT (trunc 32 ns)
  { s with slewLeft := if s.get pgTB TB_SLEW_AMOUNT == 0 then 0 else s.slewEdges }

/-- A time moved by the step from one timestamp to another. -/
def shiftTime (old new : Time) (t : Time) : Time := t + (new - old)

/-- A new timestamp is in force at this tick (R80): the epoch is valid, no slew remains (and none is reported as done),
and the due times of running timers move with the step. [Log 95 DESIGN CHOICE] -/
def State.loadAt (s : State) (t : Time) : State :=
  let sh := shiftTime s.ts t
  let s := { s with
    timers := s.timers.map fun (e : Nat × Timer) => (e.1, { e.2 with due := e.2.due.map sh, fall := e.2.fall.map sh }),
    trig := s.trig.map fun (e : TrigAt) => { e with time := sh e.time },
    ts := t, slewLeft := 0 }
  ((s.set pgTB TB_SLEW_AMOUNT 0).set pgTB TB_STATUS.EPOCH_VALID 1).setStatus pgTB stTIME_SET_DONE

/-- A timestamp is loaded at the next tick (R80). [Log 36 DEDUCED] -/
def State.loadTime (s : State) (t : Time) : State := s.nextTick.loadAt t

/-- The load-or-slew rule of R480 and R487: the offset to another timestamp is loaded, at the next tick, when it exceeds
1 us, and slewed otherwise. -/
def State.followTime (s : State) (offs : Int) : State :=
  if 1000 < offs.natAbs then s.nextTick.loadAt (s.nextTick.ts + BitVec.ofInt 64 offs) else s.startSlew offs

-- Event timers ------------------------------------------------------------------------------------------------

def timerOff : Timer := { due := none, fall := none, started := false }
def State.timer (s : State) (n : Nat) : Timer := (aget s.timers n).getD timerOff
def State.setTimer (s : State) (n : Nat) (t : Timer) : State :=
  { s with timers := if t = timerOff then adel s.timers n else aput s.timers n t }

/-- Timers may start: page enabled, powered and not quiesced, timebase running (R75, R564). -/
def State.timersOpen (s : State) : Bool := s.accepts pgTM && s.tbRun

/-- Time runs on to the edge at which an instant falls, and the timestamp of that edge; an instant that has passed
keeps its own. [Log 5 DESIGN CHOICE] -/
def State.edgeAt (s : State) (d : Time) : Time × State :=
  if s.now < d.toNat then ((s.reach d).ts, s.reach d) else (d, s)

/-- An event of a timer that its SCH_EDGE selects goes to the scheduler with the timestamp of its edge (R85, R566):
source 0x0D0 + n. -/
def State.timerSched (s : State) (n : Nat) (falling : Bool) (t : Time) : State :=
  let e := s.get pgTM TM_CTRL.SCH_EDGE n
  if bit e (b2n falling) then
    s.raiseHw (0xD0 + n)
      { kind := 5, time := t, w4 := BitVec.ofNat 32 (n + 256 * b2n falling),
        w5 := BitVec.ofNat 32 (s.get pgTM TM_COUNT n) }
  else s

/-- The high level of a timer ends at an instant, for its level consumers; in the pulse modes that is its falling
event (R82, R85, R566). -/
def State.timerFall (s : State) (n : Nat) (t : Time) : State :=
  let s := (s.setTimer n { s.timer n with fall := none }).timerOut n false t
  if s.get pgTM TM_CTRL.MODE n < 2 then s else s.timerSched n true t

/-- The width of the level that follows an event: 4 ns in modes 0 and 1 (R566), TM_WIDTH in the pulse modes.
[Log 37 DEDUCED] -/
def State.timerWidth (s : State) (n : Nat) : Nat :=
  if s.get pgTM TM_CTRL.MODE n < 2 then 4 else s.get pgTM TM_WIDTH n

/-- The event of a timer due at `d`, at the edge with timestamp `t` (R82, R85): an earlier end of its high level comes
first; the next event of a periodic mode follows TM_PERIOD after `d`, and a mode 0 timer has run. -/
def State.timerRise (s : State) (n : Nat) (d t : Time) : State :=
  let mode := s.get pgTM TM_CTRL.MODE n
  let s := match (s.timer n).fall with
    | none => s
    | some f => if f.toNat ≤ d.toNat then s.timerFall n f else s
  let x : Timer :=
    { s.timer n with
      due := if mode % 2 == 1 then some (d + BitVec.ofNat 64 (s.get pgTM TM_PERIOD n)) else none,
      fall := some (d + BitVec.ofNat 64 (s.timerWidth n)) }
  let s := s.setTimer n x
  let s := if mode == 0 then s.set pgTM TM_CTRL.RUNNING 0 n else s
  let s := (s.setMaskBit pgTM TM_EVENTS n true).incWrap pgTM TM_COUNT n
  let s := if s.maskBit pgTM TM_EVENT_EN n then s.setStatus pgTM stTIMER_EVENT else s
  (s.timerOut n true t).timerSched n false t

/-- A start of one timer at an instant (R83); answers whether its event falls at that instant and has been delivered.
[Log 37 DEDUCED] -/
def State.startOne (s : State) (n : Nat) (t : Time) : Bool × State :=
  let mode := s.get pgTM TM_CTRL.MODE n
  let x := s.timer n
  let runs := s.get pgTM TM_CTRL.RUNNING n == 1
  if !s.timersOpen || s.get pgTM TM_CTRL.EN n == 0 then (false, s)
  else if runs && mode % 2 == 1 then (false, s.setTimer n { x with started := true })
  else
    let delay := s.get pgTM TM_DELAY n
    let s := if runs && mode == 2 && delay != 0 && x.fall.isSome then s.timerFall n t else s
    let d := t + BitVec.ofNat 64 delay
    let s := (s.setTimer n { s.timer n with due := some d, started := true }).set pgTM TM_CTRL.RUNNING 1 n
    if delay == 0 && decide (t.toNat ≤ s.now) then (true, s.timerRise n d t) else (false, s)

/-- The timers that each event of timer `n` starts. -/
def State.chainedTo (s : State) (n : Nat) : List Nat :=
  (List.range 32).filter fun k => s.get pgTM TM_CTRL.START_SRC k == 2 && s.get pgTM TM_CTRL.CHAIN k == n

/-- Starts of timers at an instant, with the chain starts of the events that fall at once (R83). Several starts
of a timer at one tick count as one, so each timer starts at most once; the count bounds the list. -/
def State.startAll : Nat → List Nat → List Nat → State → Time → State
  | 0, _, _, s, _ => s
  | _, [], _, s, _ => s
  | k + 1, n :: todo, seen, s, t =>
    if seen.contains n then State.startAll k todo seen s t
    else
      let r := s.startOne n t
      State.startAll k (if r.1 then todo ++ r.2.chainedTo n else todo) (n :: seen) r.2 t

/-- A start of a timer at an instant. -/
def State.startTimer (s : State) (n : Nat) (t : Time) : State := State.startAll 1100 [n] [] s t

/-- The event of a timer due at `d`, at the edge with timestamp `t`: its consumers, and the timers chained to it. -/
def State.timerDue (s : State) (n : Nat) (d t : Time) : State :=
  let s := s.timerRise n d t
  State.startAll 1100 (s.chainedTo n) [] s t

/-- The events of a timer that are due at or before the timestamp, at most `k` of them. -/
def State.timerCatchUp : Nat → State → Nat → State
  | 0, s, _ => s
  | k + 1, s, n =>
    match (s.timer n).due with
    | none => s
    | some d => if d.toNat ≤ s.now then State.timerCatchUp k (s.timerDue n d d) n else s

/-- A timer stops (R84): the events due at or before this tick are delivered, each falling one in its place, and a
level that is high ends at this tick. [Log 37 DEDUCED] -/
def State.stopTimer (s : State) (n : Nat) : State :=
  let k := match (s.timer n).due with
    | none => 0
    | some d => (s.now - d.toNat) / 20 + 1
  let s := State.timerCatchUp k s n
  let s := match (s.timer n).fall with
    | none => s
    | some f => s.timerFall n (if f.toNat ≤ s.now then f else s.ts)
  (s.setTimer n timerOff).set pgTM TM_CTRL.RUNNING 0 n

/-- An enabled timer whose absolute start has passed starts at the next tick (R83). [Log 37 DEDUCED] -/
def State.lateStart (s : State) (n : Nat) : State :=
  if s.timersOpen && s.get pgTM TM_CTRL.EN n == 1 && s.get pgTM TM_CTRL.START_SRC n == 1 &&
      !(s.timer n).started && decide (s.get64 pgTM TM_START_TIME_LO n < s.now) then
    (s.startTimer n s.nextTick.ts).setStatus pgTM stSTART_LATE
  else s

/-- A timer is treated as though its TM_CTRL.EN had just been set (R83, R88, R564). [Log 37 DEDUCED] -/
def State.armTimer (s : State) (n : Nat) : State :=
  ((s.setTimer n timerOff).set pgTM TM_COUNT 0 n).lateStart n

/-- TM_CTRL.EN takes a value, at a tick. [Log 37 DEDUCED] -/
def State.setTimerEn (s : State) (n : Nat) (v : Bool) : State :=
  if (s.get pgTM TM_CTRL.EN n == 1) == v then s
  else if v then (s.toTick.set pgTM TM_CTRL.EN 1 n).armTimer n
  else (s.toTick.stopTimer n).set pgTM TM_CTRL.EN 0 n

/-- A write of TM_CTRL of timer `n` (R83, R84, R88): MODE, START_SRC and CHAIN are ignored while the timer runs;
EN is then applied, and a START last. [Log 37 DEDUCED] -/
def State.timerCtrl (s : State) (n : Nat) (v : Word) : State :=
  let w := v.toNat
  let off := TM_CTRL.EN.addr pgTM n
  let runs := s.get pgTM TM_CTRL.RUNNING n == 1
  let lk := s.locked pgTM 8
  let hit := s.meetsLock pgTM (off % 0x1000) .tb1 v
  let s := if runs || lk then s else
    (((s.set pgTM TM_CTRL.MODE (s.stored pgTM .tb1 TM_CTRL.MODE n (bits w 4 3)) n).set pgTM TM_CTRL.START_SRC
      (s.stored pgTM .tb1 TM_CTRL.START_SRC n (bits w 8 3)) n).set pgTM TM_CTRL.CHAIN (bits w 16 5) n)
  let s := s.set pgTM TM_CTRL.SCH_EDGE (bits w 24 2) n
  let s := if hit then s.lockedWrite pgTM else s
  let s := s.setTimerEn n (bit w 0)
  if bit w 1 && s.get pgTM TM_CTRL.START_SRC n == 0 then s.toTick.startTimer n s.toTick.ts else s

/-- PG_CTRL.EN of TB page 1 has taken a value, having been `was` (R564). -/
def State.timersEn (s : State) (was : Bool) : State :=
  let on := s.flag pgTM PG_CTRL.EN
  let s := if on == was then s else s.toTick
  if on == was then s
  else if on then
    s.each (List.range 32) fun s n => if s.get pgTM TM_CTRL.EN n == 1 then s.armTimer n else s
  else s.each (List.range 32) fun s n => if s.get pgTM TM_CTRL.RUNNING n == 1 ∨ (s.timer n).fall.isSome
    then s.stopTimer n else s

/-- A block reset of TB page 0 (R87) and of TB page 1 (R88). -/
def State.tbBlockReset (s : State) : State :=
  { (s.set pgTB TB_SLEW_AMOUNT 0).set pgTB TB_STATUS.LOSS_COUNT 0 with slewLeft := 0 }

def State.tmBlockReset (s : State) : State := s.each (List.range 32) fun s n => s.setTimerEn n false

end Sys2Proof.Machine
end

