-- ==== Sys2Proof/Machine/Idle.lean ====
section
/-!
DEFINITION. PG_CTRL.IDLE of every page: the block has no work in hand (R46, R48 and the owning chapters).
-/
namespace Sys2Proof.Machine
open Sys2Proof F

/-- No value is in flight at a bank's gates and ports (R147); one that waits behind a closed gate is not in flight. -/
def State.bankIdle (s : State) (b : Nat) : Bool :=
  (s.nets.all fun (e : Nat × Net) =>
    e.2.kind == .level || e.2.kind == .crossbar || e.2.val.isNone ||
      !(e.2.gates.contains b || e.2.recv.any fun (r : Nat × (Nat × Nat)) => r.1 == b) ||
      (!e.2.delivered && e.2.gates.any fun g => s.gatesClosed.contains g)) &&
  ((List.range 7).all fun i => (s.inHand (7 * b + i)).isEmpty) && (aget s.portWait b).isNone &&
  (s.subWait.all fun (e : Nat × List Word) => !(decide (0x100 ≤ e.1) && e.1 / 8 == 0x20 + b)) &&
  (s.subIn.all fun (e : Nat × (Time × List Word)) => e.1 / 8 != b) && (s.spanWait.all fun (e : Nat × List Word) => e.1 / 8 != b)

/-- The rail sequencer has a step in progress (R553). -/
def State.seqBusy (s : State) : Bool :=
  match s.seqPhase with | .idle => false | .paused _ => false | _ => true

/-- PG_CTRL.IDLE of a page. [Log 78 DEDUCED] -/
def State.pageIdle (s : State) (pg : Nat) : Bool :=
  match pageAt pg with
  | none => true
  | some (k, i) =>
    match k with
    | .tb0 => s.slewLeft == 0
    | .tb1 => (List.range 32).all fun n => s.get pgTM TM_CTRL.RUNNING n == 0
    | .pwr1 => !s.flag pgPMB PWR_PMB_STATUS.STEPPING
    | .seq => !s.seqBusy
    | .mgt => !s.mpDown
    | .cfg => s.cfgOp == .idle
    | .cal => s.repair.isNone && !s.flag pgCAL CAL_STATUS.RUNNING
    | .cch => s.couch.isNone
    | .key => s.keyOp.isNone
    | .fb => s.bankIdle i
    | .asec => s.get pg AS_MUTE == 0 && (s.pathMute.all fun (e : Nat × Nat) => e.1 / 4 != i || e.2 == 0)
    | .cv => (s.conv i).idle && (s.conv i).diag.isNone
    | .fc => s.chainIn.all fun (e : Nat × (Word × Time)) => e.1 / 16 != i
    | .da => (pageOuts i).all fun c => !(s.out c).disabling && !s.spanBusy c
    | .sch0 => s.recHeld == 0
    | .sch3 => s.notices.isEmpty && (List.range 14).all fun q => (s.inHand (0xF2 + q)).isEmpty
    | .rs0 => s.rsOp.isNone
    | .rs1 => s.vtCommit.isNone && s.vtOp.isNone
    | .rs2 => s.capRead.isNone
    | .rs3 => s.press.isNone
    | .bfe => s.bfePort.wip.isNone && s.bfeUpd.isNone && s.bfeFetch.isNone
    | .sn => !s.flag pgSN SN_STATUS.ENUM_BUSY
    | .sq => (List.range 4).all fun l => (s.lane i l).tx.isEmpty
    | .st => (List.range 4).all fun k => (s.ring (4 * i + k)).cur.isNone && (s.ring (4 * i + k)).closed.isEmpty
    | .dev | .tnd | .pwr0 | .cp | .ls | .sch1 | .sch2 | .tw | .gb => true

end Sys2Proof.Machine
end

