-- ==== Sys2Proof/Machine/PowerCore.lean ====
section
/-!
DEFINITION. Power domains (R47, R521-R523), the return of registers to their reset values (R457, R522),
HOST_RESET# and the rails (R535-R540), DOZE and HOLD (R525, R526).
-/
namespace Sys2Proof.Machine
open Sys2Proof F

-- PG_STATUS bits of PWR page 0 (R550), PWR page 1 (R551) and SEQ (R553)
def stSTATE_DONE : Nat := 0
def stREFUSED : Nat := 1
def stWAKE : Nat := 2
def stSUPPLY_LOST : Nat := 3
def stTEMP_WARN : Nat := 4
def stPWR_REJECT : Nat := 5
def stAT_TARGET : Nat := 0
def stLIMITED : Nat := 1
def stSEQ_DONE : Nat := 0
def stHOST_RELEASED : Nat := 1
def stSEQ_FAILED : Nat := 2
def stOFF_DONE : Nat := 3

-- PWR_STATE.CURRENT (R550)
def powerRUN : Nat := 0
def powerDOZE : Nat := 1
def powerHOLD : Nat := 2

/-- PWR_STATE.CURRENT. -/
def State.power (s : State) : Nat := s.get pgPWR PWR_STATE.CURRENT

-- Registers at their reset values ------------------------------------------------------------------------------

/-- The bits of a register that a reset keeps: stored ones always, kept ones unless it is a power-on reset.
[Log 30 DEDUCED, 51 DEDUCED] -/
def keptBits (k : PageKind) (o : Nat) (por : Bool) : Nat :=
  (((fieldsAt k o).filter fun f => f.keep == .always || (!por && f.keep == .chip)).map Fld.mask).sum

/-- Every register that `hit` names takes its reset value, its kept bits aside. -/
def State.resetRegs (s : State) (hit : Nat → Bool) (por : Bool) : State :=
  { s with regs := s.regs.filterMap fun (e : Nat × Word) =>
      if hit e.1 then
        let kept := match pageAt (e.1 / 0x1000) with
          | some (k, _) => if e.1 < 0xC_0000 then keptBits k (e.1 % 0x1000) por else 0
          | none => 0
        let w := (resetWord s.part e.1 &&& ~~~(BitVec.ofNat 32 kept)) ||| (e.2 &&& BitVec.ofNat 32 kept)
        if w = resetWord s.part e.1 then none else some (e.1, w)
      else some e }

/-- The registers of a page after its header at their chip-reset values (R522). The active planes (R522 keeps the
planes themselves) and the role with the lines that show it (R468) stand outside the domain. [Log 30 DEDUCED] -/
def State.resetPage (s : State) (pg : Nat) : State :=
  let ab := s.get pgCCH CCH_ACTIVE_BANKS
  let as := s.get pgCCH CCH_ACTIVE_SECTORS
  let boot := s.reg (CCH_BOOT.STEP.addr pgCCH 0)
  let role := s.role
  let line := s.peer
  let s := s.resetRegs (fun o => o / 0x1000 == pg && decide (0x40 ≤ o % 0x1000)) false
  let s := if pg == pgCCH then
      ((s.set pgCCH CCH_ACTIVE_BANKS ab).set pgCCH CCH_ACTIVE_SECTORS as).setReg (CCH_BOOT.STEP.addr pgCCH 0) boot
    else s
  if pg == pgTW then (s.set pgTW TW_STATUS.ROLE role).set pgTW TW_STATUS.PEER_LINE line else s

-- What keeps a domain on (R47, R521, R523) ----------------------------------------------------------------------

/-- The pages of a domain. -/
def domPages (d : Nat) : List Nat := (List.range 0xC0).filter fun p => (pageDomains p).contains d

/-- A page asks for its domain: PWR_REQ or EN. -/
def State.pageAsks (s : State) (pg : Nat) : Bool :=
  s.present pg && (s.flag pg PG_CTRL.PWR_REQ || s.flag pg PG_CTRL.EN)

/-- A domain is asked for. PD55, the host link's, has no page; the device asks for it (DEDUCED: nothing else could,
and the host link works from start-up on). [Log 78 DEDUCED] -/
def State.domAsked (s : State) (d : Nat) : Bool := d == 55 || (domPages d).any s.pageAsks

/-- A domain that the device keeps on whatever is asked (R21, R78, R523). -/
def State.domKept (s : State) (d : Nat) : Bool := d == 62 || ((d == 46 || d == 56) && s.flag pgPR RS_PR_CTRL.EN)

/-- The bit of a domain in PWR_DOZE_MASK. -/
def State.dozeMasked (s : State) (d : Nat) : Bool :=
  if d < 32 then s.maskBit pgPWR PWR_DOZE_MASK_LO d else s.maskBit pgPWR PWR_DOZE_MASK_HI (d - 32)

/-- Every counted supply is valid (R529). -/
def State.suppliesOk (s : State) : Bool :=
  Nat.land (s.get pgPWR PWR_SUPPLY.VALID) (validSupplies s.variant) == validSupplies s.variant

/-- A domain is to be on. [Log 78 DEDUCED] -/
def State.domWanted (s : State) (d : Nat) : Bool :=
  decide (d < 64) && domPresent s.variant d && s.power != powerHOLD && !s.unpowered && s.suppliesOk &&
    !s.resetLow && !s.pressOff.contains d &&
    (s.domKept d || (s.domAsked d && !(s.power == powerDOZE && s.dozeMasked d)))

/-- PWR_ON of a domain. -/
def State.setDomOn (s : State) (d : Nat) (v : Bool) : State :=
  if d < 32 then s.setMaskBit pgPWR PWR_ON_LO d v else s.setMaskBit pgPWR PWR_ON_HI (d - 32) v

/-- The domains that ramp: those that do go on, and waiting requests in ascending domain number up to 8 (R521).
[Log 78 DEDUCED] -/
def State.admitRamps (s : State) : State :=
  let up := s.ramps.filter fun d => s.domWanted d && !s.domOn d
  let wait := (List.range 64).filter fun d => s.domWanted d && !s.domOn d && !up.contains d
  { s with ramps := up ++ wait.take (8 - up.length) }

/-- Back in RUN, the pad latches of DOZE release once no bank that DOZE switched off is still to come back (R525). -/
def State.dozeSync (s : State) : State :=
  if s.dozeOff.isEmpty || s.power != powerRUN then s
  else
    let l := s.dozeOff.filter fun d => decide (d < 32) && s.domWanted d && !s.domOn d
    let s := { s with dozeOff := l }
    if l.isEmpty then s.releaseAll 2 else s

/-- A request to switch off a domain is refused (R523). -/
def State.refuseOff (s : State) (d : Nat) : State :=
  let s := if d < 32 then s.setMaskBit pgPWR PWR_REFUSED_LO d true
    else s.setMaskBit pgPWR PWR_REFUSED_HI (d - 32) true
  s.setStatus pgPWR stREFUSED

/-- A page's request has changed, `old` being the state before: a domain that nothing asks for any longer and that
the device keeps on is refused, and one that is asked for anew ramps or waits its turn (R521). -/
def State.askChanged (old s : State) (pg : Nat) : State :=
  (s.each (pageDomains pg) fun s d =>
    if old.domAsked d && !s.domAsked d && s.domKept d && s.domOn d then s.refuseOff d else s).admitRamps.dozeSync

-- Domains going off and coming on -------------------------------------------------------------------------------

/-- The PCIe function's own configuration state is reset (R36): Bus Master Enable, and the MSI-X table with its pending
bits. [Log 14 PRESUMED] -/
def State.pciReset (s : State) : State :=
  (s.set pgDEV DEV_HOSTLINK.BME 0).clearRegs msixBase (msixBase + 0x8100)

/-- The host link is lost (R36): its counts and status. [Log 14 PRESUMED] -/
def State.hostDown (s : State) : State :=
  if s.get pgDEV DEV_HOSTLINK.RATE == 0 then s
  else
    let s := ((s.set pgDEV DEV_HOSTLINK.RATE 0).set pgDEV DEV_HOSTLINK.TUNNEL 0).pciReset
    (s.incWrap pgDEV DEV_HOSTLINK.DOWN_COUNT).setStatus pgDEV stLINK_DOWN

/-- What a domain loses as it goes off. -/
def State.domDown (s : State) (d : Nat) : State :=
  if !s.domOn d then s
  else
    let s := s.setDomOn d false
    if d < 32 then
      let s := (s.padsOf d).foldl (fun s p => s.holdPad 5 p) s
      { s.initBank d with portWait := adel s.portWait d }
    else if d < 40 then (s.cellsOff (d - 32)).refreshShunts (d - 32)
    else if d < 44 then s.convOff (d - 40)
    else if d < 46 then s.each ((List.range 32).map (32 * (d - 44) + ·)) State.daOff
    else if d == 46 then s.each (List.range 4) State.cpSyncPage
    else if d < 53 then s.each (List.range 4) fun s l => s.setLane (d - 47) l laneOff
    else if d == 53 then s.takeLinkDown
    else if d == 54 then { s with strobes := [] }
    else if d == 55 then s.hostDown.set pgDEV DEV_HOSTLINK.USB2_REC 0
    else if d == 56 then { s.setTxn none with vtOp := none, rsOp := none, capRead := none, refresh := [] }
    else if d == 57 then
      { s with
        bfePort := { octal := false, dummy := 20, wel := false, wip := none, rstEn := false }, bfeUpd := none, bfeFetch := none }
    else if d == 60 then
      let w := s.tasks
      let n := (w.filter fun t => t.rec?.isSome).length + s.hwDue.length + s.hwSlot.length
      let s := if n = 0 then s else s.set pgSCH SCH_BROKE_CNT.DISCARD (min n 0xFFFF)
      let s := { s with tasks := [], hwDue := [], hwSlot := [], notices := [], haSkip := false }
      (w.foldl (fun s t => s.syncTask t) s).syncUse
    else if d == 61 then
      { s with
        cfgOp := .idle, loaderBuf := [], keyOp := none, couch := none, repair := none, repairDue := [], passSeen := [], passDue := false }
    else if d == 62 then
      { s with
        tbRun := false, refOk := false, timers := [], slewLeft := 0, trig := [], muteAt := [], pinTripAt := [], loopAt := [],
        scrubs := [], lsLast := [], snapLast := none, energyNext := 0, cpNext := [], cpDue := [], daTick := none }
    else if d == 63 then (s.each (List.range 4) State.fcSync |> fun s => { s with rings := [] })
    else s

/-- The bound workers of a bank as its active sheet gives them (R338). -/
def State.bindWorkers (s : State) (b : Nat) : State :=
  s.each (List.range 7) fun s i =>
    s.set pgWKR SCH_WKR.BOUND
      (b2n (s.flag (pgFB b) FB_STATE.SHEET && (s.bankSheet b).workers.any fun (e : Nat × Nat) => e.1 == i)) (7 * b + i)

/-- What a domain finds as it comes on (R522): registers at their chip-reset values, a bank released with initial
values, a converter calibrating, enabled units running. [Log 30 DEDUCED] -/
def State.domUp (s : State) (d : Nat) : State :=
  if s.domOn d then s
  else
    let old := s
    let s := s.setDomOn d true
    let s := s.each ((domPages d).filter s.present) State.resetPage
    let s :=
      if d < 32 then (s.padsOf d).foldl (fun s p => s.releasePad 5 p) (s.restoreBank d)
      else if d < 40 then
        if s.flag (pgAS (d - 32)) PG_CTRL.EN then
          ((s.muteRunning old (d - 32)).markCellErr (d - 32)).refreshShunts (d - 32)
        else s
      else if d < 44 then s.convOn (d - 40)
      else if d == 46 then s.each (List.range 4) State.cpSyncPage
      else if d == 61 then s.calCtrl false
      else if d == 60 then s.each (List.range (nBanks s.variant)) State.bindWorkers
      else if d == 63 then s.each (List.range 4) State.fcSync
      else s
    s.dozeSync

-- HOST_RESET# and the rails (R535-R540) -----------------------------------------------------------------------------

/-- HOST_RESET# asserted (true) or released; the boot-flash port meets each edge (R417). [Log 80 DEDUCED] -/
def State.setHostRst (s : State) (v : Bool) : State :=
  if s.hostRst == v then s
  else
    let s := { s with hostRst := v, hostRstDue := some v }.set pgSEQ SEQ_STATUS.HOST_RELEASED (b2n !v)
    if v then s else s.setStatus pgSEQ stHOST_RELEASED

/-- Rails enabled at one tick. -/
def State.setRails (s : State) (m : Nat) : State := s.set pgSEQ SEQ_STATUS.ENABLED m

/-- The rails of the plan's step. -/
def State.stepRails (s : State) (k : Nat) : List Nat :=
  (List.range 16).filter fun r => s.get pgSEQ SEQ_RAIL.IN_PLAN r == 1 && s.get pgSEQ SEQ_RAIL.STEP r == k

/-- SEQ_CTRL.OFF and the entry into HOLD (R538): HOST_RESET# asserted, every rail disabled but those that HOLD
keeps, DONE and HOST_RELEASED 0. [Log 79 DEDUCED] -/
def State.railsOff (s : State) (hold : Bool) : State :=
  let keep := if hold then
      ((List.range 16).map fun r => b2n (s.get pgSEQ SEQ_RAIL.KEEP_HOLD r == 1) * 2 ^ r).sum else 0
  let s := { s.setHostRst true with seqPhase := .idle, hostDelay := false }
  let s := s.setRails (Nat.land (s.get pgSEQ SEQ_STATUS.ENABLED) keep)
  let s := ((s.set pgSEQ SEQ_STATUS.DONE 0).set pgSEQ SEQ_STATUS.HOST_RELEASED 0).set pgSEQ SEQ_STATUS.RUNNING 0
  s.setStatus pgSEQ stOFF_DONE

-- HEALTHY and HOST_NMI# (R441, R442) -----------------------------------------------------------------------------

/-- The level of HEALTHY. -/
def State.healthy (s : State) : Bool :=
  s.step3Done && !s.safe && !s.flag pgTND TND_STATUS.VOTE_LOST && s.power != powerHOLD && !s.unpowered &&
    !s.flag pgTND TND_CTRL.HEALTHY_LOW

/-- TND_STATUS.HEALTHY follows the pin. -/
def State.syncHealthy (s : State) : State := s.set pgTND TND_STATUS.HEALTHY (b2n s.healthy)

/-- HOST_NMI# stays asserted while its 10 us run or a trap is pending. -/
def State.syncNmi (s : State) : State :=
  s.set pgTND TND_STATUS.NMI (b2n (s.nmiHeld || s.flag pgTND TND_TRAP.PENDING))

-- DOZE and HOLD (R525, R526) -----------------------------------------------------------------------------------------

/-- HOLD is entered (R526): pads held, every switched domain off, the rails as R538. [Log 79 DEDUCED] -/
def State.enterHold (s : State) : State :=
  let s := s.holdAll 3
  let s := s.each (List.range 64) State.domDown
  let s := { s with dozeOff := [], pressOff := [], holdEntry := false, press := none }
  let s := (s.set pgPWR PWR_STATE.CURRENT powerHOLD).railsOff true
  s.syncHealthy.setStatus pgPWR stSTATE_DONE

end Sys2Proof.Machine
end

