-- ==== Sys2Proof/Machine/PressCore.lean ====
section
/-!
DEFINITION. The press (R405-R410): its start, its steps, resume and HOLD.
-/
namespace Sys2Proof.Machine
open Sys2Proof F

/-- A block reset of an FB page with the broke records of its worker ports (R113, R149, R351): its elements at their
initial values, EN 0, its gates closed. -/
def State.fbReset (s : State) (b : Nat) (c : Cut) : State :=
  let s := s.cutWorkers (fun w => decide (7 * b ≤ w) && decide (w < 7 * b + 7)) c
  ((s.fbBlockReset b).set (pgFB b) PG_CTRL.EN 0).bankGates b

/-- A bank is in the press-off set (R406). -/
def State.pressBank (s : State) (b : Nat) : Bool := s.present (pgFB b) && !s.maskBit pgPR RS_PR_KEEP b

/-- The domains of the press-off set beside the fabric banks (R406). -/
def State.pressOthers (s : State) : List Nat :=
  ((List.range 12).map (32 + ·) ++ [47, 48, 49, 50, 51, 52, 54] ++
    (if s.flag pgPR RS_PR_CTRL.KEEP_HOST then [] else [55])).filter (domPresent s.variant)

/-- Domains switched off by the press: each bank's FB page takes a block reset first (cause 0x01 of R352), and the
PG_CTRL of their pages at that time is kept. -/
def State.pressDown (s : State) (l : List Nat) : State :=
  match s.press with
  | none => s
  | some p =>
    let pages := (l.flatMap domPages).filter fun pg => s.present pg && !(p.pages.any fun (e : Nat × Word) => e.1 == pg)
    let kept := pages.map fun pg => (pg, s.hdr pg 0x008)
    let s := { s with press := some { p with pages := p.pages ++ kept, doms := p.doms ++ l } }
    let s := { s with pressOff := s.pressOff ++ l.filter fun d => !s.pressOff.contains d }
    s.each l fun s d =>
      let s := if decide (d < 32) && s.domOn d then s.fbReset d { cause := 1, attr := 0 } else s
      s.domDown d

/-- The fabric banks of the press-off set go off; while a couch runs on beyond its commit point they stay until its
step 11 (R203). -/
def State.pressBanksDown (s : State) : State :=
  if s.press.isSome && s.couch.isNone then
    s.pressDown ((List.range 32).filter fun b => s.pressBank b && !s.pressOff.contains b)
  else s

/-- A press may start (R405). -/
def State.pressReady (s : State) : Bool :=
  s.flag pgPR RS_PR_CTRL.EN && s.flag pgPR RS_PR_STATE.ARMED && s.press.isNone && !s.holdEntry &&
    s.power != powerHOLD && !s.unpowered

/-- What the start of a press stops (R409). -/
def State.pressStops (s : State) : State :=
  let s := { s with bfeFetch := none }.setTxn none
  let s := if s.vtOp.isSome then { s with vtOp := none }.vtResult 7 else s
  let s := if s.capRead.isSome then { s with capRead := none }.setStatus pgCAP stCAP_READ_DONE else s
  let s :=
    match s.rsOp with
    | none => s
    | some op =>
      let s := ({ s with rsOp := none }.set pgRS RS_CMD_RES.RESULT 6).set pgRS RS_CMD_RES.BUSY 0
      match op with
      | .raw _ _ _ _ => (s.set pgRS RS_RAW.ERR 1).setStatus pgRS stRS_RAW_DONE
      | _ => s.setStatus pgRS stRS_CMD_DONE
  let s :=
    match s.couch with
    | some c => if s.get pgCCH CCH_STATE.STEP < 5 then (s.couchBack c).couchRefuse cchPRESS none else s
    | none => s
  s.stopLoad ldABORT

/-- A press starts (R405-R407): its trigger is recorded and step 1 takes place; PMBus steps cease (R73); a device
with a live peer surrenders (R472). -/
def State.pressStart (s : State) (cause : Nat) (hold : Bool) : State :=
  if !s.pressReady then s
  else
    let p : Press := { cause := cause, hold := hold, start := s.ts, pages := [], doms := [] }
    let s := s.pressStops
    let s := (List.range 64).foldl State.closeBlock s
    let s := { s with press := some p, pmbHeld := true }.set pgPMB PWR_PMB_STATUS.STOPPED 1
    let s := (s.set pgPMB PWR_PMB_STATUS.STEPPING 0).set pgPR RS_PR_STATE.STEP 1
    let s := ((s.set pgPR RS_PR_STATE.CAUSE cause).set pgPR RS_PR_STATE.RESUMED 0).incWrap pgPR RS_PR_COUNT
    let s := (s.set64 pgPR RS_PR_LAST_TIME_LO s.now).setStatus pgPR stPR_PRESS_START
    let s := (s.pressDown s.pressOthers).pressBanksDown
    if s.peerLive then s.surrender else s

/-- The capture streams in the order in which step 4 flushes them (R407, R410): in host-assisted mode the plan last
written, and in hardware mode, or where no plan has been written since chip reset, triggered streams first (R28). -/
def State.flushOrder (s : State) : List Nat :=
  if s.hostAssisted pgPR && s.prPlan then
    (List.range 16).map fun i =>
      bits (s.get pgPR (if i < 8 then RS_PR_PLAN_LO else RS_PR_PLAN_HI)) (4 * (i % 8)) 4
  else
    let t := (List.range 16).filter fun n => s.get pgCAP RS_CAP_STATE n == 2
    t ++ (List.range 16).filter fun n => !t.contains n

/-- The closed blocks of a ring committed, at most as many as there are. [Log 70 DEDUCED] -/
def State.commitAll (s : State) (r : Nat) : State :=
  s.each (List.range (s.ring r).closed.length) fun s _ => s.commitBlock r

/-- Step 4: the rings of each capture stream flushed. [Log 71 DEDUCED] -/
def State.flushTails (s : State) : State :=
  s.each s.flushOrder fun s n =>
    s.each ((List.range 64).filter fun r =>
      s.rget r ST_RING_CFG.DEST == 1 && s.rget r ST_RING_CFG.CAP == n) State.commitAll

/-- What the completion of step `k` of a press leaves. -/
def State.pressDone (s : State) (k : Nat) : State :=
  match k with
  | 2 =>
    s.acknowledge.bfeFinish.bfeUpdFinish
  | 4 => s.flushTails
  | 6 =>
    match s.press with
    | none => s
    | some p =>
      let r := s.quotient (s.now - p.start.toNat, 1000)
      r.2.set pgPR RS_PR_LAST_DUR r.1
  | _ => s

/-- The press resumes the device (R408): PG_CTRL of the pages that it switched off as before; in the safe state the
domains stay off and VDD_CORE stays (R446, R73). -/
def State.pressResume (s : State) (p : Press) : State :=
  let s := { s with press := none }
  let s := p.pages.foldl (fun s (e : Nat × Word) => s.setReg (e.1 * 0x1000 + 0x008) e.2) s
  let s := p.pages.foldl (fun s (e : Nat × Word) =>
    if 0x20 ≤ e.1 ∧ e.1 < 0x40 then s.bankGates (e.1 - 0x20) else s) s
  let s := if s.safe then s else
    { s with pressOff := [], pmbHeld := false, vcoreGoal := s.get pgPMB PWR_VCORE_TARGET }.set pgPMB
      PWR_PMB_STATUS.STOPPED 0
  ((s.set pgPR RS_PR_STATE.STEP 0).set pgPR RS_PR_LAST_LOST 0).set pgPR RS_PR_STATE.RESUMED 1

/-- The press ends in HOLD (R408): tasks still held are counted, the device surrenders and enters HOLD. -/
def State.pressHold (s : State) : State :=
  let s := s.set pgPR RS_PR_LAST_LOST (min s.tasks.length 0xFFFF)
  (s.surrender.set pgPR RS_PR_STATE.STEP 0).enterHold

/-- Power has returned for a resume (R408): CP126 HI crossed for 1,000 ticks, PWR_FAIL# high or unused. -/
def State.powerBack (s : State) (pfHigh : Bool) : Bool :=
  decide (1000 ≤ s.pressRuns.hi) && (pfHigh || !s.flag pgPR RS_PR_CTRL.PWR_FAIL_EN)

/-- The step of the press in progress completes; after step 6 the press resumes or ends in HOLD (R408).
[Log 71 DEDUCED] -/
def State.pressStep (s : State) (pfHigh : Bool) : State :=
  match s.press with
  | none => s
  | some p =>
    let k := s.get pgPR RS_PR_STATE.STEP
    let s := s.pressDone k
    if k < 6 then s.set pgPR RS_PR_STATE.STEP (k + 1)
    else if s.powerBack pfHigh && !p.hold then (s.pressResume p).setStatus pgPR stPR_RESUMED
    else s.pressHold

/-- A press in progress runs to the end of its step 6, for a chip reset (R409, R459). -/
def State.pressToSix (s : State) : State :=
  if s.press.isNone then s
  else
    let s := (List.range 7).foldl (fun s k => if s.get pgPR RS_PR_STATE.STEP ≤ k ∧ k ≠ 0 then s.pressDone k else s) s
    { s with press := none }.set pgPR RS_PR_STATE.STEP 0

end Sys2Proof.Machine
end

