-- ==== Sys2Proof/Machine/Resets.lean ====
section
/-!
DEFINITION. Block resets (R49, R351, R429, R432), the safe state (R443-R446), chip reset and power-on reset
(R457-R459), start-up (R205) and ERROR# (R439).
-/
namespace Sys2Proof.Machine
open Sys2Proof F

-- PG_STATUS bits of the TND page (R461)
def stVOTE_FIX_TND : Nat := 0
def stCMD_REJECT : Nat := 1
def stTRAP : Nat := 2
def stSAFE : Nat := 3
def stLOG_LOST : Nat := 4
def stMP_RESTART : Nat := 5
def stCMD_DONE : Nat := 6

-- Block reset ----------------------------------------------------------------------------------------------------

/-- The functional state of a block reset, by page kind; EN is 0 already. [Log 102 DEDUCED] -/
def State.resetFunc (s : State) (k : PageKind) (i : Nat) (wasEn : Bool) (c : Cut) : State :=
  match k with
  | .tnd =>
    let s := { (s.set pgTND TND_VOTE 0).set pgTND TND_LOG.LOST 0 with nmiHeld := false }
    (s.setReg (TND_TRAP.PENDING.addr pgTND 0) 0).syncNmi
  | .seq =>
    let s := { s with seqPhase := .idle, hostDelay := s.hostDelay && s.seqPhase == SeqPhase.idle }
    (s.set pgSEQ SEQ_STATUS.RUNNING 0).setReg (pgSEQ * 0x1000 + 0x010) 0
  | .tb0 => s.tbBlockReset
  | .tb1 => s.tmBlockReset
  | .cfg => s.abortOp
  | .cal =>
    if s.runs pgCAL then s.calPass
    else { (s.set pgCAL CAL_STATUS.RUNNING 0).set pgCAL CAL_POS 0 with passStart := s.clk, passSeen := [] }
  | .cch =>
    let o := pgCCH * 0x1000
    s.clearRegs (o + CCH_ERR.CODE.off) (o + CCH_SWAP_TIME_LO.off)
  | .fb => s.fbReset i c
  | .asec => ((s.asBlockReset i).markCellErr i).refreshShunts i
  | .cv => (s.convBlockReset i).convCtrl i wasEn
  | .fc => s.fcBlockReset i
  | .cp => s.cpBlockReset i
  | .da => (s.daCtrl i wasEn).daBlockReset i
  | .ls => s.lsBlockReset
  | .sch0 => s.schedBlockReset 0 { c with cause := 7 }
  | .sch1 => s.schedBlockReset 1 { c with cause := 7 }
  | .sch2 => s.schedBlockReset 2 { c with cause := 7 }
  | .sch3 => s.schedBlockReset 3 { c with cause := 7 }
  | .st => s.streamBlockReset i
  | .rs1 => s.setTxn none
  | .tw => s.twBlockReset
  | .sn => s.snBlockReset
  | .gb => s.gbBlockReset i
  | .sq => s.sqBlockReset i
  | .dev | .pwr0 | .pwr1 | .mgt | .key | .rs0 | .rs2 | .rs3 | .bfe => s

/-- A page whose PG_CTRL.EN no write or reset clears (R50, R78, R461). -/
def enFixed (k : PageKind) : Bool := k == .tnd || k == .tb0

/-- The quad of a link page follows its enable: SQ6 is the twin link's and SQ7 the span link's (R463, R485). -/
def State.linkEn (s : State) (pg : Nat) : State :=
  if pg == pgTW then s.set (pgSQ 6) PG_CTRL.EN (s.get pgTW PG_CTRL.EN)
  else if pg == pgSN then s.set (pgSQ 7) PG_CTRL.EN (s.get pgSN PG_CTRL.EN) else s

/-- A block reset applied (R49): EN becomes 0 and the functional state is reset. The calender stays enabled under its lock
(R217), and its new pass starts as soon as it is enabled. [Log 102 DEDUCED] -/
def State.resetBlock (s : State) (pg : Nat) (c : Cut) : State :=
  match pageAt pg with
  | none => s
  | some (k, i) =>
    let wasEn := s.flag pg PG_CTRL.EN
    let s1 := if enFixed k || (k == .cal && s.locked pg 0) then s else s.set pg PG_CTRL.EN 0
    State.askChanged s ((s1.resetFunc k i wasEn c).linkEn pg) pg

/-- A block reset that the page does not take now: of CCH while a couch runs (R216, R432), of an FB page in a running
couch's mask (R203). -/
def State.resetHeld (s : State) (pg : Nat) : Bool :=
  match s.couch with
  | none => false
  | some c => pg == pgCCH || (decide (0x20 ≤ pg) && decide (pg < 0x40) && bit c.banks (pg - 0x20))

/-- A block reset held until it can be applied. -/
def State.holdReset (s : State) (pg : Nat) (c : Cut) : State :=
  if (aget s.heldReset pg).isSome then s
  else { s with heldReset := aput s.heldReset pg (c.cause, c.attr) }

/-- A block reset of a page (R49): no effect while its domain is off; held where the page does not take it. -/
def State.blockReset (s : State) (pg : Nat) (c : Cut) : State :=
  if !s.present pg || !s.pageOn pg then s
  else if s.resetHeld pg then s.holdReset pg c
  else s.resetBlock pg c

/-- The held block resets that `p` names are applied and no reset stays held. [Log 77 DEDUCED] -/
def State.releaseResets (s : State) (p : Nat → Bool) : State :=
  let l := s.heldReset
  l.foldl (fun s (e : Nat × (Nat × Word)) =>
    if p e.2.1 then s.blockReset e.1 { cause := e.2.1, attr := e.2.2 } else s) { s with heldReset := [] }

-- ERROR# (R439, R440) ----------------------------------------------------------------------------------------------

/-- A cause of ERROR#: the pin is asserted, and its pulse runs from this cause. [Log 75 DEDUCED] -/
def State.errorCause (s : State) : State :=
  { s with errPin := true, errPulse := some (s.get pgDEV DEV_ERRPIN.PULSE) }

/-- Something other than a pulse keeps ERROR# asserted: the safe state, a lost vote, DEV_ERRPIN.HOLD. -/
def State.errorHeld (s : State) : Bool :=
  s.safe || s.flag pgTND TND_STATUS.VOTE_LOST || s.flag pgDEV DEV_ERRPIN.HOLD

/-- ERROR# is released where neither a pulse nor anything else keeps it (R439). -/
def State.errorRelease (s : State) : State :=
  if s.errPulse.isNone && !s.errorHeld then { s with errPin := false } else s

-- The safe state (R443-R446) -----------------------------------------------------------------------------------------

/-- A couch that meets the safe state (R203): abandoned before its commit point, its release cut after it. -/
def State.couchCut (s : State) : State :=
  match s.couch with
  | none => s
  | some _ =>
    let late := decide (5 ≤ s.get pgCCH CCH_STATE.STEP)
    let s := { s with couch := none }.set pgCCH CCH_STATE.STEP 0
    let s := s.set pgCAL CAL_STATUS.PAUSED 0
    if late then s.set pgCCH CCH_STATE.RELEASE_CUT 1 else s

/-- The safe state is entered (R443) for a cause, with the page and source of a fault. Later causes change nothing.
[Log 77 DEDUCED] -/
def State.enterSafe (s : State) (cause typ inst src : Nat) : State :=
  let s := s.errorCause
  if s.safe then s
  else
    let s := ((s.set pgTND TND_SAFE_CAUSE.TYPE typ).set pgTND TND_SAFE_CAUSE.INST inst).set pgTND
      TND_SAFE_CAUSE.SOURCE src
    let s := (s.set pgTND TND_SAFE_CAUSE.CAUSE cause).set64 pgTND TND_SAFE_TIME_LO s.now
    let s := s.set pgTND TND_STATUS.SAFE 1
    let s := s.couchCut
    let s := s.releaseResets (· == 1)
    let s := s.each (List.range (nBanks s.variant)) fun s b => s.freeze b true
    let s := ({ s with pmbHeld := true }.set pgPMB PWR_PMB_STATUS.STOPPED 1).set pgPMB PWR_PMB_STATUS.STEPPING 0
    let s := s.latchLevels.daSafe
    let s := if s.peerLive || cause == 4 then s.surrender else s
    s.syncHealthy.setStatus pgTND stSAFE

-- Start-up (R205, R183) -----------------------------------------------------------------------------------------------

/-- Start-up begins at step 1 of R205. -/
def State.startUp (s : State) : State := s.set pgTND TND_STATUS.STEP 1

-- Resets of the device (R457) ------------------------------------------------------------------------------------------

/-- The press parameters as the store tables hold them (R405). [Log 71 DEDUCED] -/
def State.loadPress (s : State) : State :=
  s.each (List.range 8) fun s i => s.setReg (pgPR * 0x1000 + 0x040 + 4 * i) (s.prSaved.getD i 0)

/-- The bytes of BAR2 that lie in the recovery store (R38). -/
def recoveryByte (e : Nat × Byte) : Bool := decide (0x100_0000 ≤ e.1) && decide (e.1 < 0x140_0000)

/-- What is not cleared by any reset: the part and its one-time-programmable memory, the queue of commands, what the
device has already sent, the recovery store, the ream store with library, vault, images, capture streams and store
tables. [Log 75 DEDUCED] -/
def State.bareReset (s : State) : State :=
  { State.reset with
    part := s.part, pending := s.pending, free := s.free,
    host := s.host, msix := s.msix, strobeOut := s.strobeOut, mpRel := s.mpRel, nandOut := s.nandOut,
    snOut := s.snOut, twin := { State.reset.twin with out := s.twin.out },
    mem := s.mem.filter recoveryByte,
    keyHash := s.keyHash, sheetKey := s.sheetKey, keyBad := s.keyBad,
    bootCopy := s.bootCopy, lib := s.lib, vault := s.vault, vtCommit := s.vtCommit, caps := s.caps,
    prSaved := s.prSaved, bfeImg := s.bfeImg, bfeSize := s.bfeSize,
    vtFmt := s.vtFmt }

/-- Registers that a chip reset leaves as they stand: the broke window (R353), the SEQ page (R539), and TWIN_PEER's
reading is restored beside. [Log 75 DEDUCED] -/
def chipKept (o : Nat) : Bool :=
  (decide (brokeBase ≤ o) && decide (o < brokeBase + 0x1_0000)) || (o / 0x1000 == pgSEQ && decide (0x40 ≤ o % 0x1000))

/-- The state after the resets of step 5 of R459. -/
def State.chipState (s : State) : State :=
  let r := s.resetRegs (fun o => !chipKept o) false
  let x := { s.bareReset with
    regs := r.regs, hostRst := s.hostRst, hostRstDue := s.hostRstDue, seqPhase := s.seqPhase, hostDelay := s.hostDelay }
  let x := (x.set pgSEQ PG_CTRL.EN (s.get pgSEQ PG_CTRL.EN)).set pgTW TW_STATUS.PEER_LINE s.peer
  let x := x.set pgPWR PWR_SUPPLY.VALID (s.get pgPWR PWR_SUPPLY.VALID)
  x.loadPress

/-- Why a chip reset comes (R459): TND_RESET_CAUSE and, for a fault reaction, the page, source and address. -/
structure ResetCause where
  cause : Nat
  typ : Nat
  inst : Nat
  src : Nat
  cls : Nat
  addr : Word
  deriving DecidableEq, Repr

/-- A reset cause without a fault. -/
def plainCause (n : Nat) : ResetCause := { cause := n, typ := 0, inst := 0, src := 0, cls := 0, addr := 0 }

/-- TND_RESET_CAUSE, TND_RESET_ADDR and TND_RESET_TIME written (step 2 of R459). -/
def State.writeCause (s : State) (c : ResetCause) : State :=
  let s := ((s.set pgTND TND_RESET_CAUSE.TYPE c.typ).set pgTND TND_RESET_CAUSE.INST c.inst).set pgTND
    TND_RESET_CAUSE.SOURCE c.src
  ((s.set pgTND TND_RESET_CAUSE.CAUSE c.cause).set pgTND TND_RESET_ADDR c.addr.toNat).set64 pgTND TND_RESET_TIME_LO
    s.now

/-- The cause of broke records (R352) for a cause of chip reset. -/
def brokeCause (n : Nat) : Nat := if n == 1 then 3 else if n == 2 then 4 else 5

/-- A chip reset up to its step 5 (R459). A lost vote ignores it (R454). [Log 75 DEDUCED] -/
def State.chipReset (s : State) (c : ResetCause) : State :=
  if s.flag pgTND TND_STATUS.VOTE_LOST || s.unpowered then s
  else
    let s := if s.role == 0 then s else s.surrender
    let s := (s.writeCause c).incWrap pgTND TND_RESET_COUNT
    let s := s.schedClear { cause := brokeCause c.cause, attr := if c.cause == 3 then cutAttr c.typ c.inst c.src c.cls else 0 }
    let s := s.acknowledge.pressToSix
    let p := if c.cause == 1 then none else s.errPulse
    { s.chipState with errPulse := p, errPin := p.isSome }

/-- A power-on reset (R457): VDD_AON becomes valid; everything but the stores is cleared, HOST_RESET# is asserted and every
rail disabled (R539). Start-up begins here only where VDD_AON is the last counted supply to become valid (R529). -/
def State.powerOn (s : State) : State :=
  let r := s.resetRegs (fun _ => true) true
  let x : State := { s.bareReset with
    regs := r.regs, hostRst := true, hostRstDue := if s.hostRst then s.hostRstDue else some true }
  let x := x.loadPress.set pgPWR PWR_SUPPLY.VALID (Nat.lor (s.get pgPWR PWR_SUPPLY.VALID) 4)
  if x.suppliesOk then x.startUp else x

/-- A counted supply is lost (R530): the switched domains are reset, the host link's among them, and the pins are as in the
reset column; what stands in AON, the headers of the pages included, stays, and so do the latches of R13 and R14, which
only a chip reset empties. [Log 75 DEDUCED] -/
def State.supplyReset (s : State) : State :=
  let s := (if s.role == 0 then s else s.surrender).hostDown.writeCause (plainCause 0)
  let s := (s.set pgPWR PWR_STATE.CURRENT powerRUN).set pgDEV DEV_HOSTLINK.USB2_REC 0
  let aon (o : Nat) : Bool := chipKept o || (decide (o < 0xC_0000) && (isAon (o / 0x1000) || decide (o % 0x1000 < 0x40)))
  let r := s.resetRegs (fun o => !aon o) false
  let x := { s.bareReset with
    regs := r.regs, hostRst := s.hostRst, hostRstDue := s.hostRstDue, seqPhase := s.seqPhase, hostDelay := s.hostDelay,
    errPin := s.errPin, errPulse := s.errPulse, nmiHeld := s.nmiHeld, padLocks := s.padLocks, gbBad := s.gbBad,
    keys := s.keys, latch := s.latch, lowHold := s.lowHold, faultIrq := s.faultIrq, injLeft := s.injLeft, logLost := s.logLost, fregBad := s.fregBad,
    tempRun := s.tempRun, resetLow := s.resetLow, spiStatus := s.spiStatus }
  let x := (x.set pgPWR PWR_ON_LO 0).set pgPWR PWR_ON_HI 0
  let x := x.each (List.range 8) fun x n => x.set (pgGB n) GB_STATUS.COLD 1
  (x.set pgTW TW_STATUS.PEER_LINE s.peer).loadPress.syncHealthy

end Sys2Proof.Machine
end

