-- ==== Sys2Proof/Machine/Faults.lean ====
section
/-!
DEFINITION. Faults (R425-R433): the order of R426, the reactions, the fault log (R448, R449).
-/
namespace Sys2Proof.Machine
open Sys2Proof F

-- Access types (R58)
def accREAD : Nat := 0
def accWRITE : Nat := 1
def accDMAR : Nat := 2
def accDMAW : Nat := 3
def accCONF : Nat := 4
def accSCRUB : Nat := 5
def accHAND : Nat := 6
def accLINK : Nat := 7

/-- A fault as its page detects it: source, class, address, access type, master, injected. -/
structure FaultRec where
  src : Nat
  cls : Nat
  addr : Word
  acc : Nat
  mas : Nat
  inj : Bool
  deriving DecidableEq, Repr

/-- PG_ID.TYPE and PG_ID.INST of a page. -/
def State.pgType (s : State) (pg : Nat) : Nat := s.get pg PG_ID.TYPE
def State.pgInst (s : State) (pg : Nat) : Nat := s.get pg PG_ID.INST

/-- The capture takes the fault (R53): it is armed, or holds a fault of this tick that ranks below it (R428). -/
def State.captures (s : State) (pg : Nat) (f : FaultRec) : Bool :=
  let c := s.get pg PG_FE_SRC.CLASS
  !s.flag pg PG_FE_SRC.VALID ||
    (s.tbRun && s.get64 pg PG_FE_TIME_LO == s.now &&
      (decide (c < f.cls) || (c == f.cls && decide (f.src < s.get pg PG_FE_SRC.SOURCE))))

/-- The first-error capture written. -/
def State.writeCapture (s : State) (pg : Nat) (f : FaultRec) : State :=
  let w := 2 ^ 31 + f.cls % 4 * 2 ^ 16 + f.src % 16 * 2 ^ 12 + f.acc % 16 * 2 ^ 8 + f.mas % 256
  let s := (s.set pg PG_FE_ADDR f.addr.toNat).setReg (PG_FE_SRC.VALID.addr pg 0) (BitVec.ofNat 32 w)
  s.set64 pg PG_FE_TIME_LO s.now

/-- PG_FAULT's flag and count of a class (step 2 of R426); the flag may complete an interrupt condition. -/
def State.countFault (s : State) (pg cls : Nat) : State :=
  let s' := s.set pg (match cls with | 1 => PG_FAULT.CORR | 2 => PG_FAULT.CONT | _ => PG_FAULT.FATAL) 1
  let s' := match cls with
    | 1 => s'.incSat pg PG_FAULT.CORR_COUNT
    | 2 => s'.incSat pg PG_FAULT.CONT_COUNT
    | _ => s'
  s.irqRise pg s'

/-- Action 1: the fault belongs to the page's interrupt condition (R52). -/
def State.faultVector (s : State) (pg cls : Nat) : State :=
  let old := (aget s.faultIrq pg).getD 0
  s.irqRise pg { s with faultIrq := aput s.faultIrq pg (Nat.lor old (2 ^ (cls - 1))) }

/-- Action 2 (R442): HOST_NMI# asserted, the trap recorded. -/
def State.trap (s : State) (pg src : Nat) : State :=
  let s :=
    if s.flag pgTND TND_TRAP.PENDING then s
    else
      (((s.set pgTND TND_TRAP.TYPE (s.pgType pg)).set pgTND TND_TRAP.INST (s.pgInst pg)).set pgTND TND_TRAP.SOURCE
        src).set pgTND TND_TRAP.PENDING 1
  ({ s with nmiHeld := true }.syncNmi).setStatus pgTND stTRAP

/-- The action of a fault before the safe state is considered (R429, R433): a corrected or contained fault of a page
with PG_MODE.FAULT = 1 takes action 1; a fault-register parity failure enters the safe state whatever its field
holds (R437). -/
def State.actionOf (s : State) (pg : Nat) (f : FaultRec) : Nat :=
  if pg == pgTND && f.src == 2 then 5
  else if f.cls != 3 && s.flag pg PG_MODE.FAULT then 1
  else s.get pg PG_FAULT_REACT.SRC 0 f.src % 8

/-- The action applied (R431): 0 in place of 3 and 4 in the safe state. [Log 73 DEDUCED] -/
def State.applied (s : State) (a : Nat) : Nat := if s.safe && (a == 3 || a == 4) then 0 else a

/-- A fault asserts ERROR# (R426). -/
def State.assertsError (s : State) (pg : Nat) (f : FaultRec) : Bool :=
  f.cls == 3 || s.get pg PG_FAULT_REACT.SRC 0 f.src / 8 == 1

/-- The action of a fault carried out; `rst` applies a block reset. -/
def State.react (s : State) (rst : State → Nat → Cut → State) (pg a : Nat) (f : FaultRec) : State :=
  let t := s.pgType pg
  let i := s.pgInst pg
  match a with
  | 1 => s.faultVector pg f.cls
  | 2 => s.trap pg f.src
  | 3 => rst s pg { cause := 2, attr := cutAttr t i f.src f.cls }
  | 4 =>
    (s.chipReset { cause := 3, typ := t, inst := i, src := f.src, cls := f.cls, addr := f.addr }).startUp
  | 5 => s.enterSafe (if pg == pgTND && f.src == 2 then 3 else 1) t i f.src
  | _ => s

/-- The bytes of a fault-log record (R448). [Log 73 DEDUCED] -/
def State.logBytes (s : State) (pg : Nat) (f : FaultRec) (a : Nat) (err first host : Bool) (t : Time) : List Byte :=
  let w1 := f.cls * 2 ^ 30 + a * 2 ^ 27 + b2n err * 2 ^ 26 + b2n first * 2 ^ 25 + b2n f.inj * 2 ^ 24 +
    f.mas % 256 * 2 ^ 16 + f.acc % 16 * 2 ^ 12 + b2n host * 2 ^ 11 + 1
  let dev := if s.flag pgSN SN_STATUS.ADDR_VALID then s.get pgSN SN_STATUS.ADDR else 0
  leBytes 4 (s.pgType pg * 2 ^ 16 + s.pgInst pg * 2 ^ 8 + f.src * 2 ^ 4) ++ leBytes 4 w1 ++ wordBytes f.addr ++
    leBytes 4 ((aget s.logLost pg).getD 0) ++ leBytes 8 t.toNat ++ leBytes 4 dev ++ leBytes 4 0

/-- A fault-log record offered (R449): contained and fatal faults, corrected ones while TND_LOG.CORR = 1, while a ring
carries source 0xC1; a record that the ring loses is counted. -/
def State.logFault (s : State) (pg : Nat) (f : FaultRec) (a : Nat) (err first host : Bool) (t : Time) : State :=
  if (f.cls == 1 && !s.flag pgTND TND_LOG.CORR) || (s.ringOf srcFaultLog).isNone then s
  else
    let (lost, s) := s.offerItem srcFaultLog (s.logBytes pg f a err first host t) t
    if lost then
      let n := min ((aget s.logLost pg).getD 0 + 1) 0xFFFF
      ({ s with logLost := aput s.logLost pg n }.incSat pgTND TND_LOG.LOST).setStatus pgTND stLOG_LOST
    else { s with logLost := adel s.logLost pg }

/-- A page handles a fault in the order of R426; `eff` is its local effect (R427), and `use` the parity check of
PG_FAULT_REACT at its use (R437). -/
def State.faultBy (s : State) (rst : State → Nat → Cut → State) (use : State → State) (pg : Nat) (f : FaultRec)
    (eff : State → State) : State :=
  if f.cls == 0 || !s.present pg then s
  else
    let t := s.ts
    let first := s.captures pg f
    let s := if first then s.writeCapture pg f else s
    let s := use (eff (s.countFault pg f.cls))
    let host := s.flag pg PG_MODE.FAULT
    let a := s.applied (s.actionOf pg f)
    let err := s.assertsError pg f
    let s := if err then s.errorCause else s
    (s.react rst pg a f).logFault pg f a err first host t

/-- The master identifiers of R57. [Log 93 DESIGN CHOICE] -/
def masterIds : List Nat :=
  [0x01, 0x02, 0x03, 0x04] ++ (List.range 16).map (0x10 + ·) ++ (List.range 6).map (0x20 + ·) ++
    (List.range 32).map (0x40 + ·)

/-- An identifier of R57 and an access code of R58 for a fault that no access of a master causes: the spec does not say which
are captured, so both are free among those listed. -/
def State.anyAccess (s : State) : (Nat × Nat) × State :=
  let (n, s) := s.draw
  let w := (Config.freeWord n).toNat
  ((w % 8, masterIds.getD (w / 8 % 58) 0x01), s)

/-- TND source 2 (R437) for a register at a BAR0 offset. -/
def parityFault (o acc mas : Nat) : FaultRec :=
  { src := 2, cls := srcClass pgTND 2, addr := BitVec.ofNat 32 o, acc := acc, mas := mas, inj := false }

/-- PG_FAULT_REACT of a page is used (R437): a parity that INJECT_FREG has inverted fails the check (R451). -/
def State.useReact (s : State) (pg : Nat) : State :=
  if s.fregBad.contains pg then
    let r := { s with fregBad := s.fregBad.filter (· != pg) }.anyAccess
    r.2.faultBy (fun s _ _ => s) id pgTND (parityFault (pg * 0x1000 + 0x01C) r.1.1 r.1.2) id
  else s

/-- A page handles a fault (R426). -/
def State.faultWith (s : State) (rst : State → Nat → Cut → State) (pg : Nat) (f : FaultRec) (eff : State → State) :
    State := s.faultBy rst (fun s => s.useReact pg) pg f eff

-- Injection (R450) ----------------------------------------------------------------------------------------------------------

/-- The checkers whose failure raises a source of a page kind, by its fault-source table: 0 ECC, 1 parity, 2 the frame
check, 3 the link CRC, 4 register parity. -/
def srcCheckers (k : PageKind) (src : Nat) : List Nat :=
  match k, src with
  | .mgt, 1 | .cfg, 1 | .cfg, 2 | .key, 1 | .cch, 1 | .cal, 5 | .fb, 1 | .sch0, 1 | .st, 1 | .rs0, 1 | .rs1, 1 | .rs1, 2
  | .rs2, 0 | .bfe, 0 => [0]
  | .cal, 1 | .cal, 2 => [0, 2]
  | .sch0, 2 | .fc, 1 => [1]
  | .tw, 0 | .sn, 0 => [3]
  | .dev, 1 | .cv, 2 | .fc, 0 | .cp, 0 | .da, 1 | .ls, 0 | .st, 3 | .gb, 0 | .sq, 1 | .seq, 2 => [4]
  | _, _ => []

/-- The checkers of a page: those of which its fault-source table names a fault. [Log 24 DEDUCED] -/
def hasChecker (k : PageKind) (c : Nat) : Bool := (List.range 8).any fun src => (srcCheckers k src).contains c

/-- One injected check is spent; ARM returns to 0 with the last. -/
def State.spendInjection (s : State) (pg : Nat) : State :=
  let n := (aget s.injLeft pg).getD 0
  if n ≤ 1 then ({ s with injLeft := adel s.injLeft pg }).set pg PG_INJECT.ARM 0
  else { s with injLeft := aput s.injLeft pg (n - 1) }

/-- A checker of a page makes a check: true where it is one of the injected ones, which then sees every check bit
inverted. -/
def State.injectedCheck (s : State) (pg c : Nat) : Bool × State :=
  if s.flag pg PG_INJECT.ARM && s.get pg PG_INJECT.CHECKER == c then (true, s.spendInjection pg) else (false, s)

/-- The active setting words of a sector are checked: each invalid one raises source 0 (R227); `rst` applies a block
reset. -/
def State.checkWords (s : State) (rst : State → Nat → Cut → State) (sec : Nat) : State :=
  (s.sectorBad sec).foldl (fun s a =>
    s.faultWith rst (pgAS sec)
      { src := 0, cls := srcClass (pgAS sec) 0, addr := BitVec.ofNat 32 a, acc := accCONF, mas := 0x21, inj := false } id) s

/-- A block reset with the end that R243 gives it on an AS page: the active setting words are checked again. A block reset
that these faults ask for is merged into the running one (R431). -/
def State.resetChecked (s : State) (pg : Nat) (c : Cut) : State :=
  let r := s.blockReset pg c
  if 0x40 ≤ pg ∧ pg < 0x48 ∧ s.present pg ∧ s.pageOn pg then r.checkWords (fun s _ _ => s) (pg - 0x40) else r

/-- A fault of a page: source, address, access type (R58), master identifier (R57), local effect, injected (R450).
[Log 73 DEDUCED] -/
def State.raiseFault (s : State) (pg src : Nat) (addr : Word) (acc mas : Nat) (eff : State → State := id)
    (inj : Bool := false) : State :=
  s.faultWith State.resetChecked pg
    { src := src, cls := srcClass pg src, addr := addr, acc := acc, mas := mas, inj := inj } eff

/-- A fault that no access of a master causes. [Log 93 DESIGN CHOICE] -/
def State.raiseOwn (s : State) (pg src : Nat) (addr : Word) (eff : State → State := id) : State :=
  let r := s.anyAccess
  r.2.raiseFault pg src addr r.1.1 r.1.2 eff

/-- The primary sends a flow's checkpoint at a release (R479). [Log 64 DEDUCED] -/
def State.twinCheckpoint (s : State) (f : Nat) (t : Time) : State := s.mirror (.checkpoint f t)

/-- A threshold event of a chain finds its slot full (R288). -/
def State.chainEventLost (s : State) (c : Nat) : State :=
  (s.incSat (fcPage c) FC_COUNTS2.EVT_LOST (c % 16)).setStatus (fcPage c) stEVT_LOST

end Sys2Proof.Machine
end

