-- ==== Sys2Proof/Machine/BootCore.lean ====
section
/-!
DEFINITION. The start-up timeline (R205-R207): the steps that the boot sequence itself takes.
-/
namespace Sys2Proof.Machine
open Sys2Proof F

/-- The boot sequence sets PG_CTRL.EN of the present pages that it uses (R46). [Log 48 DEDUCED] -/
def State.bootEnable (s : State) (l : List Nat) : State :=
  s.each l fun s pg => if s.present pg then s.set pg PG_CTRL.EN 1 else s

/-- Start-up's load begins if it is due and the configuration controller is free: the boot sheet in step 3, the
start-up slot of the library in step 6. -/
def State.bootPoll (s : State) : State :=
  if !s.bootDue || !s.cfgFree then s
  else
    let s := { s with bootDue := false }
    if s.bootStep == 6 then s.startLoad 1 (s.get pgRS RS_LIB_STARTUP.SLOT) else s.startLoad 0 0

/-- Step 2 ends with the lock of the timebase (R75): step 3 begins with the source that BOOT_SRC names (R206). -/
def State.bootLocked (s : State) : State :=
  if s.bootStep != 2 || !s.tbRun then s
  else
    let s := s.bootMark 2
    if s.part.bootSrc < 2 then { s with bootDue := true }.bootPoll else s.bootWait 3

/-- The recovery store is looked at (R183): a region whose record is not VALID, and a firmware region whose image fails a
check, is read from the boot copy. The boot image is checked by its load. [Log 49 DEDUCED] -/
def State.checkRegions (s : State) : State :=
  let b := s.get pgCFG CFG_RS.BOOT_STATE != 0
  let f := s.get pgCFG CFG_RS.FW_STATE != 0 || s.checkFirmware (s.regionImage true) != 0
  let s := if b then s.set pgCFG CFG_RS.BOOT_STATE 3 else s
  let s := if f then s.set pgCFG CFG_RS.FW_STATE 3 else s
  if b || f then s.setStatus pgCFG stRS_FALLBACK else s

/-- Step 1 ends: the configuration pages are enabled, the recovery store is looked at, and the lock of the timebase is waited
for. [Log 48 DEDUCED] -/
def State.bootOne (s : State) : State :=
  let s := ((s.set pgTND TND_STATUS.STEP 1).bootEnable [pgMGT, pgCFG, pgCCH, pgKEY]).checkRegions
  ((s.bootMark 1).bootWait 1).bootLocked

/-- Step 3 ends with the boot sheet couched: HEALTHY may rise, the calender starts, pairing starts, and mounting of the
ream store begins beside step 4 (R217, R388, R441, R468). [Log 48 DEDUCED, 49 DEDUCED] -/
def State.bootThree (s : State) : State :=
  let s := { s.bootMark 3 with step3Done := true }
  let tw := s.flag pgTW PG_CTRL.EN
  let cal := s.runs pgCAL
  let s := s.bootEnable [pgCAL, pgRS, pgVT, pgCAP, pgPR, pgBFE, pgTW]
  let s := ((s.set pgRS RS_STATE.STATE 1).linkEn pgTW).calCtrl cal
  (if s.present pgTW && !tw then s.startListening else s).syncHealthy

/-- Step 6 ends with the start-up sheet couched. [Log 49 DEDUCED] -/
def State.bootFull (s : State) : State :=
  let s := s.bootMark 6
  ((s.set pgCCH CCH_BOOT.FULL_DONE 1).setStatus pgCCH stBOOT_FULL_DONE).bootSeven

/-- Step 5 ends with the mount: step 6 begins, or fails for want of a store or of a start-up slot. [Log 49 DEDUCED] -/
def State.bootFive (s : State) : State :=
  let s := s.bootMark 5
  if s.mounted && s.flag pgRS RS_LIB_STARTUP.VALID then { s with bootDue := true }.bootPoll else s.bootOnly

/-- Mounting has ended, whatever its outcome. -/
def State.mountOver (s : State) : Bool :=
  let st := s.get pgRS RS_STATE.STATE
  decide (2 ≤ st) && decide (st ≤ 4)

/-- The boot-flash emulation port serves at full rate (step 4); a mount that has ended beside it ends step 5. -/
def State.bootFour (s : State) : State :=
  let s := s.bootMark 4
  if s.mountOver then s.bootFive else s

/-- A load of start-up has ended with code 0: its sheet is couched over its deckle (R205, R206); where the couch is
refused the step fails. -/
def State.bootCouch (s : State) (l : Load) : State :=
  match s.couchCheck (hdrBanks l.header) (hdrSectors l.header) true with
  | none => { s.bootWait 0 with bootPhase := .couching }.startCouch (hdrBanks l.header) (hdrSectors l.header)
  | some (c, r) => (s.couchRefuse c r).bootFail

/-- The load is the one of step 6. -/
def State.bootLib (s : State) (l : Load) : Bool :=
  s.bootStep == 6 && l.src == 1 && l.lib == s.get pgRS RS_LIB_STARTUP.SLOT

/-- The sources that may supply the boot sheet (R206, R207): the strap's, and after its failure the loader and host DMA.
[Log 49 DEDUCED] -/
def State.bootSources (s : State) : List Nat :=
  match s.get pgTND TND_STATUS.WAIT with
  | 2 => [2, 3]
  | 3 => [s.part.bootSrc]
  | _ => [0]

/-- What a load that has just ended does to start-up: `old` is the state before. In step 3 a sheet with FLAGS.BOOT from a
source that may supply it is couched; a failure of the recovery store turns to the boot copy (R183), one of every source is
waited out (R207). -/
def State.bootAfter (old s : State) : State :=
  match old.cfgOp with
  | .load l =>
    if s.cfgOp != .idle || s.couch.isSome then s
    else
      let ok := s.get pgCFG CFG_ERR.CODE == 0
      if s.bootLib l then (if ok then s.bootCouch l else s.bootOnly)
      else if s.bootStep != 3 || s.bootDue || !s.bootSources.contains l.src then s
      else if ok && hdrBoot l.header then s.bootCouch l
      else if l.src == 0 && l.lib == 0 && s.part.bootSrc == 0 then
        ((s.set pgCFG CFG_RS.BOOT_STATE 3).setStatus pgCFG stRS_FALLBACK).startLoad 0 0
      else s.bootFail
  | _ => s

end Sys2Proof.Machine
end

