-- ==== Sys2Proof/Machine/Timebase.lean ====
section
/-!
DEFINITION. The commands of the timebase, the pace monitors and the event timers (chapter 03).
-/
namespace Sys2Proof.Machine
open Sys2Proof F

-- The loop ----------------------------------------------------------------------------------------------------

/-- R74, R75, R81: the first lock since a reset starts the timestamp at 0 with no epoch. [Log 35 DEDUCED] -/
def execTimebaseLock (freq : Nat) (s : State) : Host.Outcome State Fault Refusal :=
  if s.tbRun || s.unpowered || s.resetLow || !s.domOn 62 then .next s
  else
    let s := { s with ts := 0, clk := 0, tbRun := true, refOk := true, slewLeft := 0 }
    let s := ((s.set pgTB TB_STATUS.LOCKED 1).set pgTB TB_STATUS.REF_FREQ freq).set pgTB TB_STATUS.EPOCH_VALID 0
    .next (((s.set pgTB TB_STATUS.HOLDOVER 0).setStatus pgTB stLOCK_ACQUIRED).bootLocked)

/-- The loop enters holdover (R77, R565). [Log 35 DEDUCED] -/
def State.enterHoldover (s : State) : State :=
  (({ s with refOk := false }.set pgTB TB_STATUS.HOLDOVER 1).set pgTB TB_STATUS.LOCKED 0).setStatus pgTB
    stHOLDOVER_ENTERED

/-- The reference is lost while locked: holdover, a count and a contained fault (R77, R565). A holdover that is in progress
goes on without another. [Log 35 DEDUCED] -/
def State.refLoss (s : State) : State :=
  if s.tbRun && s.refOk then
    (s.enterHoldover.incWrap pgTB TB_STATUS.LOSS_COUNT).raiseOwn pgTB 0 0
  else s

/-- [Log 35 DEDUCED] -/
def execHoldover (s : State) : Host.Outcome State Fault Refusal := .next s.refLoss

/-- R565: treated exactly as a missing edge. [Log 35 DEDUCED] -/
def execRefFrequencyError (s : State) : Host.Outcome State Fault Refusal := .next s.refLoss

/-- R565: the loop relocks without a step of phase; with TB_CTRL.FORCE it locks at FORCE_FREQ only. -/
def execRefValid (freq : Nat) (s : State) : Host.Outcome State Fault Refusal :=
  if !s.tbRun || s.refOk || (s.flag pgTB TB_CTRL.FORCE && s.get pgTB TB_CTRL.FORCE_FREQ != freq % 4) then .next s
  else
    let changed := s.get pgTB TB_STATUS.REF_FREQ != freq % 4
    let s := ({ s with refOk := true }.set pgTB TB_STATUS.HOLDOVER 0).set pgTB TB_STATUS.LOCKED 1
    let s := (s.set pgTB TB_STATUS.REF_FREQ freq).setStatus pgTB stLOCK_ACQUIRED
    .next (if changed then s.setStatus pgTB stREF_CHANGED else s)

/-- TB_CTRL.RELOCK: holdover without a fault or a count (R565), from a holdover too. [Log 35 DEDUCED] -/
def State.relock (s : State) : State := if s.tbRun then s.enterHoldover else s

def execRelock (m : Master) (s : State) : Host.Outcome State Fault Refusal :=
  .next (s.gateF m pgTB TB_CTRL.RELOCK 0 State.relock)

-- Pace monitors (R70) -------------------------------------------------------------------------------------------

/-- The pages that publish the pace of a domain (64 is AON). -/
def pacePages (d : Nat) : List Nat :=
  (List.range 192).filter fun p => (pageAt p).isSome &&
    (if d == 64 then (pageDomains p).isEmpty else (pageDomains p).contains d)

/-- A domain is measured: AON, or a present domain that is on. -/
def State.measured (s : State) (d : Nat) : Bool :=
  d == 64 || (decide (d < 64) && domPresent s.variant d && s.domOn d)

/-- One domain's measurement: PG_PACE of its pages, its warning bit and its run below 560. -/
def State.paceOf (s : State) (d c : Nat) : State :=
  let s := s.each (pacePages d) fun s p => if s.present p then s.set p PG_PACE c else s
  let low := decide (c < s.get pgTB TB_PACE_WARN)
  let s := if d == 64 then s.set pgTB TB_STATUS.AON_PACE_LOW (b2n low)
    else if d < 32 then s.setMaskBit pgTB TB_PACE_LOW_LO d low else s.setMaskBit pgTB TB_PACE_LOW_HI (d - 32) low
  let run := (aget s.paceRun d).getD 0
  if c < 560 then { s with paceRun := aput s.paceRun d (if run ≥ 8 then run else run + 1) }
  else { s with paceRun := adel s.paceRun d }

/-- R70: the measurement of one microsecond; unmeasured domains show no low pace, and a domain that is off has
no run. [Log 38 DEDUCED] -/
def execPaceMeasurement (counts : List (Nat × Nat)) (s : State) : Host.Outcome State Fault Refusal :=
  if !s.tbRun then .next s
  else
    let l := counts.filter fun (e : Nat × Nat) => s.measured e.1
    let s := ((s.set pgTB TB_PACE_LOW_LO 0).set pgTB TB_PACE_LOW_HI 0).set pgTB TB_STATUS.AON_PACE_LOW 0
    let off := fun (e : Nat × Nat) => s.measured e.1
    let s := { s with paceRun := s.paceRun.filter off }
    let warn := l.any fun (e : Nat × Nat) => decide (e.2 < s.get pgTB TB_PACE_WARN)
    let s := l.foldl (fun s (e : Nat × Nat) => s.paceOf e.1 e.2) s
    .next (if warn then s.setStatus pgTB stPACE_WARN else s)

/-- R70: the fault of a run, raised once at its eighth measurement. [Log 38 DEDUCED] -/
def execPaceLowRun (dom : Nat) (s : State) : Host.Outcome State Fault Refusal :=
  if aget s.paceRun dom = some 8 then
    .next ({ s with paceRun := aput s.paceRun dom 9 }.raiseOwn pgTB 1 (BitVec.ofNat 32 dom))
  else .next s

-- Timestamp -------------------------------------------------------------------------------------------------------

/-- R79: the next slew tick of a slew in progress: time runs on to its end, the next rising edge. -/
def execSlewTick (s : State) : Host.Outcome State Fault Refusal :=
  .next (if s.tbRun && s.slewLeft != 0 then (s.advance s.slewLeft).nextTick else s)

/-- The device follows span time (R487): a span device that is not the root, with TIME_FOLLOW. [Log 36 DEDUCED] -/
def State.spanFollows (s : State) : Bool :=
  s.present pgSN && s.runs pgSN && s.flag pgSN SN_CTRL.TIME_FOLLOW && !s.flag pgSN SN_CTRL.ROOT

/-- The device follows its primary's time (R480). [Log 36 DEDUCED] -/
def State.twinFollows (s : State) : Bool :=
  s.present pgTW && s.flag pgTW TW_CTRL.TIME_FOLLOW && s.flag pgTW TW_STATUS.LINK_UP && s.secondary &&
    !s.spanFollows

/-- A write of TB_TIME_SET_HI or TB_SLEW_AMOUNT: dropped and counted while the device follows another time
(R480, R487). [Log 36 DEDUCED] -/
def State.timeWrite (s : State) (f : State → State) : State :=
  if s.spanFollows then s.incSat pgSN SN_DELAY.HOST_DROPS
  else if s.twinFollows then s.incSat pgTW TW_TIME_DROPS
  else f s

/-- A write of TB_SLEW_AMOUNT. -/
def State.slewAmount (s : State) (v : Word) : State := s.timeWrite fun s => s.startSlew (sext 32 v.toNat)

def execTbSlewAmount (m : Master) (v : Word) (s : State) : Host.Outcome State Fault Refusal :=
  .next (s.gateF m pgTB TB_SLEW_AMOUNT 0 fun s => s.slewAmount v)

/-- A write of TB_SLEW_RATE: a slew in progress continues at the new rate. -/
def State.slewRate (s : State) (v : Word) : State :=
  let s := s.set pgTB TB_SLEW_RATE (clampN 4 20 (bits v.toNat 0 5))
  if s.get pgTB TB_SLEW_AMOUNT == 0 then s else { s with slewLeft := s.slewEdges }

def execTbSlewRate (m : Master) (v : Word) (s : State) : Host.Outcome State Fault Refusal :=
  .next (s.gateF m pgTB TB_SLEW_RATE 0 fun s => s.slewRate v)

/-- A write of TB_TIME_SET_HI (R80). The timestamp counts only while the loop has locked. -/
def State.timeSet (s : State) (m : Master) (v : Word) : State :=
  let r := s.takeLow m (TB_TIME_SET_LO.addr pgTB 0)
  r.2.timeWrite fun s =>
    let s := (s.setReg (TB_TIME_SET_LO.addr pgTB 0) r.1).setReg (TB_TIME_SET_LO.addr pgTB 0 + 4) v
    if s.tbRun then s.loadTime (v ++ r.1) else s

def execTimeSet (m : Master) (v : Word) (s : State) : Host.Outcome State Fault Refusal :=
  .next (s.gate m (TB_TIME_SET_LO.addr pgTB 0 + 4) fun s => s.timeSet m v)

-- Timers ----------------------------------------------------------------------------------------------------------

/-- R82: the due time of a timer is reached; the fabric follows its output. [Log 5 DESIGN CHOICE] -/
def execTimerEvent (n : Nat) (s : State) : Host.Outcome State Fault Refusal :=
  match (s.timer n).due with
  | none => .next s
  | some d =>
    if s.tbRun && decide (n < 32) then .next ((s.edgeAt d).2.timerDue n d (s.edgeAt d).1).flow else .next s

/-- R82: the high level ends, and with it the run of a one-shot pulse. -/
def execTimerPulseFall (n : Nat) (s : State) : Host.Outcome State Fault Refusal :=
  match (s.timer n).fall with
  | none => .next s
  | some f =>
    if s.tbRun && decide (n < 32) then
      let s := (s.edgeAt f).2.timerFall n (s.edgeAt f).1
      .next (if s.get pgTM TM_CTRL.MODE n == 2 && (s.timer n).due.isNone then s.set pgTM TM_CTRL.RUNNING 0 n else s).flow
    else .next s

/-- R83: a software start, at the tick at which the write is applied. -/
def execTimerStart (m : Master) (n : Nat) (s : State) : Host.Outcome State Fault Refusal :=
  .next (s.gateF m pgTM TM_CTRL.START n fun s =>
    if n < 32 ∧ s.get pgTM TM_CTRL.START_SRC n = 0 then s.toTick.startTimer n s.toTick.ts else s)

/-- R83: the timestamp reaches TM_START_TIME of an enabled timer that has not started. -/
def execAbsoluteStart (n : Nat) (s : State) : Host.Outcome State Fault Refusal :=
  if n < 32 ∧ s.timersOpen ∧ s.get pgTM TM_CTRL.EN n = 1 ∧ s.get pgTM TM_CTRL.START_SRC n = 1 ∧
      !(s.timer n).started then
    let x := s.edgeAt (BitVec.ofNat 64 (s.get64 pgTM TM_START_TIME_LO n))
    .next (x.2.startTimer n x.1)
  else .next s

/-- R83: the fabric start line of a timer that selects it has risen, and has passed its synchronisation. -/
def execFabricStartLine (n : Nat) (s : State) : Host.Outcome State Fault Refusal :=
  match s.takeTrig (· == .start n) with
  | none => .next s
  | some (e, s) =>
    if n < 32 ∧ s.get pgTM TM_CTRL.START_SRC n = 3 then .next ((s.edgeAt e.time).2.startTimer n (s.edgeAt e.time).1)
    else .next s

def execTimerEnable (m : Master) (n : Nat) (s : State) : Host.Outcome State Fault Refusal :=
  .next (s.gateF m pgTM TM_CTRL.EN n fun s => if n < 32 then s.setTimerEn n true else s)

def execTimerStop (m : Master) (n : Nat) (s : State) : Host.Outcome State Fault Refusal :=
  .next (s.gateF m pgTM TM_CTRL.EN n fun s => if n < 32 then s.setTimerEn n false else s)

/-- A high-word write of TM_START_TIME (R83, R88). -/
def State.startTimeWrite (s : State) (m : Master) (n : Nat) (v : Word) : State :=
  (s.writePair m (TM_START_TIME_LO.addr pgTM n + 4) v).lateStart n

def execTmStartTimeWrite (m : Master) (n : Nat) (v : Word) (s : State) : Host.Outcome State Fault Refusal :=
  .next (s.gate m (TM_START_TIME_LO.addr pgTM n + 4) fun s => if n < 32 then s.startTimeWrite m n v else s)

end Sys2Proof.Machine
end

