-- ==== Sys2Proof/Machine/Clock.lean ====
section
/-!
DEFINITION. What the block does at a tick of its timebase when no command waits (DESIGN CHOICE, log entry 4).
-/
namespace Sys2Proof.Machine
open Sys2Proof

/-- One tick of the timebase (R74, R79), to the next rising edge of the loop while the loop runs; the fabric follows the
levels that have changed, and a rebuild of the vault's index, which no command ends, is over (R421).
[Log 4 DESIGN CHOICE] -/
def State.tick (s : State) : State :=
  let s := { s with vtRebuild := false }
  if s.tbRun then s.nextTick.flow else s

end Sys2Proof.Machine
end

