-- ==== Sys2Proof/Machine/Analog.lean ====
section
/-!
DEFINITION. The commands of the analogue array (chapter 08).
-/
namespace Sys2Proof.Machine
open Sys2Proof F

-- PG_STATUS bits of the AS page (R245)
def stMUTE_END : Nat := 0
def stGAIN_REJECT : Nat := 1
def stLOOP_EVT : Nat := 2
def stPIN_TRIP : Nat := 3

/-- The mode in force of a pin of a sector as AS_PMODE reads it. -/
def State.pmode (s : State) (sec i : Nat) : Nat :=
  bits (s.get (pgAS sec) (if i < 8 then AS_PMODE_LO else AS_PMODE_HI)) (4 * (i % 8)) 4

/-- A loop monitor's bits after a tick (R235): `x` is the current in uA times `r`, which is 1 for a CINT pin and BURDEN
for a CEXT pin. [Log 55 DESIGN CHOICE] -/
def loopBits (under above : Bool) (x : Int) (r : Nat) : Bool × Bool :=
  (if x < 3600 * r then true else if 3700 * r ≤ x then false else under,
   if 21000 * r < x then true else if x ≤ 20900 * r then false else above)

/-- One pin's loop monitor at a tick: live bits, and an event for each change. -/
def State.loopPin (s : State) (sec i : Nat) (x : Int) : State :=
  let p := pgAS sec
  let mode := s.pmode sec i
  if 16 ≤ i || !(mode == 1 || mode == 2) then s
  else
    let r := if mode == 1 then 1 else bits (s.asWord 0 sec (0x080 + i)) 12 12
    let u := s.get p AS_LOOP_LIVE.UNDER 0 i == 1
    let o := s.get p AS_LOOP_LIVE.OVER 0 i == 1
    let n := loopBits u o x r
    let s := (s.set p AS_LOOP_LIVE.UNDER (b2n n.1) 0 i).set p AS_LOOP_LIVE.OVER (b2n n.2) 0 i
    let s := if n.1 == u then s else (s.setMaskBit p AS_LOOP_EVT (2 * i) true).setStatus p stLOOP_EVT
    let s := if n.2 == o then s else (s.setMaskBit p AS_LOOP_EVT (2 * i + 1) true).setStatus p stLOOP_EVT
    if mode == 1 then
      let n := if 25000 < x then min ((aget s.pinRun (16 * sec + i)).getD 0 + 1) 100 else 0
      { s with pinRun := if n = 0 then adel s.pinRun (16 * sec + i) else aput s.pinRun (16 * sec + i) n }
    else s

/-- The run of ticks for which a VOUT pin has been limited (R236). [Log 55 DESIGN CHOICE] -/
def State.limitPin (s : State) (sec lim i : Nat) : State :=
  if s.pmode sec i != 3 then s
  else
    let n := if bit lim i then min ((aget s.pinRun (16 * sec + i)).getD 0 + 1) 100 else 0
    { s with pinRun := if n = 0 then adel s.pinRun (16 * sec + i) else aput s.pinRun (16 * sec + i) n }

/-- What a loop monitor reads is what the pin carries: a CINT current in uA over the shunt of 50 Ohm, or a voltage. -/
def State.readPin (s : State) (sec i : Nat) (x : Int) : State :=
  if 16 ≤ i then s else { s with pinV := aput s.pinV (16 * sec + i) (if s.pmode sec i == 1 then 50 * x else x) }

/-- R235: the next 10 us tick of the timebase in a sector that is on, counted in loop edges from lock.
[Log 55 DESIGN CHOICE] -/
def execLoopMonitorTick (sec : Nat) (reads : List (Nat × Int)) (lim clamp : Nat) (s : State) :
    Host.Outcome State Fault Refusal :=
  if !decide (sec < 8) || !s.present (pgAS sec) || !s.pageOn (pgAS sec) || !s.tbRun then .next s
  else
    let s := s.reachClk (s.beat (aget s.loopAt sec) 0 10000)
    let s := { s with loopAt := aput s.loopAt sec s.clk }.set (pgAS sec) AS_CLAMP clamp
    let s := reads.foldl (fun s (e : Nat × Int) => s.readPin sec e.1 e.2) s
    let s := reads.foldl (fun s (e : Nat × Int) => s.loopPin sec e.1 e.2) s
    .next (s.each (List.range 16) fun s i => s.limitPin sec lim i)

/-- A pin of the device trips (R236), at this tick: its trip bit, count and status, and the mode in force that follows. -/
def State.pinTrip (s : State) (pin mode src : Nat) (f : Fld) : State :=
  let sec := pin / 16
  let i := pin % 16
  if !decide (sec < nSectors s.variant) || s.pmode sec i != mode || (aget s.pinRun pin).getD 0 < 100 then s
  else
    s.raiseOwn (pgAS sec) src (BitVec.ofNat 32 pin) fun s =>
      let s := { s with pinTripAt := aput s.pinTripAt pin ((s.clk + 1) / 2) }
      let s := ((s.setMaskBit (pgAS sec) f i true).incSat (pgAS sec) AS_COUNTS.TRIPS).setStatus (pgAS sec) stPIN_TRIP
      s.refreshShunts sec

def execShuntTrip (pin : Nat) (s : State) : Host.Outcome State Fault Refusal :=
  .next (s.pinTrip pin 1 1 AS_PIN_TRIP.SHUNT)

def execVoutTrip (pin : Nat) (s : State) : Host.Outcome State Fault Refusal :=
  .next (s.pinTrip pin 3 2 AS_PIN_TRIP.VOUT)

/-- The pins of a sector that trip at this tick, as a bit mask. -/
def State.tripping (s : State) (sec : Nat) : Nat :=
  ((List.range 16).map fun i => b2n (aget s.pinTripAt (16 * sec + i) == some ((s.clk + 1) / 2)) * 2 ^ i).sum

/-- A write of AS_PIN_RESTORE (R236); where it meets a trip, the trip stays. -/
def State.pinRestore (s : State) (sec : Nat) (v : Word) : State :=
  let o := AS_PIN_TRIP.SHUNT.addr (pgAS sec) 0
  let stay := BitVec.ofNat 32 (s.tripping sec * (2 ^ 16 + 1))
  (s.setReg o (s.reg o &&& (~~~v ||| stay))).refreshShunts sec

def execAsPinRestore (m : Master) (sec : Nat) (v : Word) (s : State) : Host.Outcome State Fault Refusal :=
  .next (s.gateF m (pgAS sec) AS_PIN_RESTORE 0 fun s => s.pinRestore sec v)

/-- The sector is in a couch from step 3 to step 11 (R241); steps 3 to 6 are one with the drain's end here. -/
def State.sectorCouching (s : State) (sec : Nat) : Bool :=
  match s.couch with
  | some c => bit c.sectors sec && decide (3 ≤ s.get pgCCH CCH_STATE.STEP)
  | none => false

/-- One cell of a write of AS_GAIN_OVRr (R241). [Log 54 DEDUCED] -/
def State.gainCell (s : State) (sec r : Nat) (v : Word) (k : Nat) : State :=
  let p := pgAS sec
  let ovr := bits v.toNat (8 * k + 7) 1
  let code := bits v.toNat (8 * k) 6
  let j := 4 * r + k
  if ovr == s.get p AS_GAIN_OVR.OVR r k && code == s.get p AS_GAIN_OVR.CODE r k then s
  else if !bit (s.asWord 0 sec (4 * j)) 17 || decide (40 < code) || s.sectorCouching sec then s.setStatus p stGAIN_REJECT
  else ((s.mute sec .cell j).set p AS_GAIN_OVR.OVR ovr r k).set p AS_GAIN_OVR.CODE code r k

/-- A write of AS_GAIN_OVRr; lock mask bit [8] locks its fields. [Log 54 DEDUCED] -/
def State.gainOvr (s : State) (sec r : Nat) (v : Word) : State :=
  let p := pgAS sec
  s.underLock p 8 ((s.reg (AS_GAIN_OVR.OVR.addr p r) ^^^ v) &&& 0xBFBFBFBF#32 != 0) fun s =>
    s.each (List.range 4) fun s k => s.gainCell sec r v k

def execAsGainOvr (m : Master) (sec r : Nat) (v : Word) (s : State) : Host.Outcome State Fault Refusal :=
  .next (s.gateF m (pgAS sec) AS_GAIN_OVR.OVR r fun s => if r < 8 then s.gainOvr sec r v else s)

/-- R240: a mute ends, 2 us after the latest of its causes; a muted cell follows its output again (R225).
[Log 54 DEDUCED] -/
def execMuteEnd (sec : Nat) (what : MuteKind) (n : Nat) (s : State) : Host.Outcome State Fault Refusal :=
  if !decide (sec < nSectors s.variant) || !s.pathMuted sec what n then .next s
  else
    let key := 32 * (4 * sec + muteKey what) + n
    let s := s.reachClk (((aget s.muteAt key).getD s.clk) + 2000)
    let s := { s with muteAt := adel s.muteAt key }
    let clear (key : Nat) : State :=
      { s with pathMute :=
          let m := (aget s.pathMute key).getD 0 - 2 ^ n
          if m = 0 then adel s.pathMute key else aput s.pathMute key m }
    let s :=
      match what with
      | .cell => (s.setMaskBit (pgAS sec) AS_MUTE n false).release sec n
      | .pin => clear (4 * sec + 1)
      | .chan => clear (4 * sec + 2)
      | .cmp => clear (4 * sec + 3)
    .next (s.setStatus (pgAS sec) stMUTE_END)

end Sys2Proof.Machine
end

