-- ==== Sys2Proof/Machine/BootFlash.lean ====
section
/-!
DEFINITION. The boot-flash emulation port (R414-R419, R424).
-/
namespace Sys2Proof.Machine
open Sys2Proof F

/-- The image that reads return (R418). -/
def State.bfeServed (s : State) : Nat := if s.flag pgBFE BFE_CTRL.UPDATE_VIEW then s.bfeOther else s.bfeActive

/-- The port answers while its page is enabled and PD57 is on. -/
def State.bfeOn (s : State) : Bool := s.runs pgBFE

/-- A command that the port accepts while WIP = 0 (R415); any command but reset enable ends an armed reset. -/
def State.bfeCmd (s : State) (f : State → State) : State :=
  if s.bfeOn && s.bfePort.wip.isNone then f { s with bfePort := { s.bfePort with rstEn := false } } else s

/-- The bytes that the port returns. -/
def State.answer (s : State) (l : List Byte) : State := { s with resp := l, respErr := false }

/-- The first `n` bytes of an answer that repeats its last byte. -/
def clocked (l : List Byte) (n : Nat) : List Byte := (List.range n).map fun i => l.getD i (l.getLastD 0)

/-- R415: the identifier. -/
def execReadId (n : Nat) (s : State) : Host.Outcome State Fault Refusal :=
  .next (s.bfeCmd fun s => s.answer (clocked [0x53, 0x9B, BitVec.ofNat 8 (0x1A + s.bfeSize)] n))

/-- R415: the SFDP table, whose bytes the spec leaves to JESD216. [Log 11 DESIGN CHOICE] -/
def execReadSfdp (addr n : Nat) (s : State) : Host.Outcome State Fault Refusal :=
  .next (s.bfeCmd fun s =>
    s.answer ((List.range n).map fun i => Config.sfdp s.bfeSize s.bfePort.dummy (addr + i)))

/-- R415: read status, accepted in WIP too. -/
def execReadStatus (s : State) : Host.Outcome State Fault Refusal :=
  if s.bfeOn then
    let s := { s with bfePort := { s.bfePort with rstEn := false } }
    .next (s.answer [BitVec.ofNat 8 (b2n s.bfePort.wip.isSome + 2 * b2n s.bfePort.wel)])
  else .next s

/-- R415: WEL set. -/
def execWriteEnable (s : State) : Host.Outcome State Fault Refusal :=
  .next (s.bfeCmd fun s => { s with bfePort := { s.bfePort with wel := true } })

/-- R415: WEL cleared. -/
def execWriteDisable (s : State) : Host.Outcome State Fault Refusal :=
  .next (s.bfeCmd fun s => { s with bfePort := { s.bfePort with wel := false } })

/-- R415: 8D-8D-8D mode, or the dummy cycles. -/
def execWriteVolatileConfiguration (addr : Nat) (data : Byte) (s : State) : Host.Outcome State Fault Refusal :=
  .next (s.bfeCmd fun s =>
    if addr = 0 ∧ data = 0xE7 then { s with bfePort := { s.bfePort with octal := true } }
    else if addr = 1 ∧ 8 ≤ data.toNat ∧ data.toNat ≤ 20 then
      { s with bfePort := { s.bfePort with dummy := data.toNat } }
    else s)

/-- The codewords `w` to `w + k - 1` of an image read: those that an injected check finds uncorrectable, which the port
answers as 0xFF (R424, R450). -/
def State.bfeWords (s : State) (w : Nat) : Nat → List Nat × State
  | 0 => ([], s)
  | k + 1 =>
    let c := s.injectedCheck pgBFE 0
    let r := (if c.1 then c.2.raiseFault pgBFE 0 (BitVec.ofNat 32 (2048 * w)) accREAD 0x23 id true else c.2).bfeWords
      (w + 1) k
    (if c.1 then w :: r.1 else r.1, r.2)

/-- A read command served (R416); the spec states no data beyond the emulated size. -/
def State.bfeRead (s : State) (addr n : Nat) : State :=
  let (d, s) := s.draw
  let img := s.bfeServed
  let r := s.bfeWords (addr / 2048) (if n = 0 then 0 else (addr + n + 2047) / 2048 - addr / 2048)
  let l := (List.range n).map fun i =>
    if s.bfeBytes ≤ addr + i then Config.freeByte d i
    else if r.1.contains ((addr + i) / 2048) then 0xFF else s.imgByte img (addr + i)
  (r.2.answer l).incWrap pgBFE BFE_READS

/-- R416: the 1S read. -/
def execRead (addr n : Nat) (s : State) : Host.Outcome State Fault Refusal :=
  .next (s.bfeCmd fun s => if s.bfePort.octal then s else s.bfeRead addr n)

/-- R416: the 1S fast read. -/
def execFastRead (addr n : Nat) (s : State) : Host.Outcome State Fault Refusal :=
  .next (s.bfeCmd fun s => if s.bfePort.octal then s else s.bfeRead addr n)

/-- R416: the 8D read. -/
def execOctalDdrRead (addr n : Nat) (s : State) : Host.Outcome State Fault Refusal :=
  .next (s.bfeCmd fun s => if s.bfePort.octal then s.bfeRead addr n else s)

/-- The first change after a commit or a discard starts the update image as a copy of the active one (R418);
the image that is being changed is not valid, nor is a commit of it pending any longer. [Log 72 DEDUCED] -/
def State.bfeTouch (s : State) : State :=
  if s.flag pgBFE BFE_IMAGE.UPDATING then s
  else
    let a := s.bfeActive
    let o := s.bfeOther
    let mine := (s.bfeImg.filter fun e => e.1 / 2 ^ 32 == a).map fun e => (o * 2 ^ 32 + e.1 % 2 ^ 32, e.2)
    let keep := s.bfeImg.filter fun e => e.1 / 2 ^ 32 == a
    let s := { s with bfeImg := mine.foldl (fun l (e : Nat × Byte) => aput l e.1 e.2) keep }
    let s := s.set pgBFE (if o == 0 then BFE_IMAGE.A_VALID else BFE_IMAGE.B_VALID) 0
    (s.set pgBFE BFE_IMAGE.COMMIT_PENDING 0).set pgBFE BFE_IMAGE.UPDATING 1

/-- Whether programs and erases are applied at all: not after lock bit [9], in a press (R409), or while the
store is not mounted or is read-only (R389). -/
def State.bfeWritable (s : State) : Bool := !s.locked pgBFE 9 && !s.pressOn && s.mounted && !s.readOnly

/-- A program or erase begins: WEL is needed and cleared, WIP is set (R415). -/
def State.bfeStart (s : State) (op : BfeOp) : State :=
  if s.bfeWritable && s.bfePort.wel then
    let s := s.bfeTouch
    { s with bfePort := { s.bfePort with wel := false, wip := some op } }.setStatus pgBFE stBFE_HOST_WRITE
  else s

/-- R415: a page program of up to 256 bytes; addresses wrap within the page. [Log 16 PRESUMED] -/
def execPageProgram (addr : Nat) (data : List Byte) (s : State) : Host.Outcome State Fault Refusal :=
  .next (s.bfeCmd fun s =>
    if addr < s.bfeBytes ∧ data.length ≤ 256 then s.bfeStart { addr := addr, len := 256, data := some data } else s)

/-- R415: a 4 KiB erase. -/
def execErase4k (addr : Nat) (s : State) : Host.Outcome State Fault Refusal :=
  .next (s.bfeCmd fun s =>
    if addr < s.bfeBytes then s.bfeStart { addr := addr / 0x1000 * 0x1000, len := 0x1000, data := none } else s)

/-- R415: a 64 KiB erase. -/
def execErase64k (addr : Nat) (s : State) : Host.Outcome State Fault Refusal :=
  .next (s.bfeCmd fun s =>
    if addr < s.bfeBytes then s.bfeStart { addr := addr / 0x10000 * 0x10000, len := 0x10000, data := none } else s)

/-- R415: an erase of the whole update image. -/
def execChipErase (s : State) : Host.Outcome State Fault Refusal :=
  .next (s.bfeCmd fun s => s.bfeStart { addr := 0, len := s.bfeBytes, data := none })

/-- R418: the program or erase in hand completes. -/
def execWipClear (s : State) : Host.Outcome State Fault Refusal := .next s.bfeFinish

/-- R415: the reset command is armed. -/
def execResetEnable (s : State) : Host.Outcome State Fault Refusal :=
  .next (s.bfeCmd fun s => { s with bfePort := { s.bfePort with rstEn := true } })

/-- The port in 1S-1S-1S mode (R414). -/
def State.bfe1S (s : State) : State := { s with bfePort := { s.bfePort with octal := false, rstEn := false } }

/-- R415: the reset command after reset enable: 1S-1S-1S with 20 dummy cycles. -/
def execResetPort (s : State) : Host.Outcome State Fault Refusal :=
  if s.bfeOn && s.bfePort.wip.isNone && s.bfePort.rstEn then
    let s := s.bfe1S
    .next { s with bfePort := { s.bfePort with dummy := 20 } }
  else .next (s.bfeCmd id)

/-- R414: a low level on BFE_RST#. -/
def execBfeRst (s : State) : Host.Outcome State Fault Refusal := if s.bfeOn then .next s.bfe1S else .next s

/-- The served image changes (R417, R418). [Log 70 DEDUCED] -/
def State.bfeSwitch (s : State) : State :=
  ((s.set pgBFE BFE_IMAGE.ACTIVE s.bfeOther).set pgBFE BFE_BOOT.TRIES 0).setStatus pgBFE stBFE_SWITCHED

/-- The image of a number is valid. -/
def State.imgValid (s : State) (img : Nat) : Bool :=
  s.flag pgBFE (if img == 0 then BFE_IMAGE.A_VALID else BFE_IMAGE.B_VALID)

/-- R417-R419: an assertion of HOST_RESET# returns the port to 1S mode; a pending commit changes the served
image, or else boot counting falls back to the other image if that is valid. [Log 72 DEDUCED] -/
def execHostResetAssert (s : State) : Host.Outcome State Fault Refusal :=
  if s.hostRstDue != some true then .next s
  else
    let s := { s.bfe1S with hostRstDue := none }
    if s.flag pgBFE BFE_IMAGE.COMMIT_PENDING then
      .next ((s.set pgBFE BFE_IMAGE.COMMIT_PENDING 0).bfeSwitch)
    else if s.get pgBFE BFE_BOOT.MAX_TRIES ≤ s.get pgBFE BFE_BOOT.TRIES && s.imgValid s.bfeOther then
      let s := s.bfeSwitch.set pgBFE BFE_BOOT.FELL_BACK 1
      .next (s.setStatus pgBFE stBFE_FALLBACK)
    else .next s

/-- R417: a release of HOST_RESET# adds 1 to TRIES. -/
def execHostResetRelease (s : State) : Host.Outcome State Fault Refusal :=
  if s.hostRstDue != some false then .next s
  else .next ({ s with hostRstDue := none }.incSat pgBFE BFE_BOOT.TRIES)

/-- R417: a write of 1 to BFE_BOOT.BOOT_OK. -/
def execBootOk (m : Master) (s : State) : Host.Outcome State Fault Refusal :=
  .next (s.gateF m pgBFE BFE_BOOT.BOOT_OK 0 fun s => s.set pgBFE BFE_BOOT.TRIES 0)

/-- The update image becomes valid and its commit pending (R418). [Log 72 DEDUCED] -/
def State.bfeDoCommit (s : State) : State :=
  if s.locked pgBFE 9 || s.pressOn || !s.flag pgBFE BFE_IMAGE.UPDATING then s
  else
    let s := s.set pgBFE (if s.bfeOther == 0 then BFE_IMAGE.A_VALID else BFE_IMAGE.B_VALID) 1
    let s := (s.set pgBFE BFE_IMAGE.COMMIT_PENDING 1).set pgBFE BFE_IMAGE.UPDATING 0
    s.setStatus pgBFE stBFE_COMMIT_DONE

/-- R418: a write of 1 to BFE_CTRL.COMMIT. -/
def execBfeCommit (m : Master) (s : State) : Host.Outcome State Fault Refusal :=
  .next (s.gateF m pgBFE BFE_CTRL.COMMIT 0 State.bfeDoCommit)

/-- R418: a write of 1 to BFE_CTRL.DISCARD abandons the update image. -/
def execBfeDiscard (m : Master) (s : State) : Host.Outcome State Fault Refusal :=
  .next (s.gateF m pgBFE BFE_CTRL.DISCARD 0 fun s => s.set pgBFE BFE_IMAGE.UPDATING 0)

/-- The bytes of a BFE_UPD are read from host memory, once DMA masters proceed (R36). A DMA error stops it (fault
source 1). -/
def State.bfeDma (s : State) : State :=
  match s.bfeFetch with
  | none => s
  | some (off, (len, data)) =>
    if !s.dmaOk then s
    else
      let s := { s with bfeFetch := none }
      match data with
      | none => s.raiseFault pgBFE 1 (BitVec.ofNat 32 off) accDMAR 0x23
      | some d => { s.bfeTouch with bfeUpd := some { addr := off, len := len, data := some d } }

/-- R418: a write of BFE_UPD with GO = 1; UPD_DONE ends it. [Log 72 DEDUCED] -/
def execBfeUpd (m : Master) (data : Option (List Byte)) (s : State) : Host.Outcome State Fault Refusal :=
  .next (s.gateF m pgBFE BFE_UPD.GO 0 fun s =>
    if !s.bfeWritable || !s.accepts pgBFE || s.bfeUpd.isSome || s.bfeFetch.isSome || s.bfePort.wip.isSome then s
    else { s with bfeFetch := some (s.get pgBFE BFE_UPD_OFF, (s.get pgBFE BFE_UPD.LEN, data)) }.bfeDma)

/-- R418, R424: the erase and program of BFE_UPD complete. -/
def execUpdDone (s : State) : Host.Outcome State Fault Refusal := .next s.bfeUpdFinish

end Sys2Proof.Machine
end

