-- ==== Sys2Proof/Machine/Capture.lean ====
section
/-!
DEFINITION. The commands of the capture logs (R402-R404, R422).
-/
namespace Sys2Proof.Machine
open Sys2Proof F

/-- RS_CAPn_CFG.EN takes a value: 0 to 1 starts recording with an empty stream, 0 makes it idle. [Log 66 DEDUCED] -/
def State.capEnable (s : State) (n : Nat) (v : Bool) : State :=
  let was := s.get pgCAP RS_CAP_CFG.EN n == 1
  let s := s.set pgCAP RS_CAP_CFG.EN (b2n v) n
  if v && !was then
    let s := ((s.set pgCAP RS_CAP_STATE 1 n).set pgCAP RS_CAP_NEXT 0 n).set pgCAP RS_CAP_OLDEST 0 n
    s.setCap n { blocks := [], left := 0 }
  else if !v then s.set pgCAP RS_CAP_STATE 0 n
  else s

/-- R422: a write of RS_CAPn_CFG.EN. -/
def execCaptureEnable (m : Master) (n : Nat) (v : Bool) (s : State) : Host.Outcome State Fault Refusal :=
  .next (s.gateF m pgCAP RS_CAP_CFG.EN n fun s => if n < 16 then s.capEnable n v else s)

/-- R403: a trigger makes a recording stream triggered: a write of TRIGGER, or the event that the selected timer or strobe
output has sent it. -/
def execCaptureTrigger (m : Master) (n : Nat) (hw : Bool) (s : State) : Host.Outcome State Fault Refusal :=
  if !decide (n < 16) then .next s
  else if !hw then .next (s.gateF m pgCAP RS_CAP_CFG.TRIGGER n fun s => s.capTrigger n s.ts)
  else
    match s.takeTrig (· == .cap n) with
    | none => .next s
    | some (e, s) => .next (s.capTrigger n e.time)

/-- RS_CAPn_CFG.REARM returns a frozen stream to recording. -/
def State.capRearm (s : State) (n : Nat) : State :=
  if s.get pgCAP RS_CAP_STATE n == 3 && s.get pgCAP RS_CAP_CFG.EN n == 1 then s.set pgCAP RS_CAP_STATE 1 n else s

/-- R403: a write of 1 to RS_CAPn_CFG.REARM. -/
def execRearm (m : Master) (n : Nat) (s : State) : Host.Outcome State Fault Refusal :=
  .next (s.gateF m pgCAP RS_CAP_CFG.REARM n fun s => if n < 16 then s.capRearm n else s)

/-- A write of RS_CAPn_CFG: SIZE is applied only while EN = 0. -/
def State.capCfg (s : State) (n : Nat) (v : Word) : State :=
  let off := RS_CAP_CFG.EN.addr pgCAP n
  let v' := if s.get pgCAP RS_CAP_CFG.EN n == 1 then setBits v 0 16 (s.get pgCAP RS_CAP_CFG.SIZE n) else v
  let v'' := setBits v' 31 1 (s.get pgCAP RS_CAP_CFG.EN n)
  let s := s.plainWriteAs off (setBits v 31 1 (s.get pgCAP RS_CAP_CFG.EN n)) v''
  let s := s.capEnable n (bit v.toNat 31)
  let s := if bit v.toNat 30 then s.capRearm n else s
  if bit v.toNat 29 then s.capTrigger n s.ts else s

/-- R404: a write of RS_CAP_RD with GO = 1 starts a read; one in hand is not disturbed. -/
def State.capStart (s : State) : State :=
  if s.capRead.isSome || s.pressOn || !s.mounted || !s.accepts pgCAP then s
  else
    { s with
      capRead := some
        { stream := s.get pgCAP RS_CAP_RD.STREAM, first := s.get pgCAP RS_CAP_RD_FIRST,
          count := s.get pgCAP RS_CAP_RD_COUNT, addr := s.get64 pgCAP RS_CAP_RD_ADDR_LO } }

def execCapRd (m : Master) (s : State) : Host.Outcome State Fault Refusal :=
  .next (s.gateF m pgCAP RS_CAP_RD.GO 0 State.capStart)

/-- The blocks of a read copied to host memory, from place `i` on; those no longer held, or not decodable, are
skipped and counted. [Log 85 DESIGN CHOICE] -/
def State.copyBlocks (s : State) (r : CapRead) (bad : List Nat) : List Nat → Nat → Nat → State
  | [], _, skip => s.set pgCAP RS_CAP_RD_SKIP (min skip (2 ^ 32 - 1))
  | i :: rest, place, skip =>
    match aget (s.cap r.stream).blocks i with
    | some b =>
      let c := s.injectedCheck pgCAP 0
      let s := c.2
      if bad.contains i || c.1 then
        State.copyBlocks (s.raiseFault pgCAP 0 (BitVec.ofNat 32 r.stream) accREAD 0x23 id c.1) r bad rest
          (if Config.capPack then place else place + 1) (skip + 1)
      else
        State.copyBlocks (s.toHost (r.addr + place * b.length) b) r bad rest (place + 1) skip
    | none => State.copyBlocks s r bad rest (if Config.capPack then place else place + 1) (skip + 1)

/-- R404, R422: the read in hand completes. Indices beyond the held blocks cannot have been written, so only
held indices are walked and the others counted as skipped. -/
def execReadDone (bad : List Nat) (s : State) : Host.Outcome State Fault Refusal :=
  match s.capRead with
  | none => .next s
  | some r =>
    if !s.dmaOk then .next s
    else
      let s := { s with capRead := none }
      let s := s.copyBlocks r bad ((List.range r.count).map (r.first + ·)) 0 0
      .next (s.setStatus pgCAP stCAP_READ_DONE)

end Sys2Proof.Machine
end

