-- ==== Sys2Proof/Machine/Conversion.lean ====
section
/-!
DEFINITION. The commands of the converters (chapter 09).
-/
namespace Sys2Proof.Machine
open Sys2Proof F

-- Calibration results (R260, R262, R265) --------------------------------------------------------------------

/-- A slice is retired (R260): background calibration stops, with a slice that is out back at its position; S8 takes the
retired slice's position while it is free to; a position without cover goes on converting with invalid results. -/
def State.retireSlice (s : State) (n k : Nat) : State :=
  if s.retired n k then s
  else
    let s := s.bgAbandon n
    let free8 := !s.retired n 8 && !s.flag (pgCV n) CV_STATUS.CAL_DEGRADED
    let p := ((s.conv n).pos.findIdx? (· == k)).getD (if k < 8 then k else 8)
    let s := (s.set (pgCV n) CV_SLICE_STATE.S 3 0 k).set (pgCV n) CV_STATUS.CAL_DEGRADED 1
    let s :=
      if k < 8 && free8 then
        (s.modConv n fun c => { c with pos := c.pos.set k 8 }).set (pgCV n) CV_SLICE_STATE.S 0 0 8
      else if p < 8 then s.modConv n fun c => { c with pos := c.pos.set p k, dead := c.dead ++ [p] }
      else s
    (s.raiseOwn (pgCV n) 1 (BitVec.ofNat 32 k)).setStatus (pgCV n) stSLICE_RETIRED

/-- A slice's calibration has failed: the third in succession retires it (R260), but for host-assisted mode (R265).
[Log 56 DEDUCED] -/
def State.sliceFails (s : State) (n k : Nat) : State :=
  let f := min 3 (s.get (pgCV n) CV_SSTAT.FAILS k + 1)
  let s := s.set (pgCV n) CV_SSTAT.FAILS f k
  if f == 3 && !s.hostAssisted (pgCV n) then s.retireSlice n k else s

/-- New coefficients come into force and into the registers. -/
def State.takeCoef (s : State) (n k : Nat) (m : CalMeas) : State :=
  let s := (s.set (pgCV n) CV_SOFF (trunc 16 m.soff) k).set (pgCV n) CV_SGAIN m.sgain k
  let s := s.set (pgCV n) CV_SSKEW (trunc 12 m.sskew) k
  s.modConv n fun c => { c with coef := aput c.coef k (s.coefRegs n k) }

/-- The slice's calibration is counted (CV_SSTATk). [Log 56 DEDUCED] -/
def State.countCal (s : State) (n k : Nat) : State :=
  (s.set (pgCV n) CV_SSTAT.FAILS 0 k).incWrap (pgCV n) CV_SSTAT.CALS k

/-- The change of coefficients from the set in force exceeds CV_CAL_LIMIT (R260). -/
def State.overLimit (s : State) (n k : Nat) (m : CalMeas) : Bool :=
  let d (a b : Int) : Nat := (a - b).natAbs
  let c := s.coefOf n k
  decide (s.get (pgCV n) CV_CAL_LIMIT.OFS < d m.soff c.soff) || decide (s.get (pgCV n) CV_CAL_LIMIT.GAIN < d m.sgain c.sgain) ||
    decide (s.get (pgCV n) CV_CAL_LIMIT.SKEW < d m.sskew c.sskew)

/-- The coefficients lie outside the absolute bounds of R262. -/
def outOfBounds (m : CalMeas) : Bool :=
  decide (32 * 64 < m.soff.natAbs) || decide (100 * m.sgain < 99 * 2 ^ 17) ||
    decide (101 * 2 ^ 17 < 100 * m.sgain) || decide (200 < m.sskew.natAbs)

/-- The capture set of a slice is written for the host (R265). -/
def State.capture (s : State) (n k : Nat) (m : CalMeas) : State :=
  let s := (s.set (pgCV n) CV_CAP_NEG m.neg.toNat k).set (pgCV n) CV_CAP_ZERO m.zero.toNat k
  let s := (s.set (pgCV n) CV_CAP_POS m.pos.toNat k).set (pgCV n) CV_CAP_SKEW m.skew.toNat k
  (s.set (pgCV n) CV_CAP_VALID 1 k).setStatus (pgCV n) stCAL_CAPTURE

/-- The outcome of a background ladder conversion of a slice in hardware mode: in force, or discarded. -/
def State.bgOutcome (s : State) (n k : Nat) (m : CalMeas) : State :=
  if s.overLimit n k m then
    let s := (s.raiseOwn (pgCV n) 0 (BitVec.ofNat 32 k)).incSat (pgCV n) CV_COUNTS1.CAL_FAILS
    s.sliceFails n k
  else ((s.takeCoef n k m).countCal n k).incWrap (pgCV n) CV_COUNTS1.BG_CALS

/-- R259: an interval begins; S8 converts the reference ladder. -/
def execBgCalInterval (n : Nat) (s : State) : Host.Outcome State Fault Refusal :=
  let c := s.conv n
  if s.present (pgCV n) && s.pageOn (pgCV n) && s.tbRun && c.bgRun && c.bg == .idle &&
      s.flag (pgCV n) CV_CAL_CTRL.BG_EN && !s.flag (pgCV n) CV_STATUS.CAL_DEGRADED &&
      !s.flag (pgCV n) CV_STATUS.FG_RUNNING then
    .next (((s.modConv n fun c => { c with bg := .s8 }).sliceState n 8 1).set (pgCV n) CV_STATUS.CAL_POS 8)
  else .next s

/-- R259, R260, R265: the ladder conversion of the slice under calibration ends. -/
def execBgCalDone (n : Nat) (m : CalMeas) (s : State) : Host.Outcome State Fault Refusal :=
  let c := s.conv n
  let host := s.hostAssisted (pgCV n)
  match c.bg with
  | .s8 =>
    if host then .next ((s.modConv n fun c => { c with bg := .captured 8 }).capture n 8 m)
    else
      let s := s.modConv n fun c => { c with bg := .s8Done }
      .next (s.bgOutcome n 8 m)
  | .out =>
    if host then .next ((s.modConv n fun c => { c with bg := .captured c.bgPos }).capture n c.bgPos m)
    else
      let s := s.modConv n fun c => { c with bg := .outDone }
      .next (s.bgOutcome n c.bgPos m)
  | _ => .next s

/-- R560: CV_CAL_CTRL.BG_EN is written; the next round start acts on it. -/
def execBgEn (m : Master) (n : Nat) (v : Bool) (s : State) : Host.Outcome State Fault Refusal :=
  .next (s.gateF m (pgCV n) CV_CAL_CTRL.BG_EN 0 fun s =>
    s.underLock (pgCV n) 8 (s.flag (pgCV n) CV_CAL_CTRL.BG_EN != v) fun s =>
      s.set (pgCV n) CV_CAL_CTRL.BG_EN (b2n v))

/-- R262: a foreground calibration is requested by software. -/
def execFgStart (m : Master) (n : Nat) (s : State) : Host.Outcome State Fault Refusal :=
  .next (s.gateF m (pgCV n) CV_CAL_CTRL.FG_START 0 fun s => s.fgRequest n)

/-- The outcome of a foreground calibration for one slice. -/
def State.fgOutcome (s : State) (n k : Nat) (m : CalMeas) : State :=
  if s.hostAssisted (pgCV n) then s.capture n k m
  else if s.retired n k then s
  else if outOfBounds m then s.retireSlice n k
  else (s.takeCoef n k m).countCal n k

/-- R262: the foreground calibration ends; regular conversion resumes at the next round start. -/
def execFgCalDone (n : Nat) (us : Word) (cs : List CalMeas) (s : State) : Host.Outcome State Fault Refusal :=
  if !s.flag (pgCV n) CV_STATUS.FG_RUNNING then .next s
  else
    let p := pgCV n
    let s := ((s.set p CV_STATUS.FG_RUNNING 0).set p CV_FG_TIME us.toNat).modConv n fun c =>
      { c with bgPos := 0, bg := .idle }
    let s := s.each (List.range 9) fun s k =>
      s.sliceState n k (if k == 8 && !(s.conv n).pos.contains 8 then 2 else 0)
    let s := (cs.zipIdx.take 9).foldl (fun s (e : CalMeas × Nat) => s.fgOutcome n e.2 e.1) s
    .next (s.setStatus p stFG_DONE).bootSeven

/-- The coefficients of a slice committed by host software: in force at the next round start (R265). -/
def State.commitCoef (s : State) (n slice : Nat) : State :=
  if !s.hostAssisted (pgCV n) then s.setStatus (pgCV n) stCV_REJECT
  else if 9 ≤ slice then s
  else
    (s.set (pgCV n) CV_CAP_VALID 0 slice).modConv n fun c =>
      { c with commits := aput c.commits slice (s.coefRegs n slice) }

def execCvCalCommit (m : Master) (n slice : Nat) (s : State) : Host.Outcome State Fault Refusal :=
  .next (s.gateF m (pgCV n) CV_CAL_COMMIT.GO 0 fun s => s.commitCoef n (slice % 16))

/-- The staged corrections are copied (R267). -/
def State.corrGo (s : State) (n : Nat) : State :=
  s.modConv n fun c => { c with corrNext := some (s.staged n) }

def execCvCorrApply (m : Master) (n : Nat) (s : State) : Host.Outcome State Fault Refusal :=
  .next (s.gateF m (pgCV n) CV_CORR_APPLY.GO 0 fun s => s.corrGo n)

-- Rounds (R247, R257) ---------------------------------------------------------------------------------------

/-- What a committed coefficient set does to the rotation at a round start (R265). -/
def State.takeCommits (s : State) (n : Nat) : State :=
  let c := s.conv n
  let s := s.modConv n fun c =>
    { c with coef := c.commits.foldl (fun l (e : Nat × Coef) => aput l e.1 e.2) c.coef, commits := [] }
  match c.bg with
  | .captured j =>
    if (aget c.commits j).isNone then s
    else
      let s := (s.countCal n j).incWrap (pgCV n) CV_COUNTS1.BG_CALS
      s.modConv n fun c => { c with bg := if j == 8 then .s8Done else .outDone }
  | _ => s

/-- BG_EN as the round start finds it (R560), a cycle beginning anew with it. -/
def State.bgSwitch (s : State) (n : Nat) : State :=
  let p := pgCV n
  let en := s.flag p CV_CAL_CTRL.BG_EN
  let c := s.conv n
  if !en && c.bgRun then (s.bgAbandon n).modConv n fun c => { c with bgRun := false }
  else if en && !c.bgRun then
    let s := s.modConv n fun c => { c with bgRun := true }
    if s.flag p CV_STATUS.CAL_DEGRADED || s.flag p CV_STATUS.FG_RUNNING then s
    else ((s.modConv n fun c => { c with bg := .s8 }).sliceState n 8 1).set p CV_STATUS.CAL_POS 8
  else s

/-- Step 3 of R259: S8, calibrated, takes the position of the cycle. -/
def State.bgOut (s : State) (n : Nat) : State :=
  let c := s.conv n
  let k := c.bgPos
  if c.bg == .s8Done then
    let s := s.modConv n fun c => { c with pos := c.pos.set k 8, bg := .out }
    ((s.sliceState n 8 0).sliceState n k 1).set (pgCV n) CV_STATUS.CAL_POS k
  else s

/-- Step 5 of R259: a slice that is calibrated resumes its position, whatever BG_EN is now (R560). -/
def State.bgBack (s : State) (n : Nat) : State :=
  let c := s.conv n
  let k := c.bgPos
  if c.bg == .outDone then
    let s := s.modConv n fun c => { c with pos := c.pos.set k k, bg := .idle, bgPos := (k + 1) % 8 }
    ((s.sliceState n k 0).sliceState n 8 2).set (pgCV n) CV_STATUS.CAL_POS 15
  else s

/-- An input-path test stops without a result (R273). -/
def State.diagAbort (s : State) (n : Nat) : State :=
  match (s.conv n).diag with
  | none => s
  | some d =>
    let s := s.modConv n fun c =>
      { c with diag := none, diagTail := if d.closed.isSome then some (d.chan, s.clk) else c.diagTail }
    ((s.set (pgCV n) CV_DIAG_CTRL.BUSY 0).set (pgCV n) CV_DIAG_CTRL.ABORTED 1).setStatus (pgCV n) stDIAG_DONE

/-- The start of a foreground calibration that is due (R262, R263). -/
def State.fgBegin (s : State) (n : Nat) : State :=
  let p := pgCV n
  let c := s.conv n
  if c.fgReq && c.scan.isEmpty &&
      (!s.flag p CV_STATUS.CAL_PENDING || c.injQ.isEmpty || decide (16 ≤ s.get p CV_STATUS.PENDING_INJ)) then
    let s := (s.bgAbandon n).diagAbort n
    let s := s.modConv n fun c => { c with fgReq := false, hold := true }
    let s := ((s.set p CV_STATUS.CAL_PENDING 0).set p CV_STATUS.PENDING_INJ 0).set p CV_STATUS.FG_RUNNING 1
    s.each (List.range 9) fun s k => s.sliceState n k 1
  else s

/-- The stop that a block reset has asked for (R277). -/
def State.convStop (s : State) (n : Nat) : State :=
  let c := s.conv n
  if !c.stop then s
  else
    let s := s.modConv n fun c =>
      { c with
        stop := false, scan := [], starts := [], blockScans := 0, blockTime := none, diag := none,
        diagTail := match c.diag with
          | some d => if d.closed.isSome then some (d.chan, s.clk) else c.diagTail
          | none => c.diagTail }
    s.set (pgCV n) CV_DIAG_CTRL.BUSY 0

/-- The slots that a round gives away from slot 0 on (R257, R273, R411), at its start: injected requests that arrived 40 ns
before, else the conversion of HOLDUP_SENSE that CV0 makes every 100 us, else a diagnostic one. None of them while a
foreground calibration runs. [Log 57 DEDUCED] -/
def State.roundUses (s : State) (n : Nat) : State :=
  let c := s.conv n
  if s.flag (pgCV n) CV_STATUS.FG_RUNNING then s.modConv n fun c => { c with uses := [] }
  else
    let q := c.injQ.takeWhile fun e => decide (e.2.1 + 40 ≤ s.clk)
    if !q.isEmpty then
      s.modConv n fun c =>
        { c with uses := q.map fun e => SlotUse.inj e.1, injQ := c.injQ.drop q.length }
    else if n == 0 && decide (s.energyNext ≤ s.clk) then
      { s with energyNext := (s.clk / 100000 + 1) * 100000 }.modConv n fun c => { c with uses := [.energy] }
    else
      let due : Bool :=
        match c.diag with
        | none => false
        | some d =>
          match d.closed with
          | none => decide (d.nOpen < 16)
          | some t0 => decide (d.nForced < 16) && decide (t0 + 10000 ≤ s.clk)
      s.modConv n fun c => { c with uses := if due then [.diag] else [] }

/-- R247, R257: the next round starts, on a 50th tick of the loop counted from lock, once the slots of the last one have
passed. [Log 57 DEDUCED] -/
def execRoundStart (n : Nat) (s : State) : Host.Outcome State Fault Refusal :=
  let p := pgCV n
  if s.present p && s.pageOn p && s.tbRun && decide (8 ≤ (s.conv n).slot) then
    let s := s.reachClk (s.beat (s.conv n).round 0 100)
    let s := ((s.set p CV_PHASE (s.now % 100)).convStop n).takeCommits n
    let s := s.modConv n fun c => { c with corr := c.corrNext.getD c.corr, corrNext := none }
    let s := (((s.bgBack n).bgSwitch n).bgOut n).modConv n fun c =>
      { c with hold := c.hold && s.flag p CV_STATUS.FG_RUNNING }
    let s := (s.fgBegin n).roundUses n
    .next (s.modConv n fun c => { c with round := some s.clk, slot := 0 })
  else .next s

-- Slots (R248-R254) -----------------------------------------------------------------------------------------

/-- The delayed gate level at a slot instant of `x` half nanoseconds (R252), and in continuous mode EN. -/
def State.gateLevel (s : State) (n : Nat) (x : Int) : Bool :=
  let c := s.conv n
  match s.get (pgCV n) CV_TRIG.MODE with
  | 2 => valueAt (x - 2 * (40 + (s.get (pgCV n) CV_TRIG.DELAY : Int))) c.level c.gate
  | 4 => valueAt (x - 2 * (40 + (s.get (pgCV n) CV_TRIG.DELAY : Int))) c.level c.gate
  | 5 => decide (2 * (c.enAt : Int) + 80 ≤ x)
  | _ => false

/-- The mask in force 40 ns before a slot instant (R247, R254). -/
def State.scanMask (s : State) (n : Nat) (x : Int) : Nat :=
  valueAt (x - 80) (s.get (pgCV n) CV_SCAN_MASK) (s.conv n).masks

/-- A scan begins. [Log 56 DEDUCED] -/
def State.beginScan (s : State) (n m : Nat) : State :=
  s.modConv n fun c =>
    { c with scan := maskChans m, scanSeq := c.scanCount % 64, scanCount := (c.scanCount + 1) % 64 }

/-- A scan whose first slot has come begins, or its trigger is missed (R253); a gate's rise that meets a scan
in progress adds none (R559). [Log 56 DEDUCED] -/
def State.serveStart (s : State) (n : Nat) (x : Int) (e : ScanStart) : State :=
  let c := s.conv n
  let m := s.scanMask n x
  if !s.accepts (pgCV n) || m == 0 then s
  else if c.hold || !c.scan.isEmpty then
    if e.trig then
      ((s.modConv n fun c => { c with scanCount := (c.scanCount + 1) % 64 }).incSat
        (pgCV n) CV_COUNTS0.MISSED).setStatus (pgCV n) stOVERRUN
    else s
  else s.beginScan n m

/-- The scans due at a slot: those that wait, then, in the gate and continuous modes, the next of a burst.
[Log 56 DEDUCED] -/
def State.dueScans (s : State) (n : Nat) (x : Int) : State :=
  let c := s.conv n
  let fg := s.flag (pgCV n) CV_STATUS.FG_RUNNING
  if c.hold && !fg then s
  else
    let isDue (e : ScanStart) : Bool := decide (2 * (e.bound : Int) ≤ x)
    let s := s.modConv n fun c => { c with starts := c.starts.filter fun e => !isDue e }
    let s := (c.starts.filter isDue).foldl (fun s e => s.serveStart n x e) s
    let m := s.scanMask n x
    if !fg && (s.conv n).scan.isEmpty && s.accepts (pgCV n) && m != 0 && s.gateLevel n x then s.beginScan n m
    else s

/-- The raw code of a voltage in uV (R249: 312.5 uV to a code, R269: clipped at the ends). `err` is what the conversion adds:
its rounding and the slice's errors (R274). [Log 104 DESIGN CHOICE] -/
def adcCode (v : Rat) (err : Int) : Int := satS 16 ((v * 2 / 625).floor + err)

/-- The result of a conversion at a loop edge, with the coefficients and corrections in force (R248, R266-R270).
[Log 104 DESIGN CHOICE] -/
def State.sample (s : State) (n p chan seq : Nat) (inj last : Bool) (raw : Int) (edge : Nat) : Sample :=
  let c := s.conv n
  let k := c.pos.getD p p
  let co := s.coefOf n k
  let cc := s.corrOf n chan
  { raw := raw, slice := k, soff := co.soff, sgain := co.sgain, coff := cc.1, cgain := cc.2, chan := chan, seq := seq,
    inj := inj, time := s.tsAt edge, last := last,
    valid := !s.chanMuted n chan && s.asOn (chanSector n chan) && !s.chanUnderTest n chan edge && !c.dead.contains p,
    clip := decide (raw = -32768) || decide (raw = 32767) || s.chanClamped n chan }

/-- The corrected code of a sample (R266). -/
def Sample.code (x : Sample) : Int := satS 16 (corrected x.raw x.soff x.sgain x.coff x.cgain)

/-- A diagnostic conversion (R273): its corrected code joins the mean of its half of the test; after the 16th
with the switch open the switch closes. -/
def State.diagConvert (s : State) (n p : Nat) (err : Int) (edge : Nat) : State :=
  match (s.conv n).diag with
  | none => s
  | some d =>
    let y := (s.sample n p d.chan 0 false false (adcCode (s.chanVolt n d.chan) err) edge).code
    s.modConv n fun c =>
      { c with
        diag := some (match d.closed with
          | none =>
            { d with
              nOpen := d.nOpen + 1, sumOpen := d.sumOpen + y,
              closed := if d.nOpen + 1 == 16 then some edge else none }
          | some _ => { d with nForced := d.nForced + 1, sumForced := d.sumForced + y }) }

/-- The conversion of HOLDUP_SENSE (R411): the slice's correction applies, no channel's. -/
def State.energyConvert (s : State) (n p : Nat) (err : Int) (edge : Nat) : State :=
  let co := s.coefOf n ((s.conv n).pos.getD p p)
  let y := corrected (adcCode ((aget s.pinV 129).getD 0 : Rat) err) co.soff co.sgain 0 0x10000
  { s with energySample := some (edge, satS 16 y) }

/-- R247: at the next slot of the round, whose slice converts what the array then carries; `f` is what the field has
changed, `err` the conversion's own part of the code. [Log 104 DESIGN CHOICE] -/
def execSlotConversion (n : Nat) (f : Signals) (err : Int) (s : State) : Host.Outcome State Fault Refusal :=
  let c := s.conv n
  match c.round with
  | none => .next s
  | some r =>
    if 8 ≤ c.slot || !s.pageOn (pgCV n) then .next s
    else
      let j := c.slot
      let e := r + 25 * j / 2
      let s := ((s.reachClk e).setField f).dueScans n (2 * (r : Int) + 25 * j)
      let s := s.modConv n fun c => { c with slot := j + 1 }
      match c.uses[j]? with
      | some (.inj chan) =>
        let y := s.sample n j chan ((s.conv n).injCount % 64) true false (adcCode (s.chanVolt n chan) err) e
        .next (s.modConv n fun c => { c with out := c.out ++ [y], injCount := (c.injCount + 1) % 64 })
      | some .energy => .next (s.energyConvert n j err e)
      | some .diag => .next (s.diagConvert n j err e)
      | none =>
        match (s.conv n).scan with
        | [] => .next s
        | chan :: rest =>
          let y := s.sample n j chan (s.conv n).scanSeq false rest.isEmpty (adcCode (s.chanVolt n chan) err) e
          .next (s.modConv n fun c => { c with scan := rest, out := c.out ++ [y] })

-- Results (R255, R258, R266-R268) ---------------------------------------------------------------------------

/-- The result word (R268). -/
def resultWord (x : Sample) : Word :=
  let y := corrected x.raw x.soff x.sgain x.coff x.cgain
  let clip := x.clip || decide (y < -32768) || decide (32767 < y)
  BitVec.ofNat 32 (b2n x.valid * 2 ^ 31 + b2n clip * 2 ^ 30 + b2n x.inj * 2 ^ 29 + b2n (x.slice == 8) * 2 ^ 28 +
    x.chan % 64 * 2 ^ 22 + x.seq % 64 * 2 ^ 16 + trunc 16 x.code)

/-- A chain takes a channel of a converter (R278). -/
def State.chainTakes (s : State) (c n chan : Nat) : Bool :=
  let p := pgFC (c / 16)
  s.present p && !absentUnit s.variant .fc (c / 16) (0x100 + 0x40 * (c % 16)) &&
    s.get p FC_SRC.KIND (c % 16) == 0 && s.get p FC_SRC.CV (c % 16) == n && s.get p FC_SRC.NUM (c % 16) == chan

/-- A regular result completes its scan, and with it perhaps a block (R255). -/
def State.countScan (s : State) (n : Nat) (x : Sample) : State :=
  let p := pgCV n
  let s := s.modConv n fun c => { c with blockTime := some (c.blockTime.getD x.time) }
  if !x.last then s
  else
    let c := s.conv n
    if c.blockScans + 1 < s.get p CV_BLOCK.SCANS then s.modConv n fun c => { c with blockScans := c.blockScans + 1 }
    else
      let s := s.modConv n fun c =>
        { c with blockScans := 0, blockTime := none, blockNo := (c.blockNo + 1) % 2 ^ 16 }
      let s := s.setStatus p stBLOCK_DONE
      if s.flag p CV_BLOCK.EVT then
        s.raiseHw (0xC0 + n)
          { kind := 3, time := c.blockTime.getD x.time, w4 := BitVec.ofNat 32 (n + c.blockNo * 2 ^ 16), w5 := 0 }
      else s

/-- What an injected result does beside the stream (R258, R263). -/
def State.injDone (s : State) (n : Nat) (x : Sample) (w : Word) : State :=
  let p := pgCV n
  let s := ((s.set p CV_INJ_LAST w.toNat).set64 p CV_INJ_TIME_LO x.time.toNat).setStatus p stINJ_DONE
  let s :=
    if s.flag p CV_STATUS.CAL_PENDING then
      s.set p CV_STATUS.PENDING_INJ (min 16 (s.get p CV_STATUS.PENDING_INJ + 1))
    else s
  if s.flag p CV_BLOCK.INJ_EVT then
    s.raiseHw (0xC0 + n) { kind := 4, time := x.time, w4 := BitVec.ofNat 32 (n + x.chan * 256), w5 := w }
  else s

/-- R248: the oldest result leaves the converter: to the raw stream, and a regular one to every filter chain
that takes its channel. -/
def execResultOut (n : Nat) (s : State) : Host.Outcome State Fault Refusal :=
  match (s.conv n).out with
  | [] => .next s
  | x :: rest =>
    let s := s.modConv n fun c => { c with out := rest }
    let w := resultWord x
    let (lost, s) := s.offerItem n (wordBytes w) x.time (!x.valid)
    let s := if lost then (s.incSat (pgCV n) CV_COUNTS0.LOST).setStatus (pgCV n) stCV_LOST else s
    if x.inj then .next (s.injDone n x w)
    else
      let takers := (List.range 64).filter fun c => s.chainTakes c n x.chan
      .next ({ s with chainIn := s.chainIn ++ takers.map fun c => (c, (w, x.time)) }.countScan n x)

-- Triggers and requests -------------------------------------------------------------------------------------

/-- R251: a software trigger. -/
def State.scanStart (s : State) (n : Nat) : State :=
  if s.get (pgCV n) CV_TRIG.MODE == 0 then s.toTick.scanTriggered n s.toTick.clk true else s

def execScanStart (m : Master) (n : Nat) (s : State) : Host.Outcome State Fault Refusal :=
  .next (s.gateF m (pgCV n) CV_SCAN.START 0 fun s => s.scanStart n)

/-- R252: the trigger line of the converter takes a level: a timer's output or a synchronised fabric line, whichever CV_TRIG
selects. Mode 1 takes every timer event, mode 3 every rising edge of the line; modes 2 and 4 keep the level for their
delayed gate, a rise of which asks for one scan however short it is (R566). -/
def execScanTrigger (n : Nat) (s : State) : Host.Outcome State Fault Refusal :=
  match s.takeTrig fun w => match w with | .scan m _ => m == n | _ => false with
  | none => .next s
  | some (e, s) =>
    let level := match e.what with | .scan _ l => l | _ => false
    let p := pgCV n
    let mode := s.get p CV_TRIG.MODE
    if !s.present p || !s.pageOn p || !s.tbRun then .next s
    else
      let s := s.reachClk e.clk
      let rise := level && !(s.conv n).level
      let s :=
        if mode == 1 || mode == 3 || level == (s.conv n).level then s
        else
          s.modConv n fun c =>
            { c with
              level := level, gate := (e.clk, c.level) :: c.gate.filter fun g => decide (e.clk < g.1 + 66000) }
      if mode == 1 || mode == 3 then .next (if level then s.scanTriggered n e.clk true else s)
      else .next (if rise then s.scanTriggered n e.clk false else s)

/-- R256: the trigger of a request register, its DELAY over, brings a request to the converter. -/
def execInjectedRequest (n k : Nat) (s : State) : Host.Outcome State Fault Refusal :=
  match s.takeTrig (· == .inj n k) with
  | none => .next s
  | some (e, s) =>
    let p := pgCV n
    if s.present p && s.pageOn p && s.tbRun && decide (k < 4) then
      let s := s.reachClk (e.clk + s.get p CV_INJ.DELAY k)
      .next (s.injArrive n (s.get p CV_INJ.CHAN k) k (e.clk + s.get p CV_INJ.DELAY k))
    else .next s

/-- A write of CV_INJ_SW with GO: a request that reaches the converter at the tick of the write (R256), unless it takes
none now (R254). -/
def State.injSw (s : State) (n chan : Nat) : State :=
  if s.accepts (pgCV n) then s.toTick.injArrive n chan 4 s.toTick.clk else s

/-- R256: CV_INJ_SW. -/
def execCvInjSw (m : Master) (n chan : Nat) (s : State) : Host.Outcome State Fault Refusal :=
  .next (s.gateF m (pgCV n) CV_INJ_SW.GO 0 fun s => s.injSw n (chan % 32))

-- Input-path diagnosis (R272, R273) -------------------------------------------------------------------------

/-- A write of CV_DIAG_CTRL.GO: a test starts, is refused, or is stopped by the calibration that runs.
[Log 57 DEDUCED] -/
def State.diagGo (s : State) (n : Nat) : State :=
  let p := pgCV n
  if (s.conv n).diag.isSome then s
  else
    let chan := s.get p CV_DIAG_CTRL.CHAN
    let s := (s.set p CV_DIAG_CTRL.PASS 0).set p CV_DIAG_CTRL.ABORTED 0
    if s.flag p CV_STATUS.FG_RUNNING then (s.set p CV_DIAG_CTRL.ABORTED 1).setStatus p stDIAG_DONE
    else if (s.chanNode n chan).isNone then s.set p CV_DIAG_CTRL.ABORTED 1
    else
      let d : Diag :=
        { chan := chan, mode := s.get p CV_DIAG_CTRL.MODE, nOpen := 0, sumOpen := 0, nForced := 0,
          sumForced := 0, closed := none }
      (s.set p CV_DIAG_CTRL.BUSY 1).modConv n fun c => { c with diag := some d }

/-- A write of the whole register: its plain fields, then GO. [Log 57 DEDUCED] -/
def State.diagCtrl (s : State) (n : Nat) (v : Word) : State :=
  let s := s.plainWrite (CV_DIAG_CTRL.GO.addr (pgCV n) 0) v
  if bit v.toNat 31 then s.diagGo n else s

def execDiagGo (m : Master) (n chan mode dac : Nat) (s : State) : Host.Outcome State Fault Refusal :=
  .next (s.gateF m (pgCV n) CV_DIAG_CTRL.GO 0 fun s =>
    s.diagCtrl n (BitVec.ofNat 32 (2 ^ 31 + dac % 2 ^ 12 * 2 ^ 16 + mode % 2 * 2 ^ 8 + chan % 32)))

/-- The mean of 16 codes; the spec does not say how it is rounded. [Log 8 DESIGN CHOICE] -/
def State.mean16 (s : State) (sum : Int) : Int × State :=
  let (d, s) := s.draw
  (if sum % 16 ≠ 0 ∧ Config.roundUp d then sum / 16 + 1 else sum / 16, s)

/-- R273: the test is complete. -/
def execDiagDone (n : Nat) (s : State) : Host.Outcome State Fault Refusal :=
  let p := pgCV n
  match (s.conv n).diag with
  | none => .next s
  | some d =>
    if d.nForced < 16 then .next s
    else
      let (o, s) := s.mean16 d.sumOpen
      let (f, s) := s.mean16 d.sumForced
      let ref := if d.mode == 0 then s.getS p CV_DIAG_EXPECT.CODE else o
      let pass := decide ((f - ref).natAbs ≤ s.get p CV_DIAG_EXPECT.TOL)
      let s := (s.set p CV_DIAG_RESULT.OPEN (trunc 16 o)).set p CV_DIAG_RESULT.FORCED (trunc 16 f)
      let s := (s.set p CV_DIAG_CTRL.BUSY 0).set p CV_DIAG_CTRL.PASS (b2n pass)
      let s := s.modConv n fun c => { c with diag := none, diagTail := some (d.chan, s.clk) }
      .next (s.setStatus p stDIAG_DONE)

-- Register writes of the page that have an effect of their own -----------------------------------------------

/-- A write of CV_TRIG while the converter is disabled (R254): triggers of the line selected before are forgotten, and the
gate starts from the level of the line selected now. -/
def State.trigWrite (s : State) (n : Nat) (v : Word) : State :=
  let p := pgCV n
  let mine (e : TrigAt) : Bool := match e.what with | .scan m _ => m == n | _ => false
  let s := { s with trig := s.trig.filter fun e => !mine e }.plainWrite (CV_TRIG.MODE.addr p 0) v
  let sel := s.get p CV_TRIG.SEL
  s.modConv n fun c =>
    { c with
      gate := [], starts := [],
      level := match s.get p CV_TRIG.MODE with | 2 => s.timerHigh sel | 4 => s.ftLevel n sel | _ => false }

/-- A write of a CV register; none where it is a plain one (R254, R265). -/
def State.convWrite (s : State) (n o : Nat) (v : Word) : Option State :=
  let p := pgCV n
  if o == 0x040 then
    some ((s.modConv n fun c =>
      { c with masks := (s.clk, s.get p CV_SCAN_MASK) :: c.masks.filter fun e => decide (s.clk < e.1 + 200) }).plainWrite
        (p * 0x1000 + o) v)
  else if o == 0x044 then some (if s.flag p PG_CTRL.EN then s.setStatus p stCV_REJECT else s.trigWrite n v)
  else if o == 0x048 then some (if bit v.toNat 0 then s.scanStart n else s)
  else if o == 0x054 then
    let s := s.plainWrite (p * 0x1000 + o) v
    some (if bit v.toNat 17 then s.fgRequest n else s)
  else if o == 0x068 then some (if bit v.toNat 31 then s.injSw n (bits v.toNat 0 5) else s)
  else if o == 0x088 then some (s.diagCtrl n v)
  else if o == 0x094 then some (if bit v.toNat 0 then s.corrGo n else s)
  else if o == 0x098 then
    some (if bit v.toNat 31 || !s.hostAssisted (pgCV n) then s.commitCoef n (bits v.toNat 0 4) else s)
  else if 0x100 ≤ o ∧ o < 0x190 ∧ o % 16 ≠ 12 ∧ !s.hostAssisted p then some (s.setStatus p stCV_REJECT)
  else none

end Sys2Proof.Machine
end

