-- ==== Sys2Proof/Machine/MemCore.lean ====
section
/-!
DEFINITION. Block memories (R138-R146): byte layout, error correction, mirroring, and the way of an access
through BAR2 (R38, R39).
-/
namespace Sys2Proof.Machine
open Sys2Proof F

/-- The BAR2 offset of memory `k` of bank `b` (R38). -/
def memBase (b k : Nat) : Nat := (24 * b + k) * 0x4000

/-- The word width of a memory in bytes (R138). -/
def State.memWidth (s : State) (b k : Nat) : Nat := 2 ^ ((aget s.aspect (24 * b + k)).getD 0)

/-- ECC is enabled on a memory (R141). -/
def State.memEcc (s : State) (b k : Nat) : Bool := s.maskBit (pgFB b) FB_MEM_ECC k && decide (8 ≤ s.memWidth b k)

/-- The stored bits of a 64-bit word that upsets have inverted so far, put into memory: data bits are inverted
where they lie, and with ECC the positions that disagree with the check bits are kept. -/
def State.upset (s : State) (b k w : Nat) (pos : List Nat) : State :=
  let off := memBase b k + 8 * w
  let s := pos.foldl (fun s p =>
    if p < 64 then s.setByte (off + p / 8) (s.byte (off + p / 8) ^^^ BitVec.ofNat 8 (2 ^ (p % 8))) else s) s
  if s.memEcc b k then
    let old := (aget s.flips off).getD []
    let new := pos.foldl (fun (l : List Nat) p => if l.contains p then l.filter (· != p) else p :: l) old
    { s with flips := if new.isEmpty then adel s.flips off else aput s.flips off new }
  else s

/-- The upset bits of an access (72 per 64-bit word, from the 64-bit word `w` on) put into memory. -/
def State.upsets (s : State) (b k w : Nat) (flips : List Nat) : State :=
  (List.range 2).foldl (fun s i =>
    s.upset b k (w + i) ((flips.filter fun p => p / 72 == i).map (· % 72))) s

/-- PG_FE_ADDR of sources 0 and 1 (R141). -/
def memFeAddr (k byteAddr : Nat) : Word := BitVec.ofNat 32 (k * 2 ^ 24 + byteAddr)

/-- A word found uncorrectable (R141), or by an injected check (R450). -/
def State.eccFail (s : State) (b k w acc mas : Nat) (inj : Bool) : State :=
  let p := pgFB b
  ((s.incSat p FB_ECC_COUNT.UNC).setStatus p stECC_UNC).raiseFault p 1 (memFeAddr k (8 * w)) acc mas id inj

/-- A read of a protected 64-bit word (R141): a single error is corrected in place, two or more are
uncorrectable, and so is what an injected check sees (R450). Answers ERR. [Log 43 DEDUCED] -/
def State.eccWord (s : State) (b k w acc mas : Nat) : Bool × State :=
  let off := memBase b k + 8 * w
  let p := pgFB b
  let r := s.injectedCheck p 0
  let s := r.2
  if r.1 then (true, s.eccFail b k w acc mas true) else
  match (aget s.flips off).getD [] with
  | [] => (false, s)
  | [x] =>
    let s := if x < 64 then s.setByte (off + x / 8) (s.byte (off + x / 8) ^^^ BitVec.ofNat 8 (2 ^ (x % 8))) else s
    let s := ({ s with flips := adel s.flips off }.incSat p FB_ECC_COUNT.CORR).setStatus p stECC_CORR
    (false, s.raiseFault p 0 (memFeAddr k (8 * w)) acc mas)
  | _ => (true, s.eccFail b k w acc mas false)

/-- A read of `n` bytes of a memory from a byte address. Answers the data and ERR. -/
def State.memRead (s : State) (b k addr n acc mas : Nat) : List Byte × Bool × State :=
  let r := if s.memEcc b k then
      (List.range ((addr + n + 7) / 8 - addr / 8)).foldl (fun (r : Bool × State) i =>
        let x := r.2.eccWord b k (addr / 8 + i) acc mas
        (r.1 || x.1, x.2)) (false, s)
    else (false, s)
  (r.2.bytes (memBase b k + addr) n, r.1, r.2)

/-- The byte enables that fall on 64-bit word `w` of a write from a byte address. -/
def wordEn (addr be n w : Nat) : Nat :=
  ((List.range 8).map fun j =>
    let a := 8 * w + j
    b2n (decide (addr ≤ a) && decide (a < addr + n) && bit be (a - addr)) * 2 ^ j).sum

/-- A write of bytes under byte enables (R141): with ECC, a word written in part is read first, and an
uncorrectable error there stops the whole write. Answers ERR. [Log 43 DEDUCED] -/
def State.memWrite (s : State) (b k addr be : Nat) (data : List Byte) (acc mas : Nat) : Bool × State :=
  let n := data.length
  let ws := (List.range ((addr + n + 7) / 8 - addr / 8)).map (addr / 8 + ·)
  let r := if s.memEcc b k then
      ws.foldl (fun (r : Bool × State) w =>
        let e := wordEn addr be n w
        if e == 0 || e == 255 then r
        else
          let x := r.2.eccWord b k w acc mas
          (r.1 || x.1, x.2)) (false, s)
    else (false, s)
  if r.1 then r
  else
    let s := r.2.setBytesEn (memBase b k + addr) be data
    (false, { s with flips := s.flips.filter fun (e : Nat × List Nat) =>
      !(ws.any fun w => e.1 == memBase b k + 8 * w && wordEn addr be n w == 255) })

/-- A memory is mirrored in a pair (R146). [Log 43 DEDUCED] -/
def State.memMirrored (s : State) (b k : Nat) : Bool := s.maskBit (pgFB b) FB_MEM_MIR k

/-- The twin link is up, as R146 asks of a mirrored memory's writes. -/
def State.pairUp (s : State) : Bool := s.flag pgTW TW_STATUS.LINK_UP

/-- On a secondary of a pair with the link up, local writes of a mirrored memory are dropped (R146). [Log 43 DEDUCED] -/
def State.writeDrops (s : State) (b k : Nat) : Bool := s.memMirrored b k && s.secondary && s.pairUp

/-- The time that the twin link's class of mirrored state takes for a frame of `n` bytes of payload, at 4.0 GB/s (R463, R465):
8 bytes of header and 4 of CRC go with them. [Log 43 DEDUCED] -/
def frameTime (n : Nat) : Nat := (n + 12 + 3) / 4

/-- A write of a mirrored memory on a primary with the link up (R146): its writer waits until the link can take it, which
then carries it to the peer. -/
def State.mirrorWrite (s : State) (off be : Nat) (data : List Byte) : State :=
  if s.role == 3 && s.pairUp then
    let s := if s.tbRun then s.reachClk s.twin.busyTo else s
    { s with twin := { s.twin with busyTo := s.clk + frameTime data.length } }.twinSend (.memWrite off be data)
  else s

-- The transfer on the command channel of a memory port (R139): the spec gives its parts and no layout.
/-- The word address. [Log 98 DESIGN CHOICE] -/
def memAddr (c : Nat) : Nat := bits c 0 14
/-- The write flag. [Log 98 DESIGN CHOICE] -/
def memWr (c : Nat) : Bool := bit c 14
/-- The byte enables. [Log 98 DESIGN CHOICE] -/
def memBe (c : Nat) : Nat := bits c 16 16
/-- The write data. [Log 98 DESIGN CHOICE] -/
def memData (c : Nat) : Nat := bits c 32 128

/-- A local write to a memory (R146): on a secondary a mirrored memory takes none; on a primary it is sent to the
peer as well. Answers ERR. [Log 43 DEDUCED] -/
def State.localWrite (s : State) (b k addr be : Nat) (data : List Byte) (acc mas : Nat) : Bool × State :=
  if s.writeDrops b k then
    (false, (s.incSat (pgFB b) FB_MIRROR_DROP).setStatus (pgFB b) stMIRROR_DROP)
  else
    let r := s.memWrite b k addr be data acc mas
    (r.1, if !r.1 && s.memMirrored b k then r.2.mirrorWrite (memBase b k + addr) be data else r.2)

-- BAR2 (R38, R39, R44, R361, R378) ------------------------------------------------------------------------------

/-- A byte of the scheduler store: the descriptor of the record's task (R361). -/
def State.storeByte (s : State) (o : Nat) : Byte :=
  match s.tasks.find? fun t => t.rec? == some (o / 32) with
  | none => 0
  | some t => (t.words.flatMap wordBytes).getD (o % 32) 0

/-- A BAR2 offset is unmapped, or a memory that the variant does not have (R39). -/
def State.bar2Absent (s : State) (off : Nat) : Bool :=
  decide (0x140_0000 ≤ off) || (decide (off < 0xC0_0000) && !s.present (pgFB (off / 0x4000 / 24)))

/-- What stands at a BAR2 offset lies in a domain that is off (R19): a block memory's bank, the scheduler's PD60, the
stream engines' PD63, and PD61, through which the recovery store is read. [Log 92 DESIGN CHOICE] -/
def State.bar2Off (s : State) (off : Nat) : Bool :=
  if off < 0xC0_0000 then !s.pageOn (pgFB (off / 0x4000 / 24))
  else if off < 0xE0_0000 then !s.domOn 60
  else if off < 0x100_0000 then !s.domOn 63
  else !s.domOn 61

/-- An access that BAR2 accepts (R38): aligned, of 1, 2, 4 or 8 bytes, or a burst of words up to the maximum payload
(R35) that keeps inside a 4 KiB page, as every PCIe transfer does. [Log 92 DESIGN CHOICE] -/
def bar2Size (off n : Nat) : Bool :=
  ((n == 1 || n == 2 || n == 4 || n == 8) && off % n == 0) ||
    (decide (0 < n) && decide (n ≤ pciPayload) && n % 4 == 0 && off % 4 == 0 && decide (off % 0x1000 + n ≤ 0x1000))

/-- The access type of a read or write of memory (R58): a bank's DMA port and a stream engine make DMA accesses.
[Log 94 DEDUCED] -/
def accRd : Master → Nat
  | .fabric _ | .stream _ => accDMAR
  | _ => accREAD
/-- [Log 94 DEDUCED] -/
def accWr : Master → Nat
  | .fabric _ | .stream _ => accDMAW
  | _ => accWRITE

/-- A read of a host-visible block memory (R145): the data returned, and whether the completion is poisoned. -/
def State.memHostRead (s : State) (m : Master) (off n : Nat) : State :=
  let r := s.memRead (off / 0x4000 / 24) (off / 0x4000 % 24) (off % 0x4000) n (accRd m) m.id
  { r.2.2 with resp := r.1, respErr := r.2.1 }

/-- A write of a host-visible block memory (R145). -/
def State.memHostWrite (s : State) (m : Master) (off : Nat) (data : List Byte) : State :=
  let r := s.localWrite (off / 0x4000 / 24) (off / 0x4000 % 24) (off % 0x4000) (2 ^ data.length - 1) data (accWr m) m.id
  { r.2 with respErr := r.1 }

/-- A write of the peer to a mirrored memory (R146, R477), applied. -/
def State.memPeerWrite (s : State) (off be : Nat) (data : List Byte) : State :=
  (s.memWrite (off / 0x4000 / 24) (off / 0x4000 % 24) (off % 0x4000) be data accLINK 0x24).2

/-- An access of a memory from the host window or the twin link. -/
def State.memReq (s : State) (r : MemReq) : State :=
  match r.mas, r.data with
  | some m, none => s.memHostRead m r.off r.len
  | some m, some d => s.memHostWrite m r.off d
  | none, some d => s.memPeerWrite r.off r.be d
  | none, none => s

/-- An access of a memory is applied, or waits while its bank stands between the exchange of a couch and its WR step
(R195). -/
def State.memEnter (s : State) (r : MemReq) : State :=
  if s.wrHeld.contains (r.off / 0x4000 / 24) then { s with memWait := s.memWait ++ [r] } else s.memReq r

/-- The WR step of a bank (R200): its memories take accesses, and those that wait are applied in the order in which they
came. -/
def State.memRelease (s : State) (b : Nat) : State :=
  let mine := s.memWait.filter fun (r : MemReq) => r.off / 0x4000 / 24 == b
  mine.foldl State.memReq
    { s with wrHeld := s.wrHeld.filter (· != b), memWait := s.memWait.filter fun (r : MemReq) => r.off / 0x4000 / 24 != b }

/-- A read of bytes through BAR2: the data returned, and whether the completion is poisoned. What lies in a domain that
is off reads as its page does (R45). [Log 92 DESIGN CHOICE] -/
def State.bar2Read (s : State) (m : Master) (off n : Nat) : State :=
  let zeros := List.replicate n (0 : Byte)
  if s.bar2Absent off || s.bar2Off off then { s with resp := zeros, respErr := false }
  else if off < 0xC0_0000 then
    let b := off / 0x4000 / 24
    if !s.maskBit (pgFB b) FB_MEM_HV (off / 0x4000 % 24) then
      { s with resp := zeros, respErr := false }.raiseFault (pgFB b) 4 (BitVec.ofNat 32 off) (accRd m) m.id
    else s.memEnter { off := off, data := none, len := n, be := 0, mas := some m }
  else if off < 0xE0_0000 then
    { s with resp := (List.range n).map fun i => s.storeByte (off + i - 0xC0_0000), respErr := false }
  else { s with resp := s.bytes off n, respErr := false }

/-- A write of bytes through BAR2; one of a memory whose domain is off is dropped as one of its page is (R45).
[Log 92 DESIGN CHOICE] -/
def State.bar2Write (s : State) (m : Master) (off : Nat) (data : List Byte) : State :=
  if s.bar2Absent off then (s.incSat pgDEV DEV_ABSENT_WRITES).setStatus pgDEV 2
  else if off < 0xC0_0000 then
    let b := off / 0x4000 / 24
    if s.bar2Off off then s.setStatus pgDEV 4
    else if !s.maskBit (pgFB b) FB_MEM_HV (off / 0x4000 % 24) then
      s.raiseFault (pgFB b) 4 (BitVec.ofNat 32 off) (accWr m) m.id
    else s.memEnter { off := off, data := some data, len := 0, be := 0, mas := some m }
  else if off < 0xE0_0000 then s.setStatus pgSCH stSCH_STORE_WRITE
  else if off < 0x100_0000 then s.setStatus (pgST 0) stBUF_WRITE
  else s.setStatus pgDEV 5

/-- The way of a BAR2 access of `n` bytes to its target: a device that is OFF or held by RESET# takes none, the
management ports do not reach BAR2 (R60), and one that BAR2 does not accept (R38) is not applied: a read returns zeros.
[Log 17 DEDUCED, 92 DESIGN CHOICE] -/
def State.bar2Gate (s : State) (m : Master) (off n : Nat) (f : State → State) : State :=
  if s.unpowered || s.resetLow || s.portShut m then s
  else if m.isPort then { s with resp := [0, 0, 0, 0], respErr := false }.setStatus pgDEV 6
  else if !bar2Size off n then { s with resp := List.replicate n 0, respErr := false }
  else f s

end Sys2Proof.Machine
end

