-- ==== Sys2Proof/Machine/Couch.lean ====
section
/-!
DEFINITION. The commands of couching, start-up and the calender (chapter 07).
-/
namespace Sys2Proof.Machine
open Sys2Proof F

-- The request (R190) --------------------------------------------------------------------------------------------------

/-- The mask of a request: every present region with CCH_CTRL.FULL, else the mask registers. -/
def State.couchMask (s : State) : Nat × Nat :=
  if s.flag pgCCH CCH_CTRL.FULL then (2 ^ nBanks s.variant - 1, 2 ^ nSectors s.variant - 1)
  else (s.get pgCCH CCH_MASK_BANKS, s.get pgCCH CCH_MASK_SECTORS)

/-- The answer of twin coordination (R478, R481): `peerOk` is the secondary's where it is asked. -/
def State.peerAllows (s : State) (peerOk : Bool) : Bool :=
  if !s.flag pgTW TW_CTRL.COUCH_SYNC then true
  else if s.secondary then false
  else if s.role == 3 then s.flag pgTW TW_STATUS.LINK_UP && peerOk
  else true

/-- A request is checked and refused, or the couch starts; while a couch runs it is ignored (R203). -/
def State.couchAsk (s : State) (peerOk : Bool) : State :=
  if s.couch.isSome then s
  else
    let (banks, secs) := s.couchMask
    match s.couchCheck banks secs (s.peerAllows peerOk) with
    | some (c, r) => s.couchRefuse c r
    | none =>
      let s := if s.flag pgTW TW_CTRL.COUCH_SYNC then s.mirror (.couchOffer banks secs) else s
      s.startCouch banks secs

/-- A write of CCH_CTRL: FULL and FORCE are stored, START asks for a couch. -/
def State.couchCtrl (s : State) (v : Word) (peerOk : Bool) : State :=
  let s := (s.set pgCCH CCH_CTRL.FULL (bits v.toNat 2 1)).set pgCCH CCH_CTRL.FORCE (bits v.toNat 1 1)
  if bit v.toNat 0 then s.couchAsk peerOk else s

def execCouchRequest (m : Master) (v : Word) (peerOk : Bool) (s : State) : Host.Outcome State Fault Refusal :=
  .next (s.gateF m pgCCH CCH_CTRL.START 0 fun s => s.couchCtrl (setBits v 0 1 1) peerOk)

-- Steps 2 to 7 (R191, R192, R194) -----------------------------------------------------------------------------------------

/-- A fault raised unless a chip reset has come meanwhile, `n` being TND_RESET_COUNT before the first of several. -/
def State.raiseIf (s : State) (n pg src a acc mas : Nat) : State :=
  if s.get pgTND TND_RESET_COUNT == n then s.raiseFault pg src (BitVec.ofNat 32 a) acc mas else s

/-- The faults of the exchange: each invalid setting word of the sectors (R227), each bad active word of the exchanged
pads (R497). -/
def State.exchangeFaults (s : State) (c : Couch) : State :=
  let n := s.get pgTND TND_RESET_COUNT
  let words := (maskList c.sectors 8).flatMap fun x => if s.pageOn (pgAS x) then (s.sectorBad x).map fun a => (x, a) else []
  let pads := c.pads.filter fun p => padWordBad (s.padWord p)
  let s := words.foldl (fun s (e : Nat × Nat) => s.raiseIf n (pgAS e.1) 0 e.2 accCONF 0x21) s
  pads.foldl (fun s p => s.raiseIf n (pgGB (p / 32)) 1 p accCONF 0x21) s

/-- Steps 3 to 6 of R191: latches, retention read, exchange, memory images; the lock wait begins. -/
def State.couchSteps (s : State) (c : Couch) : State :=
  let s := s.couchLatch c
  let (buf, miss) := s.couchRead c
  let s := ((s.set pgCCH CCH_RET.KIND_MISS (min miss 0xFFFF)).set pgCCH CCH_RET.CARRIED 0).set pgCCH CCH_RET_FULL 0
  let c := { c with buf := buf }
  let x := { s with couch := some c }.exchange c
  let s := (State.couchApply s x c).set pgCCH CCH_STATE.STEP 7
  s.exchangeFaults c

/-- R192: the drain has ended. [Log 5 DESIGN CHOICE] -/
def execDrainComplete (s : State) : Host.Outcome State Fault Refusal :=
  match s.couch with
  | none => .next s
  | some c => .next (if s.get pgCCH CCH_STATE.STEP == 2 && s.drained c then s.couchSteps c else s)

/-- A forced drain (R194): open gates cut, and with them the transfers that wait at ports, tasks of the mask's ports cut off, and the couch goes on.
[Log 50 DEDUCED] -/
def State.forceDrain (s : State) (c : Couch) : State :=
  let cut := s.openGates c
  let s := (cut.foldl State.cutNet s).settle
  let mine (w : Nat) : Bool := decide (w < 0xE0) && bit c.banks (w / 7)
  let ports := s.portsBusy c
  let s := { s with
    subWait := s.subWait.filter fun (e : Nat × List Word) => !ports.1.contains e.1,
    subIn := s.subIn.filter fun (e : Nat × (Time × List Word)) => !ports.1.contains (0x100 + e.1),
    spanWait := s.spanWait.filter fun (e : Nat × List Word) => !ports.1.contains (0x100 + e.1),
    portWait := s.portWait.filter fun (e : Nat × Word) => !ports.2.contains e.1 }
  let n := (s.tasks.filter fun t => t.onWorker && mine (t.worker.getD 256)).length
  let s := s.cutWorkers mine { cause := 6, attr := 0 }
  let s := (s.set pgCCH CCH_CUT.TASKS (min n 0xFFFF)).set pgCCH CCH_CUT.VALUES
    (min (cut.length + ports.1.length + ports.2.length) 0xFFFF)
  ((s.set pgCCH CCH_STATE.FORCED 1).setStatus pgCCH stDRAIN_CUT).couchSteps c

/-- R194: CCH_DRAIN.LIMIT has passed before the drain completed. [Log 88 DESIGN CHOICE] -/
def execDrainLimitExpiry (s : State) : Host.Outcome State Fault Refusal :=
  match s.couch with
  | none => .next s
  | some c =>
    if s.get pgCCH CCH_STATE.STEP != 2 then .next s
    else if s.flag pgCCH CCH_CTRL.FORCE then .next (s.forceDrain c)
    else .next ((s.couchBack c).couchRefuse cchDRAIN none).serveWaiting

-- Steps 7 to 11 (R200, R201) --------------------------------------------------------------------------------------------------

/-- The domains of the powered clock loops that do not report lock (R201). -/
def State.unlocked (s : State) (u4 : Bool) : List Nat :=
  ((List.range 8).filter fun q =>
    s.present (pgSQ q) && s.pageOn (pgSQ q) && !s.flag (pgSQ q) SQ_STATUS.LOCKED).map (47 + ·) ++
    (if s.domOn 55 && !u4 then [55] else []) ++ (if s.flag pgTB TB_STATUS.LOCKED then [] else [62])

/-- Step 11 of R191: gates reopen, banks are enabled, dispatch and calender resume, what the couch held back follows. -/
def State.couchEnd (s : State) (c : Couch) : State :=
  let s := { s with couch := none, bootPhase := if s.bootPhase = BootPhase.couching then BootPhase.couched else s.bootPhase }
  let s := s.each (maskList c.banks 32) fun s b =>
    ((s.set (pgFB b) PG_CTRL.EN 1).set (pgFB b) FB_STATE.RELEASED 1).reopen b
  let s := ((s.set pgCAL CAL_STATUS.PAUSED 0).set pgCCH CCH_ERR.CODE 0).set pgCCH CCH_STATE.STEP 0
  let s := s.set pgCCH CCH_DURATION (min (s.now - c.start.toNat) (2 ^ 32 - 1))
  let s := (s.setStatus pgCCH stCOUCH_DONE).serveWaiting
  (s.releaseResets fun _ => true).repairNext.pressBanksDown

/-- WR: the memories of the mask take accesses again, those that wait first. -/
def State.relWr (s : State) (c : Couch) : State := s.each (maskList c.banks 32) State.memRelease

/-- One release step, 8 to 10 of R191, and with the third the end of the couch; `upset` are the tags of buffer entries
that cannot be corrected (R199). -/
def State.couchRelease (s : State) (c : Couch) (upset : List Nat) : State :=
  let k := s.get pgCCH CCH_STATE.STEP - 8
  let order := relOrder (s.get pgCCH CCH_RELEASE.ORDER)
  let n := s.get pgTND TND_RESET_COUNT
  let s :=
    match order.getD k .out with
    | .out => s.relOut c
    | .wr => s.relWr c
    | .rst =>
      let r := s.relRst c upset
      (r.2.set pgCCH CCH_RET.CARRIED (r.1 % 65536)).set pgCCH CCH_RET_FULL (b2n (r.1 == 65536))
  let done := order.take (k + 1)
  let s := if done.contains .wr && done.contains .rst then s.relRun c else s
  let s := if k == 2 then s.couchEnd c else s.set pgCCH CCH_STATE.STEP (9 + k)
  if order.getD k .out == .rst then
    ((c.buf.filter fun (e : RetEntry × Option Nat) => e.2.isSome && upset.contains e.1.tag).map fun e => e.1.tag).foldl
      (fun s t => s.raiseIf n pgCCH 1 (t % 2 ^ 20) accREAD 0x21) s
  else s

/-- R201: every powered loop is locked, or no longer waited for; staged release begins. -/
def execLockWaitEnd (u4 : Bool) (upset : List Nat) (s : State) : Host.Outcome State Fault Refusal :=
  match s.couch with
  | none => .next s
  | some c =>
    if s.get pgCCH CCH_STATE.STEP != 7 then .next s
    else
      let late := s.unlocked u4
      let n := s.get pgTND TND_RESET_COUNT
      let s := if late.isEmpty then s else s.setStatus pgCCH stLOCK_LATE
      let s := late.foldl (fun s d => s.raiseIf n pgCCH 2 d accCONF 0x21) s
      .next (if s.couch.isSome then (s.set pgCCH CCH_STATE.STEP 8).couchRelease c upset else s)

/-- R200: the next release step. -/
def execReleaseStep (upset : List Nat) (s : State) : Host.Outcome State Fault Refusal :=
  match s.couch with
  | none => .next s
  | some c =>
    let k := s.get pgCCH CCH_STATE.STEP
    .next (if 9 ≤ k ∧ k ≤ 10 then s.couchRelease c upset else s)

-- Start-up (R205-R207) ------------------------------------------------------------------------------------------------------------

/-- The configuration controller and the couch controller have nothing in hand. -/
def State.bootQuiet (s : State) : Bool := s.cfgOp == .idle && s.couch.isNone && !s.bootDue

/-- R205: the step of the start-up timeline in progress ends, or (`ok` false) fails.
[Log 5 DESIGN CHOICE, 49 DEDUCED] -/
def execBootStepDone (ok : Bool) (s : State) : Host.Outcome State Fault Refusal :=
  if s.unpowered || s.resetLow || s.power == powerHOLD || !s.suppliesOk then .next s
  else
    let k := s.bootStep
    let s := s.bootPoll
    match k, ok with
    | 1, true => .next s.bootOne
    | 2, true => .next s.bootLocked
    | 3, true =>
      .next (if s.bootPhase == .couched && s.bootQuiet && !s.safe then s.bootThree else s)
    | 3, false => .next (if s.bootPhase == .noCouch && s.bootQuiet then s.bootFail else s)
    | 4, true => .next s.bootFour
    | 6, true => .next (if s.bootPhase == .couched && s.bootQuiet then s.bootFull else s)
    | 6, false => .next (if s.bootPhase == .noCouch && s.couch.isNone then s.bootFail else s)
    | 7, true => .next s.bootSeven
    | _, _ => .next s

-- The calender (R209-R217) --------------------------------------------------------------------------------------------------------------

/-- A disagreement of the calender's triplicated latches is corrected (R214). -/
def State.calVote (s : State) (vote : Bool) : State :=
  if vote then
    ((s.incSat pgCAL CAL_VOTE_COUNT).setStatus pgCAL stVOTE_FIX).raiseFault pgCAL 4 0 accSCRUB 0x22
  else s

/-- R209: CAL_PERIOD has passed; a pass due while one runs starts as soon as that one ends. -/
def execCalenderPass (vote : Bool) (s : State) : Host.Outcome State Fault Refusal :=
  if !s.calOn then .next s
  else
    let s := s.calVote vote
    .next (if s.flag pgCAL CAL_STATUS.RUNNING then { s with passDue := true } else s.calPass)

/-- CAL_CTRL.PASS_NOW. -/
def State.passNow (s : State) : State := if s.calOn && !s.flag pgCAL CAL_STATUS.RUNNING then s.calPass else s

def execPassNow (m : Master) (s : State) : Host.Outcome State Fault Refusal :=
  .next (s.gateF m pgCAL CAL_CTRL.PASS_NOW 0 State.passNow)

/-- What the calender reads lies in the shadow of a region that a configuration operation is writing (R174).
[Log 53 DEDUCED] -/
def State.calSkips (s : State) (word : Bool) (plane num : Nat) : Bool :=
  let (banks, secs) := match s.cfgOp with
    | .load l => (hdrBanks l.header, hdrSectors l.header)
    | .resync b c => (b, c)
    | _ => (0, 0)
  if word then plane == 1 && decide (num < 8192) && bit secs (num / 1024)
  else bit banks (num / 0x600) && plane != s.activePlane (num / 0x600)

/-- PG_FE_ADDR of a frame or of a setting word (R210). -/
def calAddr (word : Bool) (plane num : Nat) : Word :=
  BitVec.ofNat 32 (if word then 2 ^ 24 + num / 8192 * 2 ^ 16 + num % 8192 else plane * 2 ^ 16 + num % 2 ^ 16)

/-- A shadow word or frame is uncorrectable: its region is TORN. A pad word's region is the bank that owns it. -/
def State.calTorn (s : State) (word : Bool) (num : Nat) : State :=
  let r := if !word then num / 0x600
    else if num < 8192 then 32 + num / 1024 else bits (s.setting 1 num).toNat 24 5
  (s.markTorn r).setStatus pgCAL stSHADOW_TORN

/-- An uncorrectable frame of the active plane: a repair is asked for. -/
def State.calBadFrame (s : State) (plane num : Nat) : State :=
  let k := 65536 * plane + num
  { s with badFrames := if s.badFrames.contains k then s.badFrames else s.badFrames ++ [k] }.repairAsk
    (.bank (num / 0x600) [])

/-- An uncorrectable active setting word: the cell returns to reset settings, or the pad to its SAFE mode, and a repair
is asked for. [Log 52 DEDUCED] -/
def State.calBadWord (s : State) (num : Nat) : State :=
  let s := { s with badWords := if s.badWords.contains num then s.badWords else s.badWords ++ [num] }
  let s := if num < 8192 then s.refreshShunts (num / 1024) else s
  s.repairAsk (.word num)

/-- What a finding does (R210); `inj` where an injected check makes it (R450). -/
def State.calFinding (s : State) (word : Bool) (plane num finding : Nat) (inj : Bool) : State :=
  let a := calAddr word plane num
  if finding == 1 then
    ((s.incSat pgCAL CAL_COUNTS.CORRECTED).setStatus pgCAL stCORRECTED).raiseFault pgCAL 0 a accSCRUB 0x22
  else if finding != 2 then s
  else if word then
    if plane == 0 then s.raiseFault pgCAL 5 a accSCRUB 0x22 (fun s => s.calBadWord num) inj
    else s.raiseFault pgCAL 2 a accSCRUB 0x22 (fun s => s.calTorn true num) inj
  else if plane == s.activePlane (num / 0x600) then
    s.raiseFault pgCAL 1 a accSCRUB 0x22 (fun s => s.calBadFrame plane num) inj
  else s.raiseFault pgCAL 2 a accSCRUB 0x22 (fun s => s.calTorn false num) inj

/-- The checks of a frame or setting word: its check bits, and a frame's address check (R150, R151); an injected one makes it
uncorrectable (R450). -/
def State.calCheck (s : State) (word : Bool) (plane num finding : Nat) : State :=
  let e := s.injectedCheck pgCAL 0
  let a := if word then (false, e.2) else e.2.injectedCheck pgCAL 2
  let inj := e.1 || a.1
  a.2.calFinding word plane num (if inj then 2 else finding) inj

/-- A pass ends; one that fell due meanwhile starts. -/
def State.calPassEnd (s : State) : State :=
  let r := s.quotient (s.clk - s.passStart, 1000)
  let s := ((r.2.set pgCAL CAL_STATUS.RUNNING 0).incWrap pgCAL CAL_STATUS.PASSES).set pgCAL CAL_LAST_PASS r.1
  let s := s.setStatus pgCAL stPASS_DONE
  if s.passDue then s.calPass else s

/-- What a pass reads (R209): every frame of both planes, every analogue and pad setting word of both copies.
[Log 101 DESIGN CHOICE] -/
def State.passSize (s : State) : Nat := 2 * (0x600 * nBanks s.variant + 1024 * nSectors s.variant + 256)

/-- A frame or setting word of the part. [Log 101 DESIGN CHOICE] -/
def State.calHas (s : State) (word : Bool) (plane num : Nat) : Bool :=
  decide (plane < 2) &&
    (if word then decide (num < 1024 * nSectors s.variant) || (decide (8192 ≤ num) && decide (num < 8448))
      else decide (num < 0x600 * nBanks s.variant))

/-- R209, R210: the calender reads one frame or setting word of the part that the pass has not read yet; the pass ends with
the last of them. A couch and a repair pause it. [Log 101 DESIGN CHOICE] -/
def execCalenderRead (word : Bool) (plane num finding : Nat) (vote : Bool) (s : State) :
    Host.Outcome State Fault Refusal :=
  let k := if word then 131072 + 16384 * plane + num else 65536 * plane + num
  if !s.calOn || !s.flag pgCAL CAL_STATUS.RUNNING || s.flag pgCAL CAL_STATUS.PAUSED || s.repair.isSome ||
      !s.calHas word plane num || s.passSeen.contains k then .next s
  else
    let n := s.get pgTND TND_RESET_COUNT
    let s := { s.calVote vote with passSeen := k :: s.passSeen }
    let s := if word then s else s.set pgCAL CAL_POS (plane * 2 ^ 16 + num)
    let s := if s.calSkips word plane num then s else s.calCheck word plane num finding
    .next (if s.passSeen.length == s.passSize && s.get pgTND TND_RESET_COUNT == n then s.calPassEnd else s)

/-- The repair source of the repair in hand (R211). -/
def State.repairOrigin (s : State) (r : Repair) : Origin :=
  let region := match r with
    | .bank b _ => b
    | .word k => if k < 8192 then 32 + k / 1024 else s.padOwner (k - 8192)
  (aget s.activeSrc region).getD { kind := 0, slot := 0, mark := [] }

/-- The image of a repair source: the boot image, or a library slot; empty where it cannot be read. -/
def State.repairImage (s : State) (o : Origin) : List Byte :=
  if o.kind == 1 then
    let h := s.imageBytes false s.bootFromCopy 0 256
    h ++ s.imageBytes false s.bootFromCopy 256 (hdrBody h)
  else if s.mounted then imageOf ((aget s.lib o.slot).getD []) else []

/-- The CRC-32 at END of an image fits its plaintext body (R162, R169). -/
def State.crcOk (s : State) (img : List Byte) : Bool :=
  let h := img.take 256
  let b := if hdrEncrypted h then gcmDecipher (s.sheetKey.getD []) (hdrIv h) 0 (img.drop 256) else img.drop 256
  (crc32 (b.take (hdrBody h - 8))).toNat == leAt b (hdrBody h - 4) 4

/-- The CAL_REPAIR.RESULT code of a repair before its frames are written (R212, R213): no source, one that cannot be read,
one whose watermark or CRC-32 does not match. A shadow plane whose own frames fail cannot be read. -/
def State.repairCode (s : State) (r : Repair) : Nat :=
  let o := s.repairOrigin r
  if o.kind == 0 then 1
  else if o.kind == 3 then
    match r with
    | .bank b l => if l.any fun k => s.badFrames.contains (65536 * s.shadowPlane b + k % 65536) then 3 else 0
    | .word _ => 0
  else
    let img := s.repairImage o
    if img.length < 256 + hdrBody (img.take 256) || img.length < 264 then 3
    else if hdrMark (img.take 256) != o.mark || !markOk img || !s.crcOk img then 2
    else 0

/-- The state whose shadow planes hold the repair source in full: the shadow as it stands, or the source expanded. -/
def State.repairSource (s : State) (r : Repair) : State :=
  let o := s.repairOrigin r
  if o.kind == 3 then s else { s with retS := [], setw := [] }.expand (s.repairImage o)

/-- A repair succeeds: the listed frames, and only those, or the word are written from the source and read back, and what
was held is released. -/
def State.repairOk (s : State) (r : Repair) : State :=
  let x := s.repairSource r
  let old := s
  let s := match r with
    | .bank b l =>
      (l.foldl (fun (s : State) k => s.setFrame (k / 65536) (k % 65536) (x.frame (x.shadowPlane b) (k % 65536))) s).calRelease b
    | .word k =>
      let s := { s with badWords := s.badWords.filter (· != k) }.setSetting 0 k (x.setting 1 k)
      if k < 8192 then
        let w := k % 1024
        let s := if w < 128 then s.muteFrom old (k / 1024) .cell (w / 4) else s
        ((s.markCellErr (k / 1024)).refreshShunts (k / 1024))
      else s
  ((s.set pgCAL CAL_REPAIR.RESULT 0).incSat pgCAL CAL_COUNTS.REPAIRS).setStatus pgCAL stREPAIR_DONE

/-- A repair fails (R213): the bank stays in hold, the word as it is. [Log 52 DEDUCED] -/
def State.repairFail (s : State) (r : Repair) (code : Nat) : State :=
  let s := s.set pgCAL CAL_REPAIR.RESULT code
  let stale (s : State) (x : Nat) : State :=
    { s with heldStale := if s.heldStale.contains x then s.heldStale else s.heldStale ++ [x] }
  let a := match r with
    | .bank _ l => calAddr false (l.headD 0 / 65536) (l.headD 0 % 65536)
    | .word k => calAddr true 0 k
  let s := s.raiseFault pgCAL 3 a accCONF 0x22 fun s =>
    match r with
    | .bank b _ => stale (s.setMaskBit pgCAL CAL_HELD_BANKS b true) b
    | .word k =>
      if k < 8192 then stale (s.setMaskBit pgCAL CAL_HELD_SECTORS (k / 1024) true) (32 + k / 1024)
      else stale s (64 + (k - 8192))
  s.setStatus pgCAL stREPAIR_FAIL

/-- Step 2 of R212: the frames of the bank that fail are listed in full. -/
def State.repairList (s : State) (r : Repair) (more : List Nat) : Repair × State :=
  match r with
  | .word _ => (r, s)
  | .bank b l =>
    let new := (more.filter fun n => n / 0x600 == b).map (65536 * s.activePlane b + ·)
    let new := new.eraseDups.filter fun k => !l.contains k
    (.bank b (l ++ new),
      { s with badFrames := s.badFrames ++ new.filter fun k => !s.badFrames.contains k }.set pgCAL CAL_REPAIR.ADDR
        (leastOf (l ++ new) % 2 ^ 17))

/-- R212, R213: the repair in hand ends with a CAL_REPAIR.RESULT code: what its source gives, or what else stands against
it. -/
def execRepairDone (more : List Nat) (result : Nat) (s : State) : Host.Outcome State Fault Refusal :=
  match s.repair with
  | none => .next s
  | some r =>
    if s.safe then .next s
    else
      let (r, s) := { s with repair := none }.repairList r more
      let code := if s.repairCode r != 0 then s.repairCode r else min result 4
      .next (if code == 0 then s.repairOk r else s.repairFail r code).repairNext

/-- R215: no pass has ended within twice CAL_PERIOD of unpaused time. [Log 53 DEDUCED] -/
def execCalenderWatchExpiry (s : State) : Host.Outcome State Fault Refusal :=
  .next (if s.runs pgCAL && !s.unpowered && !s.flag pgCAL CAL_STATUS.PAUSED && s.repair.isNone then
      s.raiseOwn pgTND 1 0 else s)

end Sys2Proof.Machine
end

