-- ==== Sys2Proof/Machine/Filters.lean ====
section
/-!
DEFINITION. The commands of the filter chains and window comparators (chapter 10).
-/
namespace Sys2Proof.Machine
open Sys2Proof F

-- Filter chains ---------------------------------------------------------------------------------------------

/-- The integrators take an input, each modulo 2^72 (R280); the last one's value comes out. -/
def integrate (v : Nat) : List Nat → Nat × List Nat
  | [] => (v, [])
  | x :: r =>
    let x' := (x + v) % 2 ^ 72
    let (o, r') := integrate x' r
    (o, x' :: r')

/-- The combs take a decimated value, each modulo 2^72; the last one's value comes out. -/
def combine (v : Nat) : List (List Nat) → Nat × List (List Nat)
  | [] => (v, [])
  | d :: r =>
    let (o, r') := combine ((v + 2 ^ 72 - d.headD 0) % 2 ^ 72) r
    (o, (d.drop 1 ++ [v]) :: r')

/-- The change of threshold `t` at a valid output (R287): none, or the new state. -/
def State.thrChange (s : State) (c t : Nat) (y : Int) : Option Bool :=
  let lv := sext 24 (s.fc c (if t == 0 then FC_THR0 else FC_THR1))
  let hy := s.fc c (if t == 0 then FC_HYST0 else FC_HYST1)
  let crossed := s.fc c (if t == 0 then FC_THRCTL.STATE0 else FC_THRCTL.STATE1) == 1
  if !crossed && decide (lv + hy ≤ y) then some true
  else if crossed && decide (y < lv) then some false
  else none

/-- A change that FC_THRCTL.EDGEt selects (R288). -/
def State.thrSelected (s : State) (c t : Nat) (now : Bool) : Bool :=
  bit (s.fc c (if t == 0 then FC_THRCTL.EDGE0 else FC_THRCTL.EDGE1)) (if now then 0 else 1)

/-- A threshold takes a new state; a selected change is an event (R288). -/
def State.thrEvent (s : State) (c t : Nat) (y : Int) (time : Time) (ch : Option Bool) : State :=
  match ch with
  | none => s
  | some now =>
    let sel := s.thrSelected c t now
    let s := s.setFc c (if t == 0 then FC_THRCTL.STATE0 else FC_THRCTL.STATE1) (b2n now)
    if !sel then s
    else
      let s := (s.setMaskBit (fcPage c) FC_EVT_STATUS (2 * (c % 16) + t) true).setStatus (fcPage c) stTHR_EVT
      s.raiseHw (0x080 + c)
        { kind := 2, time := time, w4 := BitVec.ofNat 32 (c + t * 256 + b2n now * 512), w5 := BitVec.ofInt 32 y }

/-- A decimation period is complete: an output (R282, R284-R289). -/
def State.filterOutput (s : State) (c : Nat) (v : Nat) (clipIn badIn : Bool) (time : Time) : State :=
  let (_, _, sh) := s.fcGrowth c
  let y0 := roundDiv (sext 72 v) (2 ^ sh)
  let y := satS 24 y0
  let clip := clipIn || decide (y ≠ y0)
  let left := s.fc c FC_COUNTS.INVALID_LEFT
  let valid := left == 0 && !badIn
  let c0 := if valid then s.thrChange c 0 y else none
  let c1 := if valid then s.thrChange c 1 y else none
  let evt := (match c0 with | some b => s.thrSelected c 0 b | none => false) ||
    (match c1 with | some b => s.thrSelected c 1 b | none => false)
  let w := BitVec.ofNat 32 (b2n valid * 2 ^ 31 + b2n clip * 2 ^ 30 + b2n evt * 2 ^ 29 + trunc 24 y)
  let s := s.setFc c FC_COUNTS.INVALID_LEFT (left - 1)
  let s := if left == 1 then s.setStatus (fcPage c) stVALID_AGAIN else s
  let s := (s.setFc c FC_LAST w.toNat).set64 (fcPage c) FC_LAST_TIME_LO time.toNat (c % 16)
  let s := s.incWrap (fcPage c) FC_COUNTS2.OUTPUTS (c % 16)
  let s := (s.thrEvent c 0 y time c0).thrEvent c 1 y time c1
  let (lost, s) := s.offerItem (0x10 + c) (wordBytes w) time (!valid)
  if lost then (s.incSat (fcPage c) FC_COUNTS.LOST (c % 16)).setStatus (fcPage c) stFC_LOST else s

/-- A running chain accepts an input sample (R280, R281, R286). -/
def State.filterAccept (s : State) (c : Nat) (x : Int) (valid clip : Bool) (time : Time) : State :=
  let (n, r, m) := s.fcParams c
  let (_, pre, _) := s.fcGrowth c
  let ch := s.chain c
  let (v, ints) := integrate (trunc 72 (x / 2 ^ pre)) ch.ints
  let clip := ch.clip || clip
  let bad := ch.bad || !valid
  if ch.count + 1 < r then
    s.setChain c { ch with ints := ints, count := ch.count + 1, clip := clip, bad := bad }
  else
    let (o, combs) := combine v ch.combs
    let tail := if bad then n * m else ch.tail - 1
    let s := s.setChain c
      { ch with ints := ints, combs := combs, count := 0, clip := false, bad := false, tail := tail }
    s.filterOutput c o clip (bad || ch.tail != 0) time

/-- The word that a chain takes from its fabric stream port, where none has come in yet and the port has one (R278). -/
def State.portInput (s : State) (c : Nat) : State :=
  let b := s.fc c FC_SRC.NUM
  if s.fc c FC_SRC.KIND == 1 && (s.chain c).running && (s.chainIn.all fun (e : Nat × (Word × Time)) => e.1 != c) &&
      s.streamReady b then s.takeStream b
  else s

/-- R280: a chain accepts its next input: a result of its converter channel, or a word of its fabric stream port, which
carries neither validity nor clipping and is stamped with the tick at which the port took it. -/
def execFilterInput (c : Nat) (s : State) : Host.Outcome State Fault Refusal :=
  let s := s.portInput c
  match s.chainIn.find? fun e => e.1 == c with
  | none => .next s
  | some e =>
    let (w, time) := e.2
    let s := { s with chainIn := s.chainIn.erase e }
    let fabric := s.fc c FC_SRC.KIND == 1
    let s := if (s.chain c).running then
        s.filterAccept c (sext (s.fcWidth c) w.toNat) (fabric || bit w.toNat 31) (!fabric && bit w.toNat 30) time
      else s
    .next (if fabric then s.settle else s)

/-- A value of FC_CTL or FC_SRC that is not applied (R278, R283). -/
def State.chainRefused (s : State) (reg : Nat) (v : Word) : Bool :=
  let w := v.toNat
  match reg with
  | 0 =>
    let p := bits w 13 3
    decide (5 ≤ p) ||
      (p == 4 && (decide (bits w 16 3 < 3) || decide (5 < bits w 16 3) || decide (bits w 0 13 < 4) ||
        decide (4096 < bits w 0 13)))
  | 1 => if bit w 8 then decide (nBanks s.variant ≤ bits w 0 5) else decide (nConverters s.variant ≤ bits w 5 2)
  | _ => false

/-- A write of FC_CTL, FC_SRC or FC_SHIFT of a chain (R285, R289). [Log 32 DEDUCED, 58 DEDUCED] -/
def State.chainWrite (s : State) (c reg : Nat) (v : Word) : State :=
  let p := fcPage c
  let off := FC_CTL.EN.addr p (c % 16) + 4 * reg
  if !s.locked p 8 && s.chainRefused reg v then s.setStatus p stFC_REJECT
  else
    let old := s.reg off
    let was := (s.chain c).running
    let s := s.plainWrite off v
    let keep (w : Word) : Word := if reg == 0 then setBits w 31 1 0 else w
    let changed := keep old != keep (s.reg off)
    let s := s.chainSync c
    if changed && (was || !(s.chain c).running) then s.changeChain c else s

/-- R285: a write that can change a chain's configuration. -/
def execChainChange (m : Master) (c reg : Nat) (v : Word) (s : State) : Host.Outcome State Fault Refusal :=
  .next (s.gate m (FC_CTL.EN.addr (fcPage c) (c % 16) + 4 * reg) fun s =>
    if reg < 3 then s.chainWrite c reg v else s)

-- Comparators -----------------------------------------------------------------------------------------------

/-- The node that feeds a comparator in its sector (R231). -/
def State.cmpNode (s : State) (c : Nat) : Option Nat :=
  let w := s.asWord 0 (c / 16) (0x0B0 + c % 16)
  if w == 1 then some (32 + c % 16)
  else if w == 2 || w == 3 then some (2 * (c % 16) + (w - 2))
  else if 4 ≤ w ∧ w ≤ 19 then s.busNode (c / 16) (w - 4)
  else none

/-- The tick is skipped (R295): a mute on the comparator's input, or a sector that is off. CP126 and CP127 are
wired to VIN_SENSE and HOLDUP_SENSE (R290). -/
def State.tickSkipped (s : State) (c : Nat) : Bool :=
  if c == 126 || c == 127 then false
  else
    !s.asOn (c / 16) || s.pathMuted (c / 16) .cmp (c % 16) ||
      (match s.cmpNode c with
        | none => false
        | some x => if x < 32 then s.pathMuted (c / 16) .cell x else s.pathMuted (c / 16) .pin (x - 32))

/-- A threshold's state after a decided tick (R292): trip points at `t` and `t + h` steps of 20 mV. -/
def decideThr (crossed : Bool) (uv : Rat) (t : Int) (h : Nat) : Bool :=
  if crossed then !decide (uv < 20000 * (t : Rat)) else decide (20000 * ((t + h : Int) : Rat) < uv)

/-- LO, HI and hysteresis in force: the press page's for a comparator of the press (R298). -/
def State.cpLimits (s : State) (c : Nat) : Int × Int × Nat :=
  if s.cpPress c then
    if c == 126 then (s.getS pgPR RS_PR_VIN.LO, s.getS pgPR RS_PR_VIN.HI, s.get pgPR RS_PR_VIN.HYST)
    else (s.getS pgPR RS_PR_HU.LO, s.getS pgPR RS_PR_HU.HI, s.get pgPR RS_PR_HU.HYST)
  else (s.getS (cpPage c) CP_THR.LO (c % 32), s.getS (cpPage c) CP_THR.HI (c % 32), s.cp c CP_CFG.HYST)

/-- A report to the scheduler of a tick with a timestamp (R296, R332): compared bit by bit with the last one; at most one
task. -/
def State.cpReport (s : State) (c l : Nat) (time : Time) : State :=
  let old := (aget s.compLevel c).getD 0
  let s := { s with compLevel := if l = 0 then adel s.compLevel c else aput s.compLevel c l }
  let edge := s.get pgSCH SCH_SRC_MAP.EDGE c
  let sel (b up down : Nat) : Bool :=
    (bit l b && !bit old b && bit edge up) || (!bit l b && bit old b && bit edge down)
  if sel 0 0 1 || sel 1 2 3 then
    s.raiseHw c { kind := 1, time := time, w4 := BitVec.ofNat 32 (c + old * 256 + l * 1024), w5 := 0 }
  else s

/-- The runs of reports that the press counts (R405, R408). -/
def State.countPress (s : State) (c : Nat) (lo hi : Bool) : State :=
  let r := s.pressRuns
  if c == 126 then
    { s with
      pressRuns :=
        { r with lo := if lo then r.lo + 1 else 0, loOff := if lo then 0 else r.loOff + 1,
                 hi := if hi then r.hi + 1 else 0 } }
  else if c == 127 then { s with pressRuns := { r with huOff := if lo then 0 else r.huOff + 1 } }
  else s

/-- A comparator presents a new level 4 ns after the tick (R291); where both bits change, it passes through inside, and the
second bit follows 2 ns later (R293). [Log 58 DEDUCED] -/
def State.cpPresentAt (s : State) (c edge : Nat) (old new : Nat) : State :=
  if old == new then s
  else if (old == 0 && new == 3) || (old == 3 && new == 0) then
    { s with cpDue := s.cpDue ++ [(edge + 4, (c, 1)), (edge + 6, (c, new))] }
  else { s with cpDue := s.cpDue ++ [(edge + 4, (c, new))] }

/-- A decided tick at a loop edge (R292-R296). [Log 58 DEDUCED] -/
def State.decideTick (s : State) (c edge : Nat) (uv : Rat) : State :=
  let (tlo, thi, h) := s.cpLimits c
  let wasLo := s.cp c CP_STATUS.LO_CROSSED == 1
  let wasHi := s.cp c CP_STATUS.HI_CROSSED == 1
  let lo := decideThr wasLo uv tlo h
  let hi := decideThr wasHi uv thi h
  let s := ((s.setCp c CP_STATUS.MUTED 0).setCp c CP_STATUS.LO_CROSSED (b2n lo)).setCp c CP_STATUS.HI_CROSSED (b2n hi)
  let s := s.incWrap (cpPage c) CP_STATUS.TICKS (c % 32)
  let k := (aget s.cpSettle c).getD 0
  let s := if k < 3 then { s with cpSettle := aput s.cpSettle c (k + 1) } else s
  let s := if k == 2 then (s.setCp c CP_STATUS.SETTLED 1).setStatus (cpPage c) stCP_SETTLED else s
  let l := b2n lo + 2 * b2n hi
  ((s.cpPresentAt c edge (b2n wasLo + 2 * b2n wasHi) l).cpReport c l (s.tsAt edge)).countPress c lo hi

/-- The voltage at a comparator's input in uV: what its source carries, VIN_SENSE or HOLDUP_SENSE (R290, R231). -/
def State.cpInput (s : State) (c : Nat) : Rat :=
  if c == 126 || c == 127 then ((aget s.pinV (c + 2)).getD 0 : Rat) else s.volt (c / 16) (s.cmpNode c)

/-- R291: the next tick of a comparator; the one after it follows the DIV that is in force at this tick (R294).
[Log 104 DESIGN CHOICE] -/
def execComparatorTick (c : Nat) (f : Signals) (err : Int) (s : State) : Host.Outcome State Fault Refusal :=
  if !s.cpRun.contains c || !s.tbRun then .next s
  else
    let e := (aget s.cpNext c).getD (s.cpAfter c s.clk)
    let s := (s.reachClk e).flow.setField f
    let s := { s with cpNext := aput s.cpNext c (s.cpAfter c e) }
    if s.tickSkipped c then .next (s.setCp c CP_STATUS.MUTED 1) else .next (s.decideTick c e (s.cpInput c + (err : Rat)))

/-- A write of CP_CFG or CP_THR (R292, R294, R298). [Log 32 DEDUCED] -/
def State.cpWrite (s : State) (c : Nat) (thr : Bool) (v : Word) : State :=
  let p := cpPage c
  let off := CP_CFG.EN.addr p (c % 32) + 4 * b2n thr
  if thr && !s.locked p 8 && decide (sext 10 (bits v.toNat 16 10) < sext 10 (bits v.toNat 0 10)) then
    s.setStatus p stCP_REJECT
  else
    let lim := s.cpLimits c
    let s := s.plainWrite off v
    let s := if s.cpLimits c != lim then s.cpUnsettle c else s
    s.cpSync c

/-- R294: a write of a comparator's CP_CFG or CP_THR. -/
def execCpCfgWrite (m : Master) (c : Nat) (thr : Bool) (v : Word) (s : State) : Host.Outcome State Fault Refusal :=
  .next (s.gate m (CP_CFG.EN.addr (cpPage c) (c % 32) + 4 * b2n thr) fun s =>
    if c < 128 then s.cpWrite c thr v else s)

/-- The 40 bytes of a snapshot record (R297). -/
def State.snapRecord (s : State) (time : Time) : List Byte :=
  leBytes 8 time.toNat ++
    (List.range 8).flatMap fun w =>
      leBytes 4 ((List.range 16).map fun i => s.cpLevel (16 * w + i) * 4 ^ i).sum

/-- A snapshot record is offered at a loop edge, one for each tick at most (R297). [Log 58 DEDUCED] -/
def State.takeSnapshot (s : State) (edge : Nat) : State :=
  if s.snapLast == some (tickOf edge) then s
  else
    let s := { s with snapLast := some (tickOf edge) }
    let (lost, s) := s.offerItem srcSnapshot (s.snapRecord (s.tsAt edge)) (s.tsAt edge)
    if lost then (s.incSat (pgCP 0) CP_SNAP_LOST).setStatus (pgCP 0) stSNAP_LOST else s

/-- R297: an event of the snapshot timer, or the end of a whole microsecond of the timebase, makes a snapshot due.
[Log 58 DEDUCED] -/
def execSnapshot (timer : Bool) (s : State) : Host.Outcome State Fault Refusal :=
  let on (s : State) : Bool := s.pageOn (pgCP 0) && s.flag (pgCP 0) CP_SNAP.EN && s.tbRun
  if timer then
    match s.takeTrig (· == .snap) with
    | none => .next s
    | some (e, s) => .next (if on s then (s.reachClk e.clk).takeSnapshot e.clk else s)
  else if !s.tbRun then .next s
  else
    let s := s.reachClk (s.beat none 0 1000)
    let ch := s.cpChanged
    let s := { s with cpChanged := false }
    .next (if ch && on s && s.flag (pgCP 0) CP_SNAP.ON_CHANGE then s.takeSnapshot s.clk else s)

end Sys2Proof.Machine
end

