-- ==== Sys2Proof/Machine/Power.lean ====
section
/-!
DEFINITION. The commands of power and board sequencing (chapter 18, R71-R73).
-/
namespace Sys2Proof.Machine
open Sys2Proof F

-- PMBus command codes (PRESUMED: the PMBus specification's numbers)
/-- [Log 13 PRESUMED] -/
def pmbVOUT_COMMAND : Nat := 0x21
/-- [Log 13 PRESUMED] -/
def pmbREAD_VOUT : Nat := 0x8B
/-- [Log 13 PRESUMED] -/
def pmbSTATUS_WORD : Nat := 0x79

-- Domains ------------------------------------------------------------------------------------------------------

/-- R521, R522: a domain that ramps is on; the next waiting request takes its place. [Log 78 DEDUCED] -/
def execDomainOn (d : Nat) (s : State) : Host.Outcome State Fault Refusal :=
  if !s.domWanted d || s.domOn d || !s.admitRamps.ramps.contains d then .next s
  else
    let s := (s.admitRamps.domUp d).admitRamps
    let s := if 32 ≤ d ∧ d < 40 ∧ s.flag (pgAS (d - 32)) PG_CTRL.EN then s.checkWords State.resetChecked (d - 32) else s
    .next s.bootPoll

/-- R521: a domain that nothing asks for goes off once every page of it is idle. [Log 5 DESIGN CHOICE, 78 DEDUCED] -/
def execDomainOff (d : Nat) (s : State) : Host.Outcome State Fault Refusal :=
  if !decide (d < 64) || !s.domOn d || s.domWanted d ||
      !(((domPages d).filter s.present).all s.pageIdle) then .next s
  else
    let s' := s.domDown d
    .next (if s.power == powerDOZE && s.dozeMasked d && s.domAsked d then { s' with dozeOff := d :: s'.dozeOff } else s')

/-- R550: a domain is not on within 100 us of its request. -/
def execDomainOnTimeout (d : Nat) (s : State) : Host.Outcome State Fault Refusal :=
  .next (if s.domWanted d && !s.domOn d then s.raiseOwn pgPWR 2 (BitVec.ofNat 32 d) else s)

-- Power states --------------------------------------------------------------------------------------------------

/-- The device returns from DOZE to RUN (R525); pads stay held until every bank that DOZE switched off is back. A
request for the state in which the device is has nothing to do and is done (DEDUCED). [Log 34 DEDUCED] -/
def State.toRun (s : State) : State :=
  if s.power == powerDOZE then
    let s := s.set pgPWR PWR_STATE.CURRENT powerRUN
    let s := if s.dozeOff.isEmpty then s.releaseAll 2 else s.dozeSync
    s.admitRamps.setStatus pgPWR stSTATE_DONE
  else if s.power == powerRUN then s.setStatus pgPWR stSTATE_DONE
  else s

/-- DOZE is entered, or rejected (R525); domains of its mask that the device keeps on are refused (R523).
[Log 34 DEDUCED] -/
def State.toDoze (s : State) : State :=
  if s.couch.isSome || s.press.isSome || s.safe || s.holdEntry then s.setStatus pgPWR stPWR_REJECT
  else if s.power == powerDOZE then s.setStatus pgPWR stSTATE_DONE
  else if s.power != powerRUN then s
  else
    let s := { s.holdAll 2 with dozeOff := [] }.set pgPWR PWR_STATE.CURRENT powerDOZE
    let s := s.each [46, 56] fun s d => if s.dozeMasked d && s.domKept d && s.domOn d then s.refuseOff d else s
    s.setStatus pgPWR stSTATE_DONE

/-- The way to HOLD (R526): a host-command press that ends in HOLD, or with the press disabled the park.
[Log 79 DEDUCED] -/
def State.toHold (s : State) : State :=
  if s.power == powerHOLD || s.press.isSome then s
  else if s.flag pgPR RS_PR_CTRL.EN then s.pressStart 4 true
  else { s with holdEntry := true }

/-- R525: PWR_STATE written with GO = 1 and TARGET = 0. -/
def execPwrRun (m : Master) (s : State) : Host.Outcome State Fault Refusal :=
  .next (s.gateF m pgPWR PWR_STATE.GO 0 fun s => (s.set pgPWR PWR_STATE.TARGET 0).toRun)

/-- R525: PWR_STATE written with GO = 1 and TARGET = 1. -/
def execPwrDoze (m : Master) (s : State) : Host.Outcome State Fault Refusal :=
  .next (s.gateF m pgPWR PWR_STATE.GO 0 fun s => (s.set pgPWR PWR_STATE.TARGET 1).toDoze)

/-- R526: PWR_STATE written with GO = 1 and TARGET = 2. -/
def execPwrHold (m : Master) (s : State) : Host.Outcome State Fault Refusal :=
  .next (s.gateF m pgPWR PWR_STATE.GO 0 fun s => (s.set pgPWR PWR_STATE.TARGET 2).toHold)

/-- R525: a wake source enabled in PWR_WAKE.DOZE ends DOZE. -/
def execDozeWake (src : Nat) (s : State) : Host.Outcome State Fault Refusal :=
  if s.power == powerDOZE && decide (src < 4) && bit (s.get pgPWR PWR_WAKE.DOZE) src then
    .next (s.toRun.setStatus pgPWR stWAKE)
  else .next s

/-- HOLD ends by a chip reset (R527), which waits for the supplies. [Log 75 DEDUCED, 79 DEDUCED] -/
def State.wakeHold (s : State) (cause : Nat) : State :=
  if s.power != powerHOLD then s
  else if s.suppliesOk then (s.chipReset (plainCause cause)).startUp
  else { s with leaveHold := some cause }.setStatus pgPWR stWAKE

/-- R527: a write of PWR_STATE.WAKE over MGMT_SPI or MGMT_I2C. -/
def execWake (m : Master) (s : State) : Host.Outcome State Fault Refusal :=
  .next (s.gateF m pgPWR PWR_STATE.WAKE 0 fun s => if m = .mgmtSpi ∨ m = .mgmtI2c then s.wakeHold 4 else s)

/-- R527: PWR_FAIL# high for 10 ms. -/
def execHoldPfailWake (s : State) : Host.Outcome State Fault Refusal :=
  .next (if s.flag pgPWR PWR_WAKE.HOLD_PFAIL then s.wakeHold 4 else s)

/-- R527: VIN_SENSE above PWR_HOLD_VIN for 10 ms. -/
def execHoldVinWake (mv : Nat) (s : State) : Host.Outcome State Fault Refusal :=
  .next (if s.flag pgPWR PWR_WAKE.HOLD_VIN && decide (s.get pgPWR PWR_HOLD_VIN < mv) then s.wakeHold 4 else s)

-- Supplies ------------------------------------------------------------------------------------------------------

/-- VDD_AON has fallen (R530): nothing of the device works, and all but the stores is lost (R457). -/
def State.aonFall (s : State) : State :=
  let r := s.resetRegs (fun _ => true) true
  let x : State := { s.bareReset with
    regs := r.regs, unpowered := true, hostRst := true, hostRstDue := if s.hostRst then s.hostRstDue else some true }
  x.set pgPWR PWR_SUPPLY.VALID (Nat.land (s.get pgPWR PWR_SUPPLY.VALID) 0x7FB)

/-- R530: VDD_AON falls. -/
def execVddAonFall (s : State) : Host.Outcome State Fault Refusal := .next s.aonFall

/-- R530: a counted supply stays below its falling threshold for 1 us. In HOLD, and while the device is in OFF, only its
VALID bit follows. -/
def State.loseSupply (s : State) (n : Nat) : State :=
  if !bit (validSupplies s.variant) n then s
  else if n == 2 then (if s.unpowered then s else s.aonFall)
  else
    let s := s.setMaskBit pgPWR PWR_SUPPLY.VALID n false
    if s.power == powerHOLD || s.unpowered then s
    else ((s.setMaskBit pgPWR PWR_SUPPLY.LOST n true).supplyReset).setStatus pgPWR stSUPPLY_LOST

def execSupplyLost (n : Nat) (s : State) : Host.Outcome State Fault Refusal :=
  .next (if n < 11 then s.loseSupply n else s)

/-- A counted supply becomes valid (R529, R1): any order is taken, VDD_AON the last of them included; the last one that
becomes valid starts start-up (t0), or the chip reset that leaves HOLD (R527). -/
def State.supplyUp (s : State) (n : Nat) : State :=
  if n == 2 || !bit (validSupplies s.variant) n || s.maskBit pgPWR PWR_SUPPLY.VALID n then s
  else
    let s := s.setMaskBit pgPWR PWR_SUPPLY.VALID n true
    if s.unpowered || !s.suppliesOk then s
    else
      match s.leaveHold with
      | some c => (s.chipReset (plainCause c)).startUp
      | none => if s.power == powerHOLD then s else s.startUp

/-- R529, R530, R527: a counted supply other than VDD_AON becomes valid; VDD_AON does by POWER_ON_RESET.
[Log 79 DEDUCED] -/
def execSupplyValid (n : Nat) (s : State) : Host.Outcome State Fault Refusal := .next (s.supplyUp n)

-- PMBus (R71-R73, R532-R534) --------------------------------------------------------------------------------------

/-- VDD_CORE as last set: the last step sent, or the regulator's 800 mV before any (R533). [Log 39 DEDUCED] -/
def State.vcoreNow (s : State) : Nat :=
  if s.get pgPMB PWR_VCORE_STEP == 0 then 800 else s.get pgPMB PWR_VCORE_STEP

/-- The target towards which steps go (R71). [Log 39 DEDUCED] -/
def State.vcoreTo (s : State) : Nat := clampN 650 (s.get pgPMB PWR_VCORE_LIMIT) s.vcoreGoal

/-- Steps are being sent. [Log 39 DEDUCED] -/
def State.vcoreRuns (s : State) : Bool :=
  s.flag pgPMB PWR_PMB_CFG.EN && !s.flag pgPMB PWR_PMB_STATUS.STOPPED && !s.pmbHeld && s.power != powerHOLD

/-- AT_TARGET and STEPPING of PWR_PMB_STATUS. [Log 39 DEDUCED] -/
def State.syncVcore (s : State) : State :=
  let here := s.vcoreNow == s.vcoreTo
  (s.set pgPMB PWR_PMB_STATUS.AT_TARGET (b2n (s.flag pgPMB PWR_PMB_CFG.EN && here))).set pgPMB
    PWR_PMB_STATUS.STEPPING (b2n (s.vcoreRuns && !here))

/-- A transaction has failed three times (R534). -/
def State.pmbFail (s : State) (fails cmd : Nat) : State :=
  let s := s.addSat pgPMB PWR_PMB_STATUS.ERRORS fails
  if fails < 3 then s
  else
    s.raiseOwn pgPMB 0 (BitVec.ofNat 32 cmd) fun s =>
      (s.set pgPMB PWR_PMB_STATUS.STOPPED 1).set pgPMB PWR_PMB_STATUS.STEPPING 0

/-- R71: the next VOUT_COMMAND, a step of at most 10 mV. -/
def execVcoreStep (ack : Bool) (s : State) : Host.Outcome State Fault Refusal :=
  if !s.vcoreRuns || s.vcoreNow == s.vcoreTo then .next s
  else if !ack then .next (s.pmbFail 3 pmbVOUT_COMMAND)
  else
    let v := s.vcoreNow
    let g := s.vcoreTo
    let n := if v < g then min g (v + 10) else max g (v - 10)
    let s := (s.set pgPMB PWR_VCORE_STEP n).syncVcore
    .next (if n == g then s.setStatus pgPMB stAT_TARGET else s)

/-- A write of PWR_VCORE_TARGET (R71, R73, R534). -/
def State.vcoreTarget (s : State) (v : Nat) : State :=
  let lim := s.get pgPMB PWR_VCORE_LIMIT
  let s := s.set pgPMB PWR_VCORE_TARGET (clampN 650 lim v)
  let s := if lim < v then s.setStatus pgPMB stLIMITED else s
  if s.pmbHeld then s
  else
    let s := { s with vcoreGoal := clampN 650 lim v }.set pgPMB PWR_PMB_STATUS.STOPPED 0
    let s := s.syncVcore
    if s.flag pgPMB PWR_PMB_STATUS.AT_TARGET then s.setStatus pgPMB stAT_TARGET else s

def execPwrVcoreTarget (m : Master) (v : Word) (s : State) : Host.Outcome State Fault Refusal :=
  .next (s.gateF m pgPMB PWR_VCORE_TARGET 0 fun s => s.vcoreTarget (v.toNat % 2 ^ 16))

/-- R532: the readings of the 1 ms poll; `fails` failed transactions, the last of command `cmd`. -/
def execPmbusPoll (vout iout word fails cmd : Nat) (s : State) : Host.Outcome State Fault Refusal :=
  if !s.flag pgPMB PWR_PMB_CFG.EN || s.unpowered then .next s
  else if 3 ≤ fails then .next (s.pmbFail fails cmd)
  else
    let s := (s.pmbFail fails cmd).set pgPMB PWR_VCORE_READ.VOUT vout
    .next ((s.set pgPMB PWR_VCORE_READ.IOUT iout).set pgPMB PWR_PMB_STATUS.WORD word)

/-- READ_VOUT differs from the last step sent by more than 25 mV (R534). -/
def State.voutOff (s : State) : Bool :=
  decide (s.vcoreNow + 25 < s.get pgPMB PWR_VCORE_READ.VOUT) || decide (s.get pgPMB PWR_VCORE_READ.VOUT + 25 < s.vcoreNow)

/-- R534: READ_VOUT has differed from the last step by more than 25 mV for 1 ms. -/
def execVoutMismatch (s : State) : Host.Outcome State Fault Refusal :=
  .next (if s.flag pgPMB PWR_PMB_CFG.EN && s.voutOff then s.raiseOwn pgPMB 1 (BitVec.ofNat 32 pmbREAD_VOUT) else s)

/-- R534: PMB_ALERT# goes low. -/
def execPmbAlert (s : State) : Host.Outcome State Fault Refusal :=
  .next (if s.flag pgPMB PWR_PMB_CFG.EN then s.raiseOwn pgPMB 2 (BitVec.ofNat 32 pmbSTATUS_WORD) else s)

-- Rail sequencer (R535-R540) ---------------------------------------------------------------------------------------

/-- The sequencer runs plans: hardware mode (R540). -/
def State.seqHw (s : State) : Bool := !s.hostAssisted pgSEQ

/-- The plan has no further step: DONE. -/
def State.seqFinish (s : State) : State :=
  let s := { s with seqPhase := .idle }.set pgSEQ SEQ_STATUS.RUNNING 0
  (s.set pgSEQ SEQ_STATUS.DONE 1).setStatus pgSEQ stSEQ_DONE

/-- HOST_RESET#'s delay starts after step SEQ_CTRL.HOST_STEP (R536). -/
def State.seqHost (s : State) (k : Nat) : State :=
  if s.get pgSEQ SEQ_CTRL.HOST_STEP == k then { s with hostDelay := true } else s

/-- The plan goes on with the first of the steps given that has rails; with EN = 0 it pauses before it (R553). -/
def State.seqFrom : List Nat → State → State
  | [], s => s.seqFinish
  | k :: r, s =>
    if (s.stepRails k).isEmpty then State.seqFrom r (s.seqHost k)
    else if s.flag pgSEQ PG_CTRL.EN then { s with seqPhase := .delay k }.set pgSEQ SEQ_STATUS.STEP k
    else { s with seqPhase := .paused k }

/-- The steps of the plan from step `k` on. -/
def stepsFrom (k : Nat) : List Nat := (List.range 16).filter (decide <| k ≤ ·)

/-- A step ends (R536). -/
def State.seqStepDone (s : State) (k : Nat) : State := State.seqFrom (stepsFrom (k + 1)) (s.seqHost k)

/-- SEQ_CTRL.START (R536). -/
def State.seqStart (s : State) : State :=
  let failed := s.flag pgSEQ SEQ_STATUS.FAILED
  if !s.seqHw || !s.accepts pgSEQ || s.flag pgSEQ SEQ_STATUS.RUNNING then s
  else if s.flag pgSEQ SEQ_STATUS.DONE && !failed then s
  else
    let s := if failed then (s.set pgSEQ SEQ_STATUS.FAILED 0).setReg (SEQ_FAIL.VALID.addr pgSEQ 0) 0 else s
    let s := (s.set pgSEQ SEQ_STATUS.DONE 0).set pgSEQ SEQ_STATUS.RUNNING 1
    State.seqFrom (stepsFrom 0) s

def execSeqStart (m : Master) (s : State) : Host.Outcome State Fault Refusal :=
  .next (s.gateF m pgSEQ SEQ_CTRL.START 0 State.seqStart)

/-- R536: the delay of a step has passed: its rails are enabled at one tick, and those with PG_USE are awaited. -/
def execRailStepDelay (s : State) : Host.Outcome State Fault Refusal :=
  match s.seqPhase with
  | .delay k =>
    let set := s.stepRails k
    let s := s.setRails (set.foldl (fun m r => Nat.lor m (2 ^ r)) (s.get pgSEQ SEQ_STATUS.ENABLED))
    let wait := set.filter fun r => s.get pgSEQ SEQ_RAIL.PG_USE r == 1 && !s.maskBit pgSEQ SEQ_PG r
    .next (if wait.isEmpty then s.seqStepDone k else { s with seqPhase := .waitPg k wait })
  | _ => .next s

/-- R536: RAIL_PG of a rail goes high. [Log 5 DESIGN CHOICE] -/
def execRailPg (r : Nat) (s : State) : Host.Outcome State Fault Refusal :=
  if 16 ≤ r then .next s
  else
    let s := s.setMaskBit pgSEQ SEQ_PG r true
    match s.seqPhase with
    | .waitPg k l =>
      let l' := l.filter (· != r)
      .next (if l'.isEmpty then s.seqStepDone k else { s with seqPhase := .waitPg k l' })
    | _ => .next s

/-- The enabled rails of the highest step among those enabled, and that step. -/
def State.topRails (s : State) : Option (Nat × List Nat) :=
  let on := maskList (s.get pgSEQ SEQ_STATUS.ENABLED) 16
  match on.map fun r => s.get pgSEQ SEQ_RAIL.STEP r with
  | [] => none
  | k :: l =>
    let top := l.foldl max k
    some (top, on.filter fun r => s.get pgSEQ SEQ_RAIL.STEP r == top)

/-- The rails of the highest enabled step disabled; those below follow after their delay (R537). [Log 80 DEDUCED] -/
def State.failOff (s : State) : State :=
  match s.topRails with
  | none => { s with seqPhase := .idle }
  | some (_, l) =>
    let s := s.setRails (l.foldl (fun m r => m - 2 ^ r) (s.get pgSEQ SEQ_STATUS.ENABLED))
    match s.topRails with
    | none => { s with seqPhase := .idle }
    | some (k, _) => { s with seqPhase := .failOff k }

/-- A failing rail (R537). In host-assisted mode it is reported and no level changes (R540). [Log 80 DEDUCED] -/
def State.seqFail (s : State) (src r : Nat) : State :=
  s.raiseOwn pgSEQ src (BitVec.ofNat 32 r) fun s =>
    let s := (s.set pgSEQ SEQ_FAIL.VALID 1).set pgSEQ SEQ_FAIL.RAIL r
    if !s.seqHw then s
    else
      let shutting := match s.seqPhase with | .failOff _ => true | _ => false
      let s := (s.set pgSEQ SEQ_STATUS.RUNNING 0).set pgSEQ SEQ_STATUS.FAILED 1
      let s := s.setStatus pgSEQ stSEQ_FAILED
      if shutting then s
      else
        let s := { s with seqPhase := .idle, hostDelay := false }
        if s.flag pgSEQ SEQ_CTRL.FAIL_OFF then (s.setHostRst true).failOff else s

/-- R536, R537: the power-good timeout of a rail. A step awaits its rails one after the other, so that only the first that is
not good yet can time out. [Log 80 DEDUCED] -/
def execPgTimeout (r : Nat) (s : State) : Host.Outcome State Fault Refusal :=
  match s.seqPhase with
  | .waitPg _ l => .next (if l.head? == some r then s.seqFail 0 r else s)
  | _ => .next s

/-- R537: RAIL_PG of a rail has been low for 10 us. -/
def execPgLoss (r : Nat) (s : State) : Host.Outcome State Fault Refusal :=
  if 16 ≤ r || !s.maskBit pgSEQ SEQ_PG r then .next s
  else
    let s := s.setMaskBit pgSEQ SEQ_PG r false
    .next (if s.maskBit pgSEQ SEQ_STATUS.ENABLED r then s.seqFail 1 r else s)

/-- R537: the delay of the rails just disabled has passed in a failure shutdown. -/
def execRailOffDelay (s : State) : Host.Outcome State Fault Refusal :=
  match s.seqPhase with
  | .failOff _ => .next s.failOff
  | _ => .next s

/-- R536, R538: SEQ_HOST_DELAY has passed: HOST_RESET# is released. [Log 88 DESIGN CHOICE] -/
def execHostDelayExpiry (s : State) : Host.Outcome State Fault Refusal :=
  .next (if s.hostDelay && s.seqHw then { s with hostDelay := false }.setHostRst false else s)

/-- R538: SEQ_CTRL.OFF. [Log 80 DEDUCED] -/
def execSeqOff (m : Master) (s : State) : Host.Outcome State Fault Refusal :=
  .next (s.gateF m pgSEQ SEQ_CTRL.OFF 0 fun s =>
    if s.seqHw && s.flag pgSEQ PG_CTRL.EN then s.railsOff false else s)

/-- R538: SEQ_CTRL.HOST_PULSE. [Log 80 DEDUCED] -/
def execHostPulse (m : Master) (s : State) : Host.Outcome State Fault Refusal :=
  .next (s.gateF m pgSEQ SEQ_CTRL.HOST_PULSE 0 fun s =>
    if s.seqHw && s.flag pgSEQ PG_CTRL.EN then { s.setHostRst true with hostDelay := true } else s)

/-- SEQ_MANUAL in force (R540, R553). -/
def State.manualOn (s : State) : State :=
  if s.hostAssisted pgSEQ && s.flag pgSEQ PG_CTRL.EN then
    (s.setRails (s.get pgSEQ SEQ_MANUAL.RAILS)).setHostRst (!s.flag pgSEQ SEQ_MANUAL.HOST)
  else s

/-- R540: a write of SEQ_MANUAL. -/
def execSeqManual (m : Master) (v : Word) (s : State) : Host.Outcome State Fault Refusal :=
  .next (s.gateF m pgSEQ SEQ_MANUAL.RAILS 0 fun s => (s.plainWrite (SEQ_MANUAL.RAILS.addr pgSEQ 0) v).manualOn)

/-- SEQ PG_CTRL.EN has become 1 (R553): a paused plan goes on, or in host-assisted mode SEQ_MANUAL is in force. -/
def State.seqResume (s : State) : State :=
  if !s.flag pgSEQ PG_CTRL.EN then s
  else if !s.seqHw then s.manualOn
  else
    match s.seqPhase with
    | .paused k => State.seqFrom (stepsFrom k) s
    | _ => s

-- Temperature (R545) -----------------------------------------------------------------------------------------------

/-- One die's sample: 0 digital, 1 analogue. Above 130 degrees for 1 ms (eleven samples, 100 us apart) is source 0,
above 140 degrees source 1; each is raised once until a sample lies below again. [Log 81 DEDUCED] -/
def State.dieTemp (s : State) (die : Nat) (t : Int) : State :=
  let run := (aget s.tempRun die).getD 0
  let hot := (aget s.tempRun (100 + die)).getD 0
  let run' := if 1040 < t then min (run + 1) 12 else 0
  let s := { s with tempRun := if run' = 0 then adel s.tempRun die else aput s.tempRun die run' }
  let s := { s with tempRun := if 1120 < t then aput s.tempRun (100 + die) 1 else adel s.tempRun (100 + die) }
  let s := if (s.get pgPWR PWR_TEMP_WARN : Int) < t then s.setStatus pgPWR stTEMP_WARN else s
  let s := if run' == 11 then s.raiseOwn pgPWR 0 (BitVec.ofNat 32 die) else s
  if 1120 < t && hot == 0 then s.raiseOwn pgPWR 1 (BitVec.ofNat 32 die) else s

/-- R545: the die temperatures, in 0.125 degrees. [Log 81 DEDUCED] -/
def execTempSample (dig ana : Int) (s : State) : Host.Outcome State Fault Refusal :=
  if s.unpowered then .next s
  else
    let s := (s.set pgPWR PWR_TEMP.DIG (trunc 16 dig)).set pgPWR PWR_TEMP.ANA (trunc 16 ana)
    .next ((s.dieTemp 0 dig).dieTemp 1 ana)

end Sys2Proof.Machine
end

