-- ==== Sys2Proof/Machine/Scheduler.lean ====
section
/-!
DEFINITION. The scheduler's commands (chapter 12).
-/
namespace Sys2Proof.Machine
open Sys2Proof F

-- Dispatch (R338-R343, R354, R563) ------------------------------------------------------------------------

/-- The worker is available (R338); on a device in role 2 or 4 only fabric ports and stream engines are
dispatched to (R478). -/
def State.wkrAvailable (s : State) (w : Nat) : Bool :=
  wkrPresent s.variant w && s.get pgWKR SCH_WKR.EN w == 1 && s.get pgWKR SCH_WKR.BOUND w == 1 &&
    s.get pgWKR SCH_WKR.SUSP w == 0 && decide ((s.inHand w).length < wkrDepth w) &&
    (match wkrKind w with
      | .host q => s.cqRoom q && s.noNotice q && !s.shadowed
      | .mp _ => !s.shadowed
      | _ => true)

/-- Dispatch runs: the workers page is enabled and the device is not in the safe state (R343). -/
def State.dispatchOn (s : State) : Bool := s.runs pgWKR && !s.safe

/-- Insertion of a task into a list ordered by priority, then readiness. -/
def insReady (t : Task) : List Task → List Task
  | [] => [t]
  | u :: r => if t.prio < u.prio ∨ (t.prio = u.prio ∧ t.readySeq < u.readySeq) then t :: u :: r else u :: insReady t r

/-- The ready tasks of a group, by priority, then oldest first (R340). -/
def State.readyOf (s : State) (g : Nat) : List Task :=
  (s.tasks.filter fun t => t.group == g && t.st == .ready).foldr insReady []

/-- The available workers of a group, ascending. -/
def State.wkrsOf (s : State) (g : Nat) : List Nat :=
  (List.range 256).filter fun w => s.get pgWKR SCH_WKR.GROUP w == g && s.wkrAvailable w

/-- The task of a group that worker `w` takes: the head of the ready lists (R340), or in affinity dispatch the
selection of R341. -/
def State.select (s : State) (g w : Nat) : Option Task :=
  if s.get pgSCH SCH_CTRL.MODE == 0 then (s.readyOf g).head?
  else
    ((s.readyOf g).take 16).find? fun t =>
      let lw := s.flowGet t.flow FLOW.LAST_WORKER
      s.flowGet t.flow FLOW.LW_VALID == 0 || lw == w || s.get pgWKR SCH_WKR.GROUP lw != g ||
        s.get pgWKR SCH_WKR.EN lw == 0 || decide (s.get pgSCH SCH_AFF_WAIT ≤ s.now - t.readyAt.toNat)

/-- The descriptor words that an 8-bit word mask selects, ascending. -/
def maskWords (mask : Nat) (l : List Word) : List Word :=
  (List.range 8).filterMap fun i => if bit mask i then l[i]? else none

/-- A task offered to a worker (R340): a stream engine accepts at the offer itself (R562). -/
def State.offer (s : State) (t : Task) (w : Nat) : State :=
  let st : TaskState := match wkrKind w with | .stream _ => .running | _ => .dispatched
  let t' := { t with st := st, worker := some w, dispAt := s.ts, prog := false }
  let s := s.putTask t t'
  let s := (s.flowSet t.flow FLOW.LW_VALID 1).flowSet t.flow FLOW.LAST_WORKER w
  let s := s.incWrap pgSCH SCH_DISPATCHES
  let s :=
    match wkrKind w with
    | .port _ _ => { s with dispOut := aput s.dispOut w (maskWords ((aget s.wkrMask w).getD 0) t'.words) }
    | _ => s
  (s.syncTask t').trace t' 1 0 w

/-- One native or affinity dispatch decision for a group: the lowest available worker that finds a task. -/
def State.dispatchOne (s : State) (g : Nat) : State :=
  match (s.wkrsOf g).findSome? fun w => (s.select g w).map fun t => (t, w) with
  | none => s
  | some (t, w) => s.offer t w

/-- A host-assisted request (R354): the lowest available worker with a ready task in its group, and the eight
tasks that native dispatch would take first. After NONE it waits until another task is ready or another worker
available. -/
def State.haRequest (s : State) : State :=
  if s.flag pgSCH SCH_HA_REQ.PENDING || (s.haSkip && (List.range 256).all fun w => !s.wkrAvailable w || s.haSeen.contains w) then s
  else
    match (List.range 256).find? fun w =>
        s.wkrAvailable w && !(s.readyOf (s.get pgWKR SCH_WKR.GROUP w)).isEmpty with
    | none => s
    | some w =>
      let g := s.get pgWKR SCH_WKR.GROUP w
      let l := (s.readyOf g).take 8
      let s := ((s.set pgSCH SCH_HA_REQ.PENDING 1).set pgSCH SCH_HA_REQ.WORKER w).set pgSCH SCH_HA_REQ.GROUP g
      let s := s.each (List.range 8) fun s k =>
        match l[k]? with
        | none => s.setReg (SCH_HA_CAND.VALID.addr pgSCH k) 0
        | some t =>
          ((s.set pgSCH SCH_HA_CAND.VALID 1 k).set pgSCH SCH_HA_CAND.PRIO t.prio k).set pgSCH
            SCH_HA_CAND.HANDLE t.handle k
      s.setStatus pgSCH stSCH_HA_REQ

/-- R340, R341, R354: one dispatch decision. -/
def execDispatch (g : Nat) (s : State) : Host.Outcome State Fault Refusal :=
  .next (if !s.dispatchOn then s else if s.hostAssisted pgSCH then s.haRequest else s.dispatchOne g)

/-- R341: a wait reaches SCH_AFF_WAIT and dispatch runs for the task's group at that tick. -/
def execAffWaitExpiry (h : Nat) (s : State) : Host.Outcome State Fault Refusal :=
  match s.tasks.find? fun t => t.handle == h && t.st == .ready with
  | none => .next s
  | some t =>
    let s := s.reach (t.readyAt + BitVec.ofNat 64 (s.get pgSCH SCH_AFF_WAIT))
    if !s.dispatchOn || s.hostAssisted pgSCH || s.get pgSCH SCH_CTRL.MODE == 0 then .next s
    else .next (s.each (s.wkrsOf t.group) fun s _ => s.dispatchOne t.group)

/-- The task of a worker that waits to be accepted, oldest dispatch first. -/
def State.oldestOffered (s : State) (w : Nat) : Option Task :=
  (s.tasks.filter fun t => t.worker == some w && t.st == .dispatched).foldl (fun b t =>
    match b with
    | none => some t
    | some u => if t.dispAt.toNat < u.dispAt.toNat then some t else some u) none

/-- The worker ports of a bank take tasks: the bank runs, and its page is neither disabled nor quiesced (R147). The gates
that a couch closes do not bear on them: a task offered before the drain is still taken (R192). -/
def State.workerOpen (s : State) (b : Nat) : Bool :=
  s.bankRuns b && s.flag (pgFB b) PG_CTRL.EN && !s.flag (pgFB b) PG_CTRL.QUIESCE

/-- A worker port accepts the first word of a task: the dispatch channel presents the words one after another; a channel
that no consumer is attached to carries none. -/
def State.takeTask (s : State) (w : Nat) : State :=
  let s := s.nextWord w
  if s.srcFree (.port (.worker (w / 7) (w % 7))) then { s with dispOut := adel s.dispOut w } else s

/-- A worker accepts its task: RUNNING, or PARTIAL where its progress word has been written since dispatch. -/
def State.accept (s : State) (t : Task) : State :=
  s.putTask t { t with st := if t.prog then .partial' else .running }

/-- R562: a worker accepts the oldest task offered to it; a host completion queue accepts when the DISPATCH
entry is written (R346, R563). -/
def execTaskAccept (w : Nat) (s : State) : Host.Outcome State Fault Refusal :=
  match s.oldestOffered w with
  | none => .next s
  | some t =>
    match wkrKind w with
    | .port b i => .next (if s.workerOpen b && s.srcFree (.port (.worker b i)) then (s.accept t).takeTask w else s)
    | .host q =>
      if s.cqOn q && decide (s.cqUsed q + 1 < s.cqSize q) then
        let s := s.writeCq q (cqCtl 0 0 t.handle) t.w0 (t.words.drop 2)
        .next (s.accept t)
      else .next s
    | _ => .next (s.accept t)

-- Completion and release (R339, R344-R346, R357) ------------------------------------------------------------

/-- A worker completes a task with a status word (R339, R345). -/
def State.complete (s : State) (t : Task) (status : Word) : State :=
  let (q, s) := s.stamp
  let t' := { t with
    st := .complete, status := status, kind := b2n (bit status.toNat 31), compSeq := q, flag := false }
  (({ s with haSkip := false }.putTask t t').syncTask t').trace t' 2 0 (t.worker.getD 0)

/-- R339: the status word that stands on the completion channel of a fabric worker port: a late completion is counted stale,
one on a port with no task is a contained fault. -/
def execFabricCompletion (w : Nat) (s : State) : Host.Outcome State Fault Refusal :=
  let p := FabPort.worker (w / 7) (w % 7)
  if !decide (w < 0xE0) || !wkrPresent s.variant w || !s.pageOn pgSCH || !s.bankRuns (w / 7) || !s.portFull p then .next s
  else
    let status := BitVec.ofNat 32 (s.portGot p).val
    let s := s.takePort p
    let marks := (aget s.lateMark w).getD 0
    if marks ≠ 0 then
      let s := { s with lateMark := if marks = 1 then adel s.lateMark w else aput s.lateMark w (marks - 1) }
      .next (s.incSat pgSCH SCH_STALE_DONE)
    else
      match s.tasks.find? (·.inHand w) with
      | some t => .next (s.complete t status).flow
      | none => .next (s.raiseFault pgSCH 4 (BitVec.ofNat 32 w) accHAND (0x40 + w / 7))

/-- R338: the firmware completes a task that it took from its queue. -/
def execManagementProcessorCompletion (h : Nat) (status : Word) (s : State) :
    Host.Outcome State Fault Refusal :=
  match s.tasks.find? fun t =>
      t.handle == h && (t.inHand 0xE0 || t.inHand 0xE1) && t.st != .dispatched with
  | none => .next s
  | some t => .next (s.complete t status)

/-- SCH_HQq_STATUS of a master (R357). -/
def State.hqStat (s : State) (m q : Nat) : Word := (aget s.hqStatus (256 * q + m)).getD 0

/-- R357: SCH_HQq_DONE completes the named task with the master's SCH_HQq_STATUS; one that names no task held
by the queue is counted stale. -/
def State.hqDone (s : State) (m q : Nat) (v : Word) : State :=
  match s.tasks.find? fun t => t.handle == v.toNat % 2 ^ 24 && t.inHand (0xF2 + q) with
  | none => s.incSat pgSCH SCH_STALE_DONE
  | some t => s.complete t (s.hqStat m q)

def execSchHqDone (m : Master) (q : Nat) (v : Word) (s : State) : Host.Outcome State Fault Refusal :=
  .next (s.gateF m pgHQ SCH_HQ_DONE q fun s => if q < 14 then s.hqDone m.id q v else s)

/-- The task of a flow whose release turn has come (R344): the first of an ordered flow once COMPLETE, else the
task of the flow that completed first. -/
def State.turn (s : State) (f : Nat) : Option Task :=
  let l := s.tasks.filter fun t => t.flow == f
  if s.flowOrdered f then l.head?.filter fun t => t.st == .complete
  else
    (l.filter fun t => t.st == .complete).foldl (fun b t =>
      match b with
      | none => some t
      | some u => if t.compSeq < u.compSeq then some t else some u) none

/-- Word 5 of a RELEASE entry: the worker, or bit [8] for a task that was never dispatched (R346). -/
def relWorker (t : Task) : Word := BitVec.ofNat 32 (match t.worker with | some w => w | none => 0x100)

/-- A release record delivered to its target; `none` while the target has no room (R346).
[Log 63 DEDUCED, 64 DEDUCED] -/
def State.deliverRel (s : State) (t : Task) : Option State :=
  let tg := s.flowRelease t.flow
  let host := decide (1 ≤ tg) && decide (tg ≤ 0x0E)
  let mp := tg == 0x10 || tg == 0x11
  let st := decide (0x20 ≤ tg) && decide (tg < 0x28)
  let skip := match aget s.ckptSkip t.flow with | none => false | some c => decide (t.time.toNat ≤ c.toNat)
  if (host || mp || st) && s.shadowed then some (s.incSat pgTW TW_REL.SUPPRESSED)
  else if skip then some (s.incSat pgTW TW_REL.SKIPPED)
  else
    let s := { s with ckptSkip := adel s.ckptSkip t.flow }
    if host then
      let q := tg - 1
      let s := s.writeNotice q
      if s.noNotice q && s.cqRoom q then
        some (s.writeCq q (cqCtl 1 t.kind t.handle) t.w0
          [s.ts.setWidth 32, (s.ts >>> 32).setWidth 32, t.status, relWorker t])
      else none
    else if mp then some { s with mpRel := (tg - 0x10, (t.handle, t.kind)) :: s.mpRel }
    else if st && t.kind == 0 then some (s.strobeRise (tg - 0x20))
    else some s

/-- R344, R346: the next release of a flow is delivered; the record is free, HELD tasks open and waiting
submissions are served. A primary's release is checkpointed to its peer (R477). -/
def execRelease (f : Nat) (s : State) : Host.Outcome State Fault Refusal :=
  match s.turn f with
  | none => .next s
  | some t =>
    match s.deliverRel t with
    | none => .next s
    | some s =>
      let s := s.flowSet f FLOW.RELEASES (wrapInc 16 (s.flowGet f FLOW.RELEASES))
      let s := s.trace t 3 t.kind (t.worker.getD 0)
      let s := ((s.dropTask t).openHeld f).syncTask t
      let s := s.twinCheckpoint f t.time
      .next s.serveWaiting

-- Sources (R332-R337) -------------------------------------------------------------------------------------

/-- An event that finds its pending slot full is discarded (R333); a filter chain counts its own (R288).
[Log 65 DEDUCED] -/
def State.discardHw (s : State) (src : Nat) : State :=
  if 0x080 ≤ src ∧ src < 0x0C0 then s.chainEventLost (src - 0x080)
  else
    ((s.incSat pgSCH SCH_HW_LOST.COUNT).set pgSCH SCH_HW_LOST.SRC src).setStatus pgSCH stSCH_HW_LOST

/-- R332, R333: the scheduler takes the oldest event that a hardware source has raised: a task, or the pending
slot, or a discard. -/
def execHwSourceEvent (src : Nat) (s : State) : Host.Outcome State Fault Refusal :=
  match s.hwDue.find? fun e => e.1 == src with
  | none => .next s
  | some (c, e) =>
    let s := { s with hwDue := s.hwDue.erase (c, e) }
    if (aget s.hwSlot src).isSome then .next (s.discardHw src)
    else
      let (w0, p) := s.hwDesc src e
      if !s.schAccepts then .next { s with hwSlot := aput s.hwSlot src e }
      else if s.recFree (dPrio w0) then .next (s.enqueue w0 e.time p src).2
      else .next ({ s with hwSlot := aput s.hwSlot src e }.traceStall src 0 w0)

/-- The refusal of a submission of a fabric port or the span link (R337). -/
def State.refuseSub (s : State) (src mas acc : Nat) : State :=
  let s := (s.incSat pgSCH SCH_REFUSED).setStatus pgSCH stSCH_REFUSED
  (s.returnHandle src 0).raiseFault pgSCH 3 (BitVec.ofNat 32 src) acc mas

/-- A submission of a fabric port or the span link, of the eight words of its descriptor: refused, enqueued, or waiting for a
record or for the scheduler to accept tasks (R334, R336, R343). -/
def State.submit (s : State) (src : Nat) (l : List Word) (mas acc : Nat) : State :=
  let w0 := payWord l 0
  let (t, p) := subTime l
  if subRefused w0 p then s.refuseSub src mas acc
  else if !s.schAccepts then { s with subWait := aput s.subWait src l }
  else if s.recFree (dPrio w0) then
    let (h, s) := s.enqueue w0 t p src
    s.returnHandle src h
  else { s with subWait := aput s.subWait src l }.traceStall src 0 w0

/-- The eight words of the descriptor that a fabric event port submits: its words so far, with TIME (R334). -/
def subDesc (t : Time) (ws : List Word) : List Word :=
  [payWord ws 0, 0, t.setWidth 32, (t >>> 32).setWidth 32, payWord ws 1, payWord ws 2, payWord ws 3, payWord ws 4]

/-- A fabric event port takes the word that stands at it; the last one of PAYLOAD completes the submission, to the scheduler
or, at a span port, to the span link (R334, R488). -/
def State.subWord (s : State) (port pay : Nat) (t : Time) (ws : List Word) : State :=
  let p := FabPort.event (port / 8) (port % 8)
  let ws := ws ++ [BitVec.ofNat 32 (s.portGot p).val]
  if ws.length ≤ pay then { s with subIn := aput s.subIn port (t, ws) }.takePort p
  else
    let s := { s with subIn := adel s.subIn port, portIn := adel s.portIn p.key }
    (if (aget s.spanPorts port).isSome then { s with spanWait := aput s.spanWait port (subDesc t ws) }
      else s.submit (0x100 + port) (subDesc t ws) (0x40 + port / 8) accHAND).settle

/-- R334: an attached fabric event port accepts the next word of a submission. A first word is accepted while the port and
the scheduler take new work and the last handle has left; a port whose submission waits accepts none.
[Log 64 DEDUCED] -/
def execFabricSubmission (port : Nat) (s : State) : Host.Outcome State Fault Refusal :=
  let p := FabPort.event (port / 8) (port % 8)
  match aget s.eventPay port with
  | none => .next s
  | some pay =>
    if !decide (port < 256) || s.portBusy p || !s.portFull p || !s.pageOn pgSCH then .next s
    else
      match aget s.subIn port with
      | some (t, ws) => .next (if s.bankRuns (port / 8) then s.subWord port pay t ws else s)
      | none =>
        .next (if s.portOpen (port / 8) && (s.schAccepts || (aget s.spanPorts port).isSome) && s.srcFree (.port p) then
          s.subWord port pay s.ts [] else s)

/-- Records that a host queue's tasks hold (R335). -/
def State.sqRecords (s : State) (q : Nat) : Nat :=
  (s.tasks.filter fun t => t.src == 0x200 + q && t.rec?.isSome).length

/-- R335: the scheduler fetches the next descriptor of a submission queue, refuses it (R337), or enqueues it,
writes the handle into the ring entry and advances the head. A device in role 2 or 4 fetches none (R478).
[Log 64 DEDUCED] -/
def execSqFetch (q : Nat) (desc : List Byte) (s : State) : Host.Outcome State Fault Refusal :=
  let head := s.get pgHQ SCH_SQ_HEAD q
  let ws := leWords desc
  let w0 := payWord ws 0
  let p := ws.drop 4
  let t := BitVec.ofNat 64 ((payWord ws 2).toNat + (payWord ws 3).toNat * 2 ^ 32)
  if !decide (q < 14) || desc.length != 32 || !s.runs pgHQ || s.get pgHQ SCH_SQ_CFG.EN q == 0 || !s.dmaOk ||
      s.shadowed || head == s.get pgHQ SCH_SQ_TAIL q || !s.schAccepts || !s.recFree (dPrio w0) ||
      decide (s.get pgHQ SCH_SQ_CFG.CREDIT q ≤ s.sqRecords q) then .next s
  else
    let e := 2 ^ (s.get pgHQ SCH_SQ_CFG.SIZE q + 4)
    let next (s : State) : State := s.set pgHQ SCH_SQ_HEAD ((head + 1) % e) q
    if subRefused w0 p then
      let s := s.writeNotice q
      if s.noNotice q && s.cqRoom q then
        let s := (s.incSat pgSCH SCH_REFUSED).setStatus pgSCH stSCH_REFUSED
        let s := s.writeCq q (cqCtl 2 0 0) w0 [0, 0, BitVec.ofNat 32 head]
        .next (next (s.setStatus pgHQ q))
      else .next s
    else
      let (h, s) := s.enqueue w0 (if t = 0 then s.ts else t) p (0x200 + q)
      let s := s.toHost (s.get64 pgHQ SCH_SQ_BASE_LO q + 32 * head + 4) (leBytes 4 h)
      .next (next s)

/-- R358: a write of SCH_SQq_TAIL. -/
def State.sqTail (s : State) (q : Nat) (v : Word) : State :=
  let t := v.toNat % 2 ^ 16
  let e := 2 ^ (s.get pgHQ SCH_SQ_CFG.SIZE q + 4)
  let head := s.get pgHQ SCH_SQ_HEAD q
  if e ≤ t ∨ (t = head ∧ s.get pgHQ SCH_SQ_TAIL q ≠ head) then s.setStatus pgHQ stHQ_CFG_REJECT
  else s.set pgHQ SCH_SQ_TAIL t q

def execSqTailWrite (m : Master) (q : Nat) (v : Word) (s : State) : Host.Outcome State Fault Refusal :=
  .next (s.gateF m pgHQ SCH_SQ_TAIL q fun s => if q < 14 then s.sqTail q v else s)

/-- R358, R357: a write of SCH_CQq_HEAD; the vector is sent again where entries stay unconsumed. -/
def State.cqHead (s : State) (q : Nat) (v : Word) : State :=
  let h := v.toNat % 2 ^ 16
  let e := s.cqSize q
  let old := s.get pgHQ SCH_CQ_HEAD q
  let s :=
    if e ≤ h ∨ s.cqUsed q < (h + e - old) % e then s.setStatus pgHQ stHQ_CFG_REJECT
    else s.set pgHQ SCH_CQ_HEAD h q
  if s.cqUsed q != 0 && s.get pgHQ SCH_CQ_CFG.IRQ_EN q == 1 then s.sendVector (1024 + q) else s

def execCqHeadWrite (m : Master) (q : Nat) (v : Word) (s : State) : Host.Outcome State Fault Refusal :=
  .next (s.gateF m pgHQ SCH_CQ_HEAD q fun s => if q < 14 then s.cqHead q v else s)

-- Cancel (R348-R350) --------------------------------------------------------------------------------------

/-- The outcome of a cancel written to the master's SCH_CANCEL_RES. -/
def State.cancelOutcome (s : State) (m h out : Nat) : State :=
  { s with cancelRes := aput s.cancelRes m (BitVec.ofNat 32 (2 ^ 31 + out * 2 ^ 24 + h)) }.setStatus pgSCH
    stSCH_CANCEL_DONE

/-- R348: a write of SCH_CANCEL. -/
def State.cancel (s : State) (m : Nat) (v : Word) : State :=
  let h := v.toNat % 2 ^ 24
  if handleGen h == 0 || (aget s.gens (handleRec h)).getD 0 != handleGen h then s.cancelOutcome m h 4
  else
    match s.tasks.find? fun t => t.rec? == some (handleRec h) with
    | none => s.cancelOutcome m h 3
    | some t =>
      match t.st with
      | .held =>
        let s := (s.putTask t { t with withdrawn := true }).cancelOutcome m h 1
        s.trace t 4 0 0
      | .ready =>
        let (q, s) := s.stamp
        let t' := { t with st := .complete, withdrawn := true, kind := 2, compSeq := q }
        (((s.putTask t t').syncTask t').cancelOutcome m h 1).trace t 4 0 0
      | .complete => (s.cancelOutcome m h 3).trace t 4 2 (t.worker.getD 0)
      | _ =>
        let w := t.worker.getD 0
        let t' := { t with flag := true }
        let s := (s.putTask t t').syncTask t'
        let s :=
          match wkrKind w with
          | .host q => if t.flag then s else { s with notices := s.notices ++ [(q, t.handle)] }
          | _ => s
        (s.cancelOutcome m h 2).trace t 4 1 w

def execSchCancel (m : Master) (v : Word) (s : State) : Host.Outcome State Fault Refusal :=
  .next (s.gateF m pgSCH SCH_CANCEL 0 fun s => (s.cancel m.id v).flow)

/-- R350: a CANCEL entry is written once its queue has room. -/
def execCancelNotice (q : Nat) (s : State) : Host.Outcome State Fault Refusal := .next (s.writeNotice q)

/-- R354: a write of SCH_HA_DECIDE. [Log 63 DEDUCED] -/
def State.haDecide (s : State) (v : Word) : State :=
  let clear (s : State) : State :=
    s.clearRegs (pgSCH * 0x1000 + 0x064) (pgSCH * 0x1000 + 0x08C)
  let w := s.get pgSCH SCH_HA_REQ.WORKER
  let g := s.get pgSCH SCH_HA_REQ.GROUP
  if !s.hostAssisted pgSCH then s
  else if !s.flag pgSCH SCH_HA_REQ.PENDING then
    (if bit v.toNat 31 then s else s.setStatus pgSCH stSCH_HA_REJECT)
  else if bit v.toNat 31 then { clear s with haSkip := true, haSeen := (List.range 256).filter s.wkrAvailable }
  else
    match (s.readyOf g).find? fun t => t.handle == v.toNat % 2 ^ 24 with
    | none => s.setStatus pgSCH stSCH_HA_REJECT
    | some t =>
      if s.dispatchOn && s.wkrAvailable w && s.get pgWKR SCH_WKR.GROUP w == g then (clear s).offer t w
      else (clear s).setStatus pgSCH stSCH_HA_REJECT

def execHaDecide (m : Master) (v : Word) (s : State) : Host.Outcome State Fault Refusal :=
  .next (s.gateF m pgSCH SCH_HA_DECIDE.HANDLE 0 fun s => s.haDecide v)

-- Registers with rules of their own -----------------------------------------------------------------------

/-- R353: host software releases broke records that it has read. -/
def execBrokeTailWrite (m : Master) (v : Word) (s : State) : Host.Outcome State Fault Refusal :=
  .next (s.gateF m pgSCH SCH_BROKE_TAIL 0 fun s => s.set pgSCH SCH_BROKE_TAIL v.toNat)

/-- A release target of R346. -/
def relTarget (r : Nat) : Bool :=
  decide (r ≤ 0x0E) || r == 0x10 || r == 0x11 || (decide (0x20 ≤ r) && decide (r < 0x28))

/-- The writable bits of a flow table entry. -/
def flowWord (v : Word) : Word := v &&& 0xC0FF00FF#32

/-- R359: a write of the writable word of a flow table entry; lock bit [9] of page 0 locks every one. -/
def State.flowWrite (s : State) (f : Nat) (v : Word) : State :=
  s.underLock pgSCH 9 (flowWord v != s.reg (flowBase + 16 * f)) fun s =>
    if s.flowGet f FLOW.OPEN != 0 || s.flowGet f FLOW.HELD != 0 then s.setStatus pgSCH stSCH_FLOW_BUSY
    else if !relTarget (v.toNat % 256) then s.setStatus pgSCH stSCH_CFG_REJECT
    else { s.setReg (flowBase + 16 * f) (flowWord v) with flowBad := s.flowBad.filter (· != f) }

def execFlowTableWrite (m : Master) (f : Nat) (v : Word) (s : State) : Host.Outcome State Fault Refusal :=
  .next (s.gate m (flowBase + 16 * f) fun s => if f < 4096 then s.flowWrite f v else s)

/-- R343: SCH_CTRL.MODE is applied only while page 0 is disabled and holds no record. -/
def State.schMode (s : State) (v : Word) : State :=
  s.underLock pgSCH 8 (v.toNat % 2 != s.get pgSCH SCH_CTRL.MODE) fun s =>
    if s.flag pgSCH PG_CTRL.EN || s.recHeld != 0 then s.setStatus pgSCH stSCH_CFG_REJECT
    else s.set pgSCH SCH_CTRL.MODE v.toNat

def execSchCtrlMode (m : Master) (v : Word) (s : State) : Host.Outcome State Fault Refusal :=
  .next (s.gateF m pgSCH SCH_CTRL.MODE 0 fun s => s.schMode v)

/-- A write of a submission or completion queue's CFG register (R357): one that changes the size is not applied, as a
whole, while the queue is enabled, and else sets the pointers to 0. [Log 32 DEDUCED] -/
def State.hqCfg (s : State) (q : Nat) (cq : Bool) (v : Word) : State :=
  let en := if cq then SCH_CQ_CFG.EN else SCH_SQ_CFG.EN
  let size := if cq then SCH_CQ_CFG.SIZE else SCH_SQ_CFG.SIZE
  let new := s.stored pgHQ .sch3 size q (bits v.toNat size.lo size.len)
  let off := en.addr pgHQ q
  if s.locked pgHQ 8 || new == s.get pgHQ size q then s.plainWrite off v
  else if s.get pgHQ en q == 1 then s.setStatus pgHQ stHQ_CFG_REJECT
  else
    let s := s.plainWrite off v
    if cq then s.clearCq q else s.clearSq q

/-- A write of a queue's base (R357): not applied while the queue is enabled; applied, it sets the pointers to
0. [Log 19 DEDUCED] -/
def State.hqBase (s : State) (m : Master) (q : Nat) (cq : Bool) (v : Word) : State :=
  let en := if cq then SCH_CQ_CFG.EN else SCH_SQ_CFG.EN
  let hi := if cq then SCH_CQ_BASE_HI else SCH_SQ_BASE_HI
  if s.get pgHQ en q == 1 then (s.takeLow m (hi.addr pgHQ q - 4)).2.setStatus pgHQ stHQ_CFG_REJECT
  else
    let s' := s.writePair m (hi.addr pgHQ q) v
    if s.locked pgHQ 8 then s' else if cq then s'.clearCq q else s'.clearSq q

end Sys2Proof.Machine
end

