-- ==== Sys2Proof/Machine/Streams.lean ====
section
/-!
DEFINITION. The commands of streams and host rings (chapter 13).
-/
namespace Sys2Proof.Machine
open Sys2Proof F

/-- The time of an item as R366 takes it: from the source for raw and filter words and records, the tick of
acceptance for fabric words. A loss of a trace, snapshot or fault-log item, and of a raw or filter word, is also
counted by its producer (R371). -/
def State.producerLost (s : State) (src : Nat) : State :=
  if src < 0x04 then (s.incSat (pgCV src) CV_COUNTS0.LOST).setStatus (pgCV src) 8
  else if src < 0x50 then 
    (s.incSat (pgFC ((src - 0x10) / 16)) FC_COUNTS.LOST ((src - 0x10) % 16)).setStatus (pgFC ((src - 0x10) / 16)) 1
  else if src == srcTrace then (s.incSat pgTRC SCH_TRACE_LOST).setStatus pgTRC 0
  else if src == srcSnapshot then (s.incSat (pgCP 0) CP_SNAP_LOST).setStatus (pgCP 0) 2
  else (s.incSat pgTND TND_LOG.LOST).setStatus pgTND 4

/-- R371: a source presents an item to its ring, which accepts it, makes a fabric stream port wait, or loses it. A fabric
stream port presents the word that stands on its channel. [Log 66 DEDUCED] -/
def execStreamItem (src : Nat) (item : List Byte) (t : Nat) (invalid : Bool) (s : State) :
    Host.Outcome State Fault Refusal :=
  if !srcPresent s.variant src then .next s
  else if 0x80 ≤ src ∧ src < 0xA0 then .next (if s.streamReady (src - 0x80) then s.takeStream (src - 0x80) else s)
  else if item.length != formatSize (srcFormat src) then .next s
  else
    let (lost, s) := s.offerItem src item (BitVec.ofNat 64 t) (invalid && decide (src < 0x50))
    .next (if lost then s.producerLost src else s)

/-- The block in progress closes, and a waiting fabric stream port is served. -/
def State.flush (s : State) (r : Nat) : State := (s.closeBlock r).servePort r

/-- R367: FLUSH.TIMEOUT has passed since the first item. [Log 88 DESIGN CHOICE] -/
def execFlushTimeout (r : Nat) (s : State) : Host.Outcome State Fault Refusal :=
  if !decide (r < 64) || s.rget r ST_RING_FLUSH.TIMEOUT == 0 then .next s
  else
    match (s.ring r).cur with
    | none => .next s
    | some b =>
      .next ((s.reach (b.time + BitVec.ofNat 64 (1000 * s.rget r ST_RING_FLUSH.TIMEOUT))).flush r)

/-- R367: a write of ST_RINGk_FLUSH.NOW. -/
def execFlushNow (m : Master) (r : Nat) (s : State) : Host.Outcome State Fault Refusal :=
  .next (s.gateF m (ringPage r) ST_RING_FLUSH.NOW (r % 4) fun s => if r < 64 then s.flush r else s)

/-- R368: the oldest closed block is committed once there is room for it. -/
def execBlockCommit (r : Nat) (s : State) : Host.Outcome State Fault Refusal :=
  if !decide (r < 64) || !s.pageOn (ringPage r) then .next s else .next (s.commitBlock r)

/-- R369: a write of ST_RINGk_RP is applied only up to WP. -/
def State.writeRp (s : State) (r : Nat) (v : Word) : State :=
  let rp := s.rget r ST_RING_RP
  let wp := s.rget r ST_RING_WP
  if (v.toNat + 2 ^ 32 - rp) % 2 ^ 32 ≤ (wp + 2 ^ 32 - rp) % 2 ^ 32 then
    s.set (ringPage r) ST_RING_RP v.toNat (r % 4)
  else s.setStatus (ringPage r) stRP_REJECT

def execRpWrite (m : Master) (r : Nat) (v : Word) (s : State) : Host.Outcome State Fault Refusal :=
  .next (s.gateF m (ringPage r) ST_RING_RP (r % 4) fun s => if r < 64 then s.writeRp r v else s)

/-- The buffer region of a ring in bytes (R370). -/
def State.ringRegion (s : State) (r : Nat) : Nat × Nat :=
  let lo := s.rget r ST_RING_BUF.BASE * 4096
  (lo, lo + s.ringBlocks r * s.ringB r)

/-- Two ranges of bytes overlap. -/
def overlaps (a b : Nat × Nat) : Bool := decide (a.1 < b.2) && decide (b.1 < a.2)

/-- A write of EN = 1 is refused (R364). -/
def State.ringBad (s : State) (r : Nat) : Bool :=
  let src := s.rget r ST_RING_CFG.SRC
  let task := s.rget r ST_RING_CFG.TASKS == 1
  let others := (List.range 64).filter fun q => q != r && s.ringEn q
  (!task && (!srcPresent s.variant src ||
      others.any fun q => s.rget q ST_RING_CFG.TASKS == 0 && s.rget q ST_RING_CFG.SRC == src)) ||
    decide (2 ^ (s.rget r ST_RING_CFG.SIZE + 12) < 2 * s.ringB r) ||
    decide (2 ^ 21 < (s.ringRegion r).2) ||
    (others.any fun q => overlaps (s.ringRegion r) (s.ringRegion q)) ||
    (task && others.any fun q => q / 4 == r / 4 && s.rget q ST_RING_CFG.TASKS == 1) ||
    (s.rget r ST_RING_CFG.DEST == 0 && s.get64 (ringPage r) ST_RING_BASE_LO (r % 4) == 0)

/-- ST_RINGk_CFG.EN takes a value: to 1 after the checks, with WP and RP at 0 (R364, R368); to 0 closing the
block in progress (R373). -/
def State.setRingEn (s : State) (r : Nat) (v : Bool) : State :=
  let pg := ringPage r
  let k := r % 4
  if v then
    if s.ringEn r then s
    else if s.ringBad r then s.setStatus pg stCFG_REJECT
    else
      let s := ((s.set pg ST_RING_CFG.EN 1 k).set pg ST_RING_WP 0 k).set pg ST_RING_RP 0 k
      (s.setRing r { s.ring r with begun := false }).servePort r
  else (s.closeBlock r).set pg ST_RING_CFG.EN 0 k

/-- R364: a write of ST_RINGk_CFG.EN. -/
def execRingEnable (m : Master) (r : Nat) (v : Bool) (s : State) : Host.Outcome State Fault Refusal :=
  .next (s.gateF m (ringPage r) ST_RING_CFG.EN (r % 4) fun s => if r < 64 then s.setRingEn r v else s)

/-- The setting registers of a ring: CFG, BASE, BUF and WB. -/
def State.ringRegs (s : State) (r : Nat) : List Word :=
  (List.range 6).map fun j => s.reg (ST_RING_CFG.EN.addr (ringPage r) (r % 4) + 4 * j)

/-- A write of a ring's CFG register (R364): refused as a whole where it carries EN = 1 and a check fails, or where it
changes another field while EN = 1. [Log 32 DEDUCED] -/
def State.ringCfg (s : State) (r : Nat) (v : Word) : State :=
  let pg := ringPage r
  let off := ST_RING_CFG.EN.addr pg (r % 4)
  let same := setBits v 31 1 (s.rget r ST_RING_CFG.EN)
  let s' := s.plainWrite off same
  if s.ringEn r then
    if s'.ringRegs r == s.ringRegs r then s'.setRingEn r (bit v.toNat 31) else s.setStatus pg stCFG_REJECT
  else if bit v.toNat 31 && s'.ringBad r then
    (if s.meetsLock pg (off % 0x1000) .st same then s.lockedWrite pg else s).setStatus pg stCFG_REJECT
  else s'.setRingEn r (bit v.toNat 31)

/-- A write of BASE, BUF or WB of a ring: not applied where it changes a field while EN = 1 (R364). [Log 19 DEDUCED] -/
def State.ringField (s : State) (r : Nat) (f : State → State) : State :=
  let s' := f s
  if s.ringEn r && s'.ringRegs r != s.ringRegs r then s.setStatus (ringPage r) stCFG_REJECT else s'

/-- The status word with which a stream engine completes a task (R376). -/
def taskReason (reason : Nat) : Word := BitVec.ofNat 32 ((if reason = 0 then 0 else 2 ^ 31) + reason)

/-- Bytes of BAR2 that a stream engine reads, 8-byte word by word; none where a read fails (R376). `k` bounds the words. -/
def State.pointed : Nat → State → Master → Nat → Nat → List Byte → Option (List Byte) × State
  | 0, s, _, _, _, l => (some l, s)
  | k + 1, s, m, off, n, l =>
    if n = 0 then (some l, s)
    else
      let j := min n (8 - off % 8)
      let s := s.bar2Read m off j
      if s.respErr then (none, s) else State.pointed k s m (off + j) (n - j) (l ++ s.resp)

/-- The pointed data of a task whose pointer names BAR2 (R327); a read answers nobody else. -/
def State.pointedData (s : State) (e : Nat) (t : Task) : Option (List Byte) × State :=
  let n := (payWord t.payload 2).toNat
  let r := State.pointed (n / 8 + 2) s (.stream e) (payWord t.payload 0).toNat n []
  (r.1, { r.2 with resp := s.resp, respErr := s.respErr })

/-- The pointer of a task names BAR2 (R327). -/
def Task.pointsIn (t : Task) : Bool := bit (payWord t.payload 1).toNat 31

/-- The pointed data cannot be read now: host memory while DMA masters wait (R36), or a block memory between the exchange of
a couch and its WR step (R195). -/
def State.pointerWaits (s : State) (t : Task) : Bool :=
  bit (dFlags t.w0) 0 &&
    (if t.pointsIn then
      s.wrHeld.any fun b => overlaps (0x60000 * b, 0x60000 * (b + 1))
        ((payWord t.payload 0).toNat, (payWord t.payload 0).toNat + (payWord t.payload 2).toNat)
    else !s.dmaOk)

/-- The task that a worker has had longest. -/
def State.oldestHeld (s : State) (w : Nat) : Option Task :=
  (s.inHand w).foldl (fun (b : Option Task) t =>
    match b with
    | none => some t
    | some u => if t.dispAt.toNat < u.dispAt.toNat then some t else some u) none

/-- R376: a stream engine writes the entry of its oldest task into its task ring, once there is room, and
completes the task. `data` is what host memory holds at a pointer to it, none where the read fails. -/
def execTaskEntry (e : Nat) (data : Option (List Byte)) (s : State) : Host.Outcome State Fault Refusal :=
  match s.oldestHeld (0xE2 + e) with
  | none => .next s
  | some t =>
    let n := (payWord t.payload 2).toNat
    match s.taskRing e with
    | none => .next (s.complete t (taskReason 1))
    | some r =>
      if s.ringB r - 32 < 32 + (if bit (dFlags t.w0) 0 then (n + 3) / 4 * 4 else 0) then .next (s.complete t (taskReason 2))
      else if s.pointerWaits t then .next s
      else
        let (body, s') : Option (List Byte) × State :=
          if !bit (dFlags t.w0) 0 then (some [], s)
          else if t.pointsIn then s.pointedData e t
          else (data.map fun d => (List.range n).map fun i => d.getD i 0, s)
        match body with
        | none => .next (s'.complete t (taskReason 3))
        | some d =>
          let item := (t.words.flatMap wordBytes) ++ d ++ List.replicate ((4 - n % 4) % 4 * b2n (bit (dFlags t.w0) 0)) 0
          match s'.placeItem r item t.time false with
          | some s'' => .next (s''.complete t (taskReason 0))
          | none => .next (s.closeFull r item.length)

/-- R373: a host DMA error on a ring: its uncommitted blocks are discarded and EN goes to 0 (source 2). -/
def execStreamDmaError (r : Nat) (s : State) : Host.Outcome State Fault Refusal :=
  if !decide (r < 64) || !s.ringEn r then .next s
  else
    .next (s.raiseFault (ringPage r) 2 (BitVec.ofNat 32 r) accDMAW (0x10 + r / 4) fun s =>
      (s.discardRing r).set (ringPage r) ST_RING_CFG.EN 0 (r % 4))

end Sys2Proof.Machine
end

