-- ==== Sys2Proof/Machine/Outputs.lean ====
section
/-!
DEFINITION. The commands of the analogue outputs and load strobes (chapter 11).
-/
namespace Sys2Proof.Machine
open Sys2Proof F

/-- R311, R312: the oldest event on its way from the source that LS_CFGg selects strobes the group, at the event's tick. -/
def execLoadStrobe (g : Nat) (s : State) : Host.Outcome State Fault Refusal :=
  match s.takeTrig (· == .strobe g) with
  | none => .next s
  | some (e, s) => .next (if s.tbRun then (s.reachClk e.clk).strobe g e.clk else s)

/-- A write of LS_FIRE: every group named strobes at this tick; the timebase must have locked (R75). -/
def State.lsFire (s : State) (mask : Nat) : State :=
  if s.tbRun then s.toTick.each (maskList mask 8) fun s g => s.strobe g s.clk else s

/-- R312: LS_FIRE. -/
def execLsFire (m : Master) (mask : Nat) (s : State) : Host.Outcome State Fault Refusal :=
  .next (s.gateF m pgLS LS_FIRE 0 fun s => s.lsFire mask)

/-- A write of LS_CFGg (R312): a source that is reserved, or 4 without a span link, is refused, and under the lock flagged
as a locked write too (R56). SEL 8 and above names no line and no output of sources 2-4. [Log 59 DEDUCED] -/
def State.lsCfg (s : State) (off : Nat) (v : Word) : State :=
  let src := bits v.toNat 8 3
  if decide (5 ≤ src) || (src == 4 && !s.present pgSN) then
    (s.setStatus pgLS stLS_REJECT).when (s.locked pgLS 8) fun s => s.lockedWrite pgLS
  else (s.serveStrobes s.clk).plainWrite off v

/-- The span belongs to the kind (R307). -/
def spanOf (kind : Bool) (span : Nat) : Bool := if kind then 4 ≤ span && span < 7 else span < 4

/-- A span change begins for a published channel (R315, step 1), or takes effect at once. [Log 59 DEDUCED] -/
def State.spanChange (s : State) (c : Nat) : State :=
  if s.published c then
    let x := s.out c
    let s := ((s.setDa c DA_STATUS.SPAN_BUSY 1).setDa c DA_STATUS.SAFE 0).outToSafe c (s.da c DA_SAFE)
    s.setOut c { x with step := 2, disabling := false, thenOff := x.thenOff || x.disabling }
  else (s.modOut c fun x => { x with span := s.da c DA_CFG.SPAN }).mirrorOut c

/-- A write of DA_CFG in a role that may write its SPAN (R307, R314, R315). -/
def State.daConfig (s : State) (c : Nat) (v : Word) : State :=
  let p := daPage c
  let off := DA_CFG.EN.addr p (c % 16)
  let old := s.reg off
  let lock := s.locked p 8
  let oldKind := bit old.toNat 30
  let kind := if lock then oldKind else bit v.toNat 30
  let span := bits v.toNat 0 3
  let bad := s.spanBusy c || !spanOf kind span || (kind != oldKind && bit old.toNat 31)
  if bad then
    let s := if lock && bit v.toNat 30 != oldKind then s.lockedWrite p else s
    s.setStatus p stDA_REJECT
  else
    let s := s.plainWrite off v
    let s := if span ≠ bits old.toNat 0 3 then s.spanChange c else s
    let s := if bit old.toNat 31 && !bit v.toNat 31 then s.daDisable c (s.da c DA_SAFE) else s
    s.daWarm c

/-- A write of DA_CFG: on a secondary the SPAN of the write is dropped, while KIND, GROUP and EN are its own (R320).
[Log 32 DEDUCED, 59 DEDUCED] -/
def State.daCfg (s : State) (c : Nat) (v : Word) : State :=
  let s := s.serveStrobes s.clk
  let held := s.da c DA_CFG.SPAN
  if s.secondary && decide (bits v.toNat 0 3 ≠ held) then
    (s.setStatus (daPage c) stDA_REJECT).daConfig c (setBits v 0 3 held)
  else s.daConfig c v

/-- R307: a write of DA_CFG. -/
def execDaCfgWrite (m : Master) (c : Nat) (v : Word) (s : State) : Host.Outcome State Fault Refusal :=
  .next (s.gate m (DA_CFG.EN.addr (daPage c) (c % 16)) fun s => if c < 64 then s.daCfg c v else s)

/-- R315, steps 2 and 3: the output has reached SAFE_CODE in the old span; the stage disconnects. -/
def execSpanDisconnect (c : Nat) (s : State) : Host.Outcome State Fault Refusal :=
  if s.spanBusy c && (s.out c).step == 2 then .next (s.modOut c fun x => { x with step := 4, stage := .clamp, since := s.clk })
  else .next s

/-- R315, steps 4 and 5: 10 us after the disconnection the span switches and the stage reconnects at SAFE_CODE, unless the
channel has tripped; in the safe state it stays there; a disable met during the change follows (R317). -/
def execSpanSwitch (c : Nat) (s : State) : Host.Outcome State Fault Refusal :=
  let x := s.out c
  if s.spanBusy c && x.step == 4 then
    let s := s.reachClk (x.since + 10000)
    let stage := if s.tripped c then Stage.clamp else if s.listening then Stage.warm else Stage.driving
    let code := if x.zero then 0 else s.da c DA_SAFE
    let s := s.setOut c
      { x with span := s.da c DA_CFG.SPAN, step := 0, thenOff := false, zero := false, stage := stage }
    let s := ((s.setDa c DA_STATUS.SPAN_BUSY 0).outToSafe c code).setDa c DA_STATUS.SAFE (b2n s.safe)
    let s := s.setStatus (daPage c) stSPAN_DONE
    .next ((if x.thenOff then s.daDisable c code else s).when s.listening fun s => s.daWarm c)
  else .next s

/-- R314: 5 us after a disable the channel is unpublished. -/
def execUnpublish (c : Nat) (s : State) : Host.Outcome State Fault Refusal :=
  let x := s.out c
  if x.disabling then
    let s := (s.reachClk (x.since + 5000)).setOut c { x with disabling := false, stage := if x.stage == .clamp then .clamp else .off }
    .next ((s.setDa c DA_STATUS.PUBLISHED 0).setDa c DA_STATUS.SAFE 0)
  else .next s

/-- One channel at a monitor tick (R308, R309): its runs count, and DA_COMPLY clears at the first tick at which
the gate is not at its limit. -/
def State.monitor (s : State) (c : Nat) (limited atGate : Bool) : State :=
  let drives := (s.out c).stage == .driving
  let cur := s.da c DA_CFG.KIND == 1
  let l := drives && !cur && limited
  let g := drives && cur && atGate
  let s := s.modOut c fun x =>
    { x with lim := if l then min 100 (x.lim + 1) else 0, gate := if g then min 10 (x.gate + 1) else 0 }
  if g then s else s.setMaskBit (daPage c) DA_COMPLY (c % 16) false

/-- R308: the next 10 us tick of the timebase, at which the outputs are monitored. -/
def execOutputMonitorTick (limited atGate : List Nat) (s : State) : Host.Outcome State Fault Refusal :=
  if s.tbRun then
    let s := s.reachClk (s.beat s.daTick 0 10000)
    let s := { s with daTick := some s.clk }
    .next (s.each ((List.range 64).filter fun c => s.outHere c && s.pageOn (daPage c)) fun s c =>
      s.monitor c (limited.contains c) (atGate.contains c))
  else .next s

/-- R308: a voltage output trips. [Log 59 DEDUCED] -/
def execDaTrip (c : Nat) (s : State) : Host.Outcome State Fault Refusal :=
  let x := s.out c
  if x.lim < 100 ∨ s.tripped c then .next s
  else
    let s := s.setOut c { x with lim := 0, stage := .clamp, tripAt := some (tickOf s.clk) }
    let s := (s.setDa c DA_STATUS.TRIP 1).setMaskBit (daPage c) DA_TRIP (c % 16) true
    let s := s.setStatus (daPage c) stDA_TRIP
    .next (s.raiseOwn (daPage c) 0 (BitVec.ofNat 32 c))

/-- R309: a current output is out of compliance. -/
def execComply (c : Nat) (s : State) : Host.Outcome State Fault Refusal :=
  if (s.out c).gate < 10 ∨ s.maskBit (daPage c) DA_COMPLY (c % 16) then .next s
  else .next ((s.setMaskBit (daPage c) DA_COMPLY (c % 16) true).setStatus (daPage c) stDA_COMPLY)

/-- A tripped channel is restored (R308, R317): a published one reconnects at SAFE_CODE, an unpublished one
leaves the clamp; during a span change it reconnects if its stage has not been disconnected yet, and else with the change.
A trip of the same tick wins. [Log 59 DEDUCED] -/
def State.restoreOut (s : State) (c : Nat) : State :=
  let x := s.out c
  if !s.tripped c || x.tripAt == some (tickOf s.clk) then s
  else
    let s := s.clearTrip c
    if s.spanBusy c && x.step == 4 then s
    else if s.published c || s.da c DA_STATUS.TWIN_WARM == 1 then
      let s := (s.outToSafe c (s.da c DA_SAFE)).setDa c DA_STATUS.SAFE (b2n (s.safe || x.disabling))
      s.modOut c fun x => { x with stage := if s.listening then .warm else .driving }
    else s.modOut c fun x => { x with stage := .off }

/-- R308: DA_RESTORE. -/
def execDaRestore (m : Master) (pg mask : Nat) (s : State) : Host.Outcome State Fault Refusal :=
  .next (s.gateF m (pgDA pg) DA_RESTORE 0 fun s =>
    if pg < 4 then s.each (maskList mask 16) fun s i => s.restoreOut (16 * pg + i) else s)

/-- A write of DA_CODE or DA_SAFE: dropped on a secondary (R320). A code meets the strobes before it and at its tick
(R311). [Log 59 DEDUCED] -/
def State.daCodeWrite (s : State) (off : Nat) (v : Word) : State :=
  let p := off / 0x1000
  if s.secondary then s.setStatus p stDA_REJECT
  else
    let s := ((s.serveStrobes s.toTick.clk).toTick).plainWrite off v
    let s := match DA_CODE.index? (off % 0x1000) with
      | some i => s.meetStrobe (16 * (p - pgDA 0) + i)
      | none => s
    match (DA_CODE.index? (off % 0x1000)).orElse fun _ => DA_SAFE.index? (off % 0x1000) with
    | some i => s.mirrorOut (16 * (p - pgDA 0) + i)
    | none => s

end Sys2Proof.Machine
end

