-- ==== Sys2Proof/Machine/Twin.lean ====
section
/-!
DEFINITION. The commands of the twin link and the span link (chapter 16).
-/
namespace Sys2Proof.Machine
open Sys2Proof F

-- The twin link -------------------------------------------------------------------------------------------------------

/-- The twin link works: its page is present, enabled and powered (R463, R468). -/
def State.twinRuns (s : State) : Bool := s.present pgTW && s.runs pgTW

/-- A side-B device withdraws its claim (R469): its line returns to LIVE, its outputs stay undriven, role 2. -/
def State.withdraw (s : State) : State :=
  let s := { s with twin := { s.twin with raised := none, takeover := false, waiting := false, padHold := false } }
  ((s.releaseAll 4).setRole 2).setStatus pgTW stTW_WITHDRAWN

/-- TWIN_PEER has not read CLAIM for 2 us (R473). [Log 83 DEDUCED] -/
def State.lineClear (s : State) : Bool :=
  s.peer != 2 && (match s.twin.clear with | none => true | some t => decide (t + 2000 ≤ s.clk))

/-- A heartbeat frame arrives (R469, R471, R473). -/
def State.heartbeat (s : State) (role : Nat) : State :=
  let s := { s with twin := { s.twin with lastHb := s.clk, hbLost := false } }.set pgTW TW_HB.RUN 0
  if role != 3 then s.tryTakeOver
  else if s.role == 3 then (if s.sideB then s.withdraw else s)
  else if s.lineClear && !s.twin.lineFault then
    let s := { s with twin := { s.twin with lineFault := true } }.setStatus pgTW stTW_LINE_FAULT
    s.raiseFault pgTW 2 (BitVec.ofNat 32 s.peer) accLINK 0x24
  else s

/-- A frame from the primary on a secondary (R116, R146, R320, R477, R480, R481, R506). -/
def State.mirrored (s : State) : TwinMsg → State
  | .memWrite off be data =>
    let b := off / 0x4000 / 24
    if s.present (pgFB b) && s.pageOn (pgFB b) then
      s.memEnter { off := off, data := some data, len := 0, be := be, mas := none }
    else s
  | .tagged tag kind val =>
    match s.retA.find? fun e => e.tag == tag && e.mirror && e.kind == kind && !s.mirrorPaused e.bank with
    | some e => s.writeTagged e val
    | none => s
  | .analog c code span safe input =>
    if s.outHere c then
      let s := ((s.setDa c DA_STATUS.OUT_CODE code).setDa c DA_CFG.SPAN span).setDa c DA_SAFE safe
      (s.setDa c DA_CODE input).modOut c fun x => { x with span := span }
    else s
  | .gpio b levels out =>
    if b < 8 then
      (s.set (pgGB b) GB_OUT out.toNat).each (List.range 32) fun s i =>
        s.setPad (32 * b + i) { s.padLatch (32 * b + i) with level := bit levels.toNat i }
    else s
  | .checkpoint flow t => { s with twin := { s.twin with ckpts := aput s.twin.ckpts flow t } }
  | .vault seq recs =>
    if s.mounted then s.takeVault seq (applyRecs s.vault (recs.map fun r => { key := r.1, value := r.2 })) else s
  | .libWrite slot data => if s.mounted then s.putSlot slot data else s
  | .libErase slot => if s.mounted then s.emptySlot slot else s
  | .setStartup v => if s.mounted then s.setStartup v else s
  | .time t => if s.twinFollows then s.followTime (t - s.ts).toInt else s
  | .couchOffer banks sectors =>
    if s.flag pgTW TW_CTRL.COUCH_SYNC && (s.couchCheck banks sectors true).isNone then s.startCouch banks sectors else s
  | _ => s

/-- The frames of class 3 (R465). [Log 82 DEDUCED] -/
def stateFrame : TwinMsg → Bool
  | .memWrite _ _ _ => true
  | .tagged _ _ _ => true
  | .analog _ _ _ _ _ => true
  | .gpio _ _ _ => true
  | .checkpoint _ _ => true
  | _ => false

/-- The mirror lag that a frame shows (R490). -/
def State.noteLag (s : State) (lag : Nat) : State :=
  let l := min lag 0xFFFF
  (s.set pgTW TW_LAG.NOW l).set pgTW TW_LAG.MAX (max l (s.get pgTW TW_LAG.MAX))

/-- A good frame is acted on. [Log 82 DEDUCED] -/
def State.takeFrame (s : State) (lag : Nat) (f : TwinMsg) : State :=
  match f with
  | .heartbeat role _ => s.heartbeat role
  | .surrender => { s with twin := { s.twin with lastHb := s.clk } }.tryTakeOver
  | f => if s.secondary then (if stateFrame f then s.noteLag lag else s).mirrored f else s

/-- R464: a frame arrives; one whose CRC fails is dropped and replayed. [Log 82 DEDUCED] -/
def execTwinFrame (lanes lag : Nat) (f : Option TwinMsg) (s : State) : Host.Outcome State Fault Refusal :=
  if !s.twinRuns || !s.flag pgTW TW_STATUS.LINK_UP then .next s
  else
    let r := s.injectedCheck pgTW 3
    let s := r.2
    match (if r.1 then none else f) with
    | none =>
      .next ((s.incSat pgTW TW_COUNTS.REPLAYS).raiseFault pgTW 0 (BitVec.ofNat 32 (lanes % 16)) accLINK 0x24 id r.1)
    | some f => .next (s.takeFrame lag f)

/-- R464: the link is taken down. [Log 83 DEDUCED] -/
def execTwinLinkTimeout (s : State) : Host.Outcome State Fault Refusal :=
  if s.twinRuns && s.flag pgTW TW_STATUS.LINK_UP then .next (s.takeLinkDown.raiseFault pgTW 1 0 accLINK 0x24)
  else .next s

/-- R464: training completes. -/
def execLinkTrained (uid : Nat) (s : State) : Host.Outcome State Fault Refusal :=
  if s.twinRuns && !s.flag pgTW TW_STATUS.LINK_UP then
    let s := ((s.set pgTW TW_STATUS.LINK_UP 1).set64 pgTW TW_PEER_UID_LO uid).set pgTW TW_HB.RUN 0
    .next ({ s with twin := { s.twin with lastHb := s.clk, hbLost := false } }.setStatus pgTW stTW_LINK_UP)
  else .next s

/-- R471: the heartbeat of this microsecond, and from a primary its timestamp (R480).
[Log 82 DEDUCED, 88 DESIGN CHOICE] -/
def execHeartbeatSend (s : State) : Host.Outcome State Fault Refusal :=
  if s.twinRuns && s.tbRun then .next ((s.twinSend (.heartbeat s.role s.sideB)).mirror (.time s.ts)) else .next s

/-- R471: a whole microsecond without a heartbeat. -/
def execMissedHeartbeat (s : State) : Host.Outcome State Fault Refusal :=
  if s.twinRuns && s.tbRun && s.flag pgTW TW_STATUS.LINK_UP then
    .next ((s.incWrap pgTW TW_HB.MISSED).set pgTW TW_HB.RUN (min 8 (s.get pgTW TW_HB.RUN + 1)))
  else .next s

/-- R473: the eighth consecutive missed heartbeat. -/
def execHeartbeatLost (s : State) : Host.Outcome State Fault Refusal :=
  if s.twinRuns && s.get pgTW TW_HB.RUN == 8 && !s.twin.hbLost then .next s.lostHeartbeat else .next s

-- Claims (R466-R470, R473-R475) -----------------------------------------------------------------------------------------

/-- R466: TWIN_PEER reads anew; a listening, claiming or waiting device acts on it. -/
def execTwinPeerChange (line : Nat) (s : State) : Host.Outcome State Fault Refusal :=
  if !s.present pgTW || s.unpowered || !s.tbRun || decide (2 < line) || line == s.peer then .next s
  else
    let was := s.peer
    let s := s.set pgTW TW_STATUS.PEER_LINE line
    let s := { s with twin := { s.twin with
      seen := s.twin.seen || line == 2,
      clear := if line == 2 then none else if was == 2 then some s.clk else s.twin.clear,
      lineFault := s.twin.lineFault && line != 2 } }
    if line == 2 && s.sideB && (s.twin.raised.isSome || s.role == 3) then .next s.withdraw
    else
      let s := s.listen
      .next (if line != 2 && s.twin.hbLost then s.tryTakeOver else s)

/-- The pads hold the levels of their latches after a claim (R475). -/
def State.claimPads (s : State) : State :=
  if s.get pgTW TW_CFG.PAD_HOLD == 0 then s
  else
    let s := s.each (List.range 256) fun s p =>
      let x := s.padLatch p
      if bit x.holds 4 then s else s.setPad p { x with holds := x.holds + 16 }
    { s with twin := { s.twin with padHold := true } }

/-- Steps 4 and 6 of R474: the instant of the claim, the duration, the checkpoints. -/
def State.takeOver (s : State) (after : Nat) : State :=
  let s := s.set64 pgTW TW_TAKEOVER_TIME_LO s.now
  let s := s.set pgTW TW_TAKEOVER_DUR (min (s.clk + after - s.twin.lastHb) (2 ^ 32 - 1))
  { s with ckptSkip := s.twin.ckpts }.setStatus pgTW stTW_TAKEOVER

/-- R469, R474: a raised claim stands 2 us later. -/
def execClaimStands (after : Nat) (s : State) : Host.Outcome State Fault Refusal :=
  match s.twin.raised with
  | none => .next s
  | some t =>
    if s.sideB && s.twin.seen then .next s
    else
      let s := s.reachClk (t + 2000)
      let taking := s.twin.takeover
      let s := { s with twin := { s.twin with raised := none, takeover := false } }
      let s := s.claimPads.setRole 3
      .next (if taking then s.takeOver after else s)

/-- R470: TW_CFG.CLAIM_WAIT has passed on a listening side-B device. [Log 88 DESIGN CHOICE] -/
def execClaimWaitExpiry (s : State) : Host.Outcome State Fault Refusal :=
  if s.twin.waiting && s.role == 1 && s.peer != 2 then .next (s.raiseClaim false) else .next s

/-- R475: TW_CFG.PAD_HOLD has passed; the pads pass to their functions. -/
def execPadHoldExpiry (s : State) : Host.Outcome State Fault Refusal :=
  if s.twin.padHold then .next ({ s with twin := { s.twin with padHold := false } }.releaseAll 4) else .next s

/-- PG_CTRL.EN of the TW page written (R468): 1 lets an unpaired device listen; 0 is applied in role 3 only. -/
def State.twEn (s : State) (v : Bool) : State :=
  if v then (s.set pgTW PG_CTRL.EN 1).startListening.linkEn pgTW
  else if s.role == 3 then (((s.takeLinkDown.set pgTW PG_CTRL.EN 0).setRole 0).linkEn pgTW)
  else if s.role == 0 then (s.set pgTW PG_CTRL.EN 0).linkEn pgTW
  else s.setStatus pgTW stTW_REJECT

-- Catching up (R482, R483) -----------------------------------------------------------------------------------------------

/-- The copies of steps 1 and 2 of R482: every mirrored memory, every mirrored retention-tagged value, the outputs and
the GPIO image. -/
def State.copyAll (s : State) : State :=
  let banks := (List.range (nBanks s.variant)).filter fun b => s.pageOn (pgFB b)
  let s := s.each banks fun s b =>
    s.each ((List.range 24).filter (s.memMirrored b)) fun s k =>
      s.mirror (.memWrite (memBase b k) (2 ^ 0x4000 - 1) (s.bytes (memBase b k) 0x4000))
  let s := s.retA.foldl (fun s e =>
    match s.taggedVal e with
    | some v => if e.mirror then s.mirror (.tagged e.tag e.kind v) else s
    | none => s) s
  (s.each (List.range (nOutputs s.variant)) State.mirrorOut).each (List.range 8) State.mirrorPads

/-- Step 3 of R482 and R483 on the secondary: the primary's vault replaces its own; transactions above the primary's
are discarded. -/
def State.followVault (s : State) (seq : Nat) (v : List (Nat × List Byte)) : State :=
  let own := s.get pgVT RS_VT_DURABLE
  let s := s.takeVault seq v
  if seq < own then
    (s.addSat pgTW TW_VAULT_DISCARD (own - seq)).raiseFault pgTW 3 (BitVec.ofNat 32 (seq + 1)) accLINK 0x24
  else s

/-- R482: a step of catching up ends. [Log 82 DEDUCED] -/
def execSynced (step seq : Nat) (vault : List (Nat × List Byte)) (s : State) : Host.Outcome State Fault Refusal :=
  if !s.twinRuns || !s.flag pgTW TW_STATUS.LINK_UP || !(s.role == 3 || s.secondary) then .next s
  else
    match step with
    | 2 => .next ((s.copyAll.set pgTW TW_STATUS.SYNCED 1).setStatus pgTW stTW_SYNCED)
    | 3 =>
      let s := (s.set pgTW TW_STATUS.VAULT_SYNCED 1).setStatus pgTW stTW_VAULT_SYNCED
      .next (if s.secondary && s.mounted then s.followVault seq vault else s)
    | 4 => .next (s.set pgTW TW_STATUS.LIB_SYNCED 1)
    | _ => .next s

-- The span link -----------------------------------------------------------------------------------------------------------

def stENUM_DONE : Nat := 0
def stADDR_ASSIGNED : Nat := 1
def stLANE_CHANGE : Nat := 2
def stTIME_LOCKED : Nat := 3
def stTIME_STEP : Nat := 4
def stSTROBE_LATE : Nat := 5
def stUNROUTABLE : Nat := 6
def stSN_REJECT : Nat := 7

/-- The span link works (R485). -/
def State.spanRuns (s : State) : Bool := s.present pgSN && s.runs pgSN

def State.laneUp (s : State) (n : Nat) : Bool := s.maskBit pgSN SN_STATUS.LANE_UP n
def State.root (s : State) : Bool := s.flag pgSN SN_CTRL.ROOT

/-- A packet sent on a lane that is up. [Log 6 DESIGN CHOICE] -/
def State.spanSend (s : State) (lane : Nat) (p : SpanOut) : State :=
  if s.laneUp lane then { s with snOut := p :: s.snOut } else s

/-- A write of 1 to SN_CTRL.ENUM (R486). -/
def State.enumerate (s : State) : State :=
  if !s.root then s.setStatus pgSN stSN_REJECT
  else if s.accepts pgSN then s.set pgSN SN_STATUS.ENUM_BUSY 1
  else s

/-- R486: ENUM. -/
def execEnum (m : Master) (s : State) : Host.Outcome State Fault Refusal :=
  .next (s.gateF m pgSN SN_CTRL.ENUM 0 State.enumerate)

/-- The subtree behind downstream lane `i + 1`. -/
def State.setRange (s : State) (i : Nat) (r : Option (Nat × Nat)) : State :=
  match r with
  | some (a, b) => ((s.set pgSN SN_RANGE.VALID 1 i).set pgSN SN_RANGE.FIRST a i).set pgSN SN_RANGE.LAST b i
  | none => ((s.set pgSN SN_RANGE.VALID 0 i).set pgSN SN_RANGE.FIRST 0 i).set pgSN SN_RANGE.LAST 0 i

/-- The address that a device takes where `next` is the next free one (R486): a side-A device of a linked pair the next even
one, any other that one; none beyond 16,384 addresses or 16 levels. -/
def State.takenAddr (s : State) (next depth : Nat) : Option Nat :=
  let a := if !s.sideB && s.flag pgTW TW_STATUS.LINK_UP then (next + 1) / 2 * 2 else next
  if a < 16384 ∧ depth < 16 then some a else none

/-- R486: enumeration ends; `next` and `depth` are what the parent gives, 0 at the root. [Log 84 DEDUCED] -/
def execEnumDone (next depth : Nat) (ranges : List (Option (Nat × Nat))) (count : Nat)
    (beyond : Option Nat) (s : State) : Host.Outcome State Fault Refusal :=
  if !s.spanRuns || (s.root && !s.flag pgSN SN_STATUS.ENUM_BUSY) then .next s
  else
    let depth := if s.root then 0 else depth
    let s := match s.takenAddr (if s.root then 0 else next) depth with
      | some a =>
        (((s.set pgSN SN_STATUS.ADDR a).set pgSN SN_STATUS.ADDR_VALID 1).set pgSN SN_STATUS.DEPTH depth).setStatus pgSN
          stADDR_ASSIGNED
      | none => s.set pgSN SN_STATUS.ADDR_VALID 0
    let s := s.set pgSN SN_STATUS.ISOLATED 0
    let s := s.each (List.range 3) fun s i => s.setRange i (ranges.getD i none)
    if s.root then
      let s := ((s.set pgSN SN_STATUS.ENUM_BUSY 0).set pgSN SN_COUNT count).setStatus pgSN stENUM_DONE
      match beyond with
      | some d => .next (s.raiseFault pgSN 3 (BitVec.ofNat 32 (d % 32)) accLINK 0x25)
      | none => .next s
    else .next s

/-- R487: a time packet of the parent. [Log 84 DEDUCED] -/
def execTimePacket (offs : Int) (delay : Nat) (s : State) : Host.Outcome State Fault Refusal :=
  if !s.spanRuns || s.root || !s.laneUp 0 || !s.tbRun then .next s
  else
    let s := (s.set pgSN SN_TIME_OFFS (trunc 32 offs)).set pgSN SN_DELAY.NS (min delay 0xFFFF)
    if !s.flag pgSN SN_CTRL.TIME_FOLLOW then .next s
    else
      let s := s.followTime offs
      if 1000 < offs.natAbs then
        let s := s.setStatus pgSN stTIME_STEP
        .next (if s.flag pgSN SN_STATUS.TIME_LOCKED then s.raiseFault pgSN 2 0 accLINK 0x25 else s)
      else if offs.natAbs ≤ 2 * s.get pgSN SN_STATUS.DEPTH && !s.flag pgSN SN_STATUS.TIME_LOCKED then
        .next ((s.set pgSN SN_STATUS.TIME_LOCKED 1).setStatus pgSN stTIME_LOCKED)
      else .next s

/-- R487: the time packets of this 10 us. [Log 84 DEDUCED] -/
def execSpanTimeExchange (s : State) : Host.Outcome State Fault Refusal :=
  if s.spanRuns && s.tbRun then .next (s.each (List.range 4) fun s n => s.spanSend n (.time n s.ts)) else .next s

/-- The downstream lane whose subtree holds an address. -/
def State.laneFor (s : State) (dest : Nat) : Option Nat :=
  ((List.range 3).find? fun i => s.get pgSN SN_RANGE.VALID i == 1 &&
    decide (s.get pgSN SN_RANGE.FIRST i ≤ dest) && decide (dest ≤ s.get pgSN SN_RANGE.LAST i)).map (· + 1)

/-- A packet goes to its destination (R488): the own scheduler, the lane of its subtree, up lane 0, or nowhere.
[Log 84 DEDUCED] -/
def State.route (s : State) (up : Bool) (dest : Nat) (desc : List Word) : State :=
  let gone (s : State) : State := (s.incSat pgSN SN_UNROUTABLE).setStatus pgSN stUNROUTABLE
  if s.flag pgSN SN_STATUS.ADDR_VALID && s.get pgSN SN_STATUS.ADDR == dest then s.submit 0x210 desc 0x25 accLINK
  else
    match s.laneFor dest with
    | some n => if s.laneUp n then s.spanSend n (.packet n dest desc) else gone s
    | none => if up && !s.root && s.laneUp 0 then s.spanSend 0 (.packet 0 dest desc) else gone s

/-- The CRC check of a packet received on a lane (R485): a bad one, or one that an injected check finds bad (R450), is not
taken and is replayed. -/
def State.spanCheck (s : State) (n : Nat) (bad : Bool) (f : State → State) : State :=
  let r := s.injectedCheck pgSN 3
  if bad || r.1 then (r.2.incSat pgSN SN_COUNTS.REPLAYS).raiseFault pgSN 0 (BitVec.ofNat 32 n) accLINK 0x25 id r.1
  else f r.2

/-- R488: a span-port packet, of a lane, or of the device's own span port for the submission with which the port waits; one
whose CRC fails is replayed. A packet for a scheduler at which an earlier one still waits stays on its way.
[Log 84 DEDUCED] -/
def execSpanPacket (from' : SpanFrom) (bad : Bool) (dest : Nat) (desc : List Word) (s : State) :
    Host.Outcome State Fault Refusal :=
  let held (dest : Nat) : Bool := (aget s.subWait 0x210).isSome && s.get pgSN SN_STATUS.ADDR == dest
  if !s.spanRuns then .next s
  else
    match from' with
    | .lane n =>
      if !s.laneUp n || held dest then .next s
      else .next (s.spanCheck n bad fun s => s.route (n != 0) dest desc)
    | .port p =>
      let target := s.get pgSN SN_SP.DEST p
      match s.spanWait.find? fun (e : Nat × List Word) => aget s.spanPorts e.1 == some p with
      | none => .next s
      | some e =>
        if s.get pgSN SN_SP.EN p == 1 && s.accepts pgSN && !held target then
          .next ({ s with spanWait := adel s.spanWait e.1 }.route true target e.2).settle
        else .next s

/-- A strobe on its way down (R489): scheduled here, or late, and sent to every child. [Log 84 DEDUCED] -/
def State.strobeDown (s : State) (k : Nat) (t : Time) : State :=
  if t.toNat < s.now then (s.incSat pgSN SN_STROBE_CNT.LATE).setStatus pgSN stSTROBE_LATE
  else
    let s := { s with strobes := s.strobes ++ [(k, t)] }
    s.each [1, 2, 3] fun s n => s.spanSend n (.strobe n k t)

/-- A write of SN_STROBE_TX (R489): K is stored; GO sends the strobe towards the root. -/
def State.strobeTx (s : State) (v : Word) : State :=
  let k := bits v.toNat 0 3
  let s := s.set pgSN SN_STROBE_TX.K k
  if !bit v.toNat 31 || !s.accepts pgSN then s
  else
    let t := BitVec.ofNat 64 (s.get64 pgSN SN_STROBE_T_LO)
    if s.root then s.strobeDown k t else s.spanSend 0 (.strobe 0 k t)

/-- R489: SN_STROBE_TX. -/
def execStrobeTx (m : Master) (v : Word) (s : State) : Host.Outcome State Fault Refusal :=
  .next (s.gateF m pgSN SN_STROBE_TX.GO 0 fun s => s.strobeTx v)

/-- R489: a strobe packet arrives: up towards the root, then down the tree. -/
def execStrobePacket (lane k : Nat) (t : Time) (s : State) : Host.Outcome State Fault Refusal :=
  if !s.spanRuns || !s.laneUp lane || decide (8 ≤ k) then .next s
  else .next (s.spanCheck lane false fun s => if lane == 0 || s.root then s.strobeDown k t else s.spanSend 0 (.strobe 0 k t))

/-- R489: system strobe `k` fires at the tick at which the timestamp reaches its time. [Log 84 DEDUCED] -/
def execSystemStrobe (k : Nat) (s : State) : Host.Outcome State Fault Refusal :=
  match s.strobes.find? fun e => e.1 == k && decide (s.now ≤ e.2.toNat) with
  | some e =>
    if s.tbRun then
      let s := { s.reach e.2 with strobes := s.strobes.erase e }.incWrap pgSN SN_STROBE_CNT.FIRED
      .next (s.systemStrobe k s.ts)
    else .next s
  | none => .next s

/-- R486: a lane goes down; a device whose lane 0 goes down keeps its address and is isolated. -/
def execLaneDown (lane : Nat) (s : State) : Host.Outcome State Fault Refusal :=
  if !s.spanRuns || !s.laneUp lane then .next s
  else
    let s := ((s.setMaskBit pgSN SN_STATUS.LANE_UP lane false).incWrap pgSN SN_COUNTS.LANE_DOWNS).setStatus pgSN
      stLANE_CHANGE
    let s := if lane == 0 then
        (s.set pgSN SN_STATUS.ISOLATED (s.get pgSN SN_STATUS.ADDR_VALID)).set pgSN SN_STATUS.TIME_LOCKED 0 else s
    .next (s.raiseFault pgSN 1 (BitVec.ofNat 32 lane) accLINK 0x25)

/-- R485: a lane comes up. -/
def execSpanLaneUp (lane : Nat) (s : State) : Host.Outcome State Fault Refusal :=
  if !s.spanRuns || decide (4 ≤ lane) || s.laneUp lane then .next s
  else
    let s := (s.setMaskBit pgSN SN_STATUS.LANE_UP lane true).setStatus pgSN stLANE_CHANGE
    .next (if lane == 0 then s.set pgSN SN_STATUS.ISOLATED 0 else s)

end Sys2Proof.Machine
end

