-- ==== Sys2Proof/Machine/Pads.lean ====
section
/-!
DEFINITION. The commands of the GPIO banks and serialiser quads (chapter 17).
-/
namespace Sys2Proof.Machine
open Sys2Proof F

/-- A GB register is rewritten: its parity error is gone (R519). -/
def State.gbRewritten (s : State) (off : Nat) : State := { s with gbBad := s.gbBad.filter (· != off) }

/-- A write of GB_OUT (R502, R506). -/
def State.gbOut (s : State) (b : Nat) (v : Word) : State :=
  let g := pgGB b
  if s.listening then s.setStatus g stGB_REJECT
  else ((s.set g GB_OUT v.toNat).gbRewritten (GB_OUT.addr g 0)).mirrorPads b

def execGbOutWrite (m : Master) (b : Nat) (v : Word) (s : State) : Host.Outcome State Fault Refusal :=
  .next (s.gateF m (pgGB b) GB_OUT 0 fun s => if b < 8 then s.gbOut b v else s)

/-- A write of GB_DIR: the bits of locked pads stay (R508). -/
def State.gbDir (s : State) (b : Nat) (v : Word) : State :=
  let g := pgGB b
  let old := s.get g GB_DIR
  let lk := s.get g GB_PADLOCK
  let new := Nat.lor (Nat.land old lk) (Nat.land v.toNat (2 ^ 32 - 1 - lk))
  let s := (s.set g GB_DIR new).gbRewritten (GB_DIR.addr g 0)
  if new ≠ v.toNat then s.lockedWrite g else s

def execGbDirWrite (m : Master) (b : Nat) (v : Word) (s : State) : Host.Outcome State Fault Refusal :=
  .next (s.gateF m (pgGB b) GB_DIR 0 fun s => if b < 8 then s.gbDir b v else s)

/-- A write of GB_CFG: dropped for an owned pad; a locked pad keeps its locked fields (R498, R508). [Log 60 DEDUCED] -/
def State.gbCfg (s : State) (p : Nat) (v : Word) : State :=
  let g := pgGB (p / 32)
  if s.padOwned p then s.setStatus g stOWNED_WRITE
  else
    let old := s.get g GB_CFG (p % 32)
    let v := bits v.toNat 6 16 * 2 ^ 6
    let lk := if s.padLocked (p / 32) (p % 32) then lockedBits else 0
    let new := Nat.lor (Nat.land old lk) (Nat.land v (2 ^ 22 - 1 - lk))
    let s := (s.set g GB_CFG new (p % 32)).gbRewritten (GB_CFG.addr g (p % 32))
    if new ≠ v then s.lockedWrite g else s

def execGbCfgWrite (m : Master) (p : Nat) (v : Word) (s : State) : Host.Outcome State Fault Refusal :=
  .next (s.gateF m (pgGB (p / 32)) GB_CFG (p % 32) fun s => if p < 256 then s.gbCfg p v else s)

/-- A write of GB_PADLOCK: the third write of the sequence locks the pads of its mask with their settings in
force (R507). -/
def State.padlock (s : State) (m : Master) (b : Nat) (v : Word) : State :=
  let g := pgGB b
  let (third, s) := s.keyWrite m (GB_PADLOCK.addr g 0) 0x5354_4C4B 0xACAB_B3B4 v
  if !third then s
  else
    let fresh := (maskList v.toNat 32).filter fun i => !s.padLocked b i
    let s := s.each fresh fun s i =>
      { s with padLocks := aput s.padLocks (32 * b + i) (s.padInForce (32 * b + i)) }
    s.set g GB_PADLOCK (Nat.lor (s.get g GB_PADLOCK) v.toNat)

def execGbPadlock (m : Master) (b : Nat) (v : Word) (s : State) : Host.Outcome State Fault Refusal :=
  .next (s.gateF m (pgGB b) GB_PADLOCK 0 fun s => if b < 8 then s.padlock m b v else s)

/-- The level of a pad: what the device drives it to, or else the level that the board gives it (R504). -/
def State.padSees (s : State) (p : Nat) (level : Bool) : Bool :=
  match s.padOut p with | .level v => v | _ => level

/-- R505: a pad's synchronised level changes; the fabric follows it. -/
def execEdge (p : Nat) (level : Bool) (s : State) : Host.Outcome State Fault Refusal :=
  let v := s.padSees p level
  if !decide (p < 256) || !s.tbRun || s.padLevel p == v then .next s
  else
    let g := pgGB (p / 32)
    let s := (s.setMaskBit g GB_IN (p % 32) v).mirrorPads (p / 32)
    if s.maskBit g (if v then GB_RISE_EN else GB_FALL_EN) (p % 32) then
      .next ((s.setMaskBit g GB_EDGE (p % 32) true).setStatus g stGB_EDGE).flow
    else .next s.flow

/-- R510: a bank's supply is low; its inputs mean nothing from now on. [Log 60 DEDUCED] -/
def execVioLow (b : Nat) (s : State) : Host.Outcome State Fault Refusal :=
  let g := pgGB b
  if b < 8 ∧ s.flag g GB_STATUS.VIO_OK then
    let (d, s) := s.draw
    let s := ((s.set g GB_STATUS.VIO_OK 0).set g GB_IN (Config.freeWord d).toNat).setStatus g stVIO_CHANGE
    .next (s.raiseOwn g 2 0)
  else .next s

def execVioOk (b : Nat) (s : State) : Host.Outcome State Fault Refusal :=
  let g := pgGB b
  if b < 8 ∧ !s.flag g GB_STATUS.VIO_OK then .next ((s.set g GB_STATUS.VIO_OK 1).setStatus g stVIO_CHANGE)
  else .next s

-- Serialiser quads ------------------------------------------------------------------------------------------

/-- R511: a quad loop locks. -/
def execQuadLoopLock (q : Nat) (s : State) : Host.Outcome State Fault Refusal :=
  if q < 8 ∧ s.present (pgSQ q) ∧ s.pageOn (pgSQ q) then .next (s.set (pgSQ q) SQ_STATUS.LOCKED 1) else .next s

/-- R516: a quad loop loses lock. -/
def execLoopLoss (q : Nat) (s : State) : Host.Outcome State Fault Refusal :=
  let p := pgSQ q
  if q < 8 ∧ s.present p ∧ s.pageOn p ∧ s.flag p SQ_STATUS.LOCKED then
    let s := ((s.set p SQ_STATUS.LOCKED 0).incWrap p SQ_STATUS.LOSS_COUNT).setStatus p stLOCK_LOST
    let s := s.each (List.range 4) fun s l => s.setAligned q l false
    .next (s.raiseOwn p 0 0)
  else .next s

/-- A write of SQ_CFG (R512, R520): only while the quad is disabled, with a rate that is not reserved, and on a
user quad; the loop then relocks. [Log 32 DEDUCED, 61 DEDUCED] -/
def State.sqCfg (s : State) (q : Nat) (v : Word) : State :=
  let p := pgSQ q
  let r := bits v.toNat 0 4
  if 6 ≤ q || s.flag p PG_CTRL.EN || decide (9 ≤ r) then
    (s.underLock p 8 (r != s.get p SQ_CFG.RATE) id).setStatus p stSQ_REJECT
  else
    s.underLock p 8 (r != s.get p SQ_CFG.RATE) fun s =>
      if r == s.get p SQ_CFG.RATE then s else (s.set p SQ_CFG.RATE r).set p SQ_STATUS.LOCKED 0

def execSqCfgWrite (m : Master) (q : Nat) (v : Word) (s : State) : Host.Outcome State Fault Refusal :=
  .next (s.gateF m (pgSQ q) SQ_CFG.RATE 0 fun s => if q < 8 then s.sqCfg q v else s)

/-- A write of SQ_LANEl_CTRL (R513, R520): CODING is applied only while the lane is disabled; on SQ6 and SQ7
CODING, PRBS and LOOP are not applied. [Log 61 DEDUCED] -/
def State.laneCtrl (s : State) (q l : Nat) (v : Word) : State :=
  let p := pgSQ q
  let off := SQ_LANE_CTRL.EN.addr p l
  let old := s.reg off
  if 6 ≤ q then
    let v' := setBits v 21 9 (bits old.toNat 21 9)
    let v' := setBits v' 26 2 (bits v.toNat 26 2)
    let s := s.plainWriteAs off v v'
    if v' ≠ v then s.setStatus p stSQ_REJECT else s
  else
    let v' := if bit old.toNat 31 then setBits v 28 2 (bits old.toNat 28 2) else v
    let s := s.plainWriteAs off v v'
    if bit v.toNat 31 then s
    else (s.setReg (SQ_LANE_STATUS.ALIGNED.addr p l) 0).setLane q l laneOff

/-- The filler of a coding (R515): /I2/ ordered sets, idle control blocks, or 0x5555_5555. [Log 15 PRESUMED] -/
def filler (coding : Nat) : List Word :=
  match coding with
  | 0 => [0x50BC_50BC, 0x50BC_50BC, 0x50BC_50BC, 0x50BC_50BC, 0x5555]
  | 3 => [0x5555_5555, 0x5555_5555, 0x5555_5555, 0x5555_5555, 0]
  | _ => [0x1E, 0, 0x1E, 0, 0xA]

/-- R515: the line needs a transfer: the oldest one in the transmit port, or filler and an underrun. While a PRBS generator
or the far loop replaces the transmit port (R518), it takes none. -/
def execLaneTransmit (q l : Nat) (s : State) : Host.Outcome State Fault Refusal :=
  if !s.laneOn q l then .next s
  else
    let s := (s.laneTake q l).settle
    let p := pgSQ q
    let x := s.lane q l
    if s.get p SQ_LANE_CTRL.PRBS l != 0 || s.get p SQ_LANE_CTRL.LOOP l == 2 then .next s
    else
      match x.tx with
      | t :: r => .next ((s.setLane q l { x with tx := r, line := t }).laneTake q l).settle
      | [] =>
        .next ((s.setLane q l { x with tx := [], line := filler (s.get p SQ_LANE_CTRL.CODING l) }).incSat p
          SQ_LANE_FLOW.UNDERRUN l)

/-- The control word on receive (R514). -/
def rxControl (coding : Nat) (c : Word) (gap : Bool) : Word :=
  let w := c.toNat
  BitVec.ofNat 32 ((match coding with
    | 0 => bits w 0 16 + bits w 30 1 * 2 ^ 30
    | 3 => 0
    | _ => bits w 0 4 + bits w 30 1 * 2 ^ 30) + b2n gap * 2 ^ 31)

/-- R515, R518: a lane completes a received transfer; with LOOP = 1 it is what its own transmitter last put on the line, and
with LOOP = 2 the lane sends it back. -/
def execLaneReceive (q l : Nat) (aligned : Bool) (t : List Word) (errs prbs : Nat) (s : State) :
    Host.Outcome State Fault Refusal :=
  let s := if s.laneOn q l then s.lanePresent q l else s
  let loop := s.get (pgSQ q) SQ_LANE_CTRL.LOOP l
  let t := if loop == 1 then (s.lane q l).line else t
  if !s.laneOn q l || t.length != 5 then .next s
  else
    let p := pgSQ q
    let s := if loop == 2 then s.setLane q l { s.lane q l with line := t } else s
    let coding := s.get p SQ_LANE_CTRL.CODING l
    let s := (s.set p SQ_LANE_STATUS.SIGNAL 1 l).set p SQ_LANE_STATUS.RX_READY 1 l
    let s := s.setAligned q l (aligned && coding != 3)
    let s := if coding == 3 then s else s.addSat p SQ_LANE_ERR.CODE_ERRS errs l
    let x := s.lane q l
    if s.get p SQ_LANE_CTRL.PRBS_CHECK l == 1 then
      .next ((s.set p SQ_LANE_STATUS.PRBS_LOCK 1 l).addSat p
        SQ_LANE_ERR.PRBS_ERRS prbs l)
    else if coding != 3 && !aligned then .next s
    else if 64 ≤ x.rx.length then
      .next (((s.setLane q l { x with gap := true }).incSat p SQ_LANE_FLOW.OVERRUN l).setStatus p
        (stSQ_LOSS + l))
    else
      .next ((s.setLane q l
        { x with rx := x.rx ++ [t.take 4 ++ [rxControl coding (t.getD 4 0) x.gap]], gap := false }).lanePresent q l)

end Sys2Proof.Machine
end

