-- ==== Sys2Proof/Machine/View.lean ====
section
/-!
DEFINITION. What a read of BAR0 returns: the word of each register, with the fields that show a level or a count of the
state rather than a held value (R12-R16, R25, R43-R46, R60).
-/
namespace Sys2Proof.Machine
open Sys2Proof F

/-- The live fields of the page header (R45-R47). [Log 61 DEDUCED] -/
def State.hdrView (s : State) (pg o : Nat) (w : Word) : Word :=
  if o == 0x008 then setBits (setBits w 9 1 (b2n (s.pageIdle pg))) 3 1 (b2n (s.pageOn pg))
  else if o == 0x038 then (if s.pageOn pg then w else 0)
  else w

/-- The function and hold field of a pad (R494, R519). -/
def State.gbFunc (s : State) (p : Nat) : Nat := b2n ((s.padLatch p).holds != 0) * 8 + s.padWin p

/-- GB_FUNC word `i` of a bank: eight pads. [Log 60 DEDUCED] -/
def State.gbFuncWord (s : State) (b i : Nat) : Word :=
  BitVec.ofNat 32 ((List.range 8).map fun k => s.gbFunc (32 * b + 8 * i + k) * 16 ^ k).sum

/-- The live registers of a page after its header, as master `m` reads them. [Log 56 DEDUCED, 74 DEDUCED] -/
def State.pageView (s : State) (m : Master) (k : PageKind) (i pg o : Nat) (w : Word) : Word :=
  match k with
  | .dev => if o == 0x05C then setBits w 17 1 (b2n s.errPin) else w
  | .tb0 =>
    if o == 0x048 then BitVec.ofNat 32 s.now else if o == 0x04C then BitVec.ofNat 32 (s.now / 2 ^ 32) else w
  | .sch0 => if o == 0x054 then (aget s.cancelRes m.id).getD 0 else w
  | .sch3 =>
    match SCH_HQ_STATUS.index? o with
    | some q => s.hqStat m.id q
    | none => w
  | .rs3 => if o == 0x060 then setBits w 31 1 (b2n s.energyOld) else w
  | .cv =>
    if o == 0x048 then setBits w 31 1 (b2n !(s.conv i).scan.isEmpty)
    else if o == 0x050 then
      setBits (setBits w 0 1 (b2n (s.accepts pg && s.get pg CV_SCAN_MASK != 0))) 8 3 (s.conv i).waiting
    else w
  | .cp =>
    match CP_CFG.EN.index? o with
    | some j => setBits w 30 1 (b2n (s.cpPress (32 * i + j)))
    | none => w
  | .gb =>
    match GB_FUNC.WIN.index? o with
    | some j => s.gbFuncWord i j
    | none =>
      match GB_CFG.index? o with
      | some j => if s.padOwned (32 * i + j) then BitVec.ofNat 32 (s.padWord (32 * i + j) % 2 ^ 22) else w
      | none => w
  | .sq =>
    if o == 0x040 && i == 7 then setBits w 0 4 4
    else
      match SQ_LANE_STATUS.TX_READY.index? o with
      | some l => setBits w 0 1 (b2n (s.laneOn i l))
      | none => w
  | _ => w

/-- The word that a master reads at an aligned offset of BAR0: zero where nothing is, and beyond the header of a page
whose domain is off (R5, R6, R44, R45); a lost vote leaves three fields of the TND page (R454). -/
def State.view (s : State) (m : Master) (off : Nat) : Word :=
  if s.unpowered || s.resetLow || s.absentAt off || s.offAt off then 0
  else if off / 0x1000 == pgTND && s.flag pgTND TND_STATUS.VOTE_LOST then
    (if off % 0x1000 == 0x040 then s.reg off &&& 0xE0000000#32 else 0)
  else
    let w := s.reg off
    match pageAt (off / 0x1000) with
    | none => w
    | some (k, i) =>
      if 0xC_0000 ≤ off then w
      else if off % 0x1000 < 0x40 then s.hdrView (off / 0x1000) (off % 0x1000) w
      else s.pageView m k i (off / 0x1000) (off % 0x1000) w

/-- The register state with the read latches of a master (R13): what a read of an offset returns. -/
def State.readWord (s : State) (m : Master) (off : Nat) : Word × State :=
  if s.isPairLow off then
    (s.view m off, { s with latch := aput s.latch (pairKey m off) (s.view m (off + 4)) })
  else if 4 ≤ off && s.isPairLow (off - 4) then
    ((aget s.latch (pairKey m (off - 4))).getD (s.view m off), s)
  else (s.view m off, s)

/-- A read of BAR0 by a master on its way: alignment (R43) and reach (R60) are checked, and the word comes back. A
device that is OFF or held by RESET# answers nothing. -/
def State.readReg (s : State) (m : Master) (off : Nat) : State :=
  let none' (s : State) : State := { s with resp := [0, 0, 0, 0], respErr := false }
  if s.unpowered || s.resetLow then none' s
  else if m.isPort && decide (0x5000 ≤ off) then (none' s).setStatus pgDEV stUNREACHABLE
  else if off % 4 ≠ 0 then (none' s).setStatus pgDEV stBAD_ACCESS
  else
    let r := s.readWord m off
    { r.2 with resp := wordBytes r.1, respErr := false }

end Sys2Proof.Machine
end

