-- ==== Sys2Proof/Machine/Header.lean ====
section
/-!
DEFINITION. Writes of the page header (R46-R56, R430, R450): what a value written to each of its registers does.
-/
namespace Sys2Proof.Machine
open Sys2Proof F

-- PG_CTRL (R46-R49) ------------------------------------------------------------------------------------------------------

/-- What a block does as its PG_CTRL.EN or QUIESCE changes (R48 and the owning chapters); `old` is the state before. -/
def State.ctrlHooks (old s : State) (k : PageKind) (i pg : Nat) : State :=
  let was := old.flag pg PG_CTRL.EN
  let on := s.flag pg PG_CTRL.EN
  match k with
  | .fb => s.bankGates i
  | .asec =>
    if was == on || !s.pageOn pg then s else (if on then s.muteRunning old i else s.cellsOff i).refreshShunts i
  | .cv => s.convCtrl i was
  | .fc => s.fcSync i
  | .cp => s.cpSyncPage i
  | .da => (s.daCtrl i was).daWarmAll
  | .tb1 => s.timersEn was
  | .seq => if on && !was then s.seqResume else s
  | .cal => s.calCtrl (old.runs pg)
  | .sn => s.linkEn pg
  | .sch0 => if s.accepts pg then s.serveWaiting else s
  | .st => if s.accepts pg then s.each (List.range 4) fun s j => s.servePort (4 * i + j) else s
  | .cfg => s.bootPoll
  | .dev | .tnd | .pwr0 | .pwr1 | .tb0 | .mgt | .cch | .key | .ls | .sch1 | .sch2 | .sch3 | .rs0 | .rs1 | .rs2
  | .rs3 | .bfe | .tw | .gb | .sq => s

/-- PG_CTRL.EN takes a written value. It is fixed at 1 on the TND page (R461), a 0 is ignored by TB page 0 (R78), the twin
page applies a 0 in role 3 only (R468), and the link quads follow their link pages (R520). -/
def State.enWrite (s : State) (k : PageKind) (i pg : Nat) (v : Bool) : State :=
  match k with
  | .tnd => s
  | .tb0 => if v then s.set pg PG_CTRL.EN 1 else s
  | .tw => if s.flag pg PG_CTRL.EN == v then s else s.twEn v
  | .sq =>
    if 6 ≤ i then (if s.flag pg PG_CTRL.EN == v then s else s.setStatus pg stSQ_REJECT)
    else s.set pg PG_CTRL.EN (b2n v)
  | _ => s.set pg PG_CTRL.EN (b2n v)

/-- A write of 1 to PG_CTRL.BLK_RESET (R49): no effect while the domain is off; refused by CCH while a couch runs
(R216); held for a bank in a running couch's mask (R203). [Log 76 DEDUCED] -/
def State.blkResetWrite (s : State) (pg : Nat) : State :=
  if !s.pageOn pg then s
  else if pg == pgCCH && s.get pgCCH CCH_STATE.STEP != 0 then s.lockedWrite pg
  else s.resetChecked pg { cause := 1, attr := 0 }

/-- A write of PG_CTRL. Lock bit 0 holds all four writable bits (R55); PWR_REQ is fixed on AON pages (R46).
[Log 22 DEDUCED] -/
def State.ctrlWrite (s : State) (k : PageKind) (i pg : Nat) (v : Word) : State :=
  let w := v.toNat
  let held := s.get pg PG_CTRL.EN + s.get pg PG_CTRL.PWR_REQ * 4 + s.get pg PG_CTRL.QUIESCE * 256
  if s.locked pg 0 then (if Nat.land w 0x107 == held then s else s.lockedWrite pg)
  else
    let s1 := (if isAon pg then s else s.set pg PG_CTRL.PWR_REQ (bits w 2 1)).set pg PG_CTRL.QUIESCE (bits w 8 1)
    let s1 := s1.enWrite k i pg (bit w 0)
    let moved := s1.flag pg PG_CTRL.EN != s.flag pg PG_CTRL.EN || s1.flag pg PG_CTRL.QUIESCE != s.flag pg PG_CTRL.QUIESCE
    let s2 := if moved then s.ctrlHooks s1 k i pg else s1
    let s3 := State.askChanged s s2 pg
    if bit w 1 then s3.blkResetWrite pg else s3

/-- PG_CTRL as it reads, with one bit replaced: the write with which a master changes one of its fields.
[Log 22 DEDUCED, 31 DEDUCED] -/
def State.ctrlWith (s : State) (pg n : Nat) (v : Bool) : Word :=
  setBits (setBits (s.hdr pg 0x008) 1 1 0) n 1 (b2n v)

-- PG_MODE (R50) ------------------------------------------------------------------------------------------------------------

/-- A write of PG_MODE (R50). Bits that name no function are reserved (R26). [Log 21 DEDUCED] -/
def State.modeWrite (s : State) (k : PageKind) (pg : Nat) (v : Word) : State :=
  let new := bits v.toNat 31 1 * 2 ^ 31 + (if hostMode k then bits v.toNat 0 1 else 0)
  let old := (s.hdr pg 0x00C).toNat
  let ok := if enFixed k then new != old else !s.flag pg PG_CTRL.EN && s.pageIdle pg
  let s1 := if ok then s else s.setStatus pg stMODE_REJECT
  if s.locked pg 1 then (if new == old then s1 else s1.lockedWrite pg)
  else if ok then s.setReg (pg * 0x1000 + 0x00C) (BitVec.ofNat 32 new) else s1

-- Status, interrupts, faults (R51-R53) -----------------------------------------------------------------------------------

/-- A write of PG_STATUS: ones clear, and the vector is sent again where the condition stays true (R52). -/
def State.statusWrite (s : State) (pg : Nat) (v : Word) : State :=
  (s.setReg (pg * 0x1000 + 0x010) (s.hdr pg 0x010 &&& ~~~v)).irqAfterWrite pg

/-- A write of PG_IRQ_EN. -/
def State.irqEnWrite (s : State) (pg : Nat) (v : Word) : State :=
  s.underLock pg 2 (s.hdr pg 0x014 != v) fun s => s.irqRise pg (s.setReg (pg * 0x1000 + 0x014) v)

/-- PG_FAULT.COUNT_CLR. -/
def State.countsClear (s : State) (pg : Nat) : State := (s.set pg PG_FAULT.CORR_COUNT 0).set pg PG_FAULT.CONT_COUNT 0

/-- A write of PG_FAULT: the flags clear where a one is written, COUNT_CLR clears both counts. -/
def State.faultWrite (s : State) (pg : Nat) (v : Word) : State :=
  let w := v.toNat
  let keep := 7 - w % 8
  let irq := Nat.land ((aget s.faultIrq pg).getD 0) keep
  let s := s.setReg (pg * 0x1000 + 0x018) (setBits (s.hdr pg 0x018) 0 3 (Nat.land ((s.hdr pg 0x018).toNat % 8) keep))
  let s := { s with faultIrq := if irq = 0 then adel s.faultIrq pg else aput s.faultIrq pg irq }
  (if bit w 3 then s.countsClear pg else s).irqAfterWrite pg

/-- A write of PG_FAULT_REACT (R430); it also renews the parity that INJECT_FREG inverted. [Log 23 DEDUCED] -/
def State.reactWrite (s : State) (k : PageKind) (pg : Nat) (v : Word) : State :=
  s.underLock pg 3 (s.hdr pg 0x01C != v) fun s =>
    { s.setReg (pg * 0x1000 + 0x01C) (BitVec.ofNat 32 (reactStored k v.toNat)) with
      fregBad := s.fregBad.filter (· != pg) }

/-- A write of PG_FE_SRC: a one at VALID re-arms the capture (R53). -/
def State.feWrite (s : State) (pg : Nat) (v : Word) : State := if bit v.toNat 31 then s.set pg PG_FE_SRC.VALID 0 else s

-- PG_LOCK (R54), PG_INJECT (R450) ---------------------------------------------------------------------------------------

/-- A write of PG_LOCK: the third write of the sequence adds its mask. [Log 21 DEDUCED] -/
def State.lockWrite (s : State) (m : Master) (pg : Nat) (v : Word) : State :=
  let r := s.keyWrite m (pg * 0x1000 + 0x030) 0x53544C4B 0xACABB3B4 v
  if r.1 then r.2.setReg (pg * 0x1000 + 0x030) (r.2.hdr pg 0x030 ||| (v &&& ~~~0xE0#32)) else r.2

/-- A write of PG_INJECT (R450). [Log 24 DEDUCED] -/
def State.injectWrite (s : State) (k : PageKind) (pg : Nat) (v : Word) : State :=
  let c := bits v.toNat 8 8
  let arm := bit v.toNat 16 && c != 0 && hasChecker k (bits v.toNat 0 4)
  s.underLock pg 4 (Nat.land v.toNat 0x1FF0F != (s.hdr pg 0x034).toNat) fun s =>
    let s := (s.set pg PG_INJECT.COUNT c).set pg PG_INJECT.CHECKER (bits v.toNat 0 4)
    { s.set pg PG_INJECT.ARM (b2n arm) with injLeft := if arm then aput s.injLeft pg c else adel s.injLeft pg }

/-- A write of a header register. -/
def State.hdrWrite (s : State) (m : Master) (k : PageKind) (i pg o : Nat) (v : Word) : State :=
  if o == 0x008 then s.ctrlWrite k i pg v
  else if o == 0x00C then s.modeWrite k pg v
  else if o == 0x010 then s.statusWrite pg v
  else if o == 0x014 then s.irqEnWrite pg v
  else if o == 0x018 then s.faultWrite pg v
  else if o == 0x01C then s.reactWrite k pg v
  else if o == 0x024 then s.feWrite pg v
  else if o == 0x030 then s.lockWrite m pg v
  else if o == 0x034 then s.injectWrite k pg v
  else s

-- The commands ---------------------------------------------------------------------------------------------------------------

/-- A command that is one write of a header register of a page. -/
def State.hdrCmd (s : State) (m : Master) (pg o : Nat) (v : State → Word) : State :=
  s.gate m (pg * 0x1000 + o) fun s =>
    match pageAt pg with
    | none => s
    | some (k, i) => s.hdrWrite m k i pg o (v s)

/-- R47: PG_CTRL.PWR_REQ. -/
def execPwrReq (m : Master) (pg : Nat) (v : Bool) (s : State) : Host.Outcome State Fault Refusal :=
  .next (s.hdrCmd m pg 0x008 fun s => s.ctrlWith pg 2 v)

/-- R48: PG_CTRL.EN. -/
def execPgCtrlEn (m : Master) (pg : Nat) (v : Bool) (s : State) : Host.Outcome State Fault Refusal :=
  .next (s.hdrCmd m pg 0x008 fun s => s.ctrlWith pg 0 v)

/-- R48: PG_CTRL.QUIESCE. -/
def execQuiesce (m : Master) (pg : Nat) (v : Bool) (s : State) : Host.Outcome State Fault Refusal :=
  .next (s.hdrCmd m pg 0x008 fun s => s.ctrlWith pg 8 v)

/-- R49: PG_CTRL.BLK_RESET. -/
def execBlkReset (m : Master) (pg : Nat) (s : State) : Host.Outcome State Fault Refusal :=
  .next (s.hdrCmd m pg 0x008 fun s => s.ctrlWith pg 1 true)

/-- R50: PG_MODE. -/
def execPgModeWrite (m : Master) (pg : Nat) (v : Word) (s : State) : Host.Outcome State Fault Refusal :=
  .next (s.hdrCmd m pg 0x00C fun _ => v)

/-- R51: PG_STATUS cleared by software. -/
def execPgStatusClear (m : Master) (pg : Nat) (v : Word) (s : State) : Host.Outcome State Fault Refusal :=
  .next (s.hdrCmd m pg 0x010 fun _ => v)

/-- R52: the PG_FAULT flags cleared by software. -/
def execPgFaultClear (m : Master) (pg : Nat) (v : Word) (s : State) : Host.Outcome State Fault Refusal :=
  .next (s.hdrCmd m pg 0x018 fun _ => setBits v 3 1 0)

/-- R46: PG_FAULT.COUNT_CLR. -/
def execCountClr (m : Master) (pg : Nat) (s : State) : Host.Outcome State Fault Refusal :=
  .next (s.hdrCmd m pg 0x018 fun _ => 8)

/-- R53: the first-error capture is armed again. -/
def execFeRearm (m : Master) (pg : Nat) (s : State) : Host.Outcome State Fault Refusal :=
  .next (s.hdrCmd m pg 0x024 fun _ => 0x80000000)

/-- R54: a write of PG_LOCK. -/
def execPgLock (m : Master) (pg : Nat) (v : Word) (s : State) : Host.Outcome State Fault Refusal :=
  .next (s.hdrCmd m pg 0x030 fun _ => v)

/-- R450: a write of PG_INJECT. -/
def execPgInject (m : Master) (pg : Nat) (v : Word) (s : State) : Host.Outcome State Fault Refusal :=
  .next (s.hdrCmd m pg 0x034 fun _ => v)

end Sys2Proof.Machine
end

