-- ==== Sys2Proof/Machine/Ream.lean ====
section
/-!
DEFINITION. The commands of the store page of the ream store: mounting, library, refresh, raw operations (R384-R392,
R420).
-/
namespace Sys2Proof.Machine
open Sys2Proof F

/-- The codes of RS_CMD_RES.RESULT (R420). -/
def rsOK : Nat := 0
def rsBUSY : Nat := 1
def rsCHECK : Nat := 2
def rsFULL : Nat := 3
def rsUNMOUNTED : Nat := 4
def rsDMA : Nat := 5
def rsPRESS : Nat := 6
def rsREFUSED : Nat := 7
def rsCONFIRM : Nat := 8

-- Mounting (R388) --------------------------------------------------------------------------------------------------------

/-- What a successful mount finds in the store: an accepted commit that a power loss left unacknowledged is present if
its commit record is (R398), the vault's index, the press record. -/
def State.mountStore (s : State) (found replayed : Bool) : State :=
  let s := match s.vtCommit with
    | none => s
    | some t =>
      let s := { s with vtCommit := none }.set pgVT RS_VT_STATUS.COMMITTING 0
      if found then s.takeVault (s.get pgVT RS_VT_SEQ) (applyRecs s.vault t.recs)
      else s.set pgVT RS_VT_SEQ (s.get pgVT RS_VT_DURABLE)
  let s := s.takeVault (s.get pgVT RS_VT_DURABLE) s.vault
  let s := (s.set pgVT RS_VT_SPACE.CAP (256 * s.vtFmt)).set pgRS RS_STATE.REPLAYED (b2n replayed)
  ({ s with refresh := [], vtRebuild := false }.setStatus pgRS stRS_MOUNTED).syncHoldOff

/-- R388: mounting ends. -/
def execMountDone (outcome : Nat) (geom blocks reserve : Word) (found replayed late : Bool) (s : State) :
    Host.Outcome State Fault Refusal :=
  if s.get pgRS RS_STATE.STATE != 1 || !s.pageOn pgRS || decide (outcome < 2) || decide (4 < outcome) then .next s
  else
    let s := (s.set pgRS RS_STATE.STATE outcome).setReg (RS_GEOM.RAW_GIB.addr pgRS 0) (geom &&& 0xFFFFFF0F#32)
    let s := (s.setReg (RS_BLOCKS.RETIRED.addr pgRS 0) blocks).setReg (RS_RESERVE.NEEDED.addr pgRS 0) reserve
    let s := if outcome == 2 then s.mountStore found replayed else s
    let s := s.cpSyncPage 3
    let s := if outcome == 2 && late then s.raiseFault pgPR 1 0 accREAD 0x23 else s
    .next (if s.bootStep == 5 then s.bootFive else s)

-- Store commands (R386, R387, R390) -----------------------------------------------------------------------------------------

/-- A command or raw operation ends with a result. -/
def State.rsResult (s : State) (code : Nat) : State :=
  ({ s with rsOp := none }.set pgRS RS_CMD_RES.RESULT code).set pgRS RS_CMD_RES.BUSY 0

/-- A store command refused at once; one in hand runs on. [Log 67 DEDUCED] -/
def State.rsRefuse (s : State) (code : Nat) : State :=
  (s.set pgRS RS_CMD_RES.RESULT code).setStatus pgRS stRS_CMD_DONE

/-- A store command or raw operation begins. [Log 67 DEDUCED] -/
def State.rsBegin (s : State) (op : RsOp) : State := { s with rsOp := some op }.set pgRS RS_CMD_RES.BUSY 1

/-- A write of RS_CMD with GO = 1: OP and SLOT are stored; the command runs unless something stands against it: one in
hand, a press, a store that is not mounted (`fmt` tells that an unformatted one does), a read-only store, a role that
takes no library commands (R389, R409, R478). [Log 33 DESIGN CHOICE, 67 DEDUCED] -/
def State.rsCmd (s : State) (op slot : Nat) (fmt write : Bool) (f : State → State) : State :=
  let s := (s.set pgRS RS_CMD.OP op).set pgRS RS_CMD.SLOT slot
  let st := s.get pgRS RS_STATE.STATE
  if !s.accepts pgRS then s
  else if s.rsOp.isSome then s.rsRefuse rsBUSY
  else if s.pressOn then s.rsRefuse rsPRESS
  else if !(s.mounted || (fmt && (st == 3 || st == 4))) then s.rsRefuse rsUNMOUNTED
  else if write && (s.readOnly || s.secondary) then s.rsRefuse rsREFUSED
  else f s

/-- FORMAT begins under its confirmation (R386). -/
def State.rsFormat (s : State) (confirm : Nat) : State :=
  s.rsCmd 1 (s.get pgRS RS_CMD.SLOT) true true fun s =>
    if confirm != 0xA5 then s.rsRefuse rsCONFIRM else s.rsBegin .format

/-- R386: FORMAT. -/
def execFormat (m : Master) (confirm : Byte) (s : State) : Host.Outcome State Fault Refusal :=
  .next (s.gateF m pgRS RS_CMD.OP 0 fun s => s.rsFormat confirm.toNat)

/-- The command in hand ends with a result. -/
def State.rsEnd (s : State) (code : Nat) : State := (s.rsResult code).setStatus pgRS stRS_CMD_DONE

/-- The sheet of a LIB_WRITE is read and checked (R181, R387) before its slot is written; in host-assisted mode the library
then asks for an erased block. While DMA masters wait, so does the command (R36). -/
def State.libFetch (s : State) : State :=
  match s.rsOp with
  | some (.libFetch slot data) =>
    if !s.dmaOk then s
    else
      match data with
      | none => s.rsEnd rsDMA
      | some d =>
        if 32 * 2 ^ 20 < d.length then s.rsEnd rsFULL
        else
          let code := (s.checkSheet d).1
          let s := s.set pgRS RS_CMD_RES.CFG_CODE code
          if code != 0 then s.rsEnd rsCHECK
          else
            let s := s.rsBegin (.libWrite slot d)
            if s.hostAssisted pgRS then s.haReq 1 2 0 else s
  | _ => s

/-- LIB_WRITE begins. [Log 67 DEDUCED] -/
def State.rsLibWrite (s : State) (slot : Nat) (data : Option (List Byte)) : State :=
  s.rsCmd 2 (slot % 64) false true fun s => (s.rsBegin (.libFetch (slot % 64) data)).libFetch

/-- R387: LIB_WRITE. -/
def execLibWrite (m : Master) (slot : Nat) (data : Option (List Byte)) (s : State) :
    Host.Outcome State Fault Refusal :=
  .next (s.gateF m pgRS RS_CMD.OP 0 fun s => s.rsLibWrite slot data)

/-- LIB_ERASE, SET_STARTUP and a refresh sweep begin. -/
def State.rsLibErase (s : State) (slot : Nat) : State :=
  s.rsCmd 3 (slot % 64) false true fun s => s.rsBegin (.libErase (slot % 64))
def State.rsSetStartup (s : State) (slot : Nat) : State :=
  s.rsCmd 4 (slot % 64) false true fun s => s.rsBegin (.setStartup (slot % 64))
def State.rsSweep (s : State) : State := s.rsCmd 5 (s.get pgRS RS_CMD.SLOT) false false fun s => s.rsBegin .sweep

/-- R387: LIB_ERASE. -/
def execLibErase (m : Master) (slot : Nat) (s : State) : Host.Outcome State Fault Refusal :=
  .next (s.gateF m pgRS RS_CMD.OP 0 fun s => s.rsLibErase slot)

/-- R387: SET_STARTUP. -/
def execSetStartup (m : Master) (slot : Nat) (s : State) : Host.Outcome State Fault Refusal :=
  .next (s.gateF m pgRS RS_CMD.OP 0 fun s => s.rsSetStartup slot)

/-- R390: a refresh sweep now. -/
def execRefreshSweepNow (m : Master) (s : State) : Host.Outcome State Fault Refusal :=
  .next (s.gateF m pgRS RS_CMD.OP 0 State.rsSweep)

/-- The store is laid out anew (R386): every partition but the boot copy is empty. [Log 67 DEDUCED] -/
def State.formatStore (s : State) : State :=
  let n := s.get pgRS RS_FMT.VAULT
  let fresh := !s.mounted
  let s := { s with
    lib := [], bfeImg := [], caps := [], prSaved := [], refresh := [], vtFmt := n, bfeSize := s.get pgBFE BFE_CFG.SIZE }
  let s := ((s.set pgRS RS_LIB_VALID_LO 0).set pgRS RS_LIB_VALID_HI 0).setReg (RS_LIB_STARTUP.VALID.addr pgRS 0) 0
  let s := (s.takeVault 0 []).set pgVT RS_VT_SPACE.CAP (256 * n)
  let s := s.setReg (BFE_IMAGE.B_VALID.addr pgBFE 0) 0
  let s := (s.set pgBFE BFE_BOOT.TRIES 0).set pgBFE BFE_BOOT.FELL_BACK 0
  let s := s.each (List.range 16) fun s i =>
    ((s.set pgCAP RS_CAP_NEXT 0 i).set pgCAP RS_CAP_OLDEST 0 i)
  let s := s.set pgRS RS_STATE.STATE 2
  if fresh then s.setStatus pgRS stRS_MOUNTED else s

/-- A library command has been carried out: the primary sends it to its peer, or notes that the peer lacks it (R477).
[Log 69 DEDUCED] -/
def State.libDone (s : State) (f : TwinMsg) : State :=
  let s := s.mirror f
  if s.role == 3 && !s.flag pgTW TW_STATUS.LINK_UP then s.set pgTW TW_STATUS.LIB_SYNCED 0 else s

/-- R420: the store command in hand completes; one that waits for host software's block does not. -/
def execCmdDone (full : Bool) (s : State) : Host.Outcome State Fault Refusal :=
  let done (s : State) (c : Nat) : Host.Outcome State Fault Refusal := .next (s.rsEnd c)
  if !s.pageOn pgRS || s.flashWaits then .next s
  else
    match s.rsOp with
    | some .format => done s.formatStore rsOK
    | some (.libWrite slot d) =>
      if s.flag pgRS RS_HA_REQ.PENDING && s.hostAssisted pgRS then .next s
      else if full then done s rsFULL
      else done ((s.putSlot slot d).libDone (.libWrite slot d)) rsOK
    | some (.libErase slot) => done ((s.emptySlot slot).libDone (.libErase slot)) rsOK
    | some (.setStartup slot) => done ((s.setStartup slot).libDone (.setStartup slot)) rsOK
    | some .sweep => done s rsOK
    | _ => .next s

-- Refresh and host-assisted management (R390, R392) --------------------------------------------------------------------------

/-- The oldest refresh candidate is put to host software, where none is. [Log 68 DEDUCED] -/
def State.askRefresh (s : State) (part : Nat) : State :=
  match s.refresh with
  | [] => s
  | b :: rest => if s.flag pgRS RS_HA_REQ.PENDING then s else { s with refresh := rest }.haReq 3 part b

/-- A block is scheduled for refresh; in host-assisted mode it is a candidate of host software's. [Log 68 DEDUCED] -/
def State.scheduleRefresh (s : State) (part blk : Nat) : State :=
  let s := if s.refresh.contains blk then s else { s with refresh := s.refresh ++ [blk] }
  if s.hostAssisted pgRS then s.askRefresh part else s

/-- R390: the refresh engine reads a programmed block; the last read of a sweep ends it, its blocks rewritten.
[Log 68 DEDUCED] -/
def execRefreshRead (part : Nat) (addr : Word) (worst : Nat) (disturbed last : Bool) (s : State) :
    Host.Outcome State Fault Refusal :=
  if !s.mounted || !s.runs pgRS || s.pressOn || s.flashWaits then .next s
  else
    let r := s.injectedCheck pgRS 0
    let s := r.2
    let worst := if r.1 then 101 else worst
    let worn := decide (s.get pgRS RS_REFRESH.THRESH < worst) && decide (worst ≤ 100)
    let s := if worn || disturbed then s.scheduleRefresh part (Config.rowBlock addr.toNat % 2 ^ 24) else s
    let s := if last then
        ({ s with refresh := if s.hostAssisted pgRS then s.refresh else [] }.incWrap pgRS RS_REFRESH.SWEEPS).setStatus pgRS
          stRS_SWEEP_DONE
      else s
    if 100 < worst then .next (s.raiseFault pgRS 1 addr accREAD 0x23 id r.1)
    else if worn then .next (s.raiseFault pgRS 0 addr accREAD 0x23)
    else .next s

/-- A write of RS_HA_ANS: the request in hand is answered (R392). -/
def State.haAnswer (s : State) (v : Word) : State :=
  if bit v.toNat 31 && s.flag pgRS RS_HA_REQ.PENDING && s.hostAssisted pgRS then
    (s.set pgRS RS_HA_REQ.PENDING 0).askRefresh (s.get pgRS RS_HA_REQ.PART)
  else s

/-- R392: RS_HA_ANS. -/
def execRsHaAns (m : Master) (v : Word) (s : State) : Host.Outcome State Fault Refusal :=
  .next (s.gateF m pgRS RS_HA_ANS.GO 0 fun s => s.haAnswer v)

/-- A raw operation refused at once. -/
def State.rawRefuse (s : State) (code : Nat) : State :=
  ((s.set pgRS RS_CMD_RES.RESULT code).set pgRS RS_RAW.ERR 1).setStatus pgRS stRS_RAW_DONE

/-- A write of RS_RAW with GO = 1 (R392, R420): OP and BLOCK are stored; the operation runs in host-assisted mode, on a
block that is none of the boot copy's; while DMA masters wait, its DMA does (R36). -/
def State.rawCmd (s : State) (op : Nat) (v : Word) (data : List Byte) : State :=
  let blk := bits v.toNat 0 24
  let s := (s.set pgRS RS_RAW.OP op).set pgRS RS_RAW.BLOCK blk
  if !s.accepts pgRS then s
  else if s.rsOp.isSome then s.rawRefuse rsBUSY
  else if s.pressOn then s.rawRefuse rsPRESS
  else if s.get pgRS RS_STATE.STATE < 2 then s.rawRefuse rsUNMOUNTED
  else if !s.hostAssisted pgRS || Config.bootCopyBlock blk || (op != 1 && s.readOnly) then s.rawRefuse rsREFUSED
  else s.rsBegin (.raw op blk (s.get pgRS RS_RAW.PAGE) data)

/-- R392: a raw read of a page. -/
def execRawReadPage (m : Master) (v : Word) (data : List Byte) (s : State) : Host.Outcome State Fault Refusal :=
  .next (s.gateF m pgRS RS_RAW.OP 0 fun s => s.rawCmd 1 v data)

/-- R392: a raw program of a page. -/
def execRawProgramPage (m : Master) (v : Word) (data : List Byte) (s : State) : Host.Outcome State Fault Refusal :=
  .next (s.gateF m pgRS RS_RAW.OP 0 fun s => s.rawCmd 2 v data)

/-- R392: a raw erase of a block. -/
def execRawEraseBlock (m : Master) (v : Word) (s : State) : Host.Outcome State Fault Refusal :=
  .next (s.gateF m pgRS RS_RAW.OP 0 fun s => s.rawCmd 3 v [])

/-- R420: the raw operation in hand completes: a page read goes to RS_SRC_ADDR; a program or erase has been made.
[Log 68 DEDUCED] -/
def execRawDone (ok : Bool) (s : State) : Host.Outcome State Fault Refusal :=
  match s.rsOp with
  | some (.raw op blk page data) =>
    if !s.pageOn pgRS || (op != 3 && !s.dmaOk) then .next s
    else
      let s := if !ok then s
        else if op == 1 then s.toHost (s.get64 pgRS RS_SRC_ADDR_LO) data
        else { s with nandOut := .raw op blk page data :: s.nandOut }
      .next (((s.rsResult rsOK).set pgRS RS_RAW.ERR (b2n !ok)).setStatus pgRS stRS_RAW_DONE)
  | _ => .next s

/-- R420: a NAND die does not respond within 10 ms. -/
def execNandNotResponding (addr : Word) (s : State) : Host.Outcome State Fault Refusal :=
  if s.pageOn pgRS && s.present pgRS && s.get pgRS RS_STATE.STATE != 0 then
    .next (s.raiseFault pgRS 3 addr accREAD 0x23)
  else .next s

end Sys2Proof.Machine
end

