-- ==== Sys2Proof/Machine/Press.lean ====
section
/-!
DEFINITION. The commands of the press (R405-R413, R423).
-/
namespace Sys2Proof.Machine
open Sys2Proof F

/-- R405: CP126 has reported LO crossed at 1,000 consecutive ticks: the enabled press is armed. -/
def execPressArmed (s : State) : Host.Outcome State Fault Refusal :=
  if s.flag pgPR RS_PR_CTRL.EN && !s.flag pgPR RS_PR_STATE.ARMED && decide (1000 ≤ s.pressRuns.lo) then
    .next (((s.set pgPR RS_PR_STATE.ARMED 1).setStatus pgPR stPR_ARMED).syncHoldOff)
  else .next s

/-- R405: CP126 has reported LO not crossed at 2 consecutive ticks. -/
def execVinFall (s : State) : Host.Outcome State Fault Refusal :=
  if 2 ≤ s.pressRuns.loOff then .next (s.pressStart 1 false) else .next s

/-- R405: PWR_FAIL# is low. -/
def execPwrFail (s : State) : Host.Outcome State Fault Refusal :=
  if s.flag pgPR RS_PR_CTRL.PWR_FAIL_EN && s.tbRun then .next (s.pressStart 2 false) else .next s

/-- R405: CP127 has reported LO not crossed at 2 consecutive ticks. -/
def execHoldupTrip (s : State) : Host.Outcome State Fault Refusal :=
  if s.flag pgPR RS_PR_CTRL.HU_TRIP_EN && decide (2 ≤ s.pressRuns.huOff) then .next (s.pressStart 3 false) else .next s

/-- A write of 1 to RS_PR_CTRL.TRIG. -/
def State.pressTrig (s : State) : State := s.pressStart 4 (s.flag pgPR RS_PR_CTRL.TRIG_HOLD)

/-- R405: RS_PR_CTRL.TRIG. -/
def execPressTrig (m : Master) (s : State) : Host.Outcome State Fault Refusal :=
  .next (s.gateF m pgPR RS_PR_CTRL.TRIG 0 State.pressTrig)

/-- R407, R526: the step of a press completes; with no press the park of an entry into HOLD does. -/
def execPressStepDone (pfHigh : Bool) (s : State) : Host.Outcome State Fault Refusal :=
  if s.press.isSome then .next (s.pressStep pfHigh)
  else if s.holdEntry then .next s.surrender.enterHold
  else .next s

/-- A register of the press takes a quotient, limited to what its field holds. -/
def State.putQuotient (s : State) (f : Fld) (a : Nat × Nat) (cap : Nat) : State :=
  let r := s.quotient a
  r.2.set pgPR f (min r.1 cap)

/-- R411: the conversion of HOLDUP_SENSE is evaluated, a code standing for 312.5 uV; energies and HOLD_OFF follow. -/
def execEnergyMeasurement (s : State) : Host.Outcome State Fault Refusal :=
  match s.energySample with
  | none => .next s
  | some (t, y) =>
    let s := { s with energySample := none, energyAt := some t, energyUv := (y * 625 / 2).toNat, energyTold := false }
    let s := (s.set pgPR RS_PR_VHU.STALE 0).putQuotient RS_PR_VHU.MV (s.vhu256, 256 * 1000) 0xFFFF
    let s := s.putQuotient RS_PR_AVAIL s.availEnergy (2 ^ 32 - 1)
    .next (s.putQuotient PRESS_BUDGET (s.budget 0) (2 ^ 32 - 1)).syncHoldOff

/-- R423: the energy measurement has been stale, that is older than 1 ms (R411), for more than 10 ms.
[Log 71 DEDUCED] -/
def execEnergyStale (s : State) : Host.Outcome State Fault Refusal :=
  let last := s.energyAt.getD 0
  if s.energyTold || !s.tbRun || decide (s.clk ≤ last + 11000000) then .next s
  else
    let s := { s with energyTold := true }.set pgPR RS_PR_VHU.STALE 1
    let s := (s.setStatus pgPR stPR_STALE).syncHoldOff
    .next (if s.flag pgPR RS_PR_CTRL.EN then s.raiseFault pgPR 0 0 accREAD 0x23 else s)

/-- A write of 1 to RS_PR_CTRL.SAVE: the parameters go to the store tables of a mounted store (R405, R423).
[Log 71 DEDUCED] -/
def State.pressSave (s : State) : State :=
  if s.mounted && !s.readOnly && !s.pressOn then
    { s with
      prSaved := (List.range 8).map fun i =>
        let w := s.reg (pgPR * 0x1000 + 0x040 + 4 * i)
        if i == 0 then w &&& 0x1D#32 else w }
  else s

/-- R423: RS_PR_CTRL.SAVE. -/
def execSave (m : Master) (s : State) : Host.Outcome State Fault Refusal :=
  .next (s.gateF m pgPR RS_PR_CTRL.SAVE 0 State.pressSave)

/-- A comparator that runs on takes the tick instants of its new owner. -/
def State.cpRetime (s : State) (c : Nat) : State :=
  if s.cpRun.contains c then { s with cpNext := aput s.cpNext c (s.cpAfter c s.clk) } else s

/-- A write of a parameter word of the press page: an enable or disable starts the press's comparators anew.
[Log 71 DEDUCED] -/
def State.pressWrite (s : State) (off : Nat) (v : Word) : State :=
  let was := s.get pgPR RS_PR_CTRL.EN
  let s := s.plainWrite off v
  let s := if s.get pgPR RS_PR_CTRL.EN == was then s
    else
      let s := { s with pressRuns := State.reset.pressRuns }.set pgPR RS_PR_STATE.ARMED 0
      ((s.cpSyncPage 3).cpRetime 126 |>.cpRetime 127).syncHoldOff
  let here := off == RS_PR_CTRL.EN.addr pgPR 0
  let s := if here && bit v.toNat 6 then s.pressSave else s
  if here && bit v.toNat 1 then s.pressTrig else s

end Sys2Proof.Machine
end

