-- ==== Sys2Proof/Machine/Routing.lean ====
section
/-!
DEFINITION. The commands of the crossbars, routes, long lines and block memories (chapter 05).
-/
namespace Sys2Proof.Machine
open Sys2Proof F

-- Crossbar and routes ---------------------------------------------------------------------------------------------

/-- A consumer's side accepts values: its bank runs, and a fabric event, stream, DMA or lane port accepts transfers, an event
port the rest of a submission that it has begun (R147, R192). -/
def State.dstRuns (s : State) (d : Dst) : Bool :=
  match d with
  | .port (.event b i) _ => s.portOpen b || (s.bankRuns b && (aget s.subIn (8 * b + i)).isSome)
  | .port (.stream b) _ | .port (.dma b) _ => s.portOpen b
  | .port (.lane q l) _ => s.portOpen (FabPort.lane q l).bank
  | d => match d.bank with | none => true | some b => s.bankRuns b

/-- A value stands at every consumer; pass-through tiles forward it (R97), lane ports take it (R514), latches and levels
follow it. -/
def State.deliverAll (s : State) (id : Nat) (n : Net) (v : Nat) : State :=
  let s := { s with nets := aput s.nets id { n with delivered := true } }
  let s := (n.dsts.foldl (fun s d => s.deliver v d) s).flow
  n.dsts.foldl (fun s d => match d with
    | .x b t _ _ => s.forwardOne b t
    | .port (.lane q l) _ => s.laneTake q l
    | _ => s) s

/-- R126: a bundle crosses its crossbar once its consumers can take it. -/
def execCrossbarTransfer (id : Nat) (s : State) : Host.Outcome State Fault Refusal :=
  match aget s.nets id with
  | none => .next s
  | some n =>
    match n.val with
    | none => .next s
    | some v =>
      if n.kind = .crossbar ∧ !n.delivered ∧ n.dsts.all s.dstRuns ∧ n.dsts.all s.dstFree then
        .next (s.deliverAll id n v).settle
      else .next s

/-- A receiver refuses an illegal code in the group of bit `g` (R129, R131); the word-lane receiver's port reads 0x3F. -/
def State.illegalCode (s : State) (n : Net) (r g : Nat) : State :=
  match n.recv[r]? with
  | none => s
  | some (b, c, port) =>
    s.raiseFault (pgFB b) 5 (BitVec.ofNat 32 (c * 2 ^ 16 + if n.kind = .wordLane then 0x3F else (port + g % n.width) % 64))
      accHAND (Master.fabric b).id

/-- R128: a value reaches every receiver of a route or word lane whose gates are open, or one of them refuses the code in the
group of a bit. -/
def execRouteTransfer (id : Nat) (bad : Option (Nat × Nat)) (s : State) : Host.Outcome State Fault Refusal :=
  match aget s.nets id with
  | none => .next s
  | some n =>
    match n.val with
    | none => .next s
    | some v =>
      if (n.kind = .route ∨ n.kind = .wordLane) ∧ !n.delivered ∧ n.dsts.all s.dstRuns ∧
          n.gates.all (fun b => !s.gatesClosed.contains b) ∧
          !(match s.couch with | some c => State.crosses c n | none => false) then
        match bad with
        | some (r, g) => .next (s.illegalCode n r g)
        | none =>
          if n.dsts.all s.dstFree ∧ s.srcFree (.net id) then
            .next (((s.deliverAll id n v).present' (.net id) v).settle)
          else .next s
      else .next s

-- Long lines --------------------------------------------------------------------------------------------------------

/-- The line carries no value: its read taps have nothing to take (R135). -/
def State.lineFree (s : State) (b line : Nat) : Bool := s.srcFree (.tap b line)

/-- The taps that drive a line within the value at hand (R135, R137): those whose value is on it; a static tap as soon as its
data input presents a value; a dynamic one that samples its enable at 1 while the line is at null. -/
def State.lineDrivers (s : State) (b line : Nat) : List Nat :=
  ((s.lineTaps b line).filter fun t =>
    match aget s.tapIn (128 * b + t.tap) with
    | none => false
    | some (_, driving) => driving || t.static || (s.tapEnable b t.tap && s.lineFree b line)).map Tap.tap

/-- R135: the one driver tap that drives puts the value at its data input onto its line; the read taps present it, and the
tap's value counts as taken once their consumers have acknowledged it. [Log 42 DEDUCED] -/
def execLongLineTransfer (b line tap : Nat) (s : State) : Host.Outcome State Fault Refusal :=
  match aget s.tapIn (128 * b + tap) with
  | none => .next s
  | some (v, _) =>
    if s.bankRuns b ∧ line < 64 ∧ s.lineDrivers b line = [tap] ∧ !s.lineNull b line ∧ s.lineFree b line then
      let s := { s with tapIn := aput s.tapIn (128 * b + tap) (v, true) }
      .next (((s.present' (.tap b line) (b2n v)).emptyOut (.tap b line)).settle)
    else .next s

/-- R137: two or more driver taps drive one line within one value: the line goes to null, the values of the taps count as
sent, and no reader takes a value of the clash. -/
def execLongLineClash (b line : Nat) (s : State) : Host.Outcome State Fault Refusal :=
  let p := pgFB b
  let l := s.lineDrivers b line
  if s.bankRuns b ∧ line < 64 ∧ 2 ≤ l.length ∧ !s.lineNull b line then
    let s := if line < 32 then (s.setMaskBit p FB_LL_CLASH_LO line true).setMaskBit p FB_LL_NULL_LO line true
      else (s.setMaskBit p FB_LL_CLASH_HI (line - 32) true).setMaskBit p FB_LL_NULL_HI (line - 32) true
    let s := { s with
      tapIn := s.tapIn.filter fun (e : Nat × (Bool × Bool)) => !(e.1 / 128 == b && l.contains (e.1 % 128)),
      nets := s.nets.map fun (e : Nat × Net) =>
        if e.2.src = Src.tap b line ∧ !e.2.delivered then (e.1, { e.2 with val := none }) else e }
    .next ((s.settle.setStatus p stLL_CLASH).raiseFault p 2 (BitVec.ofNat 32 line) accHAND (Master.fabric b).id)
  else .next s

/-- R137: no driver tap of the line is enabled at once; a static tap always is. -/
def execLongLineNullRelease (b line : Nat) (s : State) : Host.Outcome State Fault Refusal :=
  if line < 64 ∧ s.lineNull b line ∧ (s.lineTaps b line).all fun t => !s.tapEnabled b t then
    .next (if line < 32 then s.setMaskBit (pgFB b) FB_LL_NULL_LO line false
      else s.setMaskBit (pgFB b) FB_LL_NULL_HI (line - 32) false)
  else .next s

-- Block memories ------------------------------------------------------------------------------------------------------

/-- R140: the access that stands on the command channel of a port, applied whole in the arbiter's order: its read data and
ERR, or its completion, leave on the response channel. The upset bits found in the words read come from outside. A memory
takes no access between the exchange of a couch and its WR step, and takes them from then on (R195, R200). -/
def execMemoryAccess (b k : Nat) (second : Bool) (flips : List Nat) (s : State) : Host.Outcome State Fault Refusal :=
  let p := FabPort.mem b k second
  let c := (s.portGot p).val
  let n := s.memWidth b k
  let addr := memAddr c
  if k < 24 ∧ s.memRuns b ∧ s.portFull p ∧ s.srcFree (.port p) then
    let s := s.upsets b k (addr * n % 0x4000 / 8) flips
    let mas := (Master.fabric b).id
    if memWr c then
      let r := s.localWrite b k (addr * n % 0x4000) (if n = 1 then 1 else memBe c) (leBytes n (memData c)) accHAND mas
      .next (({ r.2 with resp := [], respErr := r.1 }.present' (.port p) (b2n r.1 * 2 ^ 128)).takePort p)
    else
      let r := s.memRead b k (addr * n % 0x4000) n accHAND mas
      .next (({ r.2.2 with resp := r.1, respErr := r.2.1 }.present' (.port p) (leNat r.1 + b2n r.2.1 * 2 ^ 128)).takePort p)
  else .next s

/-- The scrubber of a bank. -/
def State.scrub (s : State) (b : Nat) : Scrub := (aget s.scrubs b).getD { pos := 0, start := 0 }

/-- The next protected word of a pass, from position `i` on (R142). -/
def State.nextProtected (s : State) (b i : Nat) : Option Nat :=
  ((List.range 24).find? fun k => decide (i < 2048 * (k + 1)) && s.memEcc b k).map fun k => max i (2048 * k)

/-- R142: the scrubber of a bank reads its next protected word; a pass begins FB_SCRUB.PERIOD after the one before it began,
and ends once every protected word has been read. The upset bits found in the word come from outside. -/
def execMemoryScrub (b : Nat) (flips : List Nat) (s : State) : Host.Outcome State Fault Refusal :=
  if s.bankRuns b ∧ s.flag (pgFB b) FB_SCRUB.EN ∧ s.tbRun then
    let sc := s.scrub b
    let s := if sc.pos = 0 ∧ (aget s.scrubs b).isSome then
        s.reachClk (sc.start + s.get (pgFB b) FB_SCRUB.PERIOD * 1000000000) else s
    let start := if sc.pos = 0 then s.clk else sc.start
    let s := match s.nextProtected b sc.pos with
      | none => s
      | some i => ((s.upset b (i / 2048) (i % 2048) (flips.map (· % 72))).eccWord b (i / 2048) (i % 2048) accSCRUB
          (Master.fabric b).id).2
    let next := (s.nextProtected b sc.pos).bind fun i => s.nextProtected b (i + 1)
    match next with
    | some i => .next { s with scrubs := aput s.scrubs b { pos := i, start := start } }
    | none =>
      .next ({ s with scrubs := aput s.scrubs b { pos := 0, start := start } }.incWrap (pgFB b) FB_SCRUB.PASSES |>.setStatus
        (pgFB b) stSCRUB_PASS)
  else .next s

/-- FB_CTRL.CNT_CLR (R149). -/
def State.cntClr (s : State) (b : Nat) : State :=
  ((s.set (pgFB b) FB_ECC_COUNT.CORR 0).set (pgFB b) FB_ECC_COUNT.UNC 0).set (pgFB b) FB_MIRROR_DROP 0

def execCntClr (m : Master) (b : Nat) (s : State) : Host.Outcome State Fault Refusal :=
  .next (s.gateF m (pgFB b) FB_CTRL.CNT_CLR 0 fun s => if b < 32 then s.cntClr b else s)

/-- R145, R39: a read or write through BAR2. -/
def execBar2MemoryAccess (m : Master) (off : Nat) (wr : Bool) (len : Nat) (data : List Byte) (s : State) :
    Host.Outcome State Fault Refusal :=
  if 0x400_0000 ≤ off then .fault .outsideBar
  else .next (s.bar2Gate m off (if wr then data.length else len) fun s =>
    if wr then s.bar2Write m off data else s.bar2Read m off len)

/-- R116: the primary copies every mirrored retention-tagged value to the peer, whole. -/
def execMirrorRefresh (s : State) : Host.Outcome State Fault Refusal :=
  .next (s.retA.foldl (fun s e =>
    match s.taggedVal e with
    | none => s
    | some v => if e.mirror && !s.mirrorPaused e.bank then s.mirror (.tagged e.tag e.kind v) else s) s)

end Sys2Proof.Machine
end

