-- ==== Sys2Proof/Machine/Sheets.lean ====
section
/-!
DEFINITION. The commands of the configuration controller and of the sheet authentication page (chapter 06).
-/
namespace Sys2Proof.Machine
open Sys2Proof F

-- Loads ---------------------------------------------------------------------------------------------------------------

/-- A write of CFG_LOAD (R171, R175, R184): LIB_INDEX and SRC are stored, ABORT is applied before START.
[Log 44 DEDUCED] -/
def State.cfgLoad (s : State) (v : Word) : State :=
  let w := v.toNat
  let s := (s.set pgCFG CFG_LOAD.LIB_INDEX (bits w 8 6)).set pgCFG CFG_LOAD.SRC (bits w 0 3)
  let s := if bit w 17 then s.bootAfter (s.stopLoad ldABORT) else s
  if bit w 16 then s.startLoad (bits w 0 3) (bits w 8 6) else s

/-- R171: a write of CFG_LOAD with START = 1. -/
def execLoadStart (m : Master) (v : Word) (s : State) : Host.Outcome State Fault Refusal :=
  .next (s.gateF m pgCFG CFG_LOAD.START 0 fun s => s.cfgLoad (setBits v 16 1 1))

/-- R167: the header of the load in progress arrives; the loader's may come in several frames (R177). -/
def execSheetHeader (raw : List Byte) (avail : Bool) (s : State) : Host.Outcome State Fault Refusal :=
  match s.cfgOp with
  | .load l =>
    if !l.header.isEmpty then .next s
    else if s.loaderWaits l 256 then .next (s.loaderTake l)
    else
      let h := s.loadInput l raw 0 256
      let (l, t) := s.loaderDrop l 256
      .next (s.bootAfter (t.takeHeader l h avail))
  | _ => .next s

def execFrame (raw : List Byte) (s : State) : Host.Outcome State Fault Refusal := .next (s.bootAfter (s.loadCmd 0x01 raw))
def execQuire (raw : List Byte) (s : State) : Host.Outcome State Fault Refusal := .next (s.bootAfter (s.loadCmd 0x02 raw))
def execZero (raw : List Byte) (s : State) : Host.Outcome State Fault Refusal := .next (s.bootAfter (s.loadCmd 0x03 raw))
def execAnalog (raw : List Byte) (s : State) : Host.Outcome State Fault Refusal := .next (s.bootAfter (s.loadCmd 0x04 raw))
def execRetain (raw : List Byte) (s : State) : Host.Outcome State Fault Refusal := .next (s.bootAfter (s.loadCmd 0x05 raw))
def execEndCmd (raw : List Byte) (s : State) : Host.Outcome State Fault Refusal := .next (s.bootAfter (s.loadCmd 0x0F raw))

/-- R175: the load stops at this command boundary. -/
def execAbort (m : Master) (s : State) : Host.Outcome State Fault Refusal :=
  .next (s.gateF m pgCFG CFG_LOAD.ABORT 0 fun s => s.bootAfter (s.stopLoad ldABORT))

/-- The 512 bytes of CFG_XFRAME0-127 (R176). -/
def State.xframe (s : State) : List Byte :=
  (List.range 128).flatMap fun i => wordBytes (s.reg (CFG_XFRAME.addr pgCFG i))

/-- R176: the supplied slot data is checked against the slot's CRC-32 and written to the waiting targets. -/
def State.xframeDone (s : State) : State :=
  match s.cfgOp with
  | .load l =>
    match l.waiting with
    | none => s
    | some q =>
      let d := s.xframe
      let s := s.set pgCFG CFG_XFRAME_REQ.PENDING 0
      let l := { l with waiting := none }
      if aget l.dictCrc q.slot = some (crc32 d) then
        match s.putFrames l d q.targets with
        | (none, l, s) => { s with cfgOp := .load l }.set pgCFG CFG_STATE.OP 2
        | (some (c, f), l, s) => s.endLoad l c q.offset f
      else s.endLoad l ldXFRAME q.offset (q.targets.head?.map fun n => (0, n))
  | _ => s

def execXframeDone (m : Master) (s : State) : Host.Outcome State Fault Refusal :=
  .next (s.gateF m pgCFG CFG_XFRAME_DONE.GO 0 fun s => s.bootAfter s.xframeDone)

-- SHADOW_RESYNC (R180) ------------------------------------------------------------------------------------------------

/-- CFG_CMD.OP = 1: a region absent on the variant makes the command not applied. -/
def State.startResync (s : State) : State :=
  let b := s.get pgCFG CFG_RESYNC_BANKS
  let c := s.get pgCFG CFG_RESYNC_SECTORS
  if !s.cfgFree || decide (2 ^ nBanks s.variant ≤ b) || decide (2 ^ nSectors s.variant ≤ c) then
    s.setStatus pgCFG stBUSY_REJECT
  else (({ s with cfgOp := .resync b c }).clearErr (s.get pgCFG CFG_ERR.SRC)).set pgCFG CFG_STATE.OP 4

def execShadowResync (m : Master) (s : State) : Host.Outcome State Fault Refusal :=
  .next (s.gateF m pgCFG CFG_CMD.OP 0 State.startResync)

/-- The active frames, and the marks of uncorrectable ones, of a bank copied to its shadow plane. -/
def State.copyBank (s : State) (b : Nat) : State :=
  let lo := 0x600 * b
  let inB (p k : Nat) : Bool := k / 65536 == p && decide (lo ≤ k % 65536) && decide (k % 65536 < lo + 0x600)
  let pa := s.activePlane b
  let ps := s.shadowPlane b
  let copied := s.frames.filter fun (e : Nat × List Byte) => inB pa e.1
  let kept := s.frames.filter fun (e : Nat × List Byte) => !inB ps e.1
  { s with
    frames := copied.foldl (fun t (e : Nat × List Byte) => aput t (65536 * ps + e.1 % 65536) e.2) kept,
    frameChk := copied.foldl (fun t (e : Nat × List Byte) =>
      aput t (65536 * ps + e.1 % 65536) (frameBits ps (e.1 % 65536) e.2))
      (s.frameChk.filter fun (e : Nat × BitVec 96) => !inB ps e.1),
    badFrames := s.badFrames.filter fun k => !inB ps k,
    retS := s.retS.filter (fun e => e.bank != b) ++ s.retA.filter fun e => e.bank == b }

/-- The active setting words of a sector copied to their shadow. -/
def State.copySector (s : State) (c : Nat) : State :=
  let inS (k w : Nat) : Bool := w / 16384 == k && decide (1024 * c ≤ w % 16384) && decide (w % 16384 < 1024 * c + 1024)
  let copied := s.setw.filter fun (e : Nat × Word) => inS 0 e.1
  let kept := s.setw.filter fun (e : Nat × Word) => !inS 1 e.1
  { s with setw := copied.foldl (fun t (e : Nat × Word) => aput t (16384 + e.1 % 16384) e.2) kept }

/-- What the shadow of a region holds after a resync, and the repair source that a region without one has from
its identical shadow (R211). [Log 47 DEDUCED] -/
def State.resyncOrigin (s : State) (r : Nat) : State :=
  let o := (aget s.activeSrc r).getD { kind := 0, slot := 0, mark := [] }
  let s := { s with shadowSrc := aput s.shadowSrc r { o with kind := if o.kind = 3 then 0 else o.kind } }
  if o.kind = 0 then s.setOrigin r { o with kind := 3 } else s

/-- R180: the copy of the named regions is complete. -/
def execResyncDone (s : State) : Host.Outcome State Fault Refusal :=
  match s.cfgOp with
  | .resync b c =>
    let s := s.each (maskList b 32) State.copyBank
    let s := s.each (maskList c 8) State.copySector
    let s := s.each (List.range 256) fun s p =>
      let w := s.setting 0 (padIdx p)
      if bit b (bits w.toNat 24 5) then s.setSetting 1 (padIdx p) w else s
    let s := s.each (regions b c) State.resyncOrigin
    let s := { s with heldStale := s.freshen b c }
    let s := s.set pgCFG CFG_TORN_BANKS (Nat.land (s.get pgCFG CFG_TORN_BANKS) (2 ^ 32 - 1 - b))
    let s := s.set pgCFG CFG_TORN_SECTORS (Nat.land (s.get pgCFG CFG_TORN_SECTORS) (255 - c))
    let s := s.set pgCCH CCH_SHADOW_OK_BANKS (Nat.lor (s.get pgCCH CCH_SHADOW_OK_BANKS) b)
    let s := s.set pgCCH CCH_SHADOW_OK_SECTORS (Nat.lor (s.get pgCCH CCH_SHADOW_OK_SECTORS) c)
    .next (({ s with cfgOp := .idle }.set pgCFG CFG_STATE.OP 0).setStatus pgCFG stRESYNC_DONE)
  | _ => .next s

-- Recovery-store updates (R181-R183) ------------------------------------------------------------------------------------

/-- The state record of a region (R181). -/
def State.setRegion (s : State) (fw : Bool) (v : Nat) : State :=
  if fw then s.set pgCFG CFG_RS.FW_STATE v else s.set pgCFG CFG_RS.BOOT_STATE v

/-- CFG_CMD.OP = 2 or 3: an update is accepted under R171 and its check pass begins. -/
def State.startUpdate (s : State) (fw : Bool) : State :=
  if !s.cfgFree then s.setStatus pgCFG stBUSY_REJECT
  else ({ s with cfgOp := .update fw 2 }.clearErr 2).set pgCFG CFG_STATE.OP 5

def execBootUpdate (m : Master) (s : State) : Host.Outcome State Fault Refusal :=
  .next (s.gateF m pgCFG CFG_CMD.OP 0 fun s => s.startUpdate false)

def execFirmwareUpdate (m : Master) (s : State) : Host.Outcome State Fault Refusal :=
  .next (s.gateF m pgCFG CFG_CMD.OP 0 fun s => s.startUpdate true)

/-- An update ends with a failure code. [Log 46 DEDUCED] -/
def State.updateFail (s : State) (code off : Nat) (frame : Word) : State :=
  let s := ({ s with cfgOp := .idle }.set pgCFG CFG_STATE.OP 0).set pgCFG CFG_ERR.CODE code
  let s := s.setReg (CFG_ERR_FRAME.VALID.addr pgCFG 0) frame
  (s.set pgCFG CFG_ERR_OFFSET (if code < 0x10 then 2 ^ 32 - 1 else off)).setStatus pgCFG stRS_UPDATE_FAIL

/-- The code of the check pass with its offset and target (R182). [Log 44 DEDUCED] -/
def State.updateCheck (s : State) (fw : Bool) (img : List Byte) : Nat × Nat × Word :=
  let img := img.take (s.get pgCFG CFG_SRC_LEN)
  if fw then (s.checkFirmware img, 0, 0)
  else if !hdrBoot (img.take 256) || decide (0x30_0000 < 256 + hdrBody (img.take 256)) then (ldHEADER, 0, 0)
  else s.checkSheet img

/-- R181: a step of an update ends. -/
def execRsUpdateStep (ok : Bool) (image : List Byte) (s : State) : Host.Outcome State Fault Refusal :=
  match s.cfgOp with
  | .update fw 2 =>
    let c := s.updateCheck fw image
    if c.1 = 0 then .next { s with cfgOp := .update fw 3 } else .next (s.updateFail c.1 c.2.1 c.2.2)
  | .update fw 3 =>
    if ok then .next { s with cfgOp := .update fw 4, bootCopy := aput s.bootCopy (b2n fw) (imageOf image) }
    else .next (s.updateFail ldINTERNAL 0 0)
  | .update fw 4 => .next ({ s with cfgOp := .update fw 5 }.setRegion fw 1)
  | .update fw 5 =>
    let s := s.clearBytes (regionBase fw) (regionBase fw + regionSize fw)
    if !ok then .next (s.updateFail ldINTERNAL 0 0)
    else
      let s := s.setBytes (regionBase fw) (imageOf image)
      if markOk image then .next { s with cfgOp := .update fw 6 } else .next (s.updateFail ldWATERMARK 0 0)
  | .update fw 6 =>
    if ok && markOk (s.regionImage fw) then
      let s := (({ s with cfgOp := .idle }.set pgCFG CFG_STATE.OP 0).setRegion fw 0).incWrap pgCFG CFG_RS.UPDATE_COUNT
      .next (s.setStatus pgCFG stRS_UPDATE_DONE)
    else .next (s.updateFail ldWATERMARK 0 0)
  | _ => .next s

-- The sheet authentication page (R186) -------------------------------------------------------------------------------------

/-- KEY_DATA0-7 as 32 bytes, and written. -/
def State.keyData (s : State) : List Byte :=
  (List.range 8).flatMap fun i => wordBytes (s.reg (KEY_DATA.addr pgKEY i))

def State.setKeyData (s : State) (l : List Byte) : State :=
  s.each (List.range 8) fun s i => s.setReg (KEY_DATA.addr pgKEY i) (BitVec.ofNat 32 (leAt l (4 * i) 4))

/-- A write of KEY_PROG: ignored without CONFIRM, while an operation is in hand, for a reserved operation, and for
operations 1-4 under lock mask bit [9]. [Log 33 DESIGN CHOICE, 46 DEDUCED] -/
def State.keyProg (s : State) (op slot : Nat) (confirm : Byte) : State :=
  if confirm ≠ 0xA5 ∨ s.keyOp.isSome ∨ op = 0 ∨ 5 < op ∨ (op ≠ 5 ∧ s.locked pgKEY 9) then s
  else { s with keyOp := some { op := op, slot := slot % 4, data := s.keyData } }

def State.keyCmd (s : State) (m : Master) (op slot : Nat) (confirm : Byte) : State :=
  s.gateF m pgKEY KEY_PROG.OP 0 fun s => s.keyProg op slot confirm

def execProgramSlotHash (m : Master) (slot : Nat) (confirm : Byte) (s : State) : Host.Outcome State Fault Refusal :=
  .next (s.keyCmd m 1 slot confirm)
def execRevokeSlot (m : Master) (slot : Nat) (confirm : Byte) (s : State) : Host.Outcome State Fault Refusal :=
  .next (s.keyCmd m 2 slot confirm)
def execProgramSheetKey (m : Master) (confirm : Byte) (s : State) : Host.Outcome State Fault Refusal :=
  .next (s.keyCmd m 3 0 confirm)
def execBlowSignFuse (m : Master) (confirm : Byte) (s : State) : Host.Outcome State Fault Refusal :=
  .next (s.keyCmd m 4 0 confirm)
def execReadSlotHash (m : Master) (slot : Nat) (confirm : Byte) (s : State) : Host.Outcome State Fault Refusal :=
  .next (s.keyCmd m 5 slot confirm)

/-- Revoking a slot would leave none programmed and unrevoked while signatures are required (R170). [Log 46 DEDUCED] -/
def State.lastKey (s : State) (slot : Nat) : Bool :=
  (s.flag pgKEY KEY_POLICY.SIGN_FUSE || s.flag pgKEY KEY_POLICY.SIGN_REQUIRED) &&
    (List.range 4).all fun i => i == slot || s.get pgKEY KEY_SLOTS.SLOT 0 i != 1

/-- What an operation does, and whether it fails (R186). [Log 46 DEDUCED] -/
def State.keyRun (s : State) (k : KeyOp) : Bool × State :=
  match k.op with
  | 1 =>
    if s.get pgKEY KEY_SLOTS.SLOT 0 k.slot = 0 then
      (true, { s with keyHash := aput s.keyHash k.slot k.data }.set pgKEY KEY_SLOTS.SLOT 1 0 k.slot)
    else (false, s)
  | 2 => if s.lastKey k.slot then (false, s) else (true, s.set pgKEY KEY_SLOTS.SLOT 2 0 k.slot)
  | 3 =>
    let z := s.setKeyData (List.replicate 32 0)
    if s.flag pgKEY KEY_POLICY.SHEET_KEY_SET then (false, z)
    else (true, { z with sheetKey := some k.data }.set pgKEY KEY_POLICY.SHEET_KEY_SET 1)
  | 4 => (true, s.set pgKEY KEY_POLICY.SIGN_FUSE 1)
  | _ => (true, s.setKeyData ((aget s.keyHash k.slot).getD (List.replicate 32 0)))

/-- R186: the KEY_PROG operation in hand completes. -/
def execProgDone (s : State) : Host.Outcome State Fault Refusal :=
  match s.keyOp with
  | none => .next s
  | some k =>
    let r := { s with keyOp := none }.keyRun k
    .next (r.2.setStatus pgKEY (if r.1 then stPROG_DONE else stPROG_FAIL))

end Sys2Proof.Machine
end

