-- ==== Sys2Proof/Machine/Tender.lean ====
section
/-!
DEFINITION. The commands of faults and recovery (chapter 15): faults as their checkers report them, the tender, keyed
commands, resets.
-/
namespace Sys2Proof.Machine
open Sys2Proof F

-- Local effects (R427) -------------------------------------------------------------------------------------------

/-- A firmware restart (R455): the local effect of TND source 3 and of MGT source 1. -/
def State.mpRestart (s : State) : State :=
  ({ s with mpDown := true }.incWrap pgTND TND_MP_RESTARTS).setStatus pgTND stMP_RESTART

/-- Parity in a coefficient or correction register of a converter (R277): the slice fails a calibration, or the
channel's staged values come into force again. `o` is the register's offset in its page. -/
def State.cvParity (s : State) (n o : Nat) : State :=
  if 0x100 ≤ o ∧ o < 0x190 then s.sliceFails n ((o - 0x100) / 16)
  else if 0x200 ≤ o ∧ o < 0x300 then
    let c := (o - 0x200) / 8
    s.modConv n fun x => { x with corr := aput x.corr c (sext 20 (s.get (pgCV n) CV_COFF c), s.get (pgCV n) CV_CGAIN c) }
  else s

/-- A block of a ring at a byte offset of the stream buffers is discarded (R373). -/
def State.bufferBad (s : State) (e o : Nat) : State :=
  match ((List.range 4).map (4 * e + ·)).find? fun r =>
      let base := s.rget r ST_RING_BUF.BASE * 0x1000
      decide (base ≤ o) && decide (o < base + s.ringBlocks r * s.ringB r) with
  | none => s
  | some r =>
    let n := (o - s.rget r ST_RING_BUF.BASE * 0x1000) / s.ringB r
    let wp := s.rget r ST_RING_WP
    s.discardBlock r ((n + s.ringBlocks r - wp % s.ringBlocks r) % s.ringBlocks r)

/-- A block is retired for a spare (R389, R420). -/
def State.retireBlock (s : State) (addr : Nat) : State :=
  if s.hostAssisted pgRS then
    let (d, s) := s.draw
    s.haReq 2 ((Config.freeWord d).toNat % 6) (Config.rowBlock addr % 2 ^ 24)
  else
  let n := s.get pgRS RS_BLOCKS.SPARE - 1
  (s.incSat pgRS RS_BLOCKS.RETIRED).set pgRS RS_BLOCKS.SPARE n

/-- The local effect of a fault that no other command makes: by page kind, instance, source, address, access type.
[Log 73 DEDUCED] -/
def State.localEffect (s : State) (k : PageKind) (i src addr acc : Nat) : State :=
  let o := addr % 0x1000
  match k, src with
  | .dev, 1 => if 0x40 ≤ o then { s with regs := adel s.regs o } else s
  | .mgt, 1 => s.mpRestart
  | .tnd, 3 => s.mpRestart
  | .cfg, 1 => s.bootAfter (s.stopLoad ldINTERNAL)
  | .cfg, 2 => s.bootAfter (s.stopLoad ldINTERNAL)
  | .key, 1 => if addr < 5 ∧ !s.keyBad.contains addr then { s with keyBad := addr :: s.keyBad } else s
  | .cv, 2 => s.cvParity i o
  | .fc, 0 =>
    if 0x100 ≤ o ∧ o < 0x500 then
      let c := 16 * i + (o - 0x100) / 0x40
      (s.setFc c FC_CTL.EN 0).chainSync c
    else s
  | .fc, 1 => s.changeChain (16 * i + addr % 16)
  | .cp, 0 =>
    if 0x100 ≤ o ∧ o < 0x300 then
      let c := 32 * i + (o - 0x100) / 0x10
      if s.cpPress c then s else (s.setCp c CP_CFG.EN 0).cpSync c
    else s
  | .da, 1 =>
    if 0x100 ≤ o ∧ o < 0x200 then
      let c := 16 * i + (o - 0x100) / 0x10
      (((s.setDa c DA_CFG.EN 0).daDisable c 0).when s.listening fun s => s.daWarm c)
    else s
  | .ls, 0 => if 0x060 ≤ o ∧ o < 0x080 then s.set pgLS LS_CFG.SRC 0 ((o - 0x060) / 4) else s
  | .gb, 0 =>
    let a := pgGB i * 0x1000 + o
    if s.gbBad.contains a then s else { s with gbBad := a :: s.gbBad }
  | .sq, 1 =>
    if 0x100 ≤ o ∧ o < 0x180 then
      let l := (o - 0x100) / 0x20
      ((s.set (pgSQ i) SQ_LANE_CTRL.EN 0 l).setReg (SQ_LANE_STATUS.ALIGNED.addr (pgSQ i) l) 0).setLane i l laneOff
    else
      s.each (List.range 4) fun s l =>
        ((s.set (pgSQ i) SQ_LANE_CTRL.EN 0 l).setReg (SQ_LANE_STATUS.ALIGNED.addr (pgSQ i) l) 0).setLane i l laneOff
  | .seq, 2 => { s with seqPhase := .idle }.set pgSEQ SEQ_STATUS.RUNNING 0
  | .sch0, 1 => s.breakRecord (addr / 32) { cause := 8, attr := cutAttr (s.pgType pgSCH) (s.pgInst pgSCH) 1 2 }
  | .sch0, 2 => if s.flowBad.contains addr then s else { s with flowBad := addr :: s.flowBad }
  | .sch3, 0 => if acc == accDMAW then s.set pgHQ SCH_CQ_CFG.EN 0 addr else s.set pgHQ SCH_SQ_CFG.EN 0 addr
  | .st, 1 => s.bufferBad i addr
  | .st, 2 => if addr / 4 == i then (s.discardRing addr).set (pgST i) ST_RING_CFG.EN 0 (addr % 4) else s
  | .st, 3 =>
    if 0x100 ≤ o ∧ o < 0x200 then
      let r := (o - 0x100) / 0x40
      (s.discardRing (4 * i + r)).set (pgST i) ST_RING_CFG.EN 0 r
    else s
  | .rs0, 0 =>
    let b := Config.rowBlock addr
    if s.refresh.contains b then s else { s with refresh := s.refresh ++ [b] }
  | .rs0, 2 => s.retireBlock addr
  | .rs1, 1 => { s with vtRebuild := true }
  | .rs0, 4 => (s.set pgRS RS_STATE.READ_ONLY 1).setStatus pgRS stRS_READ_ONLY
  | _, _ => s

/-- A page whose checkers work: present, powered, the device not OFF. [Log 24 DEDUCED] -/
def State.checksOf (s : State) (pg : Nat) : Bool := s.present pg && s.pageOn pg && !s.unpowered

/-- The last spare block has been used when a retirement leaves none: source 4 follows, and the store is read-only
(R389, R420). -/
def State.lastSpare (s : State) (addr : Word) : State :=
  if s.get pgRS RS_BLOCKS.SPARE == 0 && !s.readOnly && !s.hostAssisted pgRS then
    s.raiseFault pgRS 4 addr accDMAW 0x23 fun s => (s.set pgRS RS_STATE.READ_ONLY 1).setStatus pgRS stRS_READ_ONLY
  else s

/-- R426: a checker of a page reports a fault; `inj` as the result of an injected check, which the armed checker alone gives
(R450). [Log 73 DEDUCED] -/
def execFaultDetected (pg src : Nat) (addr : Word) (acc mas : Nat) (inj : Bool) (s : State) :
    Host.Outcome State Fault Refusal :=
  match pageAt pg with
  | none => .next s
  | some (k, i) =>
    let armed := s.flag pg PG_INJECT.ARM && (srcCheckers k src).contains (s.get pg PG_INJECT.CHECKER)
    if !s.checksOf pg || srcClass pg src == 0 || (inj && !armed) then .next s
    else
      let s := if inj then s.spendInjection pg else s
      let s := s.raiseFault pg src addr acc mas (fun s => s.localEffect k i src addr.toNat acc) inj
      .next (if k == .rs0 && src == 2 then s.lastSpare addr else s)

-- ERROR# and HOST_NMI# (R439, R442) --------------------------------------------------------------------------------

/-- [Log 88 DESIGN CHOICE] -/
def execErrorPulseEnd (s : State) : Host.Outcome State Fault Refusal :=
  .next ({ s with errPulse := none }.errorRelease)

/-- [Log 88 DESIGN CHOICE] -/
def execNmiPulseEnd (s : State) : Host.Outcome State Fault Refusal := .next ({ s with nmiHeld := false }.syncNmi)

/-- The registers that carry fault-register parity (R437). -/
def parityRegs : List Nat := [0x018, 0x01C, 0x020, 0x024, 0x028, 0x02C]

/-- R437: the parity check of a fault register; a PG_FAULT_REACT parity that INJECT_FREG has inverted fails. -/
def execFaultRegisterParityCheck (pg off : Nat) (bad : Bool) (s : State) : Host.Outcome State Fault Refusal :=
  let inv := off == 0x01C && s.fregBad.contains pg
  if !s.present pg || s.unpowered || !parityRegs.contains off || !(bad || inv) then .next s
  else
    let s := if inv then { s with fregBad := s.fregBad.filter (· != pg) } else s
    .next (s.raiseOwn pgTND 2 (BitVec.ofNat 32 (pg * 0x1000 + off)))

-- The tender's vote (R453, R454) --------------------------------------------------------------------------------------

/-- The vote is lost (R454): the latch, the safe state with cause 4, ERROR#, HEALTHY, surrender. [Log 74 DEDUCED] -/
def State.loseVote (s : State) : State :=
  (((s.set pgTND TND_STATUS.VOTE_LOST 1).enterSafe 4 0 0 0).surrender).syncHealthy

/-- R453, R454: the tender votes on its three copies. -/
def execTenderVote (a b c : Nat) (s : State) : Host.Outcome State Fault Refusal :=
  if s.unpowered || s.flag pgTND TND_STATUS.VOTE_LOST || (a == b && b == c) then .next s
  else if a != b && b != c && a != c then .next s.loseVote
  else
    let odd := if b == c then 0 else if a == c then 1 else 2
    .next ((s.raiseOwn pgTND 0 (BitVec.ofNat 32 odd) fun s => s.incSat pgTND TND_VOTE).setStatus pgTND
      stVOTE_FIX_TND)

-- The management processor's watch (R455) ------------------------------------------------------------------------------

/-- R455: no heartbeat within TND_WATCH.MP_TIMEOUT. -/
def execMpWatchExpiry (s : State) : Host.Outcome State Fault Refusal :=
  if s.unpowered || s.mpDown || !s.flag pgTND TND_WATCH.MP_EN then .next s
  else .next (s.raiseOwn pgTND 3 0 State.mpRestart)

/-- R455: the firmware signals the tender: the watch begins anew, and so MP_WATCH_EXPIRY does not come; no register
shows it. [Log 74 DEDUCED] -/
def execMpHeartbeat (s : State) : Host.Outcome State Fault Refusal := .next s

/-- R455: the restarted firmware runs again. -/
def execFirmwareRestartDone (s : State) : Host.Outcome State Fault Refusal := .next { s with mpDown := false }

-- Keyed commands (R456) --------------------------------------------------------------------------------------------------

/-- The command word of a keyed command. Each accepted one sets CMD_DONE. [Log 20 DEDUCED, 74 DEDUCED] -/
def State.keyedCommand (s : State) (w : Nat) : State :=
  let op := bits w 24 4
  let arg := bits w 0 8
  let clean := bits w 28 4 == 0 && bits w 8 16 == 0 && (op == 4 || arg == 0)
  if !clean || op == 0 || 4 < op then s.setStatus pgTND stCMD_REJECT
  else
    match op with
    | 1 => ((s.setStatus pgTND stCMD_DONE).chipReset (plainCause 2)).startUp
    | 2 => (s.setStatus pgTND stCMD_DONE).enterSafe 2 0 0 0
    | 3 => (s.setStatus pgTND stCMD_DONE).surrender
    | _ =>
      if s.locked pgTND 9 then s
      else if (pageAt arg).isNone || !s.present arg then s.setStatus pgTND stCMD_REJECT
      else
        { s with fregBad := if s.fregBad.contains arg then s.fregBad else arg :: s.fregBad }.setStatus pgTND stCMD_DONE

/-- A write of TND_CMD. A lost vote ignores every command (R454). [Log 20 DEDUCED] -/
def State.tndKey (s : State) (m : Master) (v : Word) : State :=
  if s.flag pgTND TND_STATUS.VOTE_LOST then s
  else
    let r := s.keyWrite m (TND_CMD.addr pgTND 0) 0x544E4443 0xABB1BBBC v
    if r.1 then r.2.keyedCommand v.toNat else r.2

/-- [Log 20 DEDUCED] -/
def State.tndCmd (s : State) (m : Master) (v : Word) : State := s.gateF m pgTND TND_CMD 0 fun s => s.tndKey m v

def execKeyedChipReset (m : Master) (s : State) : Host.Outcome State Fault Refusal := .next (s.tndCmd m 0x01000000)
def execKeyedSafe (m : Master) (s : State) : Host.Outcome State Fault Refusal := .next (s.tndCmd m 0x02000000)
def execKeyedSurrender (m : Master) (s : State) : Host.Outcome State Fault Refusal := .next (s.tndCmd m 0x03000000)
def execInjectFreg (m : Master) (pg : Nat) (s : State) : Host.Outcome State Fault Refusal :=
  .next (s.tndCmd m (BitVec.ofNat 32 (0x04000000 + pg % 256)))

/-- TND_TRAP.PENDING written 1 (R442). -/
def State.trapClear (s : State) : State := (s.set pgTND TND_TRAP.PENDING 0).syncNmi

def execTndTrapClear (m : Master) (s : State) : Host.Outcome State Fault Refusal :=
  .next (s.gateF m pgTND TND_TRAP.PENDING 0 State.trapClear)

-- Resets (R457-R459) -------------------------------------------------------------------------------------------------------

/-- R458: RESET# is taken: a chip reset that holds at its step 5; in HOLD it ends HOLD (R527).
[Log 74 DEDUCED, 89 DEDUCED] -/
def execResetPin (s : State) : Host.Outcome State Fault Refusal :=
  if s.unpowered || s.resetLow || s.flag pgTND TND_STATUS.VOTE_LOST then .next s
  else if s.power == powerHOLD then .next { s.wakeHold 1 with resetLow := true }
  else .next { s.chipReset (plainCause 1) with resetLow := true }

/-- R458: RESET# rises: start-up begins. -/
def execResetPinRelease (s : State) : Host.Outcome State Fault Refusal :=
  if !s.resetLow then .next s
  else
    let s := { s with resetLow := false }
    .next (if s.power == powerHOLD then s else s.startUp)

/-- R457: the AON supply becomes valid. -/
def execPowerOnReset (s : State) : Host.Outcome State Fault Refusal := .next s.powerOn

end Sys2Proof.Machine
end

