-- ==== Sys2Proof/Machine/Vault.lean ====
section
/-!
DEFINITION. The commands of the settings vault (R394-R401).
-/
namespace Sys2Proof.Machine
open Sys2Proof F

/-- A vault operation is written to RS_VT_CMD: its OP stays readable, and while an APPEND or GET is in hand
another operation ends with BUSY. -/
def State.vtBegin (s : State) (op : Nat) (f : State → State) : State :=
  let s := s.set pgVT RS_VT_CMD.OP op
  if !s.accepts pgVT then s
  else if s.vtOp.isSome then s.vtResult 1
  else if s.pressOn then s.vtResult 7
  else if !s.mounted || s.readOnly then s.vtResult 9
  else f s

/-- [Log 63 DEDUCED] -/
def State.vtCmd (s : State) (m : Master) (op : Nat) (f : State → State) : State :=
  s.gateF m pgVT RS_VT_CMD.OP 0 fun s => s.vtBegin op f

/-- The open transaction, if master `m` owns it; otherwise the code of R396 (2 NOT_OPEN, 3 OWNER). -/
def State.ownTxn (s : State) (m : Master) : Txn ⊕ Nat :=
  match s.txn with
  | none => .inr 2
  | some t => if t.owner = m.id then .inl t else .inr 3

/-- A transaction of a master is opened (R395). -/
def State.openTxn (s : State) (m : Master) : State :=
  if s.txn.isSome || s.vtCommit.isSome then s.vtResult 1
  else (s.setTxn (some { owner := m.id, recs := [], bytes := 0, unwritten := 0, solo := false })).vtResult 0

/-- R395: OPEN. -/
def execOpenTxn (m : Master) (s : State) : Host.Outcome State Fault Refusal :=
  .next (s.vtCmd m 1 fun s => s.openTxn m)

/-- R395: APPEND starts its host DMA; OP_DONE ends it. -/
def execAppend (m : Master) (data : Option (List Byte)) (s : State) : Host.Outcome State Fault Refusal :=
  .next (s.vtCmd m 2 fun s =>
    match s.ownTxn m with
    | .inr c => s.vtResult c
    | .inl _ => { s with vtOp := some (.append data) })

/-- R397, R400: COMMIT is accepted under the energy check and the peer's agreement, or refused. [Log 64 DEDUCED] -/
def execCommit (m : Master) (unwritten : Nat) (full peerOk : Bool) (s : State) :
    Host.Outcome State Fault Refusal :=
  .next (s.vtCmd m 3 fun s =>
    let role := s.get pgTW TW_STATUS.ROLE
    match s.ownTxn m with
    | .inr c => s.vtResult c
    | .inl t =>
      let extra := min unwritten t.bytes
      let new := applyRecs s.vault t.recs
      if s.vtCommit.isSome || s.vtRebuild then s.vtResult 1
      else if s.holdOff extra then s.vtResult 6
      else if 262144 < new.length then s.vtResult 4
      else if full then s.vtResult 8
      else if role == 2 || role == 4 || (s.flag pgTW TW_STATUS.LINK_UP && !peerOk) then s.vtResult 12
      else
        let s := s.set pgVT RS_VT_SEQ (s.get pgVT RS_VT_SEQ + 1)
        let s := s.set pgVT RS_VT_STATUS.COMMITTING 1
        let s := s.setTxn none
        let s := s.mirror (.vault (s.get pgVT RS_VT_SEQ) (t.recs.map fun r => (r.key, r.value)))
        ({ s with vtCommit := some { t with unwritten := extra, solo := s.unpairedVault } }.vtResult 0).syncHoldOff)

/-- The open transaction is abandoned by its owner (R395). -/
def State.abandonTxn (s : State) (m : Master) : State :=
  match s.ownTxn m with
  | .inr c => s.vtResult c
  | .inl _ => (s.setTxn none).vtResult 0

/-- R395: ABANDON. -/
def execAbandon (m : Master) (s : State) : Host.Outcome State Fault Refusal :=
  .next (s.vtCmd m 4 fun s => s.abandonTxn m)

/-- R399: GET starts; OP_DONE ends it. A read-only store still serves it. [Log 70 DEDUCED] -/
def execGetKey (m : Master) (bad : Bool) (s : State) : Host.Outcome State Fault Refusal :=
  .next (s.gateF m pgVT RS_VT_CMD.OP 0 fun s =>
    let s := s.set pgVT RS_VT_CMD.OP 5
    if !s.accepts pgVT then s
    else if s.vtOp.isSome then s.vtResult 1
    else if s.pressOn then s.vtResult 7
    else if !s.mounted then s.vtResult 9
    else { s with vtOp := some (.get bad) })

/-- R397: the commit record becomes readable and the transaction is acknowledged. In a pair whose link has stayed up and
whose vaults are in step the command means both devices' records (R400). [Log 5 DESIGN CHOICE] -/
def execCommitDone (s : State) : Host.Outcome State Fault Refusal :=
  if s.vtCommit.isSome then .next s.acknowledge.syncHoldOff else .next s

/-- The entries of an APPEND join the transaction (R394-R396). -/
def State.appendDone (s : State) (data : Option (List Byte)) (dmaErr : Bool) : State :=
  match s.txn with
  | none => s.vtResult 2
  | some t =>
    match data with
    | none => (s.setTxn none).vtResult 11
    | some d =>
      if dmaErr then (s.setTxn none).vtResult 11
      else
        match parseEntries (d.length / 16 + 1) d with
        | none => (s.setTxn none).vtResult 5
        | some l =>
          if 2 ^ 20 < t.bytes + d.length ∨ 1024 < t.recs.length + l.length then s.vtResult 4
          else (s.setTxn (some { t with recs := t.recs ++ l, bytes := t.bytes + d.length })).vtResult 0

/-- The value of RS_VT_KEY written to RS_VT_ADDR (R395, R399). -/
def State.getDone (s : State) (bad dmaErr : Bool) : State :=
  match aget s.vault (s.get64 pgVT RS_VT_KEY_LO) with
  | none => s.vtResult 10
  | some v =>
    let r := s.injectedCheck pgVT 0
    let s := r.2
    if bad || r.1 then (s.raiseFault pgVT 2 (BitVec.ofNat 32 (s.get pgVT RS_VT_KEY_LO)) accREAD 0x23 id r.1).vtResult 13
    else if dmaErr then s.vtResult 11
    else
      let s := s.toHost (s.get64 pgVT RS_VT_ADDR_LO) (v.take (s.get pgVT RS_VT_LEN))
      (s.set pgVT RS_VT_GOT v.length).vtResult 0

/-- R396: the APPEND or GET in hand finishes its host DMA; while DMA masters wait it does not (R36). -/
def execOpDone (dmaErr : Bool) (s : State) : Host.Outcome State Fault Refusal :=
  match s.vtOp with
  | none => .next s
  | some op =>
    if !s.dmaOk then .next s
    else
      let s := { s with vtOp := none }
      match op with
      | .append d => .next (s.appendDone d dmaErr)
      | .get bad => .next (s.getDone bad dmaErr)

end Sys2Proof.Machine
end

