-- ==== Sys2Proof/Machine/RegWrite.lean ====
section
/-!
DEFINITION. A write of a 32-bit word of BAR0 (R12-R16, R25): the header, the registers of each page that do more than
hold a value, the 64-bit pairs, and the windows.  A write that asks for an operation whose outcome lies outside the
device (host data, an answer of the peer) stores its plain fields; the operation is the command of its own row.
-/
namespace Sys2Proof.Machine
open Sys2Proof F

-- The pages after their headers -------------------------------------------------------------------------------------------

/-- DEV (R59). -/
def State.devWrite (s : State) (o : Nat) (v : Word) : State :=
  if o == 0x054 then (if bit v.toNat 0 then s.set pgDEV DEV_ABSENT_WRITES 0 else s)
  else if o == 0x05C then (s.plainWrite o v).errorRelease
  else s.plainWrite o v

/-- TND (R460). -/
def State.tndWrite (s : State) (m : Master) (o : Nat) (v : Word) : State :=
  let off := pgTND * 0x1000 + o
  if o == 0x044 then s.tndKey m v
  else if o == 0x068 then (if bit v.toNat 0 then s.trapClear else s)
  else if o == 0x078 then (s.plainWrite off v).syncHealthy
  else s.plainWrite off v

/-- PWR page 0 (R550): a request of a power state (the reserved TARGET 3 is rejected, DESIGN CHOICE), and a wake by the
board controller. [Log 33 DESIGN CHOICE] -/
def State.pwrWrite (s : State) (m : Master) (o : Nat) (v : Word) : State :=
  let s := s.plainWrite (pgPWR * 0x1000 + o) v
  if o != 0x040 then s
  else
    let s :=
      if !bit v.toNat 31 then s
      else
        match bits v.toNat 0 2 with
        | 0 => s.toRun
        | 1 => s.toDoze
        | 2 => s.toHold
        | _ => s.setStatus pgPWR stPWR_REJECT
    if bit v.toNat 30 && (m == .mgmtSpi || m == .mgmtI2c) then s.wakeHold 4 else s

/-- PWR page 1 (R551). -/
def State.pmbWrite (s : State) (o : Nat) (v : Word) : State :=
  let off := pgPMB * 0x1000 + o
  if o == 0x044 then s.vcoreTarget (v.toNat % 2 ^ 16)
  else if o == 0x040 then (s.plainWrite off v).syncVcore
  else s.plainWrite off v

/-- SEQ (R553). -/
def State.seqWrite (s : State) (o : Nat) (v : Word) : State :=
  let s := s.plainWrite (pgSEQ * 0x1000 + o) v
  let hw := s.seqHw && s.flag pgSEQ PG_CTRL.EN
  if o == 0x040 then
    let s := if bit v.toNat 31 then s.seqStart else s
    let s := if bit v.toNat 30 && hw then s.railsOff false else s
    if bit v.toNat 29 && hw then { s.setHostRst true with hostDelay := true } else s
  else if o == 0x050 then s.manualOn
  else s

/-- TB page 0 (R87). -/
def State.tbWrite (s : State) (o : Nat) (v : Word) : State :=
  let off := pgTB * 0x1000 + o
  if o == 0x040 then
    let s := s.plainWrite off v
    if bit v.toNat 0 then s.relock else s
  else if o == 0x058 then s.slewAmount v
  else if o == 0x05C then s.slewRate v
  else s.plainWrite off v

/-- TB page 1 (R88). -/
def State.tmWrite (s : State) (o : Nat) (v : Word) : State :=
  match TM_CTRL.EN.index? o with
  | some n => s.timerCtrl n v
  | none => s.plainWrite (pgTM * 0x1000 + o) v

/-- CFG (R184). [Log 33 DESIGN CHOICE] -/
def State.cfgWrite (s : State) (o : Nat) (v : Word) : State :=
  if o == 0x040 then s.cfgLoad v
  else if o == 0x07C then
    match bits v.toNat 0 4 with
    | 1 => s.startResync
    | 2 => s.startUpdate false
    | 3 => s.startUpdate true
    | _ => s
  else if o == 0x084 then (if bit v.toNat 0 then s.bootAfter s.xframeDone else s)
  else s.plainWrite (pgCFG * 0x1000 + o) v

/-- CCH (R216). Where the couch needs the peer's answer (R481) START is the command COUCH_REQUEST. -/
def State.cchWrite (s : State) (o : Nat) (v : Word) : State :=
  if o == 0x040 then
    s.couchCtrl (if s.peerAllows true == s.peerAllows false then v else setBits v 0 1 0) false
  else s.plainWrite (pgCCH * 0x1000 + o) v

/-- AS (R243). -/
def State.asWrite (s : State) (i o : Nat) (v : Word) : State :=
  match AS_GAIN_OVR.OVR.index? o with
  | some r => s.gainOvr i r v
  | none => if o == 0x074 then s.pinRestore i v else s.plainWrite (pgAS i * 0x1000 + o) v

/-- FC (R302): the three setting registers of a chain are checked before they are applied. -/
def State.fcWrite (s : State) (i o : Nat) (v : Word) : State :=
  if 0x100 ≤ o ∧ o % 0x40 < 12 ∧ o % 4 = 0 ∧ o < 0x500 then s.chainWrite (16 * i + (o - 0x100) / 0x40) (o % 0x40 / 4) v
  else s.plainWrite (pgFC i * 0x1000 + o) v

/-- CP (R302, R303); CP_SNAP is reserved on pages 1 to 3. -/
def State.cpPageWrite (s : State) (i o : Nat) (v : Word) : State :=
  match CP_CFG.EN.index? o, CP_THR.LO.index? o with
  | some j, _ => s.cpWrite (32 * i + j) false v
  | _, some j => s.cpWrite (32 * i + j) true v
  | none, none => if o == 0x050 && i != 0 then s else s.plainWrite (pgCP i * 0x1000 + o) v

/-- DA (R325). -/
def State.daWrite (s : State) (i o : Nat) (v : Word) : State :=
  let off := pgDA i * 0x1000 + o
  if o == 0x048 then s.each (maskList v.toNat 16) fun s j => s.restoreOut (16 * i + j)
  else
    match DA_CFG.EN.index? o, DA_CODE.index? o, DA_SAFE.index? o with
    | some j, _, _ => s.daCfg (16 * i + j) v
    | _, some _, _ => s.daCodeWrite off v
    | _, _, some _ => s.daCodeWrite off v
    | none, none, none => s.plainWrite off v

/-- LS (R326). -/
def State.lsWrite (s : State) (o : Nat) (v : Word) : State :=
  let off := pgLS * 0x1000 + o
  if o == 0x040 then s.lsFire (v.toNat % 256)
  else if (LS_CFG.SRC.index? o).isSome then s.lsCfg off v
  else s.plainWrite off v

/-- SCH page 0 (R354, R356). -/
def State.schWrite (s : State) (m : Master) (o : Nat) (v : Word) : State :=
  if o == 0x040 then s.schMode v
  else if o == 0x050 then s.cancel m.id v
  else if o == 0x068 then s.haDecide v
  else s.plainWrite (pgSCH * 0x1000 + o) v

/-- SCH page 3 (R357). -/
def State.hqWrite (s : State) (m : Master) (o : Nat) (v : Word) : State :=
  let q := (o - 0x100) / 0x40
  if o < 0x100 ∨ 14 ≤ q then s
  else
    match o % 0x40 with
    | 0x08 => s.hqCfg q false v
    | 0x0C => s.sqTail q v
    | 0x1C => s.hqCfg q true v
    | 0x24 => s.cqHead q v
    | 0x28 => { s with hqStatus := aput s.hqStatus (256 * q + m.id) v }
    | 0x2C => s.hqDone m.id q v
    | _ => s

/-- RS page 0 (R420). LIB_WRITE, and a raw read or program, are commands of their own rows. -/
def State.rsWrite (s : State) (o : Nat) (v : Word) : State :=
  let w := v.toNat
  let p := s.plainWrite (pgRS * 0x1000 + o) v
  if o == 0x048 && bit w 31 then
    match bits w 0 4 with
    | 1 => p.rsFormat (bits w 16 8)
    | 3 => p.rsLibErase (bits w 8 6)
    | 4 => p.rsSetStartup (bits w 8 6)
    | 5 => p.rsSweep
    | _ => p
  else if o == 0x07C then s.haAnswer v
  else if o == 0x080 && bit w 31 && bits w 24 4 == 3 then s.rawCmd 3 v []
  else p

/-- RS page 1 (R421). APPEND, COMMIT and GET are commands of their own rows. -/
def State.vtWrite (s : State) (m : Master) (o : Nat) (v : Word) : State :=
  let p := s.plainWrite (pgVT * 0x1000 + o) v
  if o == 0x040 && bit v.toNat 31 then
    match bits v.toNat 0 4 with
    | 1 => p.vtBegin 1 fun s => s.openTxn m
    | 4 => p.vtBegin 4 fun s => s.abandonTxn m
    | _ => p
  else p

/-- RS page 2 (R422). -/
def State.capPageWrite (s : State) (o : Nat) (v : Word) : State :=
  match RS_CAP_CFG.EN.index? o with
  | some n => s.capCfg n v
  | none =>
    let s := s.plainWrite (pgCAP * 0x1000 + o) v
    if o == 0x040 && bit v.toNat 31 then s.capStart else s

/-- RS page 3 (R423): the plan is written only in host-assisted mode. -/
def State.prWrite (s : State) (o : Nat) (v : Word) : State :=
  let off := pgPR * 0x1000 + o
  if o < 0x060 then s.pressWrite off v
  else if o == 0x080 || o == 0x084 then (if s.hostAssisted pgPR then { s.plainWrite off v with prPlan := true } else s)
  else s.plainWrite off v

/-- BFE (R424). BFE_UPD.GO is the command BFE_UPD. -/
def State.bfeWrite (s : State) (o : Nat) (v : Word) : State :=
  let s := s.plainWrite (pgBFE * 0x1000 + o) v
  if o == 0x048 then (if bit v.toNat 16 then s.set pgBFE BFE_BOOT.TRIES 0 else s)
  else if o == 0x04C then
    let s := if bit v.toNat 0 then s.bfeDoCommit else s
    if bit v.toNat 1 then s.set pgBFE BFE_IMAGE.UPDATING 0 else s
  else s

/-- SN (R491). -/
def State.snWrite (s : State) (o : Nat) (v : Word) : State :=
  let s := s.plainWrite (pgSN * 0x1000 + o) v
  if o == 0x040 && bit v.toNat 1 then s.enumerate
  else if o == 0x060 then s.strobeTx v
  else s

/-- GB (R519). -/
def State.gbWrite (s : State) (m : Master) (i o : Nat) (v : Word) : State :=
  let off := pgGB i * 0x1000 + o
  if o == 0x040 then s.gbOut i v
  else if o == 0x044 then s.gbDir i v
  else if o == 0x04C then s.padlock m i v
  else
    match GB_CFG.index? o with
    | some j => s.gbCfg (32 * i + j) v
    | none => (s.plainWrite off v).gbRewritten off

/-- SQ (R520). [Log 61 DEDUCED] -/
def State.sqWrite (s : State) (i o : Nat) (v : Word) : State :=
  if o == 0x040 then s.sqCfg i v
  else
    match SQ_LANE_CTRL.EN.index? o with
    | some l => s.laneCtrl i l v
    | none => s.plainWrite (pgSQ i * 0x1000 + o) v

/-- ST (R378). -/
def State.stWrite (s : State) (i o : Nat) (v : Word) : State :=
  let off := pgST i * 0x1000 + o
  let r := 4 * i + (o - 0x100) / 0x40
  if o < 0x100 ∨ 0x200 ≤ o then s.plainWrite off v
  else
    match o % 0x40 with
    | 0x00 => s.ringCfg r v
    | 0x1C => s.writeRp r v
    | 0x20 =>
      let s := s.plainWrite off v
      if bit v.toNat 31 then s.flush r else s
    | _ => s.ringField r fun s => s.plainWrite off v

/-- A write of a register after the header. [Log 31 DEDUCED] -/
def State.pageWrite (s : State) (m : Master) (k : PageKind) (i pg o : Nat) (v : Word) : State :=
  match k with
  | .dev => s.devWrite o v
  | .tnd => s.tndWrite m o v
  | .pwr0 => s.pwrWrite m o v
  | .pwr1 => s.pmbWrite o v
  | .seq => s.seqWrite o v
  | .tb0 => s.tbWrite o v
  | .tb1 => s.tmWrite o v
  | .cfg => s.cfgWrite o v
  | .key => if o == 0x04C then s.keyProg (bits v.toNat 4 3) (bits v.toNat 0 2) (BitVec.ofNat 8 (bits v.toNat 24 8))
    else s.plainWrite (pg * 0x1000 + o) v
  | .cch => s.cchWrite o v
  | .cal => if o == 0x064 then (if bit v.toNat 0 then s.passNow else s) else s.plainWrite (pg * 0x1000 + o) v
  | .fb => if o == 0x078 then (if bit v.toNat 0 then s.cntClr i else s) else s.plainWrite (pg * 0x1000 + o) v
  | .asec => s.asWrite i o v
  | .cv => (s.convWrite i o v).getD (s.plainWrite (pg * 0x1000 + o) v)
  | .fc => s.fcWrite i o v
  | .cp => s.cpPageWrite i o v
  | .da => s.daWrite i o v
  | .ls => s.lsWrite o v
  | .sch0 => s.schWrite m o v
  | .sch3 => s.hqWrite m o v
  | .rs0 => s.rsWrite o v
  | .rs1 => s.vtWrite m o v
  | .rs2 => s.capPageWrite o v
  | .rs3 => s.prWrite o v
  | .bfe => s.bfeWrite o v
  | .sn => s.snWrite o v
  | .gb => s.gbWrite m i o v
  | .sq => s.sqWrite i o v
  | .st => s.stWrite i o v
  | .mgt | .sch1 | .sch2 | .tw => s.plainWrite (pg * 0x1000 + o) v

-- 64-bit pairs (R14) -------------------------------------------------------------------------------------------------------------

/-- The high word of a writable pair is written: both halves are updated together. -/
def State.highWrite (s : State) (m : Master) (k : PageKind) (i pg o : Nat) (v : Word) : State :=
  let off := pg * 0x1000 + o
  match k with
  | .tb0 => s.timeSet m v
  | .tb1 =>
    match TM_START_TIME_HI.index? o with
    | some n => s.startTimeWrite m n v
    | none => s
  | .sch3 =>
    match SCH_SQ_BASE_HI.index? o, SCH_CQ_BASE_HI.index? o with
    | some q, _ => s.hqBase m q false v
    | _, some q => s.hqBase m q true v
    | none, none => s
  | .st =>
    let s := s.ringField (4 * i + (o - 0x100) / 0x40) fun s => s.writePair m off v
    { s with lowHold := adel s.lowHold (pairKey m (off - 4)) }
  | _ => s.writePair m off v

-- The windows (R37) ----------------------------------------------------------------------------------------------------------------

/-- A word of the MSI-X table, or of its pending bits, which software cannot write. An entry that is unmasked sends
its vector if it is pending (R52). [Log 14 PRESUMED] -/
def State.msixWrite (s : State) (off : Nat) (v : Word) : State :=
  if msixBase + 0x8000 ≤ off then s
  else
    let n := (off - msixBase) / 16
    let pba := msixBase + 0x8000 + n / 32 * 4
    let s' := s.setReg off v
    if off % 16 == 12 && !bit v.toNat 0 && bit (s.reg pba).toNat (n % 32) && s.dmaOk then
      { s'.setVectorPending n false with msix := n :: s'.msix }
    else s'

/-- A write of a window: the first word of a flow-table entry and the MSI-X table take it; the broke window is read
only. -/
def State.windowWrite (s : State) (off : Nat) (v : Word) : State :=
  if off < brokeBase then (if off % 16 == 0 then s.flowWrite ((off - flowBase) / 16) v else s)
  else if msixBase ≤ off then s.msixWrite off v
  else s

-- The write as a whole -------------------------------------------------------------------------------------------------------------

/-- A write of an aligned, present, powered location. [Log 31 DEDUCED] -/
def State.wordWrite (s : State) (m : Master) (off : Nat) (v : Word) : State :=
  match pageAt (off / 0x1000) with
  | none => s.windowWrite off v
  | some (k, i) =>
    if 0xC_0000 ≤ off then s.windowWrite off v
    else if s.isWrPairLow off then s.holdLow m off v
    else if 4 ≤ off && s.isWrPairLow (off - 4) then s.highWrite m k i (off / 0x1000) (off % 0x1000) v
    else if off % 0x1000 < 0x40 then s.hdrWrite m k i (off / 0x1000) (off % 0x1000) v
    else s.pageWrite m k i (off / 0x1000) (off % 0x1000) v

/-- A BAR0 access that is no aligned word (R43); a write restarts every key sequence of its master, one at its own
register too (R54). Reach comes first. [Log 17 DEDUCED, 18 DESIGN CHOICE] -/
def State.badAccess (s : State) (m : Master) (off : Nat) (wr : Bool) : State :=
  let s := if wr then { s with keys := adel s.keys m.id } else { s with resp := [0, 0, 0, 0], respErr := false }
  if s.unpowered || s.resetLow then s
  else s.setStatus pgDEV (if m.isPort && decide (0x5000 ≤ off) then stUNREACHABLE else stBAD_ACCESS)

/-- A write of a word by a master, from its arrival on. [Log 31 DEDUCED] -/
def State.writeReg (s : State) (m : Master) (off : Nat) (v : Word) : State :=
  if off % 4 ≠ 0 then s.badAccess m off true else s.gate m off fun s => s.wordWrite m off v

-- The commands ---------------------------------------------------------------------------------------------------------------------

/-- R25: an aligned 32-bit write, applied whole. -/
def execRegisterWrite (m : Master) (off : Nat) (v : Word) (s : State) : Host.Outcome State Fault Refusal :=
  if 0x40_0000 ≤ off then .fault .outsideBar else .next (s.writeReg m off v)

/-- R13: the low word is read, and the master's latch takes the high word. -/
def execLowWordRead (m : Master) (off : Nat) (s : State) : Host.Outcome State Fault Refusal :=
  if 0x40_0000 ≤ off then .fault .outsideBar else .next (s.readReg m off)

/-- R14: the low word is held for its master and pair. [Log 90 PRESUMED] -/
def execLowWordWrite (m : Master) (off : Nat) (v : Word) (s : State) : Host.Outcome State Fault Refusal :=
  if 0x40_0000 ≤ off then .fault .outsideBar else .next (s.writeReg m off v)

/-- R14: the high word is written, and both halves are updated together. [Log 90 PRESUMED] -/
def execHighWordWrite (m : Master) (off : Nat) (v : Word) (s : State) : Host.Outcome State Fault Refusal :=
  if 0x40_0000 ≤ off then .fault .outsideBar else .next (s.writeReg m off v)

/-- R5, R44: a write of an absent or unmapped location. [Log 90 PRESUMED] -/
def execAbsentWrite (m : Master) (bar2 : Bool) (off : Nat) (v : Word) (s : State) :
    Host.Outcome State Fault Refusal :=
  if bar2 then
    (if 0x400_0000 ≤ off then .fault .outsideBar
     else .next (s.bar2Gate m off 4 fun s => s.bar2Write m off (wordBytes v)))
  else if 0x40_0000 ≤ off then .fault .outsideBar
  else .next (s.writeReg m off v)

/-- R43: a BAR0 access that is not an aligned 32-bit word. -/
def execBadAccess (m : Master) (off : Nat) (wr : Bool) (s : State) : Host.Outcome State Fault Refusal :=
  if 0x40_0000 ≤ off then .fault .outsideBar else .next (s.badAccess m off wr)

/-- R45: a write beyond the header of a page whose domain is off. [Log 90 PRESUMED] -/
def execOffWrite (m : Master) (off : Nat) (v : Word) (s : State) : Host.Outcome State Fault Refusal :=
  if 0x40_0000 ≤ off then .fault .outsideBar else .next (s.writeReg m off v)

/-- R39: a BAR2 write of the recovery store. [Log 90 PRESUMED] -/
def execRoWrite (m : Master) (off : Nat) (data : List Byte) (s : State) : Host.Outcome State Fault Refusal :=
  if 0x400_0000 ≤ off then .fault .outsideBar
  else .next (s.bar2Gate m off data.length fun s => s.bar2Write m off data)

/-- R59: DEV_CTRL.CLR_ABSENT. -/
def execClrAbsent (m : Master) (s : State) : Host.Outcome State Fault Refusal :=
  .next (s.gateF m pgDEV DEV_CTRL.CLR_ABSENT 0 fun s => s.set pgDEV DEV_ABSENT_WRITES 0)

end Sys2Proof.Machine
end

