-- ==== Sys2Proof/Machine/Host.lean ====
section
/-!
DEFINITION. The host link (R33-R36) and the management ports (R60-R64, R177).
-/
namespace Sys2Proof.Machine
open Sys2Proof F

-- The host link --------------------------------------------------------------------------------------------------------------

/-- R36: the host link comes up. [Log 29 DEDUCED] -/
def execLinkUp (rate : Nat) (s : State) : Host.Outcome State Fault Refusal :=
  if !s.domOn 55 || s.unpowered || s.resetLow || decide (rate < 1) || decide (4 < rate) then .next s
  else .next (((s.set pgDEV DEV_HOSTLINK.RATE rate).set pgDEV DEV_HOSTLINK.TUNNEL 1).setStatus pgDEV stLINK_UP)

/-- R36: the host link is lost. -/
def execLinkDown (s : State) : Host.Outcome State Fault Refusal := .next s.hostDown

/-- R36: a PCIe hot reset. [Log 14 PRESUMED] -/
def execPcieHotReset (s : State) : Host.Outcome State Fault Refusal :=
  .next (if s.get pgDEV DEV_HOSTLINK.RATE == 0 then s else s.pciReset)

/-- The DMA that waited proceeds (R36): pending vectors, the sheet of a LIB_WRITE, the bytes of a BFE_UPD. Every other master
tries again at a command of its own. -/
def State.dmaResume (s : State) : State := s.sendPending.libFetch.bfeDma

/-- R36: Bus Master Enable takes a value; without a link nothing reaches the function. [Log 14 PRESUMED] -/
def execBusMasterEnableChange (en : Bool) (s : State) : Host.Outcome State Fault Refusal :=
  .next (if s.get pgDEV DEV_HOSTLINK.RATE == 0 then s else (s.set pgDEV DEV_HOSTLINK.BME (b2n en)).dmaResume)

-- Frames of the management ports -----------------------------------------------------------------------------------------

/-- The offset bytes of a frame, most significant first (R62, R63). -/
def offBytes (off : Nat) : List Byte :=
  [BitVec.ofNat 8 (off / 2 ^ 16), BitVec.ofNat 8 (off / 2 ^ 8), BitVec.ofNat 8 off]

/-- The status byte's [2:0] for a frame that has been taken: APPLIED, UNREACHABLE, or neither for an access that is no
aligned word (R43, R62). [Log 25 DEDUCED] -/
def frameStatus (off : Nat) : Nat := if 0x5000 ≤ off then 4 else if off % 4 ≠ 0 then 0 else 1

/-- A management port answers: the device is powered and not held by RESET#. [Log 18 DESIGN CHOICE] -/
def State.awake (s : State) : Bool := !(s.unpowered || s.resetLow)

/-- The status byte: the last access's outcome and LOADER_BUSY (R62). [Log 26 DEDUCED] -/
def State.statusByte (s : State) (st : Nat) : Byte := BitVec.ofNat 8 (st % 8 + b2n (!s.loaderBuf.isEmpty) * 8)

/-- A read frame (R62): four data bytes and the CRC-8 over the whole frame. [Log 26 DEDUCED] -/
def State.frameRead (s : State) (m : Master) (off : Nat) (dummy : Byte) : State :=
  let s := s.readReg m off
  { s with resp := s.resp ++ [crc8 ([0x0B] ++ offBytes off ++ [dummy] ++ s.resp)] }

/-- The CRC-8 of a write frame (R62). -/
def frameCrc (off : Nat) (v : Word) : Byte := crc8 ([0x02] ++ offBytes off ++ wordBytes v)

/-- A write frame with its CRC-8 (R62): the outcome for the status byte, and the state; one that does not match is
dropped. [Log 26 DEDUCED] -/
def State.frameWrite (s : State) (m : Master) (off : Nat) (v : Word) (crc : Byte) : Nat × State :=
  if crc == frameCrc off v then (frameStatus off, s.writeReg m off v) else (2, s)

/-- MGMT_SPI is served. -/
def State.spiOn (s : State) : Bool := s.awake && s.flag pgDEV DEV_MGMT.SPI_EN

/-- MGMT_I2C is served. -/
def State.i2cOn (s : State) : Bool := s.awake && s.flag pgDEV DEV_MGMT.I2C_EN

/-- R62: a read frame. -/
def execMgmtSpiRead (off : Nat) (dummy : Byte) (s : State) : Host.Outcome State Fault Refusal :=
  .next (if s.spiOn then { s.frameRead .mgmtSpi off dummy with spiStatus := frameStatus off } else s)

/-- R62: a write frame. -/
def execMgmtSpiWrite (off : Nat) (v : Word) (crc : Byte) (s : State) : Host.Outcome State Fault Refusal :=
  .next (if s.spiOn then
    let r := s.frameWrite .mgmtSpi off v crc
    { r.2 with spiStatus := r.1 } else s)

/-- R62: a status frame. -/
def execMgmtSpiStatus (s : State) : Host.Outcome State Fault Refusal :=
  .next (if s.spiOn then { s with resp := [s.statusByte s.spiStatus], respErr := false } else s)

-- The loader (R62, R177) -----------------------------------------------------------------------------------------------------

/-- Start-up waits in step 3 for a boot sheet from outside (R206, R207). [Log 28 DEDUCED] -/
def State.bootWaits (s : State) : Bool := s.bootStep == 3 && s.get pgTND TND_STATUS.WAIT != 0

/-- The loader is served (R62): the boot source is MGMT_SPI, CFG has selected it, or start-up waits for it (R207).
[Log 28 DEDUCED] -/
def State.loaderOn (s : State) : Bool :=
  s.spiOn && s.pageOn pgCFG && (s.part.bootSrc == 3 || s.get pgCFG CFG_LOAD.SRC == 3 || s.bootWaits)

/-- A load from the loader is in progress. [Log 28 DEDUCED] -/
def State.loaderLoad (s : State) : Bool :=
  match s.cfgOp with
  | .load l => l.src == 3
  | _ => false

/-- R177: a loader frame: dropped whole while the buffer holds bytes; one that is too long stops the load with LENGTH;
the first frame in a waiting start-up starts the load. [Log 28 DEDUCED] -/
def execMgmtSpiLoader (data : List Byte) (s : State) : Host.Outcome State Fault Refusal :=
  if !s.loaderOn || !s.loaderBuf.isEmpty then .next s
  else if 4096 < data.length then .next (if s.loaderLoad then s.bootAfter (s.stopLoad ldLENGTH) else s)
  else
    let s := if s.bootWaits && s.cfgFree then s.startLoad 3 0 else s
    .next { s with loaderBuf := data }

-- MGMT_I2C (R63) -------------------------------------------------------------------------------------------------------------------

/-- The address byte of a transfer: the 7-bit address and the direction. -/
def State.i2cAddr (s : State) (rd : Bool) : Byte := BitVec.ofNat 8 (2 * s.get pgDEV DEV_MGMT.I2C_ADDR + b2n rd)

/-- The SMBus PEC of a write. [Log 27 PRESUMED] -/
def State.i2cWritePec (s : State) (off : Nat) (v : Word) : Byte :=
  crc8 ([s.i2cAddr false] ++ offBytes off ++ wordBytes v)

/-- R63: a write; with a wrong PEC, or outside the reach of R60, it is not acknowledged at its PEC byte.
[Log 26 DEDUCED, 27 PRESUMED] -/
def execMgmtI2cWrite (off : Nat) (v : Word) (pec : Byte) (s : State) : Host.Outcome State Fault Refusal :=
  if !s.i2cOn then .next s
  else if pec != s.i2cWritePec off v then .next { s with resp := [], respErr := true }
  else .next { s.writeReg .mgmtI2c off v with resp := [], respErr := decide (0x5000 ≤ off) }

/-- R63: a read: four data bytes and the PEC. [Log 27 PRESUMED] -/
def execMgmtI2cRead (off : Nat) (s : State) : Host.Outcome State Fault Refusal :=
  if !s.i2cOn then .next s
  else
    let a := [s.i2cAddr false] ++ offBytes off ++ [s.i2cAddr true]
    let s := s.readReg .mgmtI2c off
    .next { s with resp := s.resp ++ [crc8 (a ++ s.resp)] }

-- The recovery class (R64) -----------------------------------------------------------------------------------------------------

/-- R64: one MGMT_SPI frame by bulk transfer; its response comes back followed by its status byte. [Log 25 DEDUCED] -/
def execRecoveryClassTransfer (f : SpiFrame) (s : State) : Host.Outcome State Fault Refusal :=
  if !s.awake || !s.domOn 55 then .next s
  else
    let s := s.set pgDEV DEV_HOSTLINK.USB2_REC 1
    match f with
    | .read off dummy =>
      let s := { s.frameRead .recovery off dummy with recStatus := frameStatus off }
      .next { s with resp := s.resp ++ [s.statusByte s.recStatus] }
    | .write off v crc =>
      let r := s.frameWrite .recovery off v crc
      let s := { r.2 with recStatus := r.1 }
      .next { s with resp := [s.statusByte s.recStatus], respErr := false }
    | .status =>
      .next { s with resp := [s.statusByte s.recStatus, s.statusByte s.recStatus], respErr := false }

/-- R60: an access of a management port outside its reach. [Log 90 PRESUMED] -/
def execUnreachable (port : Port) (off : Nat) (wr : Bool) (s : State) : Host.Outcome State Fault Refusal :=
  .next (if wr then s.writeReg port.master off 0 else s.readReg port.master off)

end Sys2Proof.Machine
end

