-- ==== Sys2Proof/Machine/Logic.lean ====
section
/-!
DEFINITION. The commands of the fine tiles and word tiles (chapter 04).
-/
namespace Sys2Proof.Machine
open Sys2Proof F

-- Fine tiles ------------------------------------------------------------------------------------------------------

/-- The external inputs of a tile that some bundle or level feeds. -/
def State.driven (s : State) (b t : Nat) : Nat :=
  s.nets.foldl (fun m (e : Nat × Net) => e.2.dsts.foldl (fun m d =>
    match d with | .x b' t' pin _ => if b' == b && t' == t then Nat.lor m (2 ^ pin) else m | _ => m) m) 0

/-- The external inputs of a capture (R98): what the fabric feeds, and the levels `lv` at the inputs that nothing feeds.
[Log 40 DESIGN CHOICE] -/
def State.captureIn (s : State) (b t : Nat) (x : FineTile) (lv : Nat) : Nat :=
  let fed := Nat.lor (s.driven b t) x.cfg.join
  Nat.lor (Nat.land x.xv fed) (Nat.land lv (2 ^ 36 - 1 - Nat.land fed (2 ^ 36 - 1)))

/-- The inputs that macrocell `m` sees in a capture during which the inputs of a mask move: of each of those the old level or
the new one, which the spec leaves open for every macrocell (R98). [Log 40 DESIGN CHOICE] -/
def seenBy (draw xin moved m : Nat) : Nat :=
  let pick := (Config.freeWord (draw + 2 * m)).toNat + (Config.freeWord (draw + 2 * m + 1)).toNat * 2 ^ 32
  Nat.xor xin (Nat.land moved pick)

/-- One tile captures (R94, R95): latches follow, the registers and toggles update together, the joined inputs
are acknowledged. `moved` names the inputs outside the join set that move during the capture. A mirrored tile of a
secondary keeps its value (R117). Answers the carry out, of the states before the capture.
[Log 40 DESIGN CHOICE, 97 DESIGN CHOICE] -/
def State.captureTile (s : State) (b t : Nat) (x : FineTile) (lv moved : Nat) (ci : Bool) : Bool × State :=
  let xin := s.captureIn b t x lv
  let mv := Nat.land moved (2 ^ 36 - 1 - Nat.land x.cfg.join (2 ^ 36 - 1))
  let xs := fun m => if mv = 0 then xin else seenBy s.free xin mv m
  let q0 := x.cfg.latched (fun _ => xin) x.q ci
  let q1 := x.cfg.captured xs q0 ci
  let q2 := x.cfg.latched (fun _ => xin) q1 ci
  let co := x.cfg.carryAt (fun m => signals (xs m) q0) ci 8
  let s := if mv = 0 then s else { s with free := s.free + 16 }
  (co, s.setFine b t { x with
    q := if s.mirrorHeld 0 b t 0 then x.q else q2, xv := xin,
    xnew := Nat.land x.xnew (2 ^ 36 - 1 - x.cfg.join) })

/-- The outputs of a tile as its output request (R95), with the levels that follow the capture (R97). -/
def State.issue (s : State) (b : Nat) (l : List Nat) : State :=
  (l.foldl (fun s t =>
    match aget s.fine (fineKey b t) with
    | none => s
    | some y => s.present' (.fine b t) (s.outVal b t y)) s).flow.settle

/-- R95: the capture event of a registered tile with a join set, outside a carry chain (R99, R102). `lv` gives the levels at
inputs that nothing feeds, `moved` the inputs that move during the capture (R98). [Log 40 DESIGN CHOICE] -/
def execCaptureEvent (b t lv moved : Nat) (s : State) : Host.Outcome State Fault Refusal :=
  let s := s.flow
  match aget s.fine (fineKey b t) with
  | none => .next s
  | some x =>
    if t < 512 ∧ s.bankRuns b ∧ x.cfg.registered ∧ !x.cfg.inChain ∧ x.cfg.join ≠ 0 ∧ x.joined ∧ s.srcFree (.fine b t)
    then .next ((s.captureTile b t x lv moved false).2.issue b [t])
    else .next s

/-- The tiles of a chain capture as one stage, the carry running upwards; the top tile's carry out is its CO.
[Log 97 DESIGN CHOICE] -/
def State.captureChain (s : State) (b : Nat) : List (Nat × FineTile) → List (Nat × Nat) → Bool → State
  | [], _, _ => s
  | (t, x) :: r, lv, ci =>
    let l := lv.headD (0, 0)
    let res := s.captureTile b t x l.1 l.2 ci
    let s := match aget res.2.fine (fineKey b t) with
      | none => res.2
      | some y => res.2.setFine b t { y with co := r.isEmpty && res.1 }
    State.captureChain s b r lv.tail res.1

/-- R102: the union of the join sets is waited for, and one output request covers the chain and CO. `lv` gives for each tile
the levels at inputs that nothing feeds, and the inputs that move during the capture. [Log 40 DESIGN CHOICE] -/
def execCarryChainCapture (b t : Nat) (lv : List (Nat × Nat)) (s : State) : Host.Outcome State Fault Refusal :=
  let s := s.flow
  let ts := s.chainTiles b t
  match ts with
  | [] => .next s
  | (_, base) :: _ =>
    if t % 32 + base.cfg.chain ≤ 32 ∧ t < 512 ∧ s.bankRuns b ∧ ts.length = base.cfg.chain ∧
        (ts.any fun (e : Nat × FineTile) => e.2.cfg.registered) ∧
        (ts.any fun (e : Nat × FineTile) => e.2.cfg.join != 0) ∧
        (ts.all fun (e : Nat × FineTile) => e.2.joined) ∧
        (ts.all fun (e : Nat × FineTile) => s.srcFree (.fine b e.1)) then
      let ci := base.baseCarry (s.captureIn b t base (lv.headD (0, 0)).1)
      .next ((s.captureChain b ts lv ci).issue b (ts.map Prod.fst))
    else .next s

-- Word tiles --------------------------------------------------------------------------------------------------------

/-- The signed value of a word. -/
def sVal (w : Word) : Int := w.toInt
/-- A word of an integer, modulo 2^32. -/
def wOf (v : Int) : Word := BitVec.ofInt 32 v

/-- The opcodes of R107 and what their fields are: whether A and B are used, and whether the destination is
written. -/
def opUses (op : Nat) : Option (Bool × Bool × Bool) :=
  if op == 0x00 then some (false, false, false)
  else if op == 0x01 then some (true, false, true)
  else if 0x02 ≤ op ∧ op ≤ 0x09 then some (true, true, true)
  else if 0x0A ≤ op ∧ op ≤ 0x0D then some (true, true, false)
  else if op == 0x0E then some (true, false, false)
  else if op == 0x0F then some (false, false, false)
  else if 0x10 ≤ op ∧ op ≤ 0x13 then some (true, true, true)
  else if op == 0x14 then some (true, false, true)
  else if 0x18 ≤ op ∧ op ≤ 0x1B then some (true, true, true)
  else if 0x20 ≤ op ∧ op ≤ 0x26 then some (true, true, true)
  else if op == 0x27 then some (true, false, true)
  else if op == 0x28 then some (true, true, true)
  else if op == 0x29 then some (true, false, true)
  else if op == 0x30 then some (true, false, false)
  else if op == 0x31 ∨ op == 0x32 ∨ op == 0x33 then some (false, false, false)
  else none

/-- The number of leading zeros of a word. -/
def clz (w : Word) : Nat := ((List.range 32).find? fun i => bit w.toNat (31 - i)).getD 32

/-- The 32-bit result of an operation that writes its destination (R107). -/
def aluResult (op : Nat) (a b : Word) (f : Bool) : Word :=
  let sh := b.toNat % 32
  let a16 := sext 16 a.toNat
  let b16 := sext 16 b.toNat
  match op with
  | 0x01 => a
  | 0x02 => a + b
  | 0x03 => wOf (satS 32 (sVal a + sVal b))
  | 0x04 => BitVec.ofNat 32 (min (a.toNat + b.toNat) (2 ^ 32 - 1))
  | 0x05 => a - b
  | 0x06 => wOf (satS 32 (sVal a - sVal b))
  | 0x07 => BitVec.ofNat 32 (a.toNat - b.toNat)
  | 0x08 => wOf (a16 * b16)
  | 0x09 => BitVec.ofNat 32 (a.toNat % 65536 * (b.toNat % 65536))
  | 0x10 => a &&& b
  | 0x11 => a ||| b
  | 0x12 => a ^^^ b
  | 0x13 => a &&& ~~~b
  | 0x14 => ~~~a
  | 0x18 => a <<< sh
  | 0x19 => a >>> sh
  | 0x1A => a.sshiftRight sh
  | 0x1B => a.rotateLeft sh
  | 0x20 => BitVec.ofNat 32 (b2n (a == b))
  | 0x21 => BitVec.ofNat 32 (b2n (decide (sVal a < sVal b)))
  | 0x22 => BitVec.ofNat 32 (b2n (decide (a.toNat < b.toNat)))
  | 0x23 => if sVal a ≤ sVal b then a else b
  | 0x24 => if sVal b ≤ sVal a then a else b
  | 0x25 => if a.toNat ≤ b.toNat then a else b
  | 0x26 => if b.toNat ≤ a.toNat then a else b
  | 0x27 => wOf (satS 32 (sVal a).natAbs)
  | 0x28 => if f then a else b
  | 0x29 => BitVec.ofNat 32 (clz a)
  | _ => 0

/-- The accumulator after an accumulator operation (R107). -/
def accResult (op : Nat) (acc : BitVec 48) (a b : Word) (sh : Nat) : BitVec 48 :=
  let a16 := sext 16 a.toNat
  let b16 := sext 16 b.toNat
  match op with
  | 0x0A => acc + BitVec.ofInt 48 (a16 * b16)
  | 0x0B => acc + BitVec.ofNat 48 (a.toNat % 65536 * (b.toNat % 65536))
  | 0x0C => acc - BitVec.ofInt 48 (a16 * b16)
  | 0x0D => BitVec.ofInt 48 (satS 48 (acc.toInt + a16 * b16))
  | 0x0E => if 47 < sh then 0 else (a.signExtend 48) <<< sh
  | 0x0F => acc.sshiftRight sh
  | _ => acc

/-- A source operand (R105, R108): the value, or none while its input channel holds no token. -/
def WordTile.operand (t : WordTile) (code imm : Nat) : Option Word :=
  if code < 8 then some (t.l.getD code 0)
  else if code == 8 then some (t.acc.setWidth 32)
  else if code == 9 then some ((t.acc.extractLsb' 32 16).signExtend 32)
  else if code < 14 then t.ins.getD (code - 10) none
  else if code == 14 then some (wOf (sext 12 imm))
  else some t.prog

/-- The trap cause of an instruction, the lowest that applies (R111). [Log 41 DEDUCED] -/
def WordTile.trap (t : WordTile) (w : Nat) : Option Nat :=
  let op := bits w 26 6
  let dst := bits w 22 4
  match opUses op with
  | none => some 1
  | some (ua, ub, ud) =>
    if (ua && decide (16 ≤ bits w 17 5)) || (ub && decide (16 ≤ bits w 12 5)) then some 2
    else if (ud && decide (13 ≤ dst)) || ((op == 0x30 || op == 0x31) && decide (1 < dst)) then some 3
    else if op == 0x31 && decide (t.cfg.endSlot < bits w 0 4) then some 4
    else if op == 0x33 && dst != 9 && dst != 10 then some 5
    else none

/-- The instruction can issue: its tokens are there, and an output buffer that it writes is empty (R109). -/
def WordTile.ready (t : WordTile) (w : Nat) : Bool :=
  let op := bits w 26 6
  let dst := bits w 22 4
  match opUses op with
  | none => false
  | some (ua, ub, ud) =>
    (!ua || (t.operand (bits w 17 5) (bits w 0 12)).isSome) && (!ub || (t.operand (bits w 12 5) (bits w 0 12)).isSome) &&
      (op != 0x32 || (List.range 4).all fun n => !bit w n || (t.ins.getD n none).isSome) &&
      (!((ud || op == 0x33) && (dst == 9 || dst == 10)) || (t.outs.getD (dst - 9) none).isNone)

/-- The slot after this one (R104). -/
def WordTile.nextPc (t : WordTile) : Nat := if t.pc == t.cfg.endSlot then 0 else (t.pc + 1) % 16

/-- The input channels that an instruction consumes (R108, R110). -/
def consumed (w : Nat) : List Nat :=
  match opUses (bits w 26 6) with
  | none => []
  | some (ua, ub, _) =>
    (List.range 4).filter fun n => (ua && bits w 17 5 == 10 + n) || (ub && bits w 12 5 == 10 + n)

/-- What an instruction leaves in the tile, apart from an output token (R107). -/
def WordTile.execute (t : WordTile) (w : Nat) : WordTile :=
  let op := bits w 26 6
  let dst := bits w 22 4
  let a := (t.operand (bits w 17 5) (bits w 0 12)).getD 0
  let b := (t.operand (bits w 12 5) (bits w 0 12)).getD 0
  let r := aluResult op a b t.f
  let writes := ((opUses op).map fun u => u.2.2).getD false
  let acc := accResult op t.acc a b (bits w 0 6)
  let t1 : WordTile := { t with
    acc := acc, f := if op == 0x20 || op == 0x21 || op == 0x22 then r == 1 else t.f, pc := t.nextPc,
    ins := (consumed w).foldl (fun l n => l.set n none) t.ins }
  let t2 : WordTile :=
    if !writes then t1
    else if dst < 8 then { t1 with l := t1.l.set dst r }
    else if dst == 8 then { t1 with acc := r.signExtend 48 }
    else if dst == 9 || dst == 10 then { t1 with outs := t1.outs.set (dst - 9) (some r) }
    else if dst == 11 then { t1 with prog := r }
    else t1
  match op with
  | 0x30 => if dst == 0 then { t2 with c0 := a.setWidth 16 } else { t2 with c1 := a.setWidth 16 }
  | 0x31 =>
    if dst == 0 then (if t.c0 = 0 then t2 else { t2 with c0 := t.c0 - 1, pc := bits w 0 4 })
    else (if t.c1 = 0 then t2 else { t2 with c1 := t.c1 - 1, pc := bits w 0 4 })
  | 0x33 =>
    let v := wOf (satS 32 (t.acc.sshiftRight (bits w 0 6)).toInt)
    { t2 with outs := t2.outs.set (dst - 9) (some v), acc := if bit w 6 then 0 else t2.acc }
  | _ => t2

/-- On a secondary, the mirrored locations of a word tile keep what the twin link wrote (R117). [Log 41 DEDUCED] -/
def State.keepMirrored (s : State) (b w : Nat) (old new : WordTile) : WordTile :=
  if !s.secondary then new
  else { new with
    l := (List.range 8).map fun i => if s.mirroredLoc 1 b w i then old.l.getD i 0 else new.l.getD i 0,
    acc := if s.mirroredLoc 2 b w 0 then old.acc else new.acc,
    prog := if s.mirroredLoc 3 b w 0 then old.prog else new.prog,
    pc := if s.mirroredLoc 4 b w 0 then old.pc else new.pc,
    f := if s.mirroredLoc 4 b w 0 then old.f else new.f,
    c0 := if s.mirroredLoc 4 b w 0 then old.c0 else new.c0,
    c1 := if s.mirroredLoc 4 b w 0 then old.c1 else new.c1 }

/-- The instruction halts the tile (R111). [Log 41 DEDUCED] -/
def State.wordTrap (s : State) (b w cause slot : Nat) (t : WordTile) : State :=
  let p := pgFB b
  let s := s.setWord b w { t with halted := true }
  let s := if w < 32 then s.setMaskBit p FB_WT_HALT_LO w true else s.setMaskBit p FB_WT_HALT_HI (w - 32) true
  (s.setStatus p stWT_TRAP).raiseFault p 3 (BitVec.ofNat 32 (w * 2 ^ 16 + cause * 2 ^ 8 + slot)) accHAND
    (Master.fabric b).id

/-- R109: a word tile issues the instruction in its slot, whole, or waits, or halts. -/
def execWordTileInstruction (b w : Nat) (s : State) : Host.Outcome State Fault Refusal :=
  match aget s.word (wordKey b w) with
  | none => .next s
  | some t =>
    let i := (t.cfg.slots.getD t.pc 0).toNat
    if !(decide (w < 64)) || !s.bankRuns b || t.halted then .next s
    else
      match t.trap i with
      | some c => .next (s.wordTrap b w c t.pc t)
      | none =>
        if !t.ready i then .next s
        else
          let t' := s.keepMirrored b w t (t.execute i)
          let s := s.setWord b w t'
          let s := [0, 1].foldl (fun s o =>
            match t.outs.getD o none, t'.outs.getD o none with
            | none, some v => s.present' (.wordOut b w o) v.toNat
            | _, _ => s) s
          let wrProg := bits i 22 4 == 11 && ((opUses (bits i 26 6)).map fun u => u.2.2).getD false
          let s := match t.cfg.bound with
            | none => s
            | some p => if wrProg && !s.mirrorHeld 3 b w 0 then s.progWord p t'.prog else s
          .next s.settle

end Sys2Proof.Machine
end

