-- ==== Sys2Proof/Machine/Dispatch.lean ====
section
/-!
DEFINITION. The dispatch of every command to its meaning.
-/
namespace Sys2Proof.Machine
open Sys2Proof

def exec (i : Instr) (s : State) : Host.Outcome State Fault Refusal :=
  match i with
  | .registerWrite m off v => Sys2Proof.Machine.execRegisterWrite m off v s
  | .lowWordRead m off => Sys2Proof.Machine.execLowWordRead m off s
  | .lowWordWrite m off v => Sys2Proof.Machine.execLowWordWrite m off v s
  | .highWordWrite m off v => Sys2Proof.Machine.execHighWordWrite m off v s
  | .absentWrite m bar2 off v => Sys2Proof.Machine.execAbsentWrite m bar2 off v s
  | .badAccess m off wr => Sys2Proof.Machine.execBadAccess m off wr s
  | .offWrite m off v => Sys2Proof.Machine.execOffWrite m off v s
  | .roWrite m off data => Sys2Proof.Machine.execRoWrite m off data s
  | .unreachable port off wr => Sys2Proof.Machine.execUnreachable port off wr s
  | .bar2MemoryAccess m off wr len data => Sys2Proof.Machine.execBar2MemoryAccess m off wr len data s
  | .pwrReq m pg v => Sys2Proof.Machine.execPwrReq m pg v s
  | .pgCtrlEn m pg v => Sys2Proof.Machine.execPgCtrlEn m pg v s
  | .quiesce m pg v => Sys2Proof.Machine.execQuiesce m pg v s
  | .blkReset m pg => Sys2Proof.Machine.execBlkReset m pg s
  | .pgModeWrite m pg v => Sys2Proof.Machine.execPgModeWrite m pg v s
  | .pgStatusClear m pg v => Sys2Proof.Machine.execPgStatusClear m pg v s
  | .pgFaultClear m pg v => Sys2Proof.Machine.execPgFaultClear m pg v s
  | .countClr m pg => Sys2Proof.Machine.execCountClr m pg s
  | .feRearm m pg => Sys2Proof.Machine.execFeRearm m pg s
  | .pgLock m pg v => Sys2Proof.Machine.execPgLock m pg v s
  | .pgInject m pg v => Sys2Proof.Machine.execPgInject m pg v s
  | .clrAbsent m => Sys2Proof.Machine.execClrAbsent m s
  | .linkUp rate => Sys2Proof.Machine.execLinkUp rate s
  | .linkDown => Sys2Proof.Machine.execLinkDown s
  | .pcieHotReset => Sys2Proof.Machine.execPcieHotReset s
  | .busMasterEnableChange en => Sys2Proof.Machine.execBusMasterEnableChange en s
  | .mgmtSpiRead off dummy => Sys2Proof.Machine.execMgmtSpiRead off dummy s
  | .mgmtSpiWrite off v crc => Sys2Proof.Machine.execMgmtSpiWrite off v crc s
  | .mgmtSpiStatus => Sys2Proof.Machine.execMgmtSpiStatus s
  | .mgmtSpiLoader data => Sys2Proof.Machine.execMgmtSpiLoader data s
  | .mgmtI2cWrite off v pec => Sys2Proof.Machine.execMgmtI2cWrite off v pec s
  | .mgmtI2cRead off => Sys2Proof.Machine.execMgmtI2cRead off s
  | .recoveryClassTransfer f => Sys2Proof.Machine.execRecoveryClassTransfer f s
  | .timebaseLock freq => Sys2Proof.Machine.execTimebaseLock freq s
  | .holdover => Sys2Proof.Machine.execHoldover s
  | .refFrequencyError => Sys2Proof.Machine.execRefFrequencyError s
  | .refValid freq => Sys2Proof.Machine.execRefValid freq s
  | .relock m => Sys2Proof.Machine.execRelock m s
  | .paceMeasurement counts => Sys2Proof.Machine.execPaceMeasurement counts s
  | .paceLowRun dom => Sys2Proof.Machine.execPaceLowRun dom s
  | .vcoreStep ack => Sys2Proof.Machine.execVcoreStep ack s
  | .pwrVcoreTarget m v => Sys2Proof.Machine.execPwrVcoreTarget m v s
  | .slewTick => Sys2Proof.Machine.execSlewTick s
  | .tbSlewAmount m v => Sys2Proof.Machine.execTbSlewAmount m v s
  | .tbSlewRate m v => Sys2Proof.Machine.execTbSlewRate m v s
  | .timeSet m v => Sys2Proof.Machine.execTimeSet m v s
  | .timerEvent n => Sys2Proof.Machine.execTimerEvent n s
  | .timerPulseFall n => Sys2Proof.Machine.execTimerPulseFall n s
  | .timerStart m n => Sys2Proof.Machine.execTimerStart m n s
  | .absoluteStart n => Sys2Proof.Machine.execAbsoluteStart n s
  | .fabricStartLine n => Sys2Proof.Machine.execFabricStartLine n s
  | .timerEnable m n => Sys2Proof.Machine.execTimerEnable m n s
  | .timerStop m n => Sys2Proof.Machine.execTimerStop m n s
  | .tmStartTimeWrite m n v => Sys2Proof.Machine.execTmStartTimeWrite m n v s
  | .captureEvent b t lv moved => Sys2Proof.Machine.execCaptureEvent b t lv moved s
  | .carryChainCapture b t lv => Sys2Proof.Machine.execCarryChainCapture b t lv s
  | .wordTileInstruction b w => Sys2Proof.Machine.execWordTileInstruction b w s
  | .crossbarTransfer id => Sys2Proof.Machine.execCrossbarTransfer id s
  | .routeTransfer id bad => Sys2Proof.Machine.execRouteTransfer id bad s
  | .longLineClash b line => Sys2Proof.Machine.execLongLineClash b line s
  | .longLineNullRelease b line => Sys2Proof.Machine.execLongLineNullRelease b line s
  | .memoryAccess b k second flips => Sys2Proof.Machine.execMemoryAccess b k second flips s
  | .memoryScrub b flips => Sys2Proof.Machine.execMemoryScrub b flips s
  | .cntClr m b => Sys2Proof.Machine.execCntClr m b s
  | .loadStart m v => Sys2Proof.Machine.execLoadStart m v s
  | .sheetHeader raw avail => Sys2Proof.Machine.execSheetHeader raw avail s
  | .frame raw => Sys2Proof.Machine.execFrame raw s
  | .quire raw => Sys2Proof.Machine.execQuire raw s
  | .zero raw => Sys2Proof.Machine.execZero raw s
  | .analog raw => Sys2Proof.Machine.execAnalog raw s
  | .retain raw => Sys2Proof.Machine.execRetain raw s
  | .endCmd raw => Sys2Proof.Machine.execEndCmd raw s
  | .abort m => Sys2Proof.Machine.execAbort m s
  | .xframeDone m => Sys2Proof.Machine.execXframeDone m s
  | .shadowResync m => Sys2Proof.Machine.execShadowResync m s
  | .resyncDone => Sys2Proof.Machine.execResyncDone s
  | .bootUpdate m => Sys2Proof.Machine.execBootUpdate m s
  | .firmwareUpdate m => Sys2Proof.Machine.execFirmwareUpdate m s
  | .rsUpdateStep ok image => Sys2Proof.Machine.execRsUpdateStep ok image s
  | .programSlotHash m slot confirm => Sys2Proof.Machine.execProgramSlotHash m slot confirm s
  | .revokeSlot m slot confirm => Sys2Proof.Machine.execRevokeSlot m slot confirm s
  | .programSheetKey m confirm => Sys2Proof.Machine.execProgramSheetKey m confirm s
  | .blowSignFuse m confirm => Sys2Proof.Machine.execBlowSignFuse m confirm s
  | .readSlotHash m slot confirm => Sys2Proof.Machine.execReadSlotHash m slot confirm s
  | .progDone => Sys2Proof.Machine.execProgDone s
  | .couchRequest m v peerOk => Sys2Proof.Machine.execCouchRequest m v peerOk s
  | .drainComplete => Sys2Proof.Machine.execDrainComplete s
  | .drainLimitExpiry => Sys2Proof.Machine.execDrainLimitExpiry s
  | .lockWaitEnd u4 upset => Sys2Proof.Machine.execLockWaitEnd u4 upset s
  | .releaseStep upset => Sys2Proof.Machine.execReleaseStep upset s
  | .bootStepDone ok => Sys2Proof.Machine.execBootStepDone ok s
  | .calenderPass vote => Sys2Proof.Machine.execCalenderPass vote s
  | .passNow m => Sys2Proof.Machine.execPassNow m s
  | .calenderRead word plane num finding vote => Sys2Proof.Machine.execCalenderRead word plane num finding vote s
  | .repairDone more result => Sys2Proof.Machine.execRepairDone more result s
  | .calenderWatchExpiry => Sys2Proof.Machine.execCalenderWatchExpiry s
  | .loopMonitorTick sec reads lim clamp => Sys2Proof.Machine.execLoopMonitorTick sec reads lim clamp s
  | .shuntTrip pin => Sys2Proof.Machine.execShuntTrip pin s
  | .voutTrip pin => Sys2Proof.Machine.execVoutTrip pin s
  | .asPinRestore m sec v => Sys2Proof.Machine.execAsPinRestore m sec v s
  | .asGainOvr m sec r v => Sys2Proof.Machine.execAsGainOvr m sec r v s
  | .muteEnd sec what n => Sys2Proof.Machine.execMuteEnd sec what n s
  | .roundStart n => Sys2Proof.Machine.execRoundStart n s
  | .slotConversion n f err => Sys2Proof.Machine.execSlotConversion n f err s
  | .resultOut n => Sys2Proof.Machine.execResultOut n s
  | .scanStart m n => Sys2Proof.Machine.execScanStart m n s
  | .scanTrigger n => Sys2Proof.Machine.execScanTrigger n s
  | .injectedRequest n k => Sys2Proof.Machine.execInjectedRequest n k s
  | .cvInjSw m n chan => Sys2Proof.Machine.execCvInjSw m n chan s
  | .bgCalInterval n => Sys2Proof.Machine.execBgCalInterval n s
  | .bgCalDone n c => Sys2Proof.Machine.execBgCalDone n c s
  | .bgEn m n v => Sys2Proof.Machine.execBgEn m n v s
  | .fgStart m n => Sys2Proof.Machine.execFgStart m n s
  | .fgCalDone n us cs => Sys2Proof.Machine.execFgCalDone n us cs s
  | .cvCalCommit m n slice => Sys2Proof.Machine.execCvCalCommit m n slice s
  | .cvCorrApply m n => Sys2Proof.Machine.execCvCorrApply m n s
  | .diagGo m n chan mode dac => Sys2Proof.Machine.execDiagGo m n chan mode dac s
  | .diagDone n => Sys2Proof.Machine.execDiagDone n s
  | .filterInput c => Sys2Proof.Machine.execFilterInput c s
  | .chainChange m c reg v => Sys2Proof.Machine.execChainChange m c reg v s
  | .comparatorTick c f err => Sys2Proof.Machine.execComparatorTick c f err s
  | .cpCfgWrite m c thr v => Sys2Proof.Machine.execCpCfgWrite m c thr v s
  | .snapshot timer => Sys2Proof.Machine.execSnapshot timer s
  | .loadStrobe g => Sys2Proof.Machine.execLoadStrobe g s
  | .lsFire m mask => Sys2Proof.Machine.execLsFire m mask s
  | .daCfgWrite m c v => Sys2Proof.Machine.execDaCfgWrite m c v s
  | .spanDisconnect c => Sys2Proof.Machine.execSpanDisconnect c s
  | .spanSwitch c => Sys2Proof.Machine.execSpanSwitch c s
  | .unpublish c => Sys2Proof.Machine.execUnpublish c s
  | .outputMonitorTick limited atGate => Sys2Proof.Machine.execOutputMonitorTick limited atGate s
  | .daTrip c => Sys2Proof.Machine.execDaTrip c s
  | .comply c => Sys2Proof.Machine.execComply c s
  | .daRestore m pg mask => Sys2Proof.Machine.execDaRestore m pg mask s
  | .hwSourceEvent src => Sys2Proof.Machine.execHwSourceEvent src s
  | .fabricSubmission port => Sys2Proof.Machine.execFabricSubmission port s
  | .sqFetch q desc => Sys2Proof.Machine.execSqFetch q desc s
  | .sqTailWrite m q v => Sys2Proof.Machine.execSqTailWrite m q v s
  | .dispatch g => Sys2Proof.Machine.execDispatch g s
  | .affWaitExpiry h => Sys2Proof.Machine.execAffWaitExpiry h s
  | .taskAccept w => Sys2Proof.Machine.execTaskAccept w s
  | .fabricCompletion w => Sys2Proof.Machine.execFabricCompletion w s
  | .schHqDone m q v => Sys2Proof.Machine.execSchHqDone m q v s
  | .release f => Sys2Proof.Machine.execRelease f s
  | .schCancel m v => Sys2Proof.Machine.execSchCancel m v s
  | .cancelNotice q => Sys2Proof.Machine.execCancelNotice q s
  | .haDecide m v => Sys2Proof.Machine.execHaDecide m v s
  | .cqHeadWrite m q v => Sys2Proof.Machine.execCqHeadWrite m q v s
  | .brokeTailWrite m v => Sys2Proof.Machine.execBrokeTailWrite m v s
  | .flowTableWrite m f v => Sys2Proof.Machine.execFlowTableWrite m f v s
  | .schCtrlMode m v => Sys2Proof.Machine.execSchCtrlMode m v s
  | .streamItem src item t invalid => Sys2Proof.Machine.execStreamItem src item t invalid s
  | .flushTimeout r => Sys2Proof.Machine.execFlushTimeout r s
  | .flushNow m r => Sys2Proof.Machine.execFlushNow m r s
  | .blockCommit r => Sys2Proof.Machine.execBlockCommit r s
  | .rpWrite m r v => Sys2Proof.Machine.execRpWrite m r v s
  | .ringEnable m r v => Sys2Proof.Machine.execRingEnable m r v s
  | .taskEntry e data => Sys2Proof.Machine.execTaskEntry e data s
  | .streamDmaError r => Sys2Proof.Machine.execStreamDmaError r s
  | .mountDone outcome geom blocks reserve found replayed late => Sys2Proof.Machine.execMountDone outcome geom blocks reserve found replayed late s
  | .format m confirm => Sys2Proof.Machine.execFormat m confirm s
  | .libWrite m slot data => Sys2Proof.Machine.execLibWrite m slot data s
  | .libErase m slot => Sys2Proof.Machine.execLibErase m slot s
  | .setStartup m slot => Sys2Proof.Machine.execSetStartup m slot s
  | .refreshSweepNow m => Sys2Proof.Machine.execRefreshSweepNow m s
  | .cmdDone full => Sys2Proof.Machine.execCmdDone full s
  | .refreshRead part addr worst disturbed last => Sys2Proof.Machine.execRefreshRead part addr worst disturbed last s
  | .rsHaAns m v => Sys2Proof.Machine.execRsHaAns m v s
  | .rawReadPage m v data => Sys2Proof.Machine.execRawReadPage m v data s
  | .rawProgramPage m v data => Sys2Proof.Machine.execRawProgramPage m v data s
  | .rawEraseBlock m v => Sys2Proof.Machine.execRawEraseBlock m v s
  | .rawDone ok => Sys2Proof.Machine.execRawDone ok s
  | .openTxn m => Sys2Proof.Machine.execOpenTxn m s
  | .append m data => Sys2Proof.Machine.execAppend m data s
  | .commit m unwritten full peerOk => Sys2Proof.Machine.execCommit m unwritten full peerOk s
  | .abandon m => Sys2Proof.Machine.execAbandon m s
  | .getKey m bad => Sys2Proof.Machine.execGetKey m bad s
  | .commitDone => Sys2Proof.Machine.execCommitDone s
  | .captureEnable m n v => Sys2Proof.Machine.execCaptureEnable m n v s
  | .captureTrigger m n hw => Sys2Proof.Machine.execCaptureTrigger m n hw s
  | .rearm m n => Sys2Proof.Machine.execRearm m n s
  | .capRd m => Sys2Proof.Machine.execCapRd m s
  | .readDone bad => Sys2Proof.Machine.execReadDone bad s
  | .pressArmed => Sys2Proof.Machine.execPressArmed s
  | .vinFall => Sys2Proof.Machine.execVinFall s
  | .pwrFail => Sys2Proof.Machine.execPwrFail s
  | .holdupTrip => Sys2Proof.Machine.execHoldupTrip s
  | .pressTrig m => Sys2Proof.Machine.execPressTrig m s
  | .pressStepDone pfHigh => Sys2Proof.Machine.execPressStepDone pfHigh s
  | .energyMeasurement => Sys2Proof.Machine.execEnergyMeasurement s
  | .energyStale => Sys2Proof.Machine.execEnergyStale s
  | .save m => Sys2Proof.Machine.execSave m s
  | .readId n => Sys2Proof.Machine.execReadId n s
  | .readSfdp addr n => Sys2Proof.Machine.execReadSfdp addr n s
  | .readStatus => Sys2Proof.Machine.execReadStatus s
  | .writeEnable => Sys2Proof.Machine.execWriteEnable s
  | .writeDisable => Sys2Proof.Machine.execWriteDisable s
  | .writeVolatileConfiguration addr data => Sys2Proof.Machine.execWriteVolatileConfiguration addr data s
  | .read addr n => Sys2Proof.Machine.execRead addr n s
  | .fastRead addr n => Sys2Proof.Machine.execFastRead addr n s
  | .octalDdrRead addr n => Sys2Proof.Machine.execOctalDdrRead addr n s
  | .pageProgram addr data => Sys2Proof.Machine.execPageProgram addr data s
  | .erase4k addr => Sys2Proof.Machine.execErase4k addr s
  | .erase64k addr => Sys2Proof.Machine.execErase64k addr s
  | .chipErase => Sys2Proof.Machine.execChipErase s
  | .resetEnable => Sys2Proof.Machine.execResetEnable s
  | .resetPort => Sys2Proof.Machine.execResetPort s
  | .wipClear => Sys2Proof.Machine.execWipClear s
  | .bfeRst => Sys2Proof.Machine.execBfeRst s
  | .hostResetAssert => Sys2Proof.Machine.execHostResetAssert s
  | .hostResetRelease => Sys2Proof.Machine.execHostResetRelease s
  | .bootOk m => Sys2Proof.Machine.execBootOk m s
  | .bfeCommit m => Sys2Proof.Machine.execBfeCommit m s
  | .bfeDiscard m => Sys2Proof.Machine.execBfeDiscard m s
  | .bfeUpd m data => Sys2Proof.Machine.execBfeUpd m data s
  | .faultDetected pg src addr acc mas inj => Sys2Proof.Machine.execFaultDetected pg src addr acc mas inj s
  | .errorPulseEnd => Sys2Proof.Machine.execErrorPulseEnd s
  | .nmiPulseEnd => Sys2Proof.Machine.execNmiPulseEnd s
  | .faultRegisterParityCheck pg off bad => Sys2Proof.Machine.execFaultRegisterParityCheck pg off bad s
  | .tenderVote a b c => Sys2Proof.Machine.execTenderVote a b c s
  | .mpWatchExpiry => Sys2Proof.Machine.execMpWatchExpiry s
  | .mpHeartbeat => Sys2Proof.Machine.execMpHeartbeat s
  | .keyedChipReset m => Sys2Proof.Machine.execKeyedChipReset m s
  | .keyedSafe m => Sys2Proof.Machine.execKeyedSafe m s
  | .keyedSurrender m => Sys2Proof.Machine.execKeyedSurrender m s
  | .injectFreg m pg => Sys2Proof.Machine.execInjectFreg m pg s
  | .tndTrapClear m => Sys2Proof.Machine.execTndTrapClear m s
  | .resetPin => Sys2Proof.Machine.execResetPin s
  | .powerOnReset => Sys2Proof.Machine.execPowerOnReset s
  | .twinFrame lanes lag f => Sys2Proof.Machine.execTwinFrame lanes lag f s
  | .twinLinkTimeout => Sys2Proof.Machine.execTwinLinkTimeout s
  | .linkTrained uid => Sys2Proof.Machine.execLinkTrained uid s
  | .heartbeatSend => Sys2Proof.Machine.execHeartbeatSend s
  | .missedHeartbeat => Sys2Proof.Machine.execMissedHeartbeat s
  | .heartbeatLost => Sys2Proof.Machine.execHeartbeatLost s
  | .twinPeerChange line => Sys2Proof.Machine.execTwinPeerChange line s
  | .claimStands after => Sys2Proof.Machine.execClaimStands after s
  | .claimWaitExpiry => Sys2Proof.Machine.execClaimWaitExpiry s
  | .padHoldExpiry => Sys2Proof.Machine.execPadHoldExpiry s
  | .synced step seq vault => Sys2Proof.Machine.execSynced step seq vault s
  | .enum m => Sys2Proof.Machine.execEnum m s
  | .enumDone next depth ranges count beyond => Sys2Proof.Machine.execEnumDone next depth ranges count beyond s
  | .timePacket offs delay => Sys2Proof.Machine.execTimePacket offs delay s
  | .spanPacket from' bad dest desc => Sys2Proof.Machine.execSpanPacket from' bad dest desc s
  | .strobeTx m v => Sys2Proof.Machine.execStrobeTx m v s
  | .strobePacket lane k t => Sys2Proof.Machine.execStrobePacket lane k t s
  | .systemStrobe k => Sys2Proof.Machine.execSystemStrobe k s
  | .laneDown lane => Sys2Proof.Machine.execLaneDown lane s
  | .gbOutWrite m b v => Sys2Proof.Machine.execGbOutWrite m b v s
  | .gbDirWrite m b v => Sys2Proof.Machine.execGbDirWrite m b v s
  | .gbCfgWrite m p v => Sys2Proof.Machine.execGbCfgWrite m p v s
  | .gbPadlock m b v => Sys2Proof.Machine.execGbPadlock m b v s
  | .edge p level => Sys2Proof.Machine.execEdge p level s
  | .vioLow b => Sys2Proof.Machine.execVioLow b s
  | .vioOk b => Sys2Proof.Machine.execVioOk b s
  | .quadLoopLock q => Sys2Proof.Machine.execQuadLoopLock q s
  | .loopLoss q => Sys2Proof.Machine.execLoopLoss q s
  | .sqCfgWrite m q v => Sys2Proof.Machine.execSqCfgWrite m q v s
  | .laneTransmit q l => Sys2Proof.Machine.execLaneTransmit q l s
  | .laneReceive q l aligned x errs prbs => Sys2Proof.Machine.execLaneReceive q l aligned x errs prbs s
  | .domainOn d => Sys2Proof.Machine.execDomainOn d s
  | .domainOff d => Sys2Proof.Machine.execDomainOff d s
  | .pwrRun m => Sys2Proof.Machine.execPwrRun m s
  | .pwrDoze m => Sys2Proof.Machine.execPwrDoze m s
  | .pwrHold m => Sys2Proof.Machine.execPwrHold m s
  | .dozeWake src => Sys2Proof.Machine.execDozeWake src s
  | .wake m => Sys2Proof.Machine.execWake m s
  | .holdPfailWake => Sys2Proof.Machine.execHoldPfailWake s
  | .holdVinWake mv => Sys2Proof.Machine.execHoldVinWake mv s
  | .supplyLost n => Sys2Proof.Machine.execSupplyLost n s
  | .pmbusPoll vout iout word fails cmd => Sys2Proof.Machine.execPmbusPoll vout iout word fails cmd s
  | .voutMismatch => Sys2Proof.Machine.execVoutMismatch s
  | .pmbAlert => Sys2Proof.Machine.execPmbAlert s
  | .seqStart m => Sys2Proof.Machine.execSeqStart m s
  | .railStepDelay => Sys2Proof.Machine.execRailStepDelay s
  | .railPg r => Sys2Proof.Machine.execRailPg r s
  | .pgTimeout r => Sys2Proof.Machine.execPgTimeout r s
  | .pgLoss r => Sys2Proof.Machine.execPgLoss r s
  | .hostDelayExpiry => Sys2Proof.Machine.execHostDelayExpiry s
  | .seqOff m => Sys2Proof.Machine.execSeqOff m s
  | .hostPulse m => Sys2Proof.Machine.execHostPulse m s
  | .seqManual m v => Sys2Proof.Machine.execSeqManual m v s
  | .tempSample dig ana => Sys2Proof.Machine.execTempSample dig ana s
  | .longLineTransfer b line tap => Sys2Proof.Machine.execLongLineTransfer b line tap s
  | .mirrorRefresh => Sys2Proof.Machine.execMirrorRefresh s
  | .domainOnTimeout d => Sys2Proof.Machine.execDomainOnTimeout d s
  | .nandNotResponding addr => Sys2Proof.Machine.execNandNotResponding addr s
  | .updDone => Sys2Proof.Machine.execUpdDone s
  | .managementProcessorCompletion h status => Sys2Proof.Machine.execManagementProcessorCompletion h status s
  | .opDone dmaErr => Sys2Proof.Machine.execOpDone dmaErr s
  | .resetPinRelease => Sys2Proof.Machine.execResetPinRelease s
  | .supplyValid n => Sys2Proof.Machine.execSupplyValid n s
  | .vddAonFall => Sys2Proof.Machine.execVddAonFall s
  | .railOffDelay => Sys2Proof.Machine.execRailOffDelay s
  | .spanLaneUp lane => Sys2Proof.Machine.execSpanLaneUp lane s
  | .spanTimeExchange => Sys2Proof.Machine.execSpanTimeExchange s
  | .firmwareRestartDone => Sys2Proof.Machine.execFirmwareRestartDone s

end Sys2Proof.Machine
end

