-- ==== Sys2Proof/Safety.lean ====
section
/-!
DEFINITION. What a run that the statements call safe is: the canonical forms of the sparse memories, what no
command may change, and the three outcomes of a step told apart.
-/
namespace Sys2Proof.Machine
open Sys2Proof F

/-- A sparse memory is in canonical form: addresses strictly rising, and no byte listed that equals the zero which
an unlisted byte reads as (R143). [Log 86 DESIGN CHOICE] -/
def Memory.wf (m : List (Nat × Byte)) : Bool := asorted m && m.all fun (e : Nat × Byte) => e.2 != 0

/-- The register table is in canonical form: offsets strictly rising, and no register listed at its reset word. -/
def State.regsWf (s : State) : Bool :=
  asorted s.regs && s.regs.all fun (e : Nat × Word) => e.2 != resetWord s.part e.1

/-- What a command can never change: the part itself (variant, straps, factory words) and the commands that wait
behind it. -/
def State.fixture (s : State) : Part × List Instr := (s.part, s.pending)

/-- The step answers a next state. -/
def State.steps (s : State) : Prop := ∃ t, step s = .next t

/-- A BAR0 write of a master reaches the location at an offset (R5, R45, R60, R147): the device answers, a bank's DMA port
takes transfers, the master reaches the page, the location is present and its domain is on. -/
def State.opens (s : State) (m : Master) (off : Nat) : Bool :=
  !s.unpowered && !s.resetLow && !s.portShut m && !(m.isPort && decide (0x5000 ≤ off)) && !s.absentAt off && !s.offAt off

/-- `opens` for the register of a field. -/
def State.opensF (s : State) (m : Master) (pg : Nat) (f : Fld) (i : Nat := 0) : Bool := s.opens m (f.addr pg i)

/-- The state in which the body of a write that reaches its register acts: the master's key sequences at other
registers are restarted (R54). -/
def State.met (s : State) (m : Master) (pg : Nat) (f : Fld) (i : Nat := 0) : State := s.restartKeys m (f.addr pg i)

/-- Stored bytes of a body deciphered (R166). -/
def State.plain (s : State) (l : Load) (x : List Byte) : List Byte :=
  if hdrEncrypted l.header then gcmDecipher (s.sheetKey.getD []) (hdrIv l.header) l.body.length x else x

/-- Up to `n` bytes of the input at the place of a load's next command, as stored. -/
def State.commandBytes (s : State) (l : Load) (raw : List Byte) (n : Nat) : List Byte :=
  s.loadInput l raw (256 + l.body.length) n

/-- A well-formed command of `n` bytes with opcode `op` is next in the body of a load, whole, and it fits (R155, R156). -/
def State.meetsCommand (s : State) (l : Load) (op n : Nat) (raw : List Byte) : Prop :=
  let head := s.plain l (s.commandBytes l raw 8)
  s.cfgOp = .load l ∧ l.header ≠ [] ∧ l.waiting = none ∧ leAt head 0 1 = op ∧ cmdLen head = some n ∧ 8 ≤ head.length ∧
    8 ≤ n ∧ (s.commandBytes l raw n).length = n ∧ l.body.length + n ≤ hdrBody l.header ∧
    (op = 0x0F → hdrBody l.header = l.body.length + 8)

/-- The command in clear. -/
def State.clearText (s : State) (l : Load) (n : Nat) (raw : List Byte) : List Byte := s.plain l (s.commandBytes l raw n)

/-- A load that has taken a command of `n` bytes (R155, R162, R177): the body as stored, and the CRC of the clear bytes,
which END leaves. -/
def State.took (s : State) (l : Load) (op n : Nat) (raw : List Byte) : Load :=
  { (s.loaderDrop l n).1 with
    body := l.body ++ s.commandBytes l raw n
    crc := if op = 0x0F then l.crc else (s.clearText l n raw).foldl crc32Byte l.crc }

/-- The state in which a command of `n` bytes acts: the bytes of a loader frame that it consumed have left the buffer
(R177). -/
def State.bodyState (s : State) (l : Load) (n : Nat) : State := (s.loaderDrop l n).2

/-- The data `d` may stand in the frames `ts` for a load (R119, R165): no word-tile bit is set without word tiles, and no
static tap is added to one of a line. -/
def State.framesSound (s : State) (l : Load) (d : List Byte) (ts : List Nat) : Prop :=
  (hasWords s.variant = true ∨ ∀ f ∈ ts, Config.frameWords (f % 0x600) d = false) ∧
    (∀ f ∈ ts, Config.staticTaps (f % 0x600) d = []) ∧ dupAt [] (l.taps.map fun (t : Nat × Nat) => 64 * t.1 + t.2) = none

/-- From `s` to `t`, the frames `ts` of the shadow plane have taken the data `d`, and no other frame has changed. -/
def State.framesTook (s t : State) (d : List Byte) (ts : List Nat) : Prop :=
  (∀ f ∈ ts, t.frame (s.shadowPlane (f / 0x600)) f = d) ∧
    ∀ k f, f < 65536 → (f ∈ ts → k ≠ s.shadowPlane (f / 0x600)) → t.frame k f = s.frame k f

end Sys2Proof.Machine
end

