-- ==== Sys2Proof/Certificates/Slice0/Obligations.lean ====
section
/-!
DEFINITION. The statements for the provers.
-/
open Sys2Proof Sys2Proof.Machine Sys2Proof.Machine.F

-- The step --------------------------------------------------------------------------------------------------------

/-- A step takes the command at the front of the queue and carries it out with the rest still waiting. -/
def Obligations.StepRunsFront : Prop :=
  ∀ (c : Instr) (r : List Instr) (s : State), s.pending = c :: r → step s = exec c { s with pending := r }

/-- With no command waiting, the block's timebase ticks (the model's choice, log entry 4): without a lock nothing
changes but a rebuild of the vault's index that is over, and with one, away from a slew tick, the loop moves to its next
rising edge, the timestamp by as many ns (R74), and the fabric follows the levels that have changed. -/
def Obligations.IdleStepTicks : Prop :=
  ∀ s : State, s.pending = [] →
    let x := { s with vtRebuild := false }
    let e := 2 - s.clk % 2
    (s.tbRun = false → step s = .next x) ∧
    (s.tbRun = true → s.slewLeft = 0 ∨ e < s.slewLeft →
      step s = .next (x.skipEdges e).flow ∧ (x.skipEdges e).ts = s.ts + BitVec.ofNat 64 e ∧
        (x.skipEdges e).clk = s.clk + e ∧ (s.clk + e) % 2 = 0)

/-- The state after reset has both canonical forms, and no command waits in it. -/
def Obligations.ResetHasForms : Prop :=
  Memory.wf State.reset.mem = true ∧ State.reset.regsWf = true ∧ State.reset.pending = []

/-- INVARIANT. Every step keeps the canonical form of the byte memory (addresses rise, no listed byte is the zero that
an unlisted byte reads as, R143), keeps the register table's form (offsets rise, no listed register stands at its
reset word), never changes the part itself, and takes exactly the command it carried out from the queue. -/
def Obligations.EveryStepKeepsForms : Prop :=
  ∀ s t : State, step s = .next t →
    (Memory.wf s.mem = true → Memory.wf t.mem = true) ∧ (s.regsWf = true → t.regsWf = true) ∧
    t.part = s.part ∧ t.pending = s.pending.tail

/-- No command is refused, and the one fault is an offset that no BAR has (R35): every command answers a next state in
every state, the nine that carry an offset only where it lies inside their BAR. -/
def Obligations.OnlyOutsideBarStops : Prop :=
  ∀ (c : Instr) (s : State),
    (∃ t, exec c s = .next t) ∨
    (exec c s = .fault .outsideBar ∧
      ((∃ m off v, 0x40_0000 ≤ off ∧ (c = .registerWrite m off v ∨ c = .lowWordWrite m off v ∨
          c = .highWordWrite m off v ∨ c = .offWrite m off v ∨ c = .absentWrite m false off v)) ∨
       (∃ m off, 0x40_0000 ≤ off ∧ (c = .lowWordRead m off ∨ ∃ wr, c = .badAccess m off wr)) ∨
       (∃ m off, 0x400_0000 ≤ off ∧ ((∃ v, c = .absentWrite m true off v) ∨ (∃ d, c = .roWrite m off d) ∨
          ∃ wr n d, c = .bar2MemoryAccess m off wr n d))))

-- Register access (chapter 02) ----------------------------------------------------------------------------------------

/-- REGISTER_WRITE (R25): an aligned write that reaches a plain read-write register of the device page (DEV_SCRATCH0-3)
stores the whole word there and changes nothing else but the master's key sequences (R54). -/
def Obligations.RegisterWriteAppliesWord : Prop :=
  ∀ (m : Master) (i : Nat) (v : Word) (s : State), i < 4 →
    s.opens m (DEV_SCRATCH.addr pgDEV i) = true →
    exec (.registerWrite m (DEV_SCRATCH.addr pgDEV i) v) s =
      .next ((s.met m pgDEV DEV_SCRATCH i).setReg (DEV_SCRATCH.addr pgDEV i) v)

/-- LOW_WORD_READ (R13): the low word comes back and the reading master's latch for the pair takes the high word; no other
latch, no register and no byte of memory changes. The read of the high word, which is the same read (`readReg`) four bytes
further on, answers the master's latch and keeps it, or, with an empty latch, the present high word, and loads nothing. -/
def Obligations.LowWordReadLoadsLatch : Prop :=
  ∀ (m m' : Master) (off : Nat) (w : Word) (s : State), s.unpowered = false → s.resetLow = false →
    (m.isPort = true → off < 0x5000) → off % 4 = 0 → off < 0x40_0000 → s.isPairLow off = true →
    (∃ t, exec (.lowWordRead m off) s = .next t ∧ t = { s with
        latch := aput s.latch (pairKey m off) (s.view m (off + 4)),
        resp := wordBytes (s.view m off), respErr := false } ∧
      aget t.latch (pairKey m off) = some (s.view m (off + 4)) ∧
      (m'.id ≠ m.id → aget t.latch (pairKey m' off) = aget s.latch (pairKey m' off)) ∧
      (t.readReg m (off + 4)).resp = wordBytes (s.view m (off + 4))) ∧
    (aget s.latch (pairKey m off) = some w →
      s.readReg m (off + 4) = { s with resp := wordBytes w, respErr := false }) ∧
    (aget s.latch (pairKey m off) = none →
      s.readReg m (off + 4) = { s with resp := wordBytes (s.view m (off + 4)), respErr := false })

/-- LOW_WORD_WRITE, HIGH_WORD_WRITE (R14), on the pair RS_SRC_ADDR: the low word is held for its master and changes no
register; the high-word write of that master then updates both halves together and nothing stays held; with nothing held
the low word keeps its present value. -/
def Obligations.PairWritesTogether : Prop :=
  ∀ (m : Master) (v w : Word) (s : State),
    let lo := RS_SRC_ADDR_LO.addr pgRS 0
    (s.opens m lo = true →
      exec (.lowWordWrite m lo v) s =
        .next { s.restartKeys m lo with lowHold := aput s.lowHold (pairKey m lo) v }) ∧
    (s.opens m (lo + 4) = true → aget s.lowHold (pairKey m lo) = some w →
      ∃ t, exec (.highWordWrite m (lo + 4) v) s = .next t ∧ t.reg lo = w ∧ t.reg (lo + 4) = v ∧
        aget t.lowHold (pairKey m lo) = none ∧ (∀ o, o ≠ lo → o ≠ lo + 4 → t.reg o = s.reg o) ∧ t.mem = s.mem) ∧
    (s.opens m (lo + 4) = true → aget s.lowHold (pairKey m lo) = none →
      ∃ t, exec (.highWordWrite m (lo + 4) v) s = .next t ∧ t.reg lo = s.reg lo ∧ t.reg (lo + 4) = v ∧
        (∀ o, o ≠ lo → o ≠ lo + 4 → t.reg o = s.reg o) ∧ t.mem = s.mem)

/-- ABSENT_WRITE, OFF_WRITE, RO_WRITE, BAD_ACCESS, UNREACHABLE (R5, R39, R43-R45, R60): a write that no location takes is
dropped; it sets its bit of DEV PG_STATUS, an absent or unmapped one is counted in DEV_ABSENT_WRITES as well, and nothing
else changes but the master's key sequences. -/
def Obligations.DroppedAccessesAreFlagged : Prop :=
  ∀ (m : Master) (p : Port) (off : Nat) (v : Word) (d : List Byte) (s : State),
    s.unpowered = false → s.resetLow = false → s.portShut m = false →
    (off % 4 = 0 → off < 0x40_0000 → s.absentAt off = true → (m.isPort = true → off < 0x5000) →
      exec (.absentWrite m false off v) s =
        .next (((s.restartKeys m off).incSat pgDEV DEV_ABSENT_WRITES).setStatus pgDEV stABSENT_WRITE)) ∧
    (0x140_0000 ≤ off → off < 0x400_0000 → off % 4 = 0 → m.isPort = false →
      exec (.absentWrite m true off v) s =
        .next ((s.incSat pgDEV DEV_ABSENT_WRITES).setStatus pgDEV stABSENT_WRITE)) ∧
    (off % 4 = 0 → off < 0x40_0000 → s.absentAt off = false → s.offAt off = true → (m.isPort = true → off < 0x5000) →
      exec (.offWrite m off v) s = .next ((s.restartKeys m off).setStatus pgDEV stOFF_WRITE)) ∧
    (0x100_0000 ≤ off → off < 0x140_0000 → bar2Size off d.length = true → m.isPort = false →
      exec (.roWrite m off d) s = .next (s.setStatus pgDEV stRO_WRITE)) ∧
    (off < 0x40_0000 → (m.isPort = true → off < 0x5000) →
      exec (.badAccess m off true) s = .next ({ s with keys := adel s.keys m.id }.setStatus pgDEV stBAD_ACCESS) ∧
      exec (.badAccess m off false) s =
        .next ({ s with resp := [0, 0, 0, 0], respErr := false }.setStatus pgDEV stBAD_ACCESS)) ∧
    (off % 4 = 0 → 0x5000 ≤ off →
      exec (.unreachable p off true) s = .next ((s.restartKeys p.master off).setStatus pgDEV stUNREACHABLE) ∧
      exec (.unreachable p off false) s =
        .next ({ s with resp := [0, 0, 0, 0], respErr := false }.setStatus pgDEV stUNREACHABLE))

/-- BAR2_MEMORY_ACCESS (R38, R145): software writes bytes of a block memory through BAR2 and reads them back. For a visible
memory of a present bank whose domain is on, which does not wait for the WR step of a couch, is not mirrored, holds no upset
bit and meets no injected check, an access of a size that BAR2 accepts completes: a write stores its bytes and no others, and a
read answers the bytes that stand there. -/
def Obligations.Bar2AccessesMemory : Prop :=
  ∀ (m : Master) (off n : Nat) (d : List Byte) (s : State),
    let b := off / 0x4000 / 24
    let k := off / 0x4000 % 24
    s.unpowered = false → s.resetLow = false → s.portShut m = false → m.isPort = false → off < 0xC0_0000 →
    s.present (pgFB b) = true → s.pageOn (pgFB b) = true → s.maskBit (pgFB b) FB_MEM_HV k = true →
    s.wrHeld.contains b = false → s.memMirrored b k = false →
    (s.memEcc b k = false ∨ (s.flips = [] ∧ s.flag (pgFB b) PG_INJECT.ARM = false)) →
    (bar2Size off d.length = true →
      ∃ t, exec (.bar2MemoryAccess m off true n d) s = .next t ∧ t.bytes off d.length = d ∧ t.respErr = false ∧
        (∀ a, a < off ∨ off + d.length ≤ a → t.byte a = s.byte a) ∧ t.regs = s.regs) ∧
    (bar2Size off n = true →
      exec (.bar2MemoryAccess m off false n d) s = .next { s with resp := s.bytes off n, respErr := false })
-- The page header (chapter 02) ----------------------------------------------------------------------------------------

/-- PWR_REQ, PG_CTRL_EN, QUIESCE (R46-R48): a write of PG_CTRL that changes one unlocked bit. With `x` the state after the
master's other key sequences restart and `y` that state with PG_CTRL rewritten, a change of EN or QUIESCE runs what the
owning chapter gives for it (`ctrlHooks`), and `askChanged` refuses the switch-off of a domain that is kept on; on a page
whose owning chapter gives nothing for it the bit reads the value and the two others stay; PWR_REQ does so on every page
that is not AON and has no fixed enable. -/
def Obligations.ControlBitsTakeValues : Prop :=
  ∀ (m : Master) (pg i : Nat) (k : PageKind) (v : Bool) (s : State),
    let off := pg * 0x1000 + 0x008
    let x := s.restartKeys m off
    let rw (e q : Nat) : State :=
      ((if isAon pg then x else x.set pg PG_CTRL.PWR_REQ (x.get pg PG_CTRL.PWR_REQ)).set pg PG_CTRL.QUIESCE q).enWrite k i pg
        (e == 1)
    pageAt pg = some (k, i) → s.opens m off = true → s.locked pg 0 = false →
    (s.flag pg PG_CTRL.EN ≠ v → (rw (b2n v) (s.get pg PG_CTRL.QUIESCE)).flag pg PG_CTRL.EN = v →
      exec (.pgCtrlEn m pg v) s =
        .next (State.askChanged x (x.ctrlHooks (rw (b2n v) (s.get pg PG_CTRL.QUIESCE)) k i pg) pg)) ∧
    (s.flag pg PG_CTRL.QUIESCE ≠ v → k ≠ .tw → k ≠ .sq →
      exec (.quiesce m pg v) s =
        .next (State.askChanged x (x.ctrlHooks (rw (s.get pg PG_CTRL.EN) (b2n v)) k i pg) pg)) ∧
    (k = .key ∨ k = .cch ∨ k = .bfe ∨ k = .ls ∨ k = .sch1 ∨ k = .sch2 ∨ k = .sch3 →
      (∃ t, exec (.pgCtrlEn m pg v) s = .next t ∧ t.get pg PG_CTRL.EN = b2n v ∧
        t.get pg PG_CTRL.QUIESCE = s.get pg PG_CTRL.QUIESCE ∧ t.get pg PG_CTRL.PWR_REQ = s.get pg PG_CTRL.PWR_REQ) ∧
      (∃ t, exec (.quiesce m pg v) s = .next t ∧ t.get pg PG_CTRL.QUIESCE = b2n v ∧
        t.get pg PG_CTRL.EN = s.get pg PG_CTRL.EN ∧ t.get pg PG_CTRL.PWR_REQ = s.get pg PG_CTRL.PWR_REQ)) ∧
    (isAon pg = false → k ≠ .tb0 →
      ∃ t, exec (.pwrReq m pg v) s = .next t ∧ t.get pg PG_CTRL.PWR_REQ = b2n v ∧
        t.get pg PG_CTRL.EN = s.get pg PG_CTRL.EN ∧ t.get pg PG_CTRL.QUIESCE = s.get pg PG_CTRL.QUIESCE ∧ t.mem = s.mem)

/-- PG_MODE_WRITE (R50): while the page is disabled and idle the mode takes the value, reserved function bits aside (R26), and
nothing else changes; with the enable set or work in hand the write is ignored in full and MODE_REJECT is set. -/
def Obligations.ModeWritesOnlyWhileIdle : Prop :=
  ∀ (m : Master) (pg i : Nat) (k : PageKind) (v : Word) (s : State),
    let off := pg * 0x1000 + 0x00C
    pageAt pg = some (k, i) → s.opens m off = true → s.locked pg 1 = false → enFixed k = false →
    (s.flag pg PG_CTRL.EN = false → s.pageIdle pg = true →
      exec (.pgModeWrite m pg v) s = .next ((s.restartKeys m off).setReg off
        (BitVec.ofNat 32 (bits v.toNat 31 1 * 2 ^ 31 + if hostMode k then bits v.toNat 0 1 else 0)))) ∧
    (s.flag pg PG_CTRL.EN = true ∨ s.pageIdle pg = false →
      exec (.pgModeWrite m pg v) s = .next ((s.restartKeys m off).setStatus pg stMODE_REJECT))

/-- PG_STATUS_CLEAR, PG_FAULT_CLEAR, COUNT_CLR, FE_REARM (R46, R51-R53): status bits and fault flags clear where a one is
written and stand where a zero is, both fault counts clear, and the first-error capture is armed again; other registers of
the pages stay. -/
def Obligations.HeaderFlagsClear : Prop :=
  ∀ (m : Master) (pg i : Nat) (k : PageKind) (v : Word) (s : State), pageAt pg = some (k, i) →
    (s.opens m (pg * 0x1000 + 0x010) = true →
      ∃ t, exec (.pgStatusClear m pg v) s = .next t ∧ t.hdr pg 0x010 = s.hdr pg 0x010 &&& ~~~v ∧
        (∀ o, o < msixBase → o ≠ pg * 0x1000 + 0x010 → t.reg o = s.reg o) ∧ t.mem = s.mem) ∧
    (s.opens m (pg * 0x1000 + 0x018) = true →
      (∃ t, exec (.pgFaultClear m pg v) s = .next t ∧
        (t.hdr pg 0x018).toNat % 8 = Nat.land ((s.hdr pg 0x018).toNat % 8) (7 - v.toNat % 8) ∧
        t.get pg PG_FAULT.CORR_COUNT = s.get pg PG_FAULT.CORR_COUNT ∧
        t.get pg PG_FAULT.CONT_COUNT = s.get pg PG_FAULT.CONT_COUNT ∧
        (∀ o, o < msixBase → o ≠ pg * 0x1000 + 0x018 → t.reg o = s.reg o) ∧ t.mem = s.mem) ∧
      (∃ t, exec (.countClr m pg) s = .next t ∧ t.get pg PG_FAULT.CORR_COUNT = 0 ∧ t.get pg PG_FAULT.CONT_COUNT = 0 ∧
        (t.hdr pg 0x018).toNat % 8 = (s.hdr pg 0x018).toNat % 8 ∧
        (∀ o, o < msixBase → o ≠ pg * 0x1000 + 0x018 → t.reg o = s.reg o) ∧ t.mem = s.mem)) ∧
    (s.opens m (pg * 0x1000 + 0x024) = true →
      exec (.feRearm m pg) s = .next ((s.restartKeys m (pg * 0x1000 + 0x024)).set pg PG_FE_SRC.VALID 0))

/-- PG_LOCK (R54): the two keys and a mask, written one after the other by one master, add the mask to the locks in force
(its reserved bits [7:5] aside, log entry 21, DEDUCED) and change no other register; after the two keys a write of the same master to
another location restarts the sequence, so that the mask that follows locks nothing. -/
def Obligations.LockSequence : Prop :=
  ∀ (m : Master) (pg i off : Nat) (k : PageKind) (v w : Word) (s : State),
    let lk := pg * 0x1000 + 0x030
    pageAt pg = some (k, i) → s.opens m lk = true → s.keyStage m lk = 0 →
    exec (.pgLock m pg v) s = .next ((s.restartKeys m lk).lockWrite m pg v) ∧
    ∃ s1 s2 s3, exec (.pgLock m pg 0x53544C4B) s = .next s1 ∧ exec (.pgLock m pg 0xACABB3B4) s1 = .next s2 ∧
      exec (.pgLock m pg v) s2 = .next s3 ∧
      s3.hdr pg 0x030 = s.hdr pg 0x030 ||| (v &&& ~~~0xE0#32) ∧ (∀ o, o ≠ lk → s3.reg o = s.reg o) ∧ s3.mem = s.mem ∧
      s3.keyStage m lk = 0 ∧
      (off ≠ lk → off < 0x40_0000 → off % 4 ≠ 0 →
        ∃ s4 s5, exec (.registerWrite m off w) s2 = .next s4 ∧
          (s4.opens m lk = true → exec (.pgLock m pg v) s4 = .next s5 ∧ s5.hdr pg 0x030 = s.hdr pg 0x030))

/-- PG_INJECT (R450): an unlocked write that arms a checker which the page has, with a count that is not 0, shows the three
fields and leaves that many checks to come; other registers stay. -/
def Obligations.InjectArms : Prop :=
  ∀ (m : Master) (pg i : Nat) (k : PageKind) (v : Word) (s : State),
    pageAt pg = some (k, i) → s.opens m (pg * 0x1000 + 0x034) = true → s.locked pg 4 = false →
    bit v.toNat 16 = true → bits v.toNat 8 8 ≠ 0 → hasChecker k (bits v.toNat 0 4) = true →
    ∃ t, exec (.pgInject m pg v) s = .next t ∧ t.get pg PG_INJECT.ARM = 1 ∧
      t.get pg PG_INJECT.COUNT = bits v.toNat 8 8 ∧ t.get pg PG_INJECT.CHECKER = bits v.toNat 0 4 ∧
      aget t.injLeft pg = some (bits v.toNat 8 8) ∧ (∀ o, o ≠ pg * 0x1000 + 0x034 → t.reg o = s.reg o) ∧ t.mem = s.mem

/-- BLK_RESET (R49) on an unlocked page. Without the page's domain the page stays as it is; a couch in progress keeps CCH from it (domain requests that wait are
admitted as at any write of PG_CTRL, R521). On
the pages named, the enable reads 0 afterwards, and PWR_REQ and every other header register (mode, status, fault counts,
first-error capture, lock mask, set count among them) read as before. -/
def Obligations.BlockResetKeepsHeader : Prop :=
  ∀ (m : Master) (pg i : Nat) (k : PageKind) (s : State),
    let off := pg * 0x1000 + 0x008
    pageAt pg = some (k, i) → s.opens m off = true → s.locked pg 0 = false →
    let z := (s.restartKeys m off).admitRamps.dozeSync;
    (s.pageOn pg = false → exec (.blkReset m pg) s = .next z) ∧
    (s.pageOn pg = true → k = .cch → s.get pgCCH CCH_STATE.STEP ≠ 0 →
      exec (.blkReset m pg) s = .next (z.setStatus pg stLOCKED_WRITE)) ∧
    (s.pageOn pg = true → s.present pg = true → s.couch = none →
      k ∈ [PageKind.dev, .pwr0, .pwr1, .mgt, .cal, .key, .gb, .rs0, .rs2, .rs3, .bfe] →
      ∃ t, exec (.blkReset m pg) s = .next t ∧ t.get pg PG_CTRL.EN = 0 ∧
        t.get pg PG_CTRL.PWR_REQ = s.get pg PG_CTRL.PWR_REQ ∧
        ∀ o, o < 0x40 → o % 4 = 0 → o ≠ 0x008 → t.hdr pg o = s.hdr pg o)

-- The host link and the management ports (chapter 02) -------------------------------------------------------------------

/-- LINK_UP, LINK_DOWN, PCIE_HOT_RESET, BUS_MASTER_ENABLE_CHANGE, CLR_ABSENT (R36, R59): what a change of the host link does to
DEV_HOSTLINK and the PCIe function's own state, and to nothing else: with the link up, a loss shows rate 0, counts itself and
sets LINK_DOWN. That the function's own state is BME and the MSI-X table is log entry 14 (PRESUMED). -/
def Obligations.HostLinkChanges : Prop :=
  ∀ (m : Master) (rate : Nat) (en : Bool) (s : State),
    (s.domOn 55 = true → s.unpowered = false → s.resetLow = false → 1 ≤ rate → rate ≤ 4 →
      exec (.linkUp rate) s =
        .next (((s.set pgDEV DEV_HOSTLINK.RATE rate).set pgDEV DEV_HOSTLINK.TUNNEL 1).setStatus pgDEV stLINK_UP)) ∧
    (s.get pgDEV DEV_HOSTLINK.RATE ≠ 0 →
      (∃ t, exec .linkDown s = .next t ∧ t.get pgDEV DEV_HOSTLINK.RATE = 0 ∧ t.get pgDEV DEV_HOSTLINK.BME = 0 ∧
        t.get pgDEV DEV_HOSTLINK.DOWN_COUNT = wrapInc 16 (s.get pgDEV DEV_HOSTLINK.DOWN_COUNT) ∧
        bits (t.hdr pgDEV 0x010).toNat stLINK_DOWN 1 = 1 ∧
        (∀ o, 0x1000 ≤ o → o < msixBase → t.reg o = s.reg o) ∧ t.mem = s.mem ∧ t.tasks = s.tasks) ∧
      exec .pcieHotReset s =
        .next ((s.set pgDEV DEV_HOSTLINK.BME 0).clearRegs msixBase (msixBase + 0x8100)) ∧
      exec (.busMasterEnableChange en) s = .next (s.set pgDEV DEV_HOSTLINK.BME (b2n en)).dmaResume ∧
      (s.set pgDEV DEV_HOSTLINK.BME 0).dmaResume = s.set pgDEV DEV_HOSTLINK.BME 0) ∧
    (s.opensF m pgDEV DEV_CTRL.CLR_ABSENT = true →
      exec (.clrAbsent m) s = .next ((s.met m pgDEV DEV_CTRL.CLR_ABSENT).set pgDEV DEV_ABSENT_WRITES 0))

/-- MGMT_SPI_READ, MGMT_SPI_WRITE, MGMT_SPI_STATUS (R62): a served read frame returns the four bytes of the register and the
CRC-8 over the whole frame; a write frame whose CRC-8 matches is the port's register write and reads APPLIED, and one that
does not match is dropped and reads CRC_ERR; the status frame returns the outcome of the last access. -/
def Obligations.SpiFramesAreServed : Prop :=
  ∀ (off : Nat) (v : Word) (dummy crc : Byte) (s : State), s.spiOn = true →
    (∃ t, exec (.mgmtSpiRead off dummy) s = .next t ∧
      t.resp = (s.readReg .mgmtSpi off).resp ++
        [crc8 ([0x0B] ++ offBytes off ++ [dummy] ++ (s.readReg .mgmtSpi off).resp)] ∧
      t.spiStatus = frameStatus off ∧ t.regs = (s.readReg .mgmtSpi off).regs ∧ t.mem = s.mem) ∧
    exec (.mgmtSpiWrite off v (frameCrc off v)) s =
      .next { s.writeReg .mgmtSpi off v with spiStatus := frameStatus off } ∧
    (crc ≠ frameCrc off v → exec (.mgmtSpiWrite off v crc) s = .next { s with spiStatus := 2 }) ∧
    exec .mgmtSpiStatus s = .next { s with resp := [s.statusByte s.spiStatus], respErr := false }

/-- MGMT_SPI_LOADER (R62, R177): with the loader served and its buffer empty, a frame of at most 4,096 bytes fills the
buffer; a frame that meets bytes still in the buffer is dropped whole; outside a waiting start-up nothing else changes. -/
def Obligations.LoaderTakesFrames : Prop :=
  ∀ (d : List Byte) (s : State), s.loaderOn = true →
    (s.loaderBuf = [] → d.length ≤ 4096 → s.bootWaits = false →
      exec (.mgmtSpiLoader d) s = .next { s with loaderBuf := d }) ∧
    (s.loaderBuf ≠ [] → exec (.mgmtSpiLoader d) s = .next s)

/-- MGMT_I2C_WRITE, MGMT_I2C_READ, RECOVERY_CLASS_TRANSFER (R63, R64): a served write with the right PEC is the port's register
write, acknowledged inside the reach of R60; a wrong PEC changes no register; a read returns the register's bytes and the PEC;
a bulk transfer carries one frame of MGMT_SPI and answers its response followed by the status byte. The PEC's extent is log
entry 27 (PRESUMED), the recovery class's status byte log entry 25 (DEDUCED). -/
def Obligations.I2cAndRecoveryAreServed : Prop :=
  ∀ (off : Nat) (v : Word) (pec : Byte) (s : State),
    (s.i2cOn = true →
      exec (.mgmtI2cWrite off v (s.i2cWritePec off v)) s =
        .next { s.writeReg .mgmtI2c off v with resp := [], respErr := decide (0x5000 ≤ off) } ∧
      (pec ≠ s.i2cWritePec off v → exec (.mgmtI2cWrite off v pec) s = .next { s with resp := [], respErr := true }) ∧
      ∃ t, exec (.mgmtI2cRead off) s = .next t ∧ t.regs = (s.readReg .mgmtI2c off).regs ∧
        t.resp.take (s.readReg .mgmtI2c off).resp.length = (s.readReg .mgmtI2c off).resp ∧
        t.resp.length = (s.readReg .mgmtI2c off).resp.length + 1) ∧
    (s.awake = true → s.domOn 55 = true →
      let u := s.set pgDEV DEV_HOSTLINK.USB2_REC 1
      exec (.recoveryClassTransfer .status) s =
        .next { u with resp := [u.statusByte u.recStatus, u.statusByte u.recStatus], respErr := false } ∧
      ∃ t, exec (.recoveryClassTransfer (.write off v (frameCrc off v))) s = .next t ∧
        t.regs = (u.writeReg .recovery off v).regs ∧ t.recStatus = frameStatus off ∧ t.resp.length = 1)

-- The timebase (chapter 03) -----------------------------------------------------------------------------------------------

/-- TIMEBASE_LOCK, HOLDOVER, REF_FREQUENCY_ERROR, REF_VALID, RELOCK (R75, R77, R565): the first lock since a reset starts the
timestamp at 0 with no epoch; a lost or wrong reference is holdover, counted and raised as the contained fault 0 of the page
while the timestamp runs on; the reference's return locks again without a step of phase; RELOCK is a holdover without a
fault or a count, from a holdover too. -/
def Obligations.LoopFollowsReference : Prop :=
  ∀ (m : Master) (freq : Nat) (s : State),
    (s.tbRun = false → s.unpowered = false → s.resetLow = false → s.domOn 62 = true → s.bootStep ≠ 2 →
      ∃ t, exec (.timebaseLock freq) s = .next t ∧ t.ts = 0 ∧ t.tbRun = true ∧ t.refOk = true ∧ t.slewLeft = 0 ∧ t.clk = 0 ∧
        t.get pgTB TB_STATUS.LOCKED = 1 ∧ t.get pgTB TB_STATUS.HOLDOVER = 0 ∧ t.get pgTB TB_STATUS.EPOCH_VALID = 0 ∧
        t.get pgTB TB_STATUS.REF_FREQ = freq % 4) ∧
    (s.tbRun = true → s.refOk = true →
      exec .holdover s = .next ((s.enterHoldover.incWrap pgTB TB_STATUS.LOSS_COUNT).raiseOwn pgTB 0 0) ∧
      exec .refFrequencyError s = .next ((s.enterHoldover.incWrap pgTB TB_STATUS.LOSS_COUNT).raiseOwn pgTB 0 0)) ∧
    (s.tbRun = true → s.opensF m pgTB TB_CTRL.RELOCK = true →
      exec (.relock m) s = .next (s.met m pgTB TB_CTRL.RELOCK).enterHoldover) ∧
    (s.tbRun = true → s.refOk = false → s.flag pgTB TB_CTRL.FORCE = false →
      ∃ t, exec (.refValid freq) s = .next t ∧ t.refOk = true ∧ t.ts = s.ts ∧ t.get pgTB TB_STATUS.LOCKED = 1 ∧
        t.get pgTB TB_STATUS.HOLDOVER = 0 ∧ t.get pgTB TB_STATUS.REF_FREQ = freq % 4 ∧ t.mem = s.mem)

/-- SLEW_TICK, TB_SLEW_AMOUNT, TB_SLEW_RATE, TIME_SET (R79, R80): over a slew tick the timestamp moves by 3 or by 1 where it
otherwise moves by 2, the remainder comes one nearer to 0, and at 0 SLEW_DONE is set; the command runs the loop to the end of the
slew tick that is next, `slewLeft` edges away. A write starts a slew of its amount at the programmed rate; a new rate continues
it; a time set loads both words as the timestamp and ends any slew. Stated for a device that follows neither its twin nor the
span. -/
def Obligations.SlewMovesTimestamp : Prop :=
  ∀ (m : Master) (v w : Word) (s : State), s.tbRun = true →
    (s.slewLeft ≠ 0 → s.getS pgTB TB_SLEW_AMOUNT ≠ 0 →
      ∃ t, exec .slewTick s = .next t ∧
        t.clk = s.clk + s.slewLeft + (2 - (s.clk + s.slewLeft) % 2) ∧
        t.ts = s.ts + BitVec.ofNat 64 (t.clk - s.clk) +
          (if 0 < s.getS pgTB TB_SLEW_AMOUNT then 1#64 else (-1 : BitVec 64)) ∧
        t.getS pgTB TB_SLEW_AMOUNT =
          s.getS pgTB TB_SLEW_AMOUNT - (if 0 < s.getS pgTB TB_SLEW_AMOUNT then 1 else -1) ∧
        (t.getS pgTB TB_SLEW_AMOUNT = 0 → t.slewLeft = 0 ∧ bits (t.hdr pgTB 0x010).toNat stSLEW_DONE 1 = 1)) ∧
    (s.spanFollows = false → s.twinFollows = false →
      (s.opensF m pgTB TB_SLEW_AMOUNT = true →
        ∃ t, exec (.tbSlewAmount m v) s = .next t ∧ t.get pgTB TB_SLEW_AMOUNT = v.toNat ∧ t.ts = s.ts ∧
          t.slewLeft = (if v = 0 then 0 else s.slewEdges) ∧ t.mem = s.mem) ∧
      (s.opensF m pgTB TB_SLEW_RATE = true →
        ∃ t, exec (.tbSlewRate m v) s = .next t ∧ t.get pgTB TB_SLEW_RATE = clampN 4 20 (v.toNat % 32) ∧
          t.slewLeft = (if s.get pgTB TB_SLEW_AMOUNT = 0 then s.slewLeft
            else 2 ^ (clampN 4 20 (v.toNat % 32) + 1) + 1 - s.clk % 2) ∧
          t.ts = s.ts ∧ t.mem = s.mem) ∧
      (s.opens m (TB_TIME_SET_LO.addr pgTB 0 + 4) = true →
        aget s.lowHold (pairKey m (TB_TIME_SET_LO.addr pgTB 0)) = some w →
        ∃ t, exec (.timeSet m v) s = .next t ∧ t.ts = v ++ w ∧ t.slewLeft = 0 ∧ t.get pgTB TB_SLEW_AMOUNT = 0 ∧
          t.get pgTB TB_STATUS.EPOCH_VALID = 1 ∧ bits (t.hdr pgTB 0x010).toNat stTIME_SET_DONE 1 = 1 ∧ t.mem = s.mem))

/-- PACE_MEASUREMENT, PACE_LOW_RUN (R70): in the measurement of one microsecond, `c` below 560 lengthens the run of its domain
(up to 9, once raised) and `c` at or above 560 ends it, while a measured domain without a count keeps its run and one that is
off has none. The eighth of a run raises contained fault 1 of the page, once. -/
def Obligations.PaceRunRaisesFault : Prop :=
  ∀ (l : List (Nat × Nat)) (d c : Nat) (s : State),
    (s.tbRun = true →
      ∃ t, exec (.paceMeasurement l) s = .next t ∧
        (s.measured d = true → (l.filter fun (e : Nat × Nat) => e.1 == d) = [(d, c)] →
          aget t.paceRun d = (if c < 560 then some (min ((aget s.paceRun d).getD 0 + 1)
            (max 8 ((aget s.paceRun d).getD 0))) else none)) ∧
        (s.measured d = true → (l.all fun (e : Nat × Nat) => e.1 != d) = true → aget t.paceRun d = aget s.paceRun d) ∧
        (s.measured d = false → aget t.paceRun d = none) ∧ t.mem = s.mem) ∧
    (aget s.paceRun d = some 8 →
      exec (.paceLowRun d) s =
        .next ({ s with paceRun := aput s.paceRun d 9 }.raiseOwn pgTB 1 (BitVec.ofNat 32 d)))

/-- TIMER_EVENT, TIMER_ENABLE, TIMER_START, ABSOLUTE_START, FABRIC_START_LINE, TIMER_STOP, TIMER_PULSE_FALL, TM_START_TIME_WRITE
(R82-R84): periodic events follow TM_PERIOD after the due time of the one before, without drift; a one-shot timer runs no more
after its event; TM_COUNT counts it (stated for a timer that starts no other). An enabled timer with a delay that starts at an
edge (a software start at the tick of its write, a fabric line's after its synchronisation) runs and its event is due TM_DELAY
later; a stopped one has no event due; the fall ends the level. -/
def Obligations.TimersRunAndStop : Prop :=
  (∀ (n : Nat) (d : Time) (s : State), n < 32 → s.tbRun = true → (s.timer n).due = some d → s.chainedTo n = [] →
    s.ts.toNat < d.toNat → s.get pgTM TM_CTRL.SCH_EDGE n = 0 →
    ∃ t, exec (.timerEvent n) s = .next t ∧ t.ts = (s.reach d).ts ∧ (s.slewLeft = 0 → t.ts = d) ∧
      t.get pgTM TM_COUNT n = wrapInc 32 (s.get pgTM TM_COUNT n) ∧
      (s.get pgTM TM_CTRL.MODE n % 2 = 1 → (t.timer n).due = some (d + BitVec.ofNat 64 (s.get pgTM TM_PERIOD n))) ∧
      (s.get pgTM TM_CTRL.MODE n = 0 → (t.timer n).due = none ∧ t.get pgTM TM_CTRL.RUNNING n = 0) ∧
      (t.timer n).fall = some (d + BitVec.ofNat 64 (if s.get pgTM TM_CTRL.MODE n < 2 then 4 else s.get pgTM TM_WIDTH n)) ∧
      t.mem = s.mem) ∧
  (∀ (m : Master) (n : Nat) (v : Word) (f : Time) (e : TrigAt) (s u : State), n < 32 → s.timersOpen = true →
    s.get pgTM TM_CTRL.MODE n = 0 → s.get pgTM TM_CTRL.RUNNING n = 0 → s.get pgTM TM_DELAY n ≠ 0 →
    (s.opensF m pgTM TM_CTRL.START n = true → s.get pgTM TM_CTRL.START_SRC n = 0 → s.get pgTM TM_CTRL.EN n = 1 →
      ∃ t, exec (.timerStart m n) s = .next t ∧ t.get pgTM TM_CTRL.RUNNING n = 1 ∧
        (t.timer n).due = some (s.toTick.ts + BitVec.ofNat 64 (s.get pgTM TM_DELAY n)) ∧ t.mem = s.mem) ∧
    (s.get pgTM TM_CTRL.START_SRC n = 3 → s.get pgTM TM_CTRL.EN n = 1 → s.takeTrig (· == .start n) = some (e, u) →
      ∃ t, exec (.fabricStartLine n) s = .next t ∧ t.get pgTM TM_CTRL.RUNNING n = 1 ∧
        (t.timer n).due = some ((u.edgeAt e.time).1 + BitVec.ofNat 64 (s.get pgTM TM_DELAY n)) ∧ t.mem = s.mem) ∧
    (s.get pgTM TM_CTRL.START_SRC n = 1 → s.get pgTM TM_CTRL.EN n = 1 → (s.timer n).started = false →
      s.ts.toNat < s.get64 pgTM TM_START_TIME_LO n →
      ∃ t, exec (.absoluteStart n) s = .next t ∧ t.get pgTM TM_CTRL.RUNNING n = 1 ∧
        (t.timer n).due = some ((s.reach (BitVec.ofNat 64 (s.get64 pgTM TM_START_TIME_LO n))).ts +
          BitVec.ofNat 64 (s.get pgTM TM_DELAY n)) ∧
        t.mem = s.mem) ∧
    (s.opensF m pgTM TM_CTRL.EN n = true → s.get pgTM TM_CTRL.EN n = 0 → s.get pgTM TM_CTRL.START_SRC n ≠ 1 →
      ∃ t, exec (.timerEnable m n) s = .next t ∧ t.get pgTM TM_CTRL.EN n = 1 ∧ t.get pgTM TM_COUNT n = 0 ∧ t.mem = s.mem) ∧
    (s.opensF m pgTM TM_CTRL.EN n = true → s.get pgTM TM_CTRL.EN n = 1 → (s.timer n).due = none →
      (s.timer n).fall = none →
      ∃ t, exec (.timerStop m n) s = .next t ∧ t.get pgTM TM_CTRL.EN n = 0 ∧ t.get pgTM TM_CTRL.RUNNING n = 0 ∧
        (t.timer n).due = none ∧ t.mem = s.mem) ∧
    ((s.timer n).fall = some f →
      ∃ t, exec (.timerPulseFall n) s = .next t ∧ (t.timer n).fall = none ∧ (t.timer n).due = (s.timer n).due ∧
        t.get pgTM TM_COUNT n = s.get pgTM TM_COUNT n ∧ t.mem = s.mem) ∧
    (s.opens m (TM_START_TIME_LO.addr pgTM n + 4) = true → s.get pgTM TM_CTRL.EN n = 0 → s.locked pgTM 8 = false →
      ∃ t, exec (.tmStartTimeWrite m n v) s = .next t ∧ t.reg (TM_START_TIME_LO.addr pgTM n + 4) = v ∧ t.mem = s.mem))
-- Fine tiles and word tiles (chapter 04) --------------------------------------------------------------------------------

/-- Fine tiles (R94, R98, R101): at a capture an HREG macrocell takes D and a TOG macrocell takes its value XOR D, both cleared
by a control term that is 1; a LATCH follows D while its control term is 1 or it has none, and holds while it is 0; captures
leave latches alone. In carry mode the carry out is G OR (P AND CI), G 0 where none is assigned, and D is P XOR CI XOR POL;
else the carry passes. With every macrocell in carry mode, generate terms that are a AND b and sums that are a XOR b, the D
values and the carry out are the binary sum of a, b and the carry in. Macrocell `m` sees the inputs `xs m`: in a capture, those
that do not move are the same for all. That the fabric follows its levels changes nothing but bundles, the tiles' inputs and
latches, and the trigger events under way. -/
def Obligations.FineTilesFollowTheirModes : Prop :=
  (∀ (c : FineCfg) (xs : Nat → Nat) (q m : Nat) (ci : Bool), m < 8 →
    let sg := fun k => signals (xs k) q
    ((c.macAt m).mode = .hreg → bit (c.captured xs q ci) m = (!(c.ctl m (sg m)).getD false && c.d m sg ci)) ∧
    ((c.macAt m).mode = .tog →
      bit (c.captured xs q ci) m = (!(c.ctl m (sg m)).getD false && xor (bit q m) (c.d m sg ci))) ∧
    ((c.macAt m).mode = .latch → bit (c.captured xs q ci) m = bit q m) ∧
    ((c.macAt m).mode = .latch → (c.ctl m (sg m)).getD true = true → bit (c.latched xs q ci) m = c.d m sg ci) ∧
    ((c.macAt m).mode = .latch → (c.ctl m (sg m)).getD true = false → bit (c.latched xs q ci) m = bit q m) ∧
    ((c.macAt m).mode ≠ .latch → bit (c.latched xs q ci) m = bit q m) ∧
    ((c.macAt m).carry = true →
      c.carryAt sg ci (m + 1) =
        (((c.macAt m).generate && c.term (8 * m + 1) (sg m)) || (c.sum m (sg m) && c.carryAt sg ci m)) ∧
      c.d m sg ci = xor (xor (c.sum m (sg m)) (c.carryAt sg ci m)) (c.macAt m).pol) ∧
    ((c.macAt m).carry = false → c.carryAt sg ci (m + 1) = c.carryAt sg ci m)) ∧
  (∀ (c : FineCfg) (sg : Nat → Nat) (a b m : Nat) (ci : Bool), m ≤ 8 →
    (∀ j, j < 8 → (c.macAt j).carry = true ∧ (c.macAt j).generate = true ∧ (c.macAt j).pol = false ∧
      c.term (8 * j + 1) (sg j) = (bit a j && bit b j) ∧ c.sum j (sg j) = xor (bit a j) (bit b j)) →
    ((List.range m).map fun j => b2n (c.d j sg ci) * 2 ^ j).sum + b2n (c.carryAt sg ci m) * 2 ^ m =
      a % 2 ^ m + b % 2 ^ m + b2n ci) ∧
  (∀ draw x moved m k : Nat, bit moved k = false → bit (seenBy draw x moved m) k = bit x k) ∧
  ∀ s : State, ∃ nets fine trig, s.flow = { s with nets := nets, fine := fine, trig := trig }

/-- CAPTURE_EVENT, CARRY_CHAIN_CAPTURE (R94, R95, R98, R102): a registered tile whose joined inputs all carry new data, whose
output is free and whose bank runs captures, acknowledges its joined inputs and presents its new value; the tiles of a carry
chain capture as one stage and present together. The fabric's levels have settled before (`u`). That the levels at inputs which
nothing feeds, and which inputs move, come with the event is log entry 40 (DESIGN CHOICE). -/
def Obligations.TilesCapture : Prop :=
  ∀ (b t lv moved : Nat) (lvs : List (Nat × Nat)) (x : FineTile) (s : State), t < 512 →
    let u := s.flow
    let xin := u.captureIn b t x lv
    u.bankRuns b = true → aget u.fine (fineKey b t) = some x →
    (x.cfg.registered = true → x.cfg.inChain = false → x.cfg.join ≠ 0 → x.joined = true → u.srcFree (.fine b t) = true →
      exec (.captureEvent b t lv moved) s = .next ((u.captureTile b t x lv moved false).2.issue b [t]) ∧
      (let q0 := x.cfg.latched (fun _ => xin) x.q false
       let y : FineTile := { x with
         q := if u.mirrorHeld 0 b t 0 then x.q else
           x.cfg.latched (fun _ => xin) (x.cfg.captured (fun _ => xin) q0 false) false,
         xv := xin, xnew := Nat.land x.xnew (2 ^ 36 - 1 - x.cfg.join) }
       (u.captureTile b t x lv 0 false).2 = u.setFine b t y)) ∧
    (t % 32 + x.cfg.chain ≤ 32 → 0 < x.cfg.chain → (u.chainTiles b t).length = x.cfg.chain →
      ((u.chainTiles b t).any fun (e : Nat × FineTile) => e.2.cfg.registered) = true →
      ((u.chainTiles b t).any fun (e : Nat × FineTile) => e.2.cfg.join != 0) = true →
      (∀ e ∈ u.chainTiles b t, e.2.joined = true ∧ u.srcFree (.fine b e.1) = true) →
      exec (.carryChainCapture b t lvs) s =
        .next ((u.captureChain b (u.chainTiles b t) lvs
          (x.baseCarry (u.captureIn b t x (lvs.headD (0, 0)).1))).issue b ((u.chainTiles b t).map Prod.fst)))

/-- WORD_TILE_INSTRUCTION (R107-R111): a trap cause halts the tile and raises it; an instruction whose tokens and output
buffer are not ready changes nothing; one that is ready and writes neither an output nor PROG leaves the tile as `execute`
gives, with nothing mirrored. Saturating sums lie in the signed range and are exact inside it, products are those of the low
halves, compares write 0 or 1, and a rotation by the complement rotates back. -/
def Obligations.WordTilesIssue : Prop :=
  (∀ (b w c : Nat) (t : WordTile) (s : State), w < 64 → s.bankRuns b = true → aget s.word (wordKey b w) = some t →
    t.halted = false →
    let i := (t.cfg.slots.getD t.pc 0).toNat
    (t.trap i = some c → exec (.wordTileInstruction b w) s = .next (s.wordTrap b w c t.pc t)) ∧
    (t.trap i = none → t.ready i = false → exec (.wordTileInstruction b w) s = .next s) ∧
    (t.trap i = none → t.ready i = true → s.secondary = false → (t.execute i).outs = t.outs → t.cfg.bound = none →
      exec (.wordTileInstruction b w) s = .next (s.setWord b w (t.execute i)).settle)) ∧
  ∀ (a b : Word) (f : Bool),
    (aluResult 0x03 a b f).toInt = max (-(2 ^ 31)) (min (a.toInt + b.toInt) (2 ^ 31 - 1)) ∧
    (aluResult 0x06 a b f).toInt = max (-(2 ^ 31)) (min (a.toInt - b.toInt) (2 ^ 31 - 1)) ∧
    (aluResult 0x04 a b f).toNat = min (a.toNat + b.toNat) (2 ^ 32 - 1) ∧
    (aluResult 0x07 a b f).toNat = a.toNat - b.toNat ∧
    (aluResult 0x09 a b f).toNat = a.toNat % 65536 * (b.toNat % 65536) ∧
    (aluResult 0x08 a b f).toInt = (a.extractLsb' 0 16).toInt * (b.extractLsb' 0 16).toInt ∧
    (aluResult 0x21 a b f = 1 ↔ a.toInt < b.toInt) ∧ (aluResult 0x22 a b f = 1 ↔ a.toNat < b.toNat) ∧
    aluResult 0x1B (aluResult 0x1B a b f) (32 - b) f = a ∧
    (aluResult 0x27 a b f).toInt = min (a.toInt.natAbs : Int) (2 ^ 31 - 1)

-- Routing and memories (chapter 05) ---------------------------------------------------------------------------------------

/-- CROSSBAR_TRANSFER, ROUTE_TRANSFER (R126, R128, R129, R131): a value that waits on a bundle reaches its consumers once each
can take it; on a route or word lane it also needs every gate of its path open, and a code that a receiver finds illegal is
refused there with a fault instead. -/
def Obligations.BundlesTransfer : Prop :=
  ∀ (id v r g : Nat) (n : Net) (s : State), aget s.nets id = some n → n.val = some v → n.delivered = false →
    n.dsts.all s.dstRuns = true →
    (n.kind = .crossbar → n.dsts.all s.dstFree = true →
      exec (.crossbarTransfer id) s = .next (s.deliverAll id n v).settle) ∧
    (n.kind = .route ∨ n.kind = .wordLane → (∀ b ∈ n.gates, s.gatesClosed.contains b = false) → s.couch = none →
      exec (.routeTransfer id (some (r, g))) s = .next (s.illegalCode n r g) ∧
      (n.dsts.all s.dstFree = true → s.srcFree (.net id) = true →
        exec (.routeTransfer id none) s = .next ((s.deliverAll id n v).present' (.net id) v).settle))

/-- LONG_LINE_TRANSFER, LONG_LINE_CLASH, LONG_LINE_NULL_RELEASE (R135, R137): the value of the one tap that drives a line stands
at the line's read taps, and the tap drives until they have taken it; two drivers of one value null the line, flag it, drop what
waits at their taps and raise contained fault 2; the null ends once no driver is enabled. -/
def Obligations.LongLines : Prop :=
  ∀ (b line tap : Nat) (v dr : Bool) (s : State), line < 64 →
    (s.bankRuns b = true → s.lineNull b line = false →
      (aget s.tapIn (128 * b + tap) = some (v, dr) → s.lineDrivers b line = [tap] → s.lineFree b line = true →
        exec (.longLineTransfer b line tap) s =
          .next ((({ s with tapIn := aput s.tapIn (128 * b + tap) (v, true) }.present' (.tap b line) (b2n v)).emptyOut
            (.tap b line)).settle)) ∧
      (2 ≤ (s.lineDrivers b line).length → s.nets = [] →
        ∃ u : State, exec (.longLineClash b line) s =
            .next ((u.setStatus (pgFB b) stLL_CLASH).raiseFault (pgFB b) 2 (BitVec.ofNat 32 line) accHAND
              (Master.fabric b).id) ∧
          u.lineNull b line = true ∧
          (if line < 32 then u.maskBit (pgFB b) FB_LL_CLASH_LO line else u.maskBit (pgFB b) FB_LL_CLASH_HI (line - 32)) =
            true ∧
          (∀ t ∈ s.lineDrivers b line, t < 128 → aget u.tapIn (128 * b + t) = none) ∧ u.mem = s.mem)) ∧
    (s.lineNull b line = true → (∀ t ∈ s.lineTaps b line, s.tapEnabled b t = false) →
      exec (.longLineNullRelease b line) s =
        .next (if line < 32 then s.setMaskBit (pgFB b) FB_LL_NULL_LO line false
          else s.setMaskBit (pgFB b) FB_LL_NULL_HI (line - 32) false))

/-- MEMORY_ACCESS (R138-R141): a port of a memory that takes accesses and holds no upset bit carries out the access that stands
on its command channel, once its response channel is free: a read presents the bytes that stand at the word, and a write stores
the enabled bytes of its word and nothing else. The layout of the command is log entry 98 (DESIGN CHOICE). -/
def Obligations.MemoryPortsAccess : Prop :=
  ∀ (b k : Nat) (second : Bool) (s : State), k < 24 →
    let p := FabPort.mem b k second
    let c := (s.portGot p).val
    let n := s.memWidth b k
    let a := memBase b k + memAddr c * n % 0x4000
    s.memRuns b = true → s.portFull p = true → s.srcFree (.port p) = true → s.memMirrored b k = false →
    (s.memEcc b k = false ∨ (s.flips = [] ∧ s.flag (pgFB b) PG_INJECT.ARM = false)) →
    (memWr c = false → exec (.memoryAccess b k second []) s =
      .next (({ s with resp := s.bytes a n, respErr := false }.present' (.port p) (leNat (s.bytes a n))).takePort p)) ∧
    (memWr c = true →
      ∃ t, exec (.memoryAccess b k second []) s = .next t ∧ t.respErr = false ∧
        (∀ j, j < n → t.byte (a + j) =
          if n = 1 ∨ bit (memBe c) j = true then BitVec.ofNat 8 (memData c / 256 ^ j) else s.byte (a + j)) ∧
        (∀ x, x < a ∨ a + n ≤ x → t.byte x = s.byte x) ∧ t.regs = s.regs)

/-- MEMORY_SCRUB, CNT_CLR, MIRROR_REFRESH, error correction (R116, R141, R142, R149, R450): one upset data bit of a protected
word is put right by the read that meets it: the byte reads as before the upset, the read is no error, one corrected error is
counted and flagged, and corrected fault 0 is raised with the word's address; an injected check of the word is uncorrectable. A
pass of the scrubber goes from one protected word to the next, and ends after the last one, where it counts itself and sets
SCRUB_PASS; the counts clear; a device that is no primary sends nothing at a refresh, and a primary with its link up sends a
mirrored value whole. -/
def Obligations.EccScrubAndMirror : Prop :=
  (∀ (b k w p acc mas : Nat) (s : State),
    let off := memBase b k + 8 * w
    (s.memEcc b k = true → p < 64 → aget s.flips off = none → s.flag (pgFB b) PG_INJECT.ARM = false →
      let u := s.upset b k w [p]
      let fixed := u.setByte (off + p / 8) (s.byte (off + p / 8))
      aget u.flips off = some [p] ∧ u.byte (off + p / 8) ≠ s.byte (off + p / 8) ∧
        u.eccWord b k w acc mas =
          (false, (({ fixed with flips := adel u.flips off }.incSat (pgFB b) FB_ECC_COUNT.CORR).setStatus (pgFB b)
            stECC_CORR).raiseFault (pgFB b) 0 (memFeAddr k (8 * w)) acc mas) ∧
        ∀ x, fixed.byte x = s.byte x) ∧
    (s.flag (pgFB b) PG_INJECT.ARM = true → s.get (pgFB b) PG_INJECT.CHECKER = 0 →
      s.eccWord b k w acc mas = (true, (s.spendInjection (pgFB b)).eccFail b k w acc mas true))) ∧
  (∀ (m : Master) (b i : Nat) (e : RetEntry) (s : State),
    (s.bankRuns b = true → s.flag (pgFB b) FB_SCRUB.EN = true → s.tbRun = true →
      s.flag (pgFB b) PG_INJECT.ARM = false → s.flips = [] → ((s.scrub b).pos ≠ 0 ∨ aget s.scrubs b = none) →
      s.nextProtected b (s.scrub b).pos = some i →
      let start := if (s.scrub b).pos = 0 then s.clk else (s.scrub b).start
      (∀ j, s.nextProtected b (i + 1) = some j →
        exec (.memoryScrub b []) s = .next { s with scrubs := aput s.scrubs b { pos := j, start := start } }) ∧
      (s.nextProtected b (i + 1) = none →
        exec (.memoryScrub b []) s =
          .next (({ s with scrubs := aput s.scrubs b { pos := 0, start := start } }.incWrap (pgFB b)
            FB_SCRUB.PASSES).setStatus (pgFB b) stSCRUB_PASS))) ∧
    (b < 32 → s.opensF m (pgFB b) FB_CTRL.CNT_CLR = true →
      ∃ t, exec (.cntClr m b) s = .next t ∧ t.get (pgFB b) FB_ECC_COUNT.CORR = 0 ∧ t.get (pgFB b) FB_ECC_COUNT.UNC = 0 ∧
        t.get (pgFB b) FB_MIRROR_DROP = 0 ∧ t.mem = s.mem) ∧
    (s.role ≠ 3 → exec .mirrorRefresh s = .next s) ∧
    (∀ v, s.role = 3 → s.retA = [e] → e.mirror = true → s.mirrorPaused e.bank = false → s.taggedVal e = some v →
      exec .mirrorRefresh s = .next (s.twinSend (.tagged e.tag e.kind v))))

-- Sheets (chapter 06) -----------------------------------------------------------------------------------------------------

/-- LOAD_START, SHEET_HEADER, ABORT (R163, R167, R171, R175): a load that starts with the controller free clears the record
of the last one and waits for its header; otherwise it is refused as busy. A header that has arrived and fails a check of R167 ends the load
with that check's code; a sound one leaves the load open with that header. ABORT ends the load with ABORT, outside start-up
with no other effect than that end. The order of ABORT before START in one write is log entry 44 (DEDUCED). -/
def Obligations.LoadsStartAndEnd : Prop :=
  ∀ (m : Master) (v : Word) (raw : List Byte) (avail : Bool) (l : Load) (s : State),
    (s.opensF m pgCFG CFG_LOAD.START = true →
      let w := ((s.met m pgCFG CFG_LOAD.START).set pgCFG CFG_LOAD.LIB_INDEX (bits v.toNat 8 6)).set pgCFG CFG_LOAD.SRC
        (bits v.toNat 0 3)
      let u := if bit v.toNat 17 then w.bootAfter (w.stopLoad ldABORT) else w
      (u.cfgFree = false → exec (.loadStart m v) s = .next (u.setStatus pgCFG stBUSY_REJECT)) ∧
      (u.cfgFree = true → ∃ t, exec (.loadStart m v) s = .next t ∧
        t.cfgOp = .load (newLoad (bits v.toNat 0 3)
          (if bits v.toNat 0 3 = 0 then b2n u.bootFromCopy else bits v.toNat 8 6)) ∧ t.get pgCFG CFG_STATE.OP = 1 ∧
        t.get pgCFG CFG_ERR.SRC = bits v.toNat 0 3 ∧ t.get pgCFG CFG_ERR.CODE = 0 ∧ t.get pgCFG CFG_ERR_OFFSET = 0 ∧
        t.get pgCFG CFG_FRAMES = 0 ∧ t.frames = u.frames ∧ t.setw = u.setw ∧ t.mem = u.mem)) ∧
    (s.cfgOp = .load l → l.header = [] → s.loaderWaits l 256 = false →
      let h := s.loadInput l raw 0 256
      let u := s.bodyState l 256
      let l1 := (s.loaderDrop l 256).1
      let open' := bit (s.get pgCFG CFG_SRC_EN) l.src &&
        (l.src != 1 || ((aget s.lib l.lib).isSome && s.get pgRS RS_STATE.STATE == 2)) &&
        (l.src != 4 || (s.flag pgTW TW_STATUS.LINK_UP && avail))
      (open' = false → exec (.sheetHeader raw avail) s = .next (s.bootAfter (u.endLoad l1 ldSOURCE 0 none))) ∧
      (open' = true → u.headerCode h ≠ 0 →
        exec (.sheetHeader raw avail) s = .next (s.bootAfter (u.endLoad l1 (u.headerCode h) 0 none))) ∧
      (open' = true → u.headerCode h = 0 → ∃ t, exec (.sheetHeader raw avail) s = .next t ∧
        t = u.acceptHeader l1 h ∧ t.cfgOp = .load { l1 with header := h } ∧ t.get pgCFG CFG_STATE.OP = 2 ∧
        (∀ b, b < 32 → bit (hdrBanks h) b = true → t.maskBit pgCFG CFG_TORN_BANKS b = true) ∧ t.frames = s.frames)) ∧
    (s.opensF m pgCFG CFG_LOAD.ABORT = true → s.cfgOp = .load l →
      let w := s.met m pgCFG CFG_LOAD.ABORT
      exec (.abort m) s = .next (w.bootAfter (w.endLoad l ldABORT l.body.length none)) ∧
      (s.bootStep ≠ 3 → s.bootStep ≠ 6 → s.couch = none → ∃ t, exec (.abort m) s = .next t ∧ t.cfgOp = .idle ∧
        t.get pgCFG CFG_STATE.OP = 0 ∧ t.get pgCFG CFG_ERR.CODE = 0x18 ∧
        t.get pgCFG CFG_ERR_OFFSET = l.body.length % 2 ^ 32 ∧ bits (t.hdr pgCFG 0x010).toNat stLOAD_FAIL 1 = 1 ∧
        t.get pgCFG CFG_TORN_BANKS = s.get pgCFG CFG_TORN_BANKS ∧ t.frames = s.frames ∧ t.mem = s.mem))

/-- FRAME, QUIRE, ZERO, ANALOG, RETAIN, END, XFRAME_DONE (R155-R162, R164, R176): a well-formed command of a load whose
targets pass R164 is carried out whole and the load goes on; its bytes join the body. FRAME writes its one frame of the
shadow plane, and in hardware decompression its dictionary slot; QUIRE and ZERO write every frame that they name, and no
other; in host-assisted mode QUIRE asks for its slot and waits. ANALOG writes its setting words; RETAIN adds its entries;
END ends the load with the code that its checks find, 0 for a sound sheet; XFRAME_DONE with slot data that match writes the
waiting targets, and ends the load with XFRAME where they do not match. Which bits of a frame are word tiles and static taps
the spec does not say (log entry 9, DESIGN CHOICE): a frame that clashes by them ends the load. -/
def Obligations.CommandsBuildTheSheet : Prop :=
  ∀ (m : Master) (raw : List Byte) (n : Nat) (l : Load) (s : State),
    let p := s.clearText l n raw
    let u := s.bodyState l n
    let on (op : Nat) (t : State) : Prop := ∃ l3, t.cfgOp = .load l3 ∧ l3.body = (s.took l op n raw).body ∧
      l3.crc = (s.took l op n raw).crc ∧ l3.header = l.header
    (s.meetsCommand l 0x01 n raw →
      let f := leAt p 4 2
      let d := slice p 8 512
      targetStop (s.took l 0x01 n raw) [f] = none →
      ∃ t, exec (.frame raw) s = .next t ∧ (s.framesSound l d [f] → on 0x01 t ∧ s.framesTook t d [f] ∧ t.setw = s.setw ∧
        t.mem = s.mem ∧
        (leAt p 1 1 ≠ 0 → s.hostAssisted pgCFG = false →
          ∃ l3, t.cfgOp = .load l3 ∧ aget l3.dict (leAt p 2 1) = some d) ∧
        (leAt p 1 1 ≠ 0 → s.hostAssisted pgCFG = true →
          ∃ l3, t.cfgOp = .load l3 ∧ aget l3.dictCrc (leAt p 2 1) = some (crc32 d)))) ∧
    (s.meetsCommand l 0x01 n raw →
      let f := leAt p 4 2
      targetStop (s.took l 0x01 n raw) [f] = none → hasWords s.variant = false →
      ∃ t, exec (.frame raw) s = .next t ∧ (Config.frameWords (f % 0x600) (slice p 8 512) = true →
        t = s.bootAfter (u.endLoad (s.took l 0x01 n raw) ldWORDS l.body.length (some (0, f))))) ∧
    (s.meetsCommand l 0x02 n raw → quirePad p = true → targetStop (s.took l 0x02 n raw) (quireTargets p) = none →
      (s.hostAssisted pgCFG = false → ∀ d, aget l.dict (leAt p 2 1) = some d →
        ∃ t, exec (.quire raw) s = .next t ∧ (s.framesSound l d (quireTargets p) → on 0x02 t ∧
          s.framesTook t d (quireTargets p) ∧ t.setw = s.setw ∧ t.mem = s.mem)) ∧
      (s.hostAssisted pgCFG = true → (aget l.dictCrc (leAt p 2 1)).isSome = true →
        ∃ t, exec (.quire raw) s = .next t ∧ t.frames = s.frames ∧ t.get pgCFG CFG_XFRAME_REQ.PENDING = 1 ∧
          t.get pgCFG CFG_XFRAME_REQ.SLOT = leAt p 2 1 ∧ t.get pgCFG CFG_STATE.OP = 3 ∧
          t.cfgOp = .load { s.took l 0x02 n raw with
            waiting := some { slot := leAt p 2 1, targets := quireTargets p, offset := l.body.length } })) ∧
    (s.meetsCommand l 0x03 n raw →
      let ts := (List.range (leAt p 6 2)).map (leAt p 4 2 + ·)
      targetStop (s.took l 0x03 n raw) ts = none →
      ∃ t, exec (.zero raw) s = .next t ∧ (s.framesSound l zeroFrame ts → on 0x03 t ∧ s.framesTook t zeroFrame ts ∧
        t.setw = s.setw ∧ t.mem = s.mem)) ∧
    (s.meetsCommand l 0x04 n raw →
      let sp := leAt p 1 1
      let ws := leWords (slice p 8 (4 * leAt p 6 2))
      let at' (i : Nat) : Nat := if sp = 0 then leAt p 4 2 + i else padIdx (leAt p 4 2 + i)
      leAt p 4 2 + ws.length ≤ (if sp = 0 then 8192 else 256) →
      (∀ i, i < ws.length → s.settingStop l sp (leAt p 4 2 + i) (ws.getD i 0) = none) →
      ∃ t, exec (.analog raw) s = .next t ∧ on 0x04 t ∧ (∀ i, i < ws.length → t.setting 1 (at' i) = ws.getD i 0) ∧
        (∀ c a, a < 16384 → (c = 1 → ∀ i, i < ws.length → a ≠ at' i) → t.setting c a = s.setting c a) ∧
        t.frames = s.frames ∧ t.regs = s.regs) ∧
    (s.meetsCommand l 0x05 n raw →
      let es := (List.range (leAt p 4 4)).map fun i => leAt p (8 + 8 * i) 8
      (retAll (s.took l 0x05 n raw) s.retS 0 es).1 = none →
      ∃ t, exec (.retain raw) s = .next t ∧ on 0x05 t ∧ t.retS = s.retS ++ es.map retEntry ∧ t.frames = s.frames ∧
        t.setw = s.setw ∧ t.regs = s.regs) ∧
    (s.meetsCommand l 0x0F n raw →
      (u.endStop (s.took l 0x0F n raw) p = none →
        exec (.endCmd raw) s = .next (s.bootAfter (u.endLoad (s.took l 0x0F n raw) 0 l.body.length none))) ∧
      ∀ c f, u.endStop (s.took l 0x0F n raw) p = some (c, f) →
        exec (.endCmd raw) s = .next (s.bootAfter (u.endLoad (s.took l 0x0F n raw) c l.body.length f))) ∧
    (∀ q c, s.opensF m pgCFG CFG_XFRAME_DONE.GO = true → s.cfgOp = .load l → l.waiting = some q →
      let d := (s.met m pgCFG CFG_XFRAME_DONE.GO).xframe
      let w := (s.met m pgCFG CFG_XFRAME_DONE.GO).set pgCFG CFG_XFRAME_REQ.PENDING 0
      (aget l.dictCrc q.slot = some (crc32 d) → (∀ f ∈ q.targets, f < 0xC000) →
        ∃ t, exec (.xframeDone m) s = .next t ∧ (s.framesSound l d q.targets → ∃ l3, t.cfgOp = .load l3 ∧ l3.waiting = none ∧
          l3.body = l.body ∧ t.get pgCFG CFG_XFRAME_REQ.PENDING = 0 ∧ t.get pgCFG CFG_STATE.OP = 2 ∧
          s.framesTook t d q.targets)) ∧
      (aget l.dictCrc q.slot = some c → c ≠ crc32 d →
        exec (.xframeDone m) s = .next ((s.met m pgCFG CFG_XFRAME_DONE.GO).bootAfter
          (w.endLoad { l with waiting := none } ldXFRAME q.offset (q.targets.head?.map fun n => (0, n))))))

/-- SHADOW_RESYNC, RESYNC_DONE, BOOT_UPDATE, FIRMWARE_UPDATE, RS_UPDATE_STEP (R171, R180-R182): an accepted operation takes
the controller and clears the record of the last one. A finished resync leaves in the shadow plane of each named bank the
frames of its active plane and no TORN mark, and in the shadow of each named sector and of the pads of the named banks their
active words. An update whose image passes its check writes the spare copy, marks the region,
writes the region and ends with the region valid and counted; an image that fails leaves both copies as they are. Where the
regions of the store stand is log entry 45 (DESIGN CHOICE). -/
def Obligations.ResyncAndUpdates : Prop :=
  ∀ (m : Master) (fw ok : Bool) (img : List Byte) (b c n : Nat) (s : State),
    (s.opensF m pgCFG CFG_CMD.OP = true →
      let w := s.met m pgCFG CFG_CMD.OP
      (s.cfgFree = true → s.get pgCFG CFG_RESYNC_BANKS < 2 ^ nBanks s.variant →
        s.get pgCFG CFG_RESYNC_SECTORS < 2 ^ nSectors s.variant →
        ∃ t, exec (.shadowResync m) s = .next t ∧ t.get pgCFG CFG_STATE.OP = 4 ∧ t.get pgCFG CFG_ERR.CODE = 0 ∧
          t.cfgOp = .resync (s.get pgCFG CFG_RESYNC_BANKS) (s.get pgCFG CFG_RESYNC_SECTORS) ∧ t.frames = s.frames) ∧
      (s.cfgFree = true →
        (∃ t, exec (.bootUpdate m) s = .next t ∧ t.cfgOp = .update false 2 ∧ t.get pgCFG CFG_STATE.OP = 5 ∧
          t.get pgCFG CFG_ERR.CODE = 0 ∧ t.mem = s.mem) ∧
        ∃ t, exec (.firmwareUpdate m) s = .next t ∧ t.cfgOp = .update true 2 ∧ t.get pgCFG CFG_STATE.OP = 5 ∧
          t.get pgCFG CFG_ERR.CODE = 0 ∧ t.mem = s.mem) ∧
      (s.cfgFree = false → exec (.shadowResync m) s = .next (w.setStatus pgCFG stBUSY_REJECT) ∧
        exec (.bootUpdate m) s = .next (w.setStatus pgCFG stBUSY_REJECT) ∧
        exec (.firmwareUpdate m) s = .next (w.setStatus pgCFG stBUSY_REJECT))) ∧
    (s.cfgOp = .resync b c → asorted s.frames = true → asorted s.setw = true → ∃ t, exec .resyncDone s = .next t ∧ t.cfgOp = .idle ∧ t.get pgCFG CFG_STATE.OP = 0 ∧
      t.get pgCFG CFG_TORN_BANKS = Nat.land (s.get pgCFG CFG_TORN_BANKS) (2 ^ 32 - 1 - b) ∧
      bits (t.hdr pgCFG 0x010).toNat stRESYNC_DONE 1 = 1 ∧
      (∀ x f, x < 32 → f < 0x600 →
        t.frame (s.activePlane x) (0x600 * x + f) = s.frame (s.activePlane x) (0x600 * x + f) ∧
        t.frame (1 - s.activePlane x) (0x600 * x + f) =
          if bit b x then s.frame (s.activePlane x) (0x600 * x + f) else s.frame (1 - s.activePlane x) (0x600 * x + f)) ∧
      (∀ a, a < 8192 → t.setting 1 a = s.setting (if bit c (a / 1024) then 0 else 1) a) ∧
      (∀ p, p < 256 → t.setting 1 (padIdx p) =
        s.setting (if bit b (bits (s.setting 0 (padIdx p)).toNat 24 5) then 0 else 1) (padIdx p)) ∧
      t.mem = s.mem) ∧
    (s.cfgOp = .update fw 2 → (s.updateCheck fw img).1 = 0 →
      exec (.rsUpdateStep ok img) s = .next { s with cfgOp := .update fw 3 }) ∧
    (s.cfgOp = .update fw 2 → (s.updateCheck fw img).1 ≠ 0 → ∃ t, exec (.rsUpdateStep ok img) s = .next t ∧
      t.cfgOp = .idle ∧ t.get pgCFG CFG_ERR.CODE = (s.updateCheck fw img).1 % 256 ∧
      bits (t.hdr pgCFG 0x010).toNat stRS_UPDATE_FAIL 1 = 1 ∧ t.bootCopy = s.bootCopy ∧ t.mem = s.mem) ∧
    (s.cfgOp = .update fw 3 →
      exec (.rsUpdateStep true img) s =
        .next { s with cfgOp := .update fw 4, bootCopy := aput s.bootCopy (b2n fw) (imageOf img) }) ∧
    (s.cfgOp = .update fw 4 → ∃ t, exec (.rsUpdateStep ok img) s = .next t ∧ t.cfgOp = .update fw 5 ∧
      (if fw then t.get pgCFG CFG_RS.FW_STATE else t.get pgCFG CFG_RS.BOOT_STATE) = 1 ∧ t.mem = s.mem) ∧
    (s.cfgOp = .update fw 5 → markOk img = true → n < (imageOf img).length →
      ∃ t, exec (.rsUpdateStep true img) s = .next t ∧ t.cfgOp = .update fw 6 ∧
        t.byte (regionBase fw + n) = (imageOf img).getD n 0 ∧ t.regs = s.regs) ∧
    (s.cfgOp = .update fw 6 → markOk (s.regionImage fw) = true →
      ∃ t, exec (.rsUpdateStep true img) s = .next t ∧ t.cfgOp = .idle ∧ t.get pgCFG CFG_STATE.OP = 0 ∧
        (if fw then t.get pgCFG CFG_RS.FW_STATE else t.get pgCFG CFG_RS.BOOT_STATE) = 0 ∧
        bits (t.hdr pgCFG 0x010).toNat stRS_UPDATE_DONE 1 = 1 ∧ t.mem = s.mem) ∧
    (s.cfgOp = .update fw n → n = 3 ∨ n = 5 ∨ n = 6 → ∃ t, exec (.rsUpdateStep false img) s = .next t ∧ t.cfgOp = .idle ∧
      bits (t.hdr pgCFG 0x010).toNat stRS_UPDATE_FAIL 1 = 1 ∧ t.bootCopy = s.bootCopy)

/-- PROGRAM_SLOT_HASH, REVOKE_SLOT, PROGRAM_SHEET_KEY, BLOW_SIGN_FUSE, READ_SLOT_HASH, PROG_DONE (R170, R186): a write of
KEY_PROG with CONFIRM 0xA5 takes the data words as they stand; without it, and while an operation is in hand, nothing happens.
A slot hash is programmed once; a slot reads revoked; the sheet key is programmed once and its data words are cleared; the
fuse stays blown; a read returns the hash. That such a write has no effect and that the last usable slot is not revoked are
log entries 33 (DESIGN CHOICE) and 46 (DEDUCED). -/
def Obligations.SheetKeysAreProgrammed : Prop :=
  ∀ (m : Master) (slot : Nat) (cf : Byte) (d : List Byte) (s : State),
    (s.opensF m pgKEY KEY_PROG.OP = true →
      let u := s.met m pgKEY KEY_PROG.OP
      let k (op sl : Nat) : State := { u with keyOp := some { op := op, slot := sl, data := s.keyData } }
      (s.keyOp = none → s.locked pgKEY 9 = false →
        exec (.programSlotHash m slot 0xA5) s = .next (k 1 (slot % 4)) ∧
        exec (.revokeSlot m slot 0xA5) s = .next (k 2 (slot % 4)) ∧
        exec (.programSheetKey m 0xA5) s = .next (k 3 0) ∧ exec (.blowSignFuse m 0xA5) s = .next (k 4 0)) ∧
      (s.keyOp = none → exec (.readSlotHash m slot 0xA5) s = .next (k 5 (slot % 4))) ∧
      (cf ≠ 0xA5 ∨ s.keyOp ≠ none →
        exec (.programSlotHash m slot cf) s = .next u ∧ exec (.revokeSlot m slot cf) s = .next u ∧
        exec (.programSheetKey m cf) s = .next u ∧ exec (.blowSignFuse m cf) s = .next u ∧
        exec (.readSlotHash m slot cf) s = .next u)) ∧
    (slot < 4 →
      (s.keyOp = some { op := 1, slot := slot, data := d } →
        (s.get pgKEY KEY_SLOTS.SLOT 0 slot = 0 → ∃ t, exec .progDone s = .next t ∧ t.keyOp = none ∧
          t.get pgKEY KEY_SLOTS.SLOT 0 slot = 1 ∧ aget t.keyHash slot = some d ∧
          bits (t.hdr pgKEY 0x010).toNat stPROG_DONE 1 = 1) ∧
        (s.get pgKEY KEY_SLOTS.SLOT 0 slot ≠ 0 →
          exec .progDone s = .next ({ s with keyOp := none }.setStatus pgKEY stPROG_FAIL))) ∧
      (s.keyOp = some { op := 2, slot := slot, data := d } → s.lastKey slot = false → ∃ t, exec .progDone s = .next t ∧
        t.keyOp = none ∧ t.get pgKEY KEY_SLOTS.SLOT 0 slot = 2 ∧ bits (t.hdr pgKEY 0x010).toNat stPROG_DONE 1 = 1) ∧
      (s.keyOp = some { op := 3, slot := 0, data := d } → ∃ t, exec .progDone s = .next t ∧ t.keyOp = none ∧
        t.keyData = List.replicate 32 0 ∧ t.get pgKEY KEY_POLICY.SHEET_KEY_SET = 1 ∧
        t.sheetKey = (if s.flag pgKEY KEY_POLICY.SHEET_KEY_SET then s.sheetKey else some d)) ∧
      (s.keyOp = some { op := 4, slot := 0, data := d } → ∃ t, exec .progDone s = .next t ∧ t.keyOp = none ∧
        t.get pgKEY KEY_POLICY.SIGN_FUSE = 1 ∧ bits (t.hdr pgKEY 0x010).toNat stPROG_DONE 1 = 1) ∧
      (s.keyOp = some { op := 5, slot := slot, data := d } → (∀ h, aget s.keyHash slot = some h → h.length = 32) →
        ∃ t, exec .progDone s = .next t ∧ t.keyOp = none ∧
        t.keyData = (aget s.keyHash slot).getD (List.replicate 32 0)))

-- Couching, start-up and the calender (chapter 07) ---------------------------------------------------------------------------

/-- COUCH_REQUEST, DRAIN_COMPLETE, DRAIN_LIMIT_EXPIRY, LOCK_WAIT_END, RELEASE_STEP (R188, R190-R194, R200, R201, R203): a
request that fails a check is refused with that check's code, one that passes closes the gates of its banks and waits at step
2, one that meets a couch is ignored. The exchange gives each setting word of its sectors the word that stood in the other
copy, toggles the active plane of its banks, exchanges the retention tables and moves no frame. A drain that lasts too long
ends the couch with DRAIN, or with FORCE is cut; when every loop has locked, three steps of release follow, the last of them
sets COUCH_DONE. Which values a forced drain cuts is log entry 50 (DEDUCED). -/
def Obligations.CouchesExchangePlanes : Prop :=
  ∀ (m : Master) (v : Word) (peer u4 : Bool) (up : List Nat) (c : Couch) (s : State),
    (s.opensF m pgCCH CCH_CTRL.START = true →
      let w := ((s.met m pgCCH CCH_CTRL.START).set pgCCH CCH_CTRL.FULL (bits v.toNat 2 1)).set pgCCH CCH_CTRL.FORCE
        (bits v.toNat 1 1)
      let chk := w.couchCheck w.couchMask.1 w.couchMask.2 (w.peerAllows peer)
      (s.couch = some c → exec (.couchRequest m v peer) s = .next w) ∧
      (s.couch = none → ∀ code r, chk = some (code, r) →
        exec (.couchRequest m v peer) s = .next (w.couchRefuse code r)) ∧
      (s.couch = none → chk = none → s.flag pgTW TW_CTRL.COUCH_SYNC = false →
        ∃ t, exec (.couchRequest m v peer) s = .next t ∧ t.get pgCCH CCH_STATE.STEP = 2 ∧
          t.couch = some ⟨w.couchMask.1, w.couchMask.2, s.ts, [], w.couchPads w.couchMask.1 w.couchMask.2⟩ ∧
          (∀ b ∈ maskList w.couchMask.1 32, b ∈ t.gatesClosed) ∧ t.frames = s.frames ∧ t.mem = s.mem)) ∧
    (∀ x, x = s.exchange c →
      ((∀ p ∈ c.pads, p < 256) → ∀ k, k < 8192 → x.setting 0 k =
          (if bit c.sectors (k / 1024) then s.setting 1 k else s.setting 0 k) ∧
        x.setting 1 k = (if bit c.sectors (k / 1024) then s.setting 0 k else s.setting 1 k)) ∧
      (∀ b, b < 32 → x.activePlane b = (if bit c.banks b then 1 - s.activePlane b else s.activePlane b)) ∧
      (∀ e, e ∈ x.retA ↔ (e ∈ s.retA ∧ bit c.banks e.bank = false) ∨ (e ∈ s.retS ∧ bit c.banks e.bank = true)) ∧
      x.frames = s.frames ∧ x.mem = s.mem ∧ x.get64 pgCCH CCH_SWAP_TIME_LO 0 = s.now) ∧
    (s.couch = some c →
      (s.get pgCCH CCH_STATE.STEP = 2 →
        (s.drained c = true → exec .drainComplete s = .next (s.couchSteps c)) ∧
        (s.drained c = false → exec .drainComplete s = .next s) ∧
        (s.flag pgCCH CCH_CTRL.FORCE = false →
          exec .drainLimitExpiry s = .next ((s.couchBack c).couchRefuse cchDRAIN none).serveWaiting) ∧
        (s.flag pgCCH CCH_CTRL.FORCE = true → exec .drainLimitExpiry s = .next (s.forceDrain c))) ∧
      (s.get pgCCH CCH_STATE.STEP = 7 → s.unlocked u4 = [] →
        exec (.lockWaitEnd u4 up) s = .next ((s.set pgCCH CCH_STATE.STEP 8).couchRelease c up)) ∧
      (s.get pgCCH CCH_STATE.STEP = 9 ∨ s.get pgCCH CCH_STATE.STEP = 10 →
        exec (.releaseStep up) s = .next (s.couchRelease c up)) ∧
      (s.get pgCCH CCH_STATE.STEP = 9 → s.get pgCCH CCH_RELEASE.ORDER = 0 →
        exec (.releaseStep up) s = .next ((s.relWr c).set pgCCH CCH_STATE.STEP 10)) ∧
      (s.get pgCCH CCH_STATE.STEP = 10 → s.get pgCCH CCH_RELEASE.ORDER = 1 →
        exec (.releaseStep up) s = .next (((s.relWr c).relRun c).couchEnd c)))

/-- BOOT_STEP_DONE (R205-R207): in a device with valid supplies, with nothing in hand, each step of the timeline ends with
its number in CCH_BOOT.STEP and the next in progress, steps 3 and 6 once their couch has ended; the failure of step 6 leaves
the boot sheet, flagged BOOT_ONLY, and CCH_BOOT.STEP where it stood. Which pages the boot sequence enables is log entry 48 (DEDUCED). -/
def Obligations.StartUpFollowsItsTimeline : Prop :=
  ∀ (s : State), s.unpowered = false → s.resetLow = false → s.power ≠ powerHOLD → s.suppliesOk = true → s.cfgOp = .idle →
    s.couch = none → s.bootDue = false →
    (s.bootStep = 1 → exec (.bootStepDone true) s = .next s.bootOne ∧
      (s.tbRun = false → s.bootOne.get pgCCH CCH_BOOT.STEP = 1 ∧ s.bootOne.get pgTND TND_STATUS.STEP = 2 ∧
        s.bootOne.flag pgCFG PG_CTRL.EN = true ∧ s.bootOne.flag pgCCH PG_CTRL.EN = true)) ∧
    (s.bootStep = 2 → s.tbRun = true → 2 ≤ s.part.bootSrc → ∃ t, exec (.bootStepDone true) s = .next t ∧
      t.get pgCCH CCH_BOOT.STEP = 2 ∧ t.get pgTND TND_STATUS.STEP = 3 ∧ t.get pgTND TND_STATUS.WAIT = 3) ∧
    (s.bootStep = 3 →
      (s.bootPhase = .couched → s.safe = false → exec (.bootStepDone true) s = .next s.bootThree) ∧
      (s.bootPhase = .noCouch → exec (.bootStepDone false) s = .next (s.bootWait 2))) ∧
    (s.bootStep = 4 → s.mountOver = false → exec (.bootStepDone true) s = .next (s.bootMark 4)) ∧
    (s.bootStep = 6 → s.calPending = true →
      (s.bootPhase = .couched → ∃ t, exec (.bootStepDone true) s = .next t ∧ t.get pgCCH CCH_BOOT.STEP = 6 ∧ t.get pgTND TND_STATUS.STEP = 7 ∧
        t.get pgCCH CCH_BOOT.FULL_DONE = 1 ∧ t.frames = s.frames) ∧
      (s.bootPhase = .noCouch → ∃ t, exec (.bootStepDone false) s = .next t ∧
        t.get pgCCH CCH_BOOT.STEP = s.get pgCCH CCH_BOOT.STEP ∧ t.get pgTND TND_STATUS.STEP = 7 ∧
        t.get pgCCH CCH_BOOT.BOOT_ONLY = 1 ∧ t.frames = s.frames)) ∧
    (s.bootStep = 7 → s.calPending = false → ∃ t, exec (.bootStepDone true) s = .next t ∧
      t.get pgCCH CCH_BOOT.STEP = 7 ∧ t.get pgTND TND_STATUS.STEP = 0 ∧ t.get pgTND TND_STATUS.WAIT = 0)

/-- CALENDER_PASS, PASS_NOW, CALENDER_READ, REPAIR_DONE, CALENDER_WATCH_EXPIRY (R209-R213, R215): a pass starts at the first
frame and one that falls due meanwhile waits; a read that finds nothing only moves on; a corrected finding is counted,
flagged and raised as fault 0; an uncorrectable frame or word is raised with its address, and asks for a repair in the active
plane and marks the region TORN in the shadow; the pass ends with the last frame or word of the part. A repair lists the
frames that fail, and ends with the code that its source gives, or what else stands against it; a setting word repaired from
its shadow copy takes that copy's word. The watch raises its fault. That nothing is read in a region that is being written is
log entry 53 (DEDUCED), the order of a pass log entry 101 (DESIGN CHOICE). -/
def Obligations.CalenderReadsAndRepairs : Prop :=
  ∀ (m : Master) (plane num res k : Nat) (more : List Nat) (word : Bool) (r : Repair) (s : State),
    (s.calOn = true →
      (s.flag pgCAL CAL_STATUS.RUNNING = true → exec (.calenderPass false) s = .next { s with passDue := true }) ∧
      (s.flag pgCAL CAL_STATUS.RUNNING = false → ∃ t, exec (.calenderPass false) s = .next t ∧
        t.get pgCAL CAL_STATUS.RUNNING = 1 ∧ t.get pgCAL CAL_POS = 0 ∧ t.passStart = s.clk ∧ t.passSeen = [] ∧
        t.passDue = false) ∧
      (s.opensF m pgCAL CAL_CTRL.PASS_NOW = true → s.flag pgCAL CAL_STATUS.RUNNING = false →
        ∃ t, exec (.passNow m) s = .next t ∧ t.get pgCAL CAL_STATUS.RUNNING = 1 ∧ t.get pgCAL CAL_POS = 0 ∧
          t.passStart = s.clk ∧ t.passSeen = []) ∧
      (s.flag pgCAL CAL_STATUS.RUNNING = true → s.flag pgCAL CAL_STATUS.PAUSED = false → s.repair = none →
        s.calHas word plane num = true → s.flag pgCAL PG_INJECT.ARM = false →
        let i := if word then 131072 + 16384 * plane + num else 65536 * plane + num
        let v : State := { s with passSeen := i :: s.passSeen }
        let u := if word then v else v.set pgCAL CAL_POS (plane * 2 ^ 16 + num)
        let a := calAddr word plane num
        let fin (x : State) : State :=
          if x.passSeen.length == x.passSize && x.get pgTND TND_RESET_COUNT == s.get pgTND TND_RESET_COUNT then x.calPassEnd
          else x
        s.passSeen.contains i = false →
        (s.passSeen.length + 1 ≠ s.passSize → exec (.calenderRead word plane num 0 false) s = .next u) ∧
        (s.passSeen.length + 1 = s.passSize → s.passDue = false → ∃ t, exec (.calenderRead word plane num 0 false) s = .next t ∧
          t.get pgCAL CAL_STATUS.RUNNING = 0 ∧ t.get pgCAL CAL_STATUS.PASSES = (s.get pgCAL CAL_STATUS.PASSES + 1) % 2 ^ 16 ∧
          bits (t.hdr pgCAL 0x010).toNat stPASS_DONE 1 = 1) ∧
        (u.calSkips word plane num = false →
          exec (.calenderRead word plane num 1 false) s = .next (fin
            (((u.incSat pgCAL CAL_COUNTS.CORRECTED).setStatus pgCAL stCORRECTED).raiseFault pgCAL 0 a accSCRUB 0x22)) ∧
          exec (.calenderRead word plane num 2 false) s = .next (fin
            (if word then
              (if plane = 0 then u.raiseFault pgCAL 5 a accSCRUB 0x22 fun s => s.calBadWord num
                else u.raiseFault pgCAL 2 a accSCRUB 0x22 fun s => s.calTorn true num)
              else if plane = s.activePlane (num / 0x600) then
                u.raiseFault pgCAL 1 a accSCRUB 0x22 fun s => s.calBadFrame plane num
              else u.raiseFault pgCAL 2 a accSCRUB 0x22 fun s => s.calTorn false num))))) ∧
    (s.repair = some r → s.safe = false →
      let x := ({ s with repair := none } : State).repairList r more
      (x.2.repairCode x.1 = 0 → exec (.repairDone more 0) s = .next (x.2.repairOk x.1).repairNext) ∧
      (x.2.repairCode x.1 = 0 → res ≠ 0 → exec (.repairDone more res) s = .next (x.2.repairFail x.1 (min res 4)).repairNext) ∧
      (x.2.repairCode x.1 ≠ 0 →
        exec (.repairDone more res) s = .next (x.2.repairFail x.1 (x.2.repairCode x.1)).repairNext) ∧
      ((x.2.repairOrigin x.1).kind = 0 → x.2.repairCode x.1 = 1)) ∧
    (s.repair = some (.word k) → s.safe = false → s.repairDue = [] → (s.repairOrigin (.word k)).kind = 3 →
      ∃ t, exec (.repairDone more 0) s = .next t ∧ t.setting 0 k = s.setting 1 k ∧ k ∉ t.badWords ∧ t.repair = none ∧
        t.get pgCAL CAL_REPAIR.RESULT = 0 ∧ t.get pgCAL CAL_STATUS.REPAIRING = 0 ∧ t.frames = s.frames) ∧
    (s.runs pgCAL = true → s.unpowered = false → s.flag pgCAL CAL_STATUS.PAUSED = false → s.repair = none →
      exec .calenderWatchExpiry s = .next (s.raiseOwn pgTND 1 0))
-- The analogue array, the filter chains and the comparators (chapters 08 and 10) -----------------------------------------------

/-- LOOP_MONITOR_TICK, SHUNT_TRIP, VOUT_TRIP, AS_PIN_RESTORE, AS_GAIN_OVR, MUTE_END (R235, R236, R240, R241): a CINT pin's
monitor crosses at 3.6 and 21 mA with its hysteresis; a pin that has been beyond its limit for 1 ms trips with its contained
fault; a restore clears the trips that it names but those of its own tick; a gain override is taken cell by cell, each that is not allowed keeping its
old code and setting GAIN_REJECT; a mute ends. That the monitor compares exactly the reading that it is given is log entry 55
(DESIGN CHOICE), and that the cells of one write are judged apart is log entry 54 (DEDUCED). -/
def Obligations.AnaloguePinsAreWatched : Prop :=
  ∀ (m : Master) (sec i r lim clamp : Nat) (x : Int) (v : Word) (what : MuteKind) (s : State), sec < nSectors s.variant →
    i < 16 → r < 8 →
    let p := pgAS sec
    (s.present p = true → s.pageOn p = true → s.tbRun = true → s.pmode sec i = 1 →
      ∃ t, exec (.loopMonitorTick sec [(i, x)] lim clamp) s = .next t ∧ t.get p AS_CLAMP = clamp % 2 ^ 16 ∧
        t.get p AS_LOOP_LIVE.UNDER 0 i =
          (if x < 3600 then 1 else if 3700 ≤ x then 0 else s.get p AS_LOOP_LIVE.UNDER 0 i) ∧
        t.get p AS_LOOP_LIVE.OVER 0 i =
          (if 21000 < x then 1 else if x ≤ 20900 then 0 else s.get p AS_LOOP_LIVE.OVER 0 i) ∧
        (25000 < x → aget t.pinRun (16 * sec + i) = some (min ((aget s.pinRun (16 * sec + i)).getD 0 + 1) 100)) ∧
        (x ≤ 25000 → aget t.pinRun (16 * sec + i) = none) ∧ t.setw = s.setw ∧ t.mem = s.mem) ∧
    (aget s.pinRun (16 * sec + i) = some 100 →
      let trip (f : Fld) (s : State) : State :=
        ((({ s with pinTripAt := aput s.pinTripAt (16 * sec + i) ((s.clk + 1) / 2) }.setMaskBit p f i true).incSat p
          AS_COUNTS.TRIPS).setStatus p stPIN_TRIP).refreshShunts sec
      (s.pmode sec i = 1 → exec (.shuntTrip (16 * sec + i)) s =
        .next (s.raiseOwn p 1 (BitVec.ofNat 32 (16 * sec + i)) (trip AS_PIN_TRIP.SHUNT))) ∧
      (s.pmode sec i = 3 → exec (.voutTrip (16 * sec + i)) s =
        .next (s.raiseOwn p 2 (BitVec.ofNat 32 (16 * sec + i)) (trip AS_PIN_TRIP.VOUT)))) ∧
    (s.opensF m p AS_PIN_RESTORE = true → ∃ t, exec (.asPinRestore m sec v) s = .next t ∧
      t.reg (AS_PIN_TRIP.SHUNT.addr p 0) = s.reg (AS_PIN_TRIP.SHUNT.addr p 0) &&&
        (~~~v ||| BitVec.ofNat 32 (s.tripping sec * (2 ^ 16 + 1))) ∧ t.setw = s.setw ∧ t.mem = s.mem) ∧
    (s.opensF m p AS_GAIN_OVR.OVR r = true → s.locked p 8 = false →
      ∃ t, exec (.asGainOvr m sec r v) s = .next t ∧ t.setw = s.setw ∧ t.mem = s.mem ∧
        ∀ k, k < 4 →
          let same := bits v.toNat (8 * k + 7) 1 = s.get p AS_GAIN_OVR.OVR r k ∧
            bits v.toNat (8 * k) 6 = s.get p AS_GAIN_OVR.CODE r k
          let bad := bit (s.asWord 0 sec (4 * (4 * r + k))) 17 = false ∨ 40 < bits v.toNat (8 * k) 6 ∨
            s.sectorCouching sec = true
          (bad → t.get p AS_GAIN_OVR.OVR r k = s.get p AS_GAIN_OVR.OVR r k ∧
            t.get p AS_GAIN_OVR.CODE r k = s.get p AS_GAIN_OVR.CODE r k) ∧
          (bad → ¬same → bits (t.hdr p 0x010).toNat stGAIN_REJECT 1 = 1) ∧
          (¬bad → t.get p AS_GAIN_OVR.OVR r k = bits v.toNat (8 * k + 7) 1 ∧
            t.get p AS_GAIN_OVR.CODE r k = bits v.toNat (8 * k) 6) ∧
          (¬bad → ¬same → t.maskBit p AS_MUTE (4 * r + k) = true)) ∧
    (s.pathMuted sec what i = true → ∃ t, exec (.muteEnd sec what i) s = .next t ∧ t.pathMuted sec what i = false ∧
      bits (t.hdr p 0x010).toNat stMUTE_END 1 = 1 ∧ t.setw = s.setw ∧ t.mem = s.mem)

/-- FILTER_INPUT, CHAIN_CHANGE (R278, R280, R283, R285): a running chain takes the next sample of its source in the order of
arrival, from its fabric stream port, whose word it takes as the port has one, with its width and as valid. The last integrator's value is the input and the sum of all integrators
before it, and the combs subtract what each held M outputs before, modulo 2^72. A value that R283 does not allow is refused;
an accepted one is written, and one that changes the configuration makes the next N x R + 2 outputs invalid. That a stopped
chain shows the change too is log entry 58 (DEDUCED). -/
def Obligations.FilterChainsAccumulate : Prop :=
  ∀ (m : Master) (c reg a : Nat) (v : Word) (ints : List Nat) (ds : List (List Nat)) (e : Nat × Word × Time) (s : State),
    c < 64 →
    ((s.chainIn.find? fun e => e.1 == c) = some e → s.portInput c = s) ∧
    ((s.chainIn.find? fun e => e.1 == c) = none → s.fc c FC_SRC.KIND = 1 → (s.chain c).running = true →
      s.streamReady (s.fc c FC_SRC.NUM) = true → s.portInput c = s.takeStream (s.fc c FC_SRC.NUM)) ∧
    (let x := s.portInput c;
      (x.chainIn.find? fun e => e.1 == c) = some e →
      let u : State := { x with chainIn := x.chainIn.erase e }
      (x.fc c FC_SRC.KIND = 1 → (x.chain c).running = true → exec (.filterInput c) s =
        .next (u.filterAccept c (sext (x.fcWidth c) e.2.1.toNat) true false e.2.2).settle) ∧
      (x.fc c FC_SRC.KIND ≠ 1 → (x.chain c).running = true → exec (.filterInput c) s =
        .next (u.filterAccept c (sext (x.fcWidth c) e.2.1.toNat) (bit e.2.1.toNat 31) (bit e.2.1.toNat 30) e.2.2)) ∧
      (x.fc c FC_SRC.KIND ≠ 1 → (x.chain c).running = false → exec (.filterInput c) s = .next u)) ∧
    (integrate a ints).1 % 2 ^ 72 = (a + ints.sum) % 2 ^ 72 ∧
    ((∀ d ∈ ds, d.headD 0 < 2 ^ 72) → ((combine a ds).1 + (ds.map fun d => d.headD 0).sum) % 2 ^ 72 = a % 2 ^ 72) ∧
    (reg < 3 → s.opens m (FC_CTL.EN.addr (fcPage c) (c % 16) + 4 * reg) = true → s.locked (fcPage c) 8 = false →
      let off := FC_CTL.EN.addr (fcPage c) (c % 16) + 4 * reg
      let u := s.restartKeys m off
      let keep (x : Word) : Word := if reg = 0 then setBits x 31 1 0 else x
      (s.chainRefused reg v = true → exec (.chainChange m c reg v) s = .next (u.setStatus (fcPage c) stFC_REJECT)) ∧
      (s.chainRefused reg v = false → ∃ t, exec (.chainChange m c reg v) s = .next t ∧
        t.reg off = (u.plainWrite off v).reg off ∧ t.mem = s.mem ∧
        (keep (s.reg off) ≠ keep (t.reg off) →
          t.fc c FC_COUNTS.INVALID_LEFT = ((t.fcParams c).1 * (t.fcParams c).2.1 + 2) % 2 ^ 16 ∧
          t.fc c FC_THRCTL.STATE0 = 0 ∧ t.fc c FC_THRCTL.STATE1 = 0)))

/-- COMPARATOR_TICK, CP_CFG_WRITE, SNAPSHOT (R291-R295, R297): the tick falls at the comparator's next instant; a skipped one
only shows MUTED; a decided one compares what the input carries, with the comparator's error, moves each threshold's state by
its trip points t x 20 mV and (t + h) x 20 mV, and presents a new level 4 ns later, passing through inside where both bits
change. Thresholds in the wrong order are refused. A snapshot is taken once for each tick, and holds its timestamp and the 128
levels. -/
def Obligations.ComparatorsDecide : Prop :=
  ∀ (m : Master) (c edge : Nat) (f : Signals) (err : Int) (thr : Bool) (v : Word) (e : TrigAt) (s r : State), c < 128 →
    (s.cpPress c = false → s.cpLimits c = (sext 10 (s.cp c CP_THR.LO), sext 10 (s.cp c CP_THR.HI), s.cp c CP_CFG.HYST)) ∧
    (c ∈ s.cpRun → s.tbRun = true →
      let k := (aget s.cpNext c).getD (s.cpAfter c s.clk)
      let y := (s.reachClk k).flow.setField f
      let x : State := { y with cpNext := aput y.cpNext c (y.cpAfter c k) }
      (x.tickSkipped c = true → exec (.comparatorTick c f err) s = .next (x.setCp c CP_STATUS.MUTED 1)) ∧
      (x.tickSkipped c = false →
        let uv : Rat := x.cpInput c + (err : Rat)
        let lim := x.cpLimits c
        let was := x.cp c CP_STATUS.LO_CROSSED + 2 * x.cp c CP_STATUS.HI_CROSSED
        let after (crossed : Nat) (t : Int) : Bool :=
          if crossed = 1 then !decide (uv < 20000 * (t : Rat)) else decide (20000 * ((t + (lim.2.2 : Int) : Int) : Rat) < uv)
        let lo := after (x.cp c CP_STATUS.LO_CROSSED) lim.1
        let hi := after (x.cp c CP_STATUS.HI_CROSSED) lim.2.1
        let now := b2n lo + 2 * b2n hi
        ∃ t, exec (.comparatorTick c f err) s = .next t ∧ t.cp c CP_STATUS.MUTED = 0 ∧
          t.cp c CP_STATUS.LO_CROSSED = b2n lo ∧ t.cp c CP_STATUS.HI_CROSSED = b2n hi ∧
          t.cp c CP_STATUS.LEVEL = x.cp c CP_STATUS.LEVEL ∧
          t.cpDue = x.cpDue ++ (if was = now then [] else if was + now = 3 ∧ (was = 0 ∨ was = 3) then
            [(k + 4, (c, 1)), (k + 6, (c, now))] else [(k + 4, (c, now))]) ∧
          t.cp c CP_STATUS.TICKS = wrapInc 16 (x.cp c CP_STATUS.TICKS) ∧ t.setw = s.setw ∧ t.mem = s.mem)) ∧
    (s.opens m (CP_CFG.EN.addr (cpPage c) (c % 32) + 4 * b2n thr) = true →
      let off := CP_CFG.EN.addr (cpPage c) (c % 32) + 4 * b2n thr
      let u := s.restartKeys m off
      (thr = true → s.locked (cpPage c) 8 = false → sext 10 (bits v.toNat 16 10) < sext 10 (bits v.toNat 0 10) →
        exec (.cpCfgWrite m c thr v) s = .next (u.setStatus (cpPage c) stCP_REJECT)) ∧
      (thr = false ∨ s.locked (cpPage c) 8 = true ∨ sext 10 (bits v.toNat 0 10) ≤ sext 10 (bits v.toNat 16 10) →
        ∃ t, exec (.cpCfgWrite m c thr v) s = .next t ∧ t.reg off = (u.plainWrite off v).reg off ∧ t.mem = s.mem)) ∧
    (s.pageOn (pgCP 0) = true → s.flag (pgCP 0) CP_SNAP.EN = true → s.tbRun = true →
      (s.takeTrig (· == .snap) = some (e, r) →
        exec (.snapshot true) s = .next ((r.reachClk e.clk).takeSnapshot e.clk)) ∧
      (s.snapLast = some (tickOf edge) → s.takeSnapshot edge = s) ∧
      (s.takeSnapshot edge).snapLast = some (tickOf edge) ∧ (s.snapRecord s.ts).length = 40 ∧
      (let x := s.reachClk (s.beat none 0 1000);
        (x.cpChanged = true → x.flag (pgCP 0) CP_SNAP.ON_CHANGE = true →
          exec (.snapshot false) s = .next ({ x with cpChanged := false }.takeSnapshot x.clk)) ∧
        (x.cpChanged = false → exec (.snapshot false) s = .next { x with cpChanged := false })))
-- The converters (chapter 09) -------------------------------------------------------------------------------------------------

/-- ROUND_START, SLOT_CONVERSION, RESULT_OUT, SCAN_START, SCAN_TRIGGER, INJECTED_REQUEST, CV_INJ_SW (R247, R248, R250-R252,
R256-R258, R266-R268): a round starts on a 50th tick from lock and takes the staged corrections and the committed coefficients;
each slot converts, 12.5 ns after the one before, what the array then carries to the channel of its injected request, or to the
next of the scan; a result word holds its saturated code, its flags, channel and sequence number; a trigger asks for a scan at
its delayed instant; a request queues, and the last in order of five is dropped and counted. That slots follow strictly in
order is log entry 56 (DEDUCED). -/
def Obligations.RoundsConvert : Prop :=
  ∀ (m : Master) (n k chan : Nat) (f : Signals) (err : Int) (e : TrigAt) (lv : Bool) (x : Sample) (rest : List Sample)
      (s : State), n < 4 → k < 4 →
    let p := pgCV n
    let c := s.conv n
    (s.present p = true → s.pageOn p = true → s.tbRun = true → 8 ≤ c.slot →
      let y := s.reachClk (s.beat c.round 0 100)
      ∃ t, exec (.roundStart n) s = .next t ∧ (t.conv n).round = some y.clk ∧ (t.conv n).slot = 0 ∧ t.ts = y.ts ∧
        (t.conv n).corr = c.corrNext.getD c.corr ∧ (t.conv n).corrNext = none ∧ (t.conv n).commits = [] ∧
        (∀ j, (aget c.commits j).isSome = true → asorted c.commits = true →
          aget (t.conv n).coef j = aget c.commits j) ∧
        t.get p CV_PHASE = y.now % 100 ∧ t.setw = s.setw ∧ t.mem = s.mem) ∧
    (∀ r, s.pageOn p = true → c.round = some r → c.slot < 8 → c.starts = [] →
      let w := r + 25 * c.slot / 2
      let z := (s.reachClk w).setField f
      (∀ ch l, c.uses[c.slot]? = none → c.scan = ch :: l → ∃ t y, exec (.slotConversion n f err) s = .next t ∧
        (t.conv n).slot = c.slot + 1 ∧ (t.conv n).scan = l ∧ (t.conv n).out = c.out ++ [y] ∧
        y.raw = adcCode (z.chanVolt n ch) err ∧ y.chan = ch ∧ y.seq = c.scanSeq ∧ y.inj = false ∧ y.last = l.isEmpty ∧
        y.time = z.tsAt w ∧ t.mem = s.mem) ∧
      (∀ ch, c.uses[c.slot]? = some (.inj ch) → ∃ t y, exec (.slotConversion n f err) s = .next t ∧
        (t.conv n).slot = c.slot + 1 ∧ (t.conv n).out = c.out ++ [y] ∧ y.raw = adcCode (z.chanVolt n ch) err ∧
        y.chan = ch ∧ y.inj = true ∧ y.seq = c.injCount % 64 ∧ y.time = z.tsAt w ∧
        (t.conv n).injCount = (c.injCount + 1) % 64 ∧ t.mem = s.mem) ∧
      (c.uses[c.slot]? = some .energy → ∃ t code, exec (.slotConversion n f err) s = .next t ∧
        (t.conv n).slot = c.slot + 1 ∧ (t.conv n).out = c.out ∧ t.energySample = some (w, code) ∧ t.mem = s.mem) ∧
      (∀ d, c.uses[c.slot]? = some .diag → c.diag = some d → ∃ t d', exec (.slotConversion n f err) s = .next t ∧
        (t.conv n).slot = c.slot + 1 ∧ (t.conv n).out = c.out ∧ (t.conv n).diag = some d' ∧
        d'.nOpen + d'.nForced = d.nOpen + d.nForced + 1 ∧ t.mem = s.mem)) ∧
    (c.out = x :: rest →
      let u := s.modConv n fun c => { c with out := rest }
      let o := u.offerItem n (wordBytes (resultWord x)) x.time (!x.valid)
      let w := if o.1 then (o.2.incSat p CV_COUNTS0.LOST).setStatus p stCV_LOST else o.2
      (x.inj = true → exec (.resultOut n) s = .next (w.injDone n x (resultWord x))) ∧
      (x.inj = false → exec (.resultOut n) s = .next ({ w with
        chainIn := w.chainIn ++ ((List.range 64).filter fun c => w.chainTakes c n x.chan).map fun c =>
          (c, (resultWord x, x.time)) }.countScan n x))) ∧
    (let y := corrected x.raw x.soff x.sgain x.coff x.cgain;
      bits (resultWord x).toNat 0 16 = trunc 16 (max (-32768) (min y 32767)) ∧
      bits (resultWord x).toNat 16 6 = x.seq % 64 ∧ bits (resultWord x).toNat 22 6 = x.chan % 64 ∧
      bits (resultWord x).toNat 28 1 = b2n (x.slice == 8) ∧ bits (resultWord x).toNat 29 1 = b2n x.inj ∧
      bits (resultWord x).toNat 30 1 = b2n (x.clip || decide (y < -32768) || decide (32767 < y)) ∧
      bits (resultWord x).toNat 31 1 = b2n x.valid) ∧
    (s.accepts p = true → s.get p CV_SCAN_MASK ≠ 0 →
      (s.opensF m p CV_SCAN.START = true → s.get p CV_TRIG.MODE = 0 →
        let y := (s.met m p CV_SCAN.START).toTick
        ∃ t, exec (.scanStart m n) s = .next t ∧
          (t.conv n).starts = c.starts ++ [⟨y.clk + s.get p CV_TRIG.DELAY + 40, true⟩] ∧ t.regs = y.regs) ∧
      ((s.trig.find? fun e => e.what == .scan n true || e.what == .scan n false) = some e → e.what = .scan n lv →
        s.present p = true → s.tbRun = true →
        let y := ({ s with trig := s.trig.erase e } : State).reachClk e.clk
        let st (trig : Bool) : ScanStart := ⟨e.clk + s.get p CV_TRIG.DELAY + 40, trig⟩
        (s.get p CV_TRIG.MODE = 1 ∨ s.get p CV_TRIG.MODE = 3 →
          (lv = true → ∃ t, exec (.scanTrigger n) s = .next t ∧ (t.conv n).starts = c.starts ++ [st true] ∧
            t.regs = y.regs) ∧
          (lv = false → exec (.scanTrigger n) s = .next y)) ∧
        (s.get p CV_TRIG.MODE = 2 ∨ s.get p CV_TRIG.MODE = 4 →
          (lv = c.level → exec (.scanTrigger n) s = .next y) ∧
          (lv = true → c.level = false → ∃ t, exec (.scanTrigger n) s = .next t ∧ (t.conv n).level = true ∧
            (t.conv n).starts = c.starts ++ [st false] ∧ t.regs = y.regs) ∧
          (lv = false → c.level = true → ∃ t, exec (.scanTrigger n) s = .next t ∧ (t.conv n).level = false ∧
            (t.conv n).starts = c.starts ∧ t.regs = y.regs)))) ∧
    (s.present p = true → s.pageOn p = true → s.tbRun = true → (s.trig.find? fun e => e.what == .inj n k) = some e →
      let w := e.clk + s.get p CV_INJ.DELAY k
      let y := ({ s with trig := s.trig.erase e } : State).reachClk w
      exec (.injectedRequest n k) s = .next (y.injArrive n (s.get p CV_INJ.CHAN k) k w)) ∧
    (s.accepts p = true → s.opensF m p CV_INJ_SW.GO = true →
      let y := (s.met m p CV_INJ_SW.GO).toTick
      let q := injInsert (chan % 32, (y.clk, 4)) c.injQ
      (c.waiting < 4 → ∃ t, exec (.cvInjSw m n chan) s = .next t ∧ (t.conv n).injQ = q ∧ t.regs = y.regs) ∧
      (4 ≤ c.waiting → ∃ t, exec (.cvInjSw m n chan) s = .next t ∧ (t.conv n).injQ = q.dropLast ∧
        t.get p CV_COUNTS1.INJ_DROPS = satInc 8 (s.get p CV_COUNTS1.INJ_DROPS) ∧
        bits (t.hdr p 0x010).toNat stINJ_OVERFLOW 1 = 1))

/-- BG_CAL_INTERVAL, BG_CAL_DONE, BG_EN, FG_START, FG_CAL_DONE, CV_CAL_COMMIT, CV_CORR_APPLY, DIAG_GO, DIAG_DONE (R259, R260,
R262, R265, R267, R273, R560): an interval sends S8 to the ladder; a background result within its limits comes into force and
is counted, one beyond them is a fault and counts against its slice, and in host-assisted mode it is only captured; a
foreground calibration gives each slice that is not retired its coefficients; commits and corrections wait for the round
start; a diagnosis runs and ends with the two means, PASS by its tolerance. The rounding of a mean that is no integer is free
(log entry 8). -/
def Obligations.ConvertersCalibrate : Prop :=
  ∀ (m : Master) (n k dac md ch : Nat) (on : Bool) (us : Word) (a : CalMeas) (cs : List CalMeas) (d : Diag) (after : BgPhase)
      (s : State), n < 4 → k < 9 →
    let p := pgCV n
    let c := s.conv n
    (s.present p = true → s.pageOn p = true → s.tbRun = true → c.bgRun = true → c.bg = .idle →
      s.flag p CV_CAL_CTRL.BG_EN = true → s.flag p CV_STATUS.CAL_DEGRADED = false →
      s.flag p CV_STATUS.FG_RUNNING = false → ∃ t, exec (.bgCalInterval n) s = .next t ∧ (t.conv n).bg = .s8 ∧
        t.get p CV_STATUS.CAL_POS = 8 ∧
        t.get p CV_SLICE_STATE.S 0 8 = (if s.retired n 8 = true then 3 else 1) ∧ t.mem = s.mem) ∧
    ((c.bg = .s8 ∧ k = 8 ∧ after = .s8Done) ∨ (c.bg = .out ∧ k = c.bgPos ∧ after = .outDone) →
      (s.hostAssisted p = false → s.overLimit n k a = false → ∃ t, exec (.bgCalDone n a) s = .next t ∧
        (t.conv n).bg = after ∧ t.getS p CV_SOFF k = sext 16 (trunc 16 a.soff) ∧ t.get p CV_SGAIN k = a.sgain % 2 ^ 18 ∧
        aget (t.conv n).coef k = some (t.coefRegs n k) ∧ t.get p CV_SSTAT.FAILS k = 0 ∧
        t.get p CV_SSTAT.CALS k = wrapInc 16 (s.get p CV_SSTAT.CALS k) ∧
        t.get p CV_COUNTS1.BG_CALS = wrapInc 16 (s.get p CV_COUNTS1.BG_CALS) ∧ t.mem = s.mem) ∧
      (s.hostAssisted p = false → s.overLimit n k a = true → exec (.bgCalDone n a) s =
        .next ((((s.modConv n fun c => { c with bg := after }).raiseOwn p 0 (BitVec.ofNat 32 k)).incSat p
          CV_COUNTS1.CAL_FAILS).sliceFails n k)) ∧
      (s.hostAssisted p = true → ∃ t, exec (.bgCalDone n a) s = .next t ∧ (t.conv n).bg = .captured k ∧
        t.get p CV_CAP_VALID k = 1 ∧ t.get p CV_SOFF k = s.get p CV_SOFF k ∧ (t.conv n).coef = c.coef ∧
        bits (t.hdr p 0x010).toNat stCAL_CAPTURE 1 = 1)) ∧
    (s.opensF m p CV_CAL_CTRL.BG_EN = true →
      (s.locked p 8 = false → exec (.bgEn m n on) s =
        .next ((s.met m p CV_CAL_CTRL.BG_EN).set p CV_CAL_CTRL.BG_EN (b2n on))) ∧
      (s.flag p CV_STATUS.FG_RUNNING = false → c.fgReq = false → ∃ t, exec (.fgStart m n) s = .next t ∧
        (t.conv n).fgReq = true ∧ (c.injBusy = true → t.get p CV_STATUS.CAL_PENDING = 1) ∧ t.mem = s.mem)) ∧
    (s.flag p CV_STATUS.FG_RUNNING = true → s.hostAssisted p = false → (∀ x ∈ cs, outOfBounds x = false) →
      ∃ t, exec (.fgCalDone n us cs) s = .next t ∧ t.flag p CV_STATUS.FG_RUNNING = false ∧ t.get p CV_FG_TIME = us.toNat ∧
        bits (t.hdr p 0x010).toNat stFG_DONE 1 = 1 ∧
        (∀ x, cs[k]? = some x → s.retired n k = false →
          t.getS p CV_SOFF k = sext 16 (trunc 16 x.soff) ∧ t.get p CV_SGAIN k = x.sgain % 2 ^ 18) ∧ t.mem = s.mem) ∧
    (s.opensF m p CV_CAL_COMMIT.GO = true →
      (s.hostAssisted p = true → ∃ t, exec (.cvCalCommit m n k) s = .next t ∧ t.get p CV_CAP_VALID k = 0 ∧
        aget (t.conv n).commits k = some (s.coefRegs n k) ∧ (t.conv n).coef = c.coef) ∧
      (s.hostAssisted p = false → exec (.cvCalCommit m n k) s =
        .next ((s.met m p CV_CAL_COMMIT.GO).setStatus p stCV_REJECT))) ∧
    (s.opensF m p CV_CORR_APPLY.GO = true → ∃ t, exec (.cvCorrApply m n) s = .next t ∧
      (t.conv n).corrNext = some (s.staged n) ∧ (t.conv n).corr = c.corr ∧ t.regs = s.regs) ∧
    (s.opensF m p CV_DIAG_CTRL.GO = true →
      let u := (s.met m p CV_DIAG_CTRL.GO).plainWrite (CV_DIAG_CTRL.GO.addr p 0)
        (BitVec.ofNat 32 (2 ^ 31 + dac % 2 ^ 12 * 2 ^ 16 + md % 2 * 2 ^ 8 + ch % 32))
      exec (.diagGo m n ch md dac) s = .next (u.diagGo n)) ∧
    (c.diag = none → s.flag p CV_STATUS.FG_RUNNING = false → (s.chanNode n (s.get p CV_DIAG_CTRL.CHAN)).isSome = true →
      ((s.diagGo n).conv n).diag =
        some ⟨s.get p CV_DIAG_CTRL.CHAN, s.get p CV_DIAG_CTRL.MODE, 0, 0, 0, 0, none⟩ ∧
      (s.diagGo n).get p CV_DIAG_CTRL.BUSY = 1 ∧ (s.diagGo n).get p CV_DIAG_CTRL.PASS = 0) ∧
    (c.diag = some d → 16 ≤ d.nForced → d.sumOpen % 16 = 0 → d.sumForced % 16 = 0 →
      ∃ t, exec (.diagDone n) s = .next t ∧ (t.conv n).diag = none ∧ t.get p CV_DIAG_CTRL.BUSY = 0 ∧
        t.get p CV_DIAG_RESULT.OPEN = trunc 16 (d.sumOpen / 16) ∧
        t.get p CV_DIAG_RESULT.FORCED = trunc 16 (d.sumForced / 16) ∧
        t.get p CV_DIAG_CTRL.PASS = b2n (decide ((d.sumForced / 16 -
          (if d.mode = 0 then s.getS p CV_DIAG_EXPECT.CODE else d.sumOpen / 16)).natAbs ≤ s.get p CV_DIAG_EXPECT.TOL)) ∧
        bits (t.hdr p 0x010).toNat stDIAG_DONE 1 = 1 ∧ t.mem = s.mem)

-- The analogue outputs (chapter 11) ------------------------------------------------------------------------------------------

/-- LOAD_STROBE, LS_FIRE, DA_CFG_WRITE, SPAN_DISCONNECT, SPAN_SWITCH, UNPUBLISH, OUTPUT_MONITOR_TICK, DA_TRIP, COMPLY, DA_RESTORE
(R307-R312, R314, R315, R320): a strobe that is not merged publishes the input register of every channel that takes it, all at
one instant, and leaves the others; a span change of a published channel goes to SAFE_CODE, disconnects, switches and
reconnects; a secondary drops the SPAN of a write; a disabled channel is unpublished; a channel limited for 100 ticks trips, one
at its limit for 10 is out of compliance, and a restore reconnects a published one at SAFE_CODE. What a span write in a disable
does is log entry 59 (DEDUCED). -/
def Obligations.OutputsPublishTogether : Prop :=
  ∀ (m : Master) (c g pg mask edge : Nat) (e : TrigAt) (v : Word) (lim gate : List Nat) (s : State), c < 64 → g < 8 →
    (s.tbRun = true → (s.trig.find? fun e => e.what == .strobe g) = some e →
      exec (.loadStrobe g) s = .next ((({ s with trig := s.trig.erase e } : State).reachClk e.clk).strobe g e.clk)) ∧
    (s.accepts pgLS = true →
      (∀ l, aget s.lsLast g = some l → l ≤ edge → edge < l + 100 → s.strobe g edge = s.incSat pgLS LS_COUNT.MERGED g) ∧
      ((∀ l, aget s.lsLast g = some l → ¬(l ≤ edge ∧ edge < l + 100)) →
        let t := s.strobe g edge
        t.get pgLS LS_COUNT.STROBES g = wrapInc 16 (s.get pgLS LS_COUNT.STROBES g) ∧
        t.get64 pgLS LS_TIME_LO g = (s.tsAt edge).toNat ∧ aget t.lsLast g = some edge ∧
        t.da c DA_STATUS.OUT_CODE = (if s.takesStrobe c g = true then s.da c DA_CODE else s.da c DA_STATUS.OUT_CODE) ∧
        (s.takesStrobe c g = true → t.da c DA_STATUS.PUBLISHED = 1 ∧ (t.out c).stage = .driving) ∧
        (s.takesStrobe c g = false → t.out c = s.out c) ∧ t.mem = s.mem)) ∧
    (s.opensF m pgLS LS_FIRE = true → s.tbRun = true →
      exec (.lsFire m mask) s =
        .next ((s.met m pgLS LS_FIRE).toTick.each (maskList mask 8) fun s g => s.strobe g s.clk)) ∧
    (s.opens m (DA_CFG.EN.addr (daPage c) (c % 16)) = true → s.locked (daPage c) 8 = false →
      let off := DA_CFG.EN.addr (daPage c) (c % 16)
      let w := (s.restartKeys m off).serveStrobes s.clk
      let bad := w.spanBusy c = true ∨ spanOf (bit v.toNat 30) (bits v.toNat 0 3) = false ∨
        (bit v.toNat 30 ≠ bit (w.reg off).toNat 30 ∧ bit (w.reg off).toNat 31 = true)
      (s.secondary = false ∨ bits v.toNat 0 3 = w.da c DA_CFG.SPAN →
        (bad → exec (.daCfgWrite m c v) s = .next (w.setStatus (daPage c) stDA_REJECT)) ∧
        (¬bad → ∃ t, exec (.daCfgWrite m c v) s = .next t ∧ t.reg off = (w.plainWrite off v).reg off ∧ t.mem = s.mem ∧
          (bits v.toNat 0 3 ≠ bits (w.reg off).toNat 0 3 → w.published c = true →
            t.spanBusy c = true ∧ t.da c DA_STATUS.OUT_CODE = w.da c DA_SAFE ∧ (t.out c).step = 2))) ∧
      (s.secondary = true → bits v.toNat 0 3 ≠ w.da c DA_CFG.SPAN → ∃ t, exec (.daCfgWrite m c v) s = .next t ∧
        t.da c DA_CFG.SPAN = w.da c DA_CFG.SPAN ∧ bits (t.hdr (daPage c) 0x010).toNat stDA_REJECT 1 = 1 ∧
        t.mem = s.mem)) ∧
    (s.spanBusy c = true →
      ((s.out c).step = 2 → ∃ t, exec (.spanDisconnect c) s = .next t ∧ (t.out c).step = 4 ∧ (t.out c).stage = .clamp ∧
        (t.out c).since = s.clk ∧ t.regs = s.regs) ∧
      ((s.out c).step = 4 → ∃ t, exec (.spanSwitch c) s = .next t ∧ t.spanBusy c = false ∧
        (t.out c).span = s.da c DA_CFG.SPAN ∧
        t.da c DA_STATUS.OUT_CODE = (if (s.out c).zero then 0 else s.da c DA_SAFE) ∧
        (s.listening = false → (t.out c).stage = if s.tripped c then .clamp else .driving) ∧
        (s.listening = true → s.tripped c = true → (t.out c).stage = .clamp) ∧
        bits (t.hdr (daPage c) 0x010).toNat stSPAN_DONE 1 = 1 ∧ t.mem = s.mem)) ∧
    ((s.out c).disabling = true → ∃ t, exec (.unpublish c) s = .next t ∧ t.published c = false ∧
      (t.out c).disabling = false ∧ t.da c DA_STATUS.OUT_CODE = s.da c DA_STATUS.OUT_CODE ∧ t.mem = s.mem) ∧
    (s.tbRun = true → ∃ t, exec (.outputMonitorTick lim gate) s = .next t ∧ t.setw = s.setw ∧ t.mem = s.mem ∧
      t.daTick = some (s.reachClk (s.beat s.daTick 0 10000)).clk ∧
      (s.outHere c = true → s.pageOn (daPage c) = true →
        (t.out c).lim = (if (s.out c).stage = .driving ∧ s.da c DA_CFG.KIND = 0 ∧ c ∈ lim then min 100 ((s.out c).lim + 1)
          else 0) ∧
        (t.out c).gate = (if (s.out c).stage = .driving ∧ s.da c DA_CFG.KIND = 1 ∧ c ∈ gate then
          min 10 ((s.out c).gate + 1) else 0))) ∧
    (100 ≤ (s.out c).lim → s.tripped c = false → ∃ u : State,
      exec (.daTrip c) s = .next (u.raiseOwn (daPage c) 0 (BitVec.ofNat 32 c)) ∧ u.tripped c = true ∧
      (u.out c).stage = .clamp ∧ u.maskBit (daPage c) DA_TRIP (c % 16) = true ∧ u.mem = s.mem) ∧
    (10 ≤ (s.out c).gate → s.maskBit (daPage c) DA_COMPLY (c % 16) = false →
      exec (.comply c) s = .next ((s.setMaskBit (daPage c) DA_COMPLY (c % 16) true).setStatus (daPage c) stDA_COMPLY)) ∧
    (s.opensF m (daPage c) DA_RESTORE = true → bit mask (c % 16) = true → s.tripped c = true →
      (s.out c).tripAt ≠ some (tickOf s.clk) → pg = c / 16 → ∃ t, exec (.daRestore m pg mask) s = .next t ∧
        t.tripped c = false ∧
        (s.spanBusy c = false → s.published c = true → t.da c DA_STATUS.OUT_CODE = s.da c DA_SAFE ∧
          (t.out c).stage = if s.listening then .warm else .driving) ∧ t.mem = s.mem)
-- The scheduler (chapter 12) ----------------------------------------------------------------------------------------------------

/-- DISPATCH, AFF_WAIT_EXPIRY, TASK_ACCEPT, FABRIC_COMPLETION, MANAGEMENT_PROCESSOR_COMPLETION, SCH_HQ_DONE, RELEASE, HA_DECIDE
(R338-R346, R354, R357, R562): native dispatch offers the first ready task of the group, no other ready task of which has a
higher priority or the same and an earlier readiness, to the lowest available worker; a worker accepts the oldest offer; a
completion completes the task in hand, one without a task is a fault, a late one is counted; releases of an ordered flow come
in the order of its tasks; a decision of the host is offered or rejected. The bound on what a target takes at a release is log
entry 63 (DEDUCED). -/
def Obligations.TasksRunInOrder : Prop :=
  ∀ (m : Master) (g w q f h : Nat) (v status : Word) (t : Task) (s u : State),
    (∀ r, (s.readyOf g).head? = some r → r ∈ s.tasks ∧ r.group = g ∧ r.st = .ready ∧
      ∀ x ∈ s.tasks, x.group = g → x.st = .ready → r.prio < x.prio ∨ (r.prio = x.prio ∧ r.readySeq ≤ x.readySeq)) ∧
    (s.dispatchOn = true → s.hostAssisted pgSCH = false →
      ((s.wkrsOf g = [] ∨ s.readyOf g = []) → exec (.dispatch g) s = .next s) ∧
      (s.get pgSCH SCH_CTRL.MODE = 0 → (s.wkrsOf g).head? = some w → (s.readyOf g).head? = some t →
        exec (.dispatch g) s = .next (s.offer t w)) ∧
      (s.get pgSCH SCH_CTRL.MODE = 1 → (s.tasks.find? fun t => t.handle == h && t.st == .ready) = some t →
        exec (.affWaitExpiry h) s =
          .next (let u := s.reach (t.readyAt + BitVec.ofNat 64 (s.get pgSCH SCH_AFF_WAIT));
            u.each (u.wkrsOf t.group) fun u _ => u.dispatchOne t.group))) ∧
    (t ∈ s.tasks → ∃ x ∈ (s.offer t w).tasks, x.handle = t.handle ∧ x.worker = some w ∧ x.w0 = t.w0 ∧
      x.st = (match wkrKind w with | .stream _ => .running | _ => .dispatched)) ∧
    (s.oldestOffered w = some t →
      (∀ k, wkrKind w = .mp k → exec (.taskAccept w) s = .next (s.accept t)) ∧
      (∀ b i, wkrKind w = .port b i → s.workerOpen b = true → s.srcFree (.port (.worker b i)) = true →
        exec (.taskAccept w) s = .next ((s.accept t).takeTask w)) ∧
      (∀ k, wkrKind w = .host k → s.cqOn k = true → s.cqUsed k + 1 < s.cqSize k →
        exec (.taskAccept w) s = .next ((s.writeCq k (cqCtl 0 0 t.handle) t.w0 (t.words.drop 2)).accept t))) ∧
    (w < 0xE0 → wkrPresent s.variant w = true → s.pageOn pgSCH = true → s.bankRuns (w / 7) = true →
      let p := FabPort.worker (w / 7) (w % 7)
      s.portFull p = true →
      let st : Word := BitVec.ofNat 32 (s.portGot p).val
      let y := s.takePort p
      (aget y.lateMark w = none →
        (y.tasks.find? (·.inHand w) = some t → exec (.fabricCompletion w) s = .next (y.complete t st).flow) ∧
        (y.tasks.find? (·.inHand w) = none → exec (.fabricCompletion w) s =
          .next (y.raiseFault pgSCH 4 (BitVec.ofNat 32 w) accHAND (0x40 + w / 7)))) ∧
      (aget y.lateMark w = some 1 → exec (.fabricCompletion w) s =
        .next ({ y with lateMark := adel y.lateMark w }.incSat pgSCH SCH_STALE_DONE))) ∧
    ((s.tasks.find? fun t => t.handle == h && (t.inHand 0xE0 || t.inHand 0xE1) && t.st != .dispatched) = some t →
      exec (.managementProcessorCompletion h status) s = .next (s.complete t status)) ∧
    (t ∈ s.tasks → ∃ x ∈ (s.complete t status).tasks, x.handle = t.handle ∧ x.st = .complete ∧ x.status = status ∧
      x.kind = b2n (bit status.toNat 31)) ∧
    (q < 14 → s.opensF m pgHQ SCH_HQ_DONE q = true →
      let z := s.met m pgHQ SCH_HQ_DONE q
      let hit := s.tasks.find? fun t => t.handle == v.toNat % 2 ^ 24 && t.inHand (0xF2 + q)
      (hit = none → exec (.schHqDone m q v) s = .next (z.incSat pgSCH SCH_STALE_DONE)) ∧
      (hit = some t → exec (.schHqDone m q v) s = .next (z.complete t (s.hqStat m.id q)))) ∧
    (s.turn f = some t →
      (s.flowOrdered f = true → (s.tasks.find? fun x => x.flow == f) = some t) ∧ t.st = .complete ∧ t.flow = f ∧
      (s.deliverRel t = some u → exec (.release f) s =
        .next (((((((u.flowSet f FLOW.RELEASES (wrapInc 16 (u.flowGet f FLOW.RELEASES))).trace t 3 t.kind
          (t.worker.getD 0)).dropTask t).openHeld f).syncTask t).twinCheckpoint f t.time).serveWaiting)) ∧
      (s.deliverRel t = none → exec (.release f) s = .next s) ∧
      (s.flowRelease f = 0 → aget s.ckptSkip f = none →
        s.deliverRel t = some { s with ckptSkip := adel s.ckptSkip f } ∧ ∃ z, exec (.release f) s = .next z)) ∧
    (s.opensF m pgSCH SCH_HA_DECIDE.HANDLE = true → s.hostAssisted pgSCH = true → s.flag pgSCH SCH_HA_REQ.PENDING = true →
      let z := s.met m pgSCH SCH_HA_DECIDE.HANDLE
      let c := z.clearRegs (pgSCH * 0x1000 + 0x064) (pgSCH * 0x1000 + 0x08C)
      let k := s.get pgSCH SCH_HA_REQ.WORKER
      let pick := (s.readyOf (s.get pgSCH SCH_HA_REQ.GROUP)).find? fun t => t.handle == v.toNat % 2 ^ 24
      (bit v.toNat 31 = true → exec (.haDecide m v) s =
        .next { c with haSkip := true, haSeen := (List.range 256).filter s.wkrAvailable }) ∧
      (bit v.toNat 31 = false → pick = none → exec (.haDecide m v) s = .next (z.setStatus pgSCH stSCH_HA_REJECT)) ∧
      (bit v.toNat 31 = false → pick = some t → s.dispatchOn = true → s.wkrAvailable k = true →
        s.get pgWKR SCH_WKR.GROUP k = s.get pgSCH SCH_HA_REQ.GROUP → exec (.haDecide m v) s = .next (c.offer t k)))

/-- HW_SOURCE_EVENT, FABRIC_SUBMISSION, SQ_FETCH, SCH_CANCEL, CANCEL_NOTICE (R328, R332-R337, R347-R350): an event takes a
record, or waits in its slot, or finds it full and is counted as lost; a fabric event port takes a submission word by word, and with
its last word the submission is refused or takes a record and answers its handle; a cancel answers its outcome to its master. A task takes a free record, with the next generation, as READY or, in
a full ordered flow, as HELD. Which free record is log entry 62 (DESIGN CHOICE). -/
def Obligations.SourcesEnqueueTasks : Prop :=
  ∀ (m : Master) (src port q pay : Nat) (w0 v : Word) (time : Time) (pl ws : List Word) (e : HwEvent) (desc : List Byte)
      (s : State),
    (s.freeRecs ≠ [] → ∃ t r, (s.enqueue w0 time pl src).2.tasks = s.tasks ++ [t] ∧ (s.enqueue w0 time pl src).1 = t.handle ∧
      t.rec? = some r ∧ r ∈ s.freeRecs ∧ t.w0 = w0 ∧ t.time = time ∧ t.src = src ∧ t.readyAt = s.ts ∧
      t.handle = mkHandle (if (aget s.gens r).getD 0 = 1023 then 1 else (aget s.gens r).getD 0 + 1) r ∧
      (t.st = .held ↔ s.flowOrdered (dFlow w0) = true ∧
        (s.flowGet (dFlow w0) FLOW.WINDOW < s.openTasks (dFlow w0) ∨ 0 < s.heldTasks (dFlow w0))) ∧
      (t.st = .held ∨ t.st = .ready)) ∧
    ((s.hwDue.find? fun e => e.1 == src) = some (src, e) →
      let u : State := { s with hwDue := s.hwDue.erase (src, e) }
      let d := s.hwDesc src e
      ((aget s.hwSlot src).isSome = true → exec (.hwSourceEvent src) s = .next (u.discardHw src)) ∧
      (aget s.hwSlot src = none →
        (s.schAccepts = false → exec (.hwSourceEvent src) s = .next { u with hwSlot := aput s.hwSlot src e }) ∧
        (s.schAccepts = true → s.recFree (dPrio d.1) = true →
          exec (.hwSourceEvent src) s = .next (u.enqueue d.1 e.time d.2 src).2) ∧
        (s.schAccepts = true → s.recFree (dPrio d.1) = false →
          exec (.hwSourceEvent src) s = .next ({ u with hwSlot := aput s.hwSlot src e }.traceStall src 0 d.1)))) ∧
    (port < 256 → aget s.eventPay port = some pay → s.pageOn pgSCH = true →
      let p := FabPort.event (port / 8) (port % 8)
      s.portBusy p = false → s.portFull p = true →
      (aget s.subIn port = none → s.portOpen (port / 8) = true → s.schAccepts = true ∨ (aget s.spanPorts port).isSome = true →
        s.srcFree (.port p) = true → exec (.fabricSubmission port) s = .next (s.subWord port pay s.ts [])) ∧
      (aget s.subIn port = some (time, ws) → s.bankRuns (port / 8) = true →
        exec (.fabricSubmission port) s = .next (s.subWord port pay time ws)) ∧
      (let w := ws ++ [BitVec.ofNat 32 (s.portGot p).val]
       let y : State := { s with subIn := adel s.subIn port, portIn := adel s.portIn p.key };
        (w.length ≤ pay → s.subWord port pay time ws =
          ({ s with subIn := aput s.subIn port (time, w) } : State).takePort p) ∧
        (pay < w.length → aget s.spanPorts port = none → s.subWord port pay time ws =
          (y.submit (0x100 + port) (subDesc time w) (0x40 + port / 8) accHAND).settle))) ∧
    (let d := payWord pl 0
     let tp := subTime pl;
      (subRefused d tp.2 = true → s.submit src pl 0 0 = s.refuseSub src 0 0) ∧
      (subRefused d tp.2 = false → s.schAccepts = true → s.recFree (dPrio d) = true → s.submit src pl 0 0 =
        (s.enqueue d tp.1 tp.2 src).2.returnHandle src (s.enqueue d tp.1 tp.2 src).1) ∧
      (subRefused d tp.2 = false → s.schAccepts = true → s.recFree (dPrio d) = false → s.submit src pl 0 0 =
        ({ s with subWait := aput s.subWait src pl } : State).traceStall src 0 d) ∧
      (subRefused d tp.2 = false → s.schAccepts = false → s.submit src pl 0 0 =
        { s with subWait := aput s.subWait src pl })) ∧
    (q < 14 → desc.length = 32 → s.runs pgHQ = true → s.get pgHQ SCH_SQ_CFG.EN q = 1 → s.dmaOk = true →
      s.shadowed = false → s.get pgHQ SCH_SQ_HEAD q ≠ s.get pgHQ SCH_SQ_TAIL q → s.schAccepts = true →
      s.sqRecords q < s.get pgHQ SCH_SQ_CFG.CREDIT q →
      subRefused (payWord (leWords desc) 0) ((leWords desc).drop 4) = false →
      let w := leWords desc
      let t0 := BitVec.ofNat 64 ((payWord w 2).toNat + (payWord w 3).toNat * 2 ^ 32)
      let r := s.enqueue (payWord w 0) (if t0 = 0 then s.ts else t0) (w.drop 4) (0x200 + q)
      (s.recFree (dPrio (payWord w 0)) = true → exec (.sqFetch q desc) s =
        .next ((r.2.toHost (r.2.get64 pgHQ SCH_SQ_BASE_LO q + 32 * s.get pgHQ SCH_SQ_HEAD q + 4) (leBytes 4 r.1)).set pgHQ
          SCH_SQ_HEAD ((s.get pgHQ SCH_SQ_HEAD q + 1) % 2 ^ (s.get pgHQ SCH_SQ_CFG.SIZE q + 4)) q)) ∧
      (s.recFree (dPrio (payWord w 0)) = false → exec (.sqFetch q desc) s = .next s)) ∧
    (s.opensF m pgSCH SCH_CANCEL = true →
      let h := v.toNat % 2 ^ 24
      let hit := s.tasks.find? fun t => t.rec? == some (handleRec h)
      let known := handleGen h ≠ 0 ∧ (aget s.gens (handleRec h)).getD 0 = handleGen h
      let out := if ¬known then 4 else match hit.map Task.st with
        | some .held => 1 | some .ready => 1 | some .dispatched => 2 | some .running => 2 | some .partial' => 2 | _ => 3
      ∃ t, exec (.schCancel m v) s = .next t ∧
        aget t.cancelRes m.id = some (BitVec.ofNat 32 (2 ^ 31 + out * 2 ^ 24 + h)) ∧
        bits (t.hdr pgSCH 0x010).toNat stSCH_CANCEL_DONE 1 = 1 ∧ t.setw = s.setw ∧ t.gens = s.gens ∧
        (out = 3 ∨ out = 4 → t.tasks = s.tasks) ∧
        (∀ x, known → hit = some x → x.st = .ready → ∃ y ∈ t.tasks, y.handle = x.handle ∧ y.st = .complete ∧ y.kind = 2)) ∧
    exec (.cancelNotice q) s = .next (s.writeNotice q) ∧
    (∀ n, (s.notices.find? fun n => n.1 == q) = some n → s.cqRoom q = true →
      (s.writeNotice q).notices = s.notices.erase n ∧
      (q < 14 → (s.writeNotice q).get pgHQ SCH_CQ_TAIL q = (s.get pgHQ SCH_CQ_TAIL q + 1) % s.cqSize q % 2 ^ 16))

/-- SQ_TAIL_WRITE, CQ_HEAD_WRITE, BROKE_TAIL_WRITE, FLOW_TABLE_WRITE, SCH_CTRL_MODE (R343, R353, R358, R359): a pointer that
lies in its queue is taken, one that does not is refused; a flow entry is written while the flow is empty and its release
target exists; the dispatch mode is written while page 0 is disabled and holds no record. -/
def Obligations.SchedulerRegistersGuard : Prop :=
  ∀ (m : Master) (q f : Nat) (v : Word) (s : State), q < 14 → f < 4096 →
    let t := v.toNat % 2 ^ 16
    (s.opensF m pgHQ SCH_SQ_TAIL q = true →
      let bad := 2 ^ (s.get pgHQ SCH_SQ_CFG.SIZE q + 4) ≤ t ∨
        (t = s.get pgHQ SCH_SQ_HEAD q ∧ s.get pgHQ SCH_SQ_TAIL q ≠ s.get pgHQ SCH_SQ_HEAD q)
      let u := s.met m pgHQ SCH_SQ_TAIL q
      (bad → exec (.sqTailWrite m q v) s = .next (u.setStatus pgHQ stHQ_CFG_REJECT)) ∧
      (¬bad → exec (.sqTailWrite m q v) s = .next (u.set pgHQ SCH_SQ_TAIL t q))) ∧
    (s.opensF m pgHQ SCH_CQ_HEAD q = true →
      let bad := s.cqSize q ≤ t ∨ s.cqUsed q < (t + s.cqSize q - s.get pgHQ SCH_CQ_HEAD q) % s.cqSize q
      (bad → s.cqUsed q = 0 → exec (.cqHeadWrite m q v) s =
        .next ((s.met m pgHQ SCH_CQ_HEAD q).setStatus pgHQ stHQ_CFG_REJECT)) ∧
      (¬bad → ∃ z, exec (.cqHeadWrite m q v) s = .next z ∧ z.get pgHQ SCH_CQ_HEAD q = t ∧
        z.get pgHQ SCH_CQ_TAIL q = s.get pgHQ SCH_CQ_TAIL q ∧ z.tasks = s.tasks ∧ z.mem = s.mem)) ∧
    (s.opensF m pgSCH SCH_BROKE_TAIL = true → exec (.brokeTailWrite m v) s =
      .next ((s.met m pgSCH SCH_BROKE_TAIL).set pgSCH SCH_BROKE_TAIL v.toNat)) ∧
    (s.opens m (flowBase + 16 * f) = true → s.locked pgSCH 9 = false →
      let u := s.restartKeys m (flowBase + 16 * f)
      let busy := s.flowGet f FLOW.OPEN ≠ 0 ∨ s.flowGet f FLOW.HELD ≠ 0
      (busy → exec (.flowTableWrite m f v) s = .next (u.setStatus pgSCH stSCH_FLOW_BUSY)) ∧
      (¬busy → relTarget (v.toNat % 256) = false →
        exec (.flowTableWrite m f v) s = .next (u.setStatus pgSCH stSCH_CFG_REJECT)) ∧
      (¬busy → relTarget (v.toNat % 256) = true → ∃ z, exec (.flowTableWrite m f v) s = .next z ∧
        z.reg (flowBase + 16 * f) = flowWord v ∧ z.flowBad.contains f = false ∧
        (∀ o, o ≠ flowBase + 16 * f → z.reg o = s.reg o) ∧ z.tasks = s.tasks ∧ z.mem = s.mem)) ∧
    (s.opensF m pgSCH SCH_CTRL.MODE = true → s.locked pgSCH 8 = false →
      let u := s.met m pgSCH SCH_CTRL.MODE
      let busy := s.flag pgSCH PG_CTRL.EN = true ∨ s.recHeld ≠ 0
      (busy → exec (.schCtrlMode m v) s = .next (u.setStatus pgSCH stSCH_CFG_REJECT)) ∧
      (¬busy → exec (.schCtrlMode m v) s = .next (u.set pgSCH SCH_CTRL.MODE v.toNat)))

-- Streams (chapter 13) -----------------------------------------------------------------------------------------------------------

/-- STREAM_ITEM, FLUSH_TIMEOUT, FLUSH_NOW, BLOCK_COMMIT, RP_WRITE, RING_ENABLE, TASK_ENTRY, STREAM_DMA_ERROR (R364, R367-R369,
R371, R373, R376): an item joins the block in progress of its ring or is counted as lost; a flush closes that block; the
oldest closed block is committed while there is room, and WP advances by one; RP never passes WP; a ring is enabled after its
checks, with both pointers at 0, and disabled with its block closed; a task entry (the descriptor, with the data that its
pointer names) is placed in the task ring and completes its task, or completes it with the reason why it cannot; a DMA error
discards what is not committed. -/
def Obligations.RingsKeepTheirOrder : Prop :=
  ∀ (m : Master) (src r e at' : Nat) (item : List Byte) (inv : Bool) (v : Word) (t : Task) (data : Option (List Byte))
      (s : State), r < 64 → e < 16 →
    let pg := ringPage r
    (∀ b tm u, s.ringAccepts r = true → (s.ring r).cur = some b → b.data.length + item.length ≤ s.ringB r - 32 →
      s.placeItem r item tm inv = some u → ∃ b', (u.ring r).cur = some b' ∧ b'.data = b.data ++ item ∧
        b'.count = b.count + 1 ∧ b'.time = b.time ∧ (u.ring r).closed = (s.ring r).closed) ∧
    (srcPresent s.variant src = true → item.length = formatSize (srcFormat src) → src < 0x80 ∨ 0xA0 ≤ src →
      (s.ringOf src = none → exec (.streamItem src item at' inv) s = .next s) ∧
      (∀ k, s.ringOf src = some k → ∃ u, exec (.streamItem src item at' inv) s = .next u) ∧
      (∀ k u, s.ringOf src = some k → s.placeItem k item (BitVec.ofNat 64 at') (inv && decide (src < 0x50)) = some u →
        exec (.streamItem src item at' inv) s = .next u) ∧
      (∀ k, s.ringOf src = some k → s.placeItem k item (BitVec.ofNat 64 at') (inv && decide (src < 0x50)) = none →
        exec (.streamItem src item at' inv) s = .next (((s.closeFull k item.length).loseItem k).producerLost src))) ∧
    (srcPresent s.variant src = true → 0x80 ≤ src → src < 0xA0 →
      exec (.streamItem src item at' inv) s =
        .next (if s.streamReady (src - 0x80) then s.takeStream (src - 0x80) else s)) ∧
    (∀ b, (s.ring r).cur = some b →
      (s.rget r ST_RING_FLUSH.TIMEOUT ≠ 0 → exec (.flushTimeout r) s =
        .next ((s.reach (b.time + BitVec.ofNat 64 (1000 * s.rget r ST_RING_FLUSH.TIMEOUT))).flush r)) ∧
      (s.opensF m pg ST_RING_FLUSH.NOW (r % 4) = true →
        exec (.flushNow m r) s = .next ((s.met m pg ST_RING_FLUSH.NOW (r % 4)).flush r)) ∧
      ((s.closeBlock r).ring r).cur = none ∧
      ((s.closeBlock r).ring r).closed = (s.ring r).closed ++ [{ b with
        torn := decide (b.data.length + formatSize (s.ringFormat r) ≤ s.ringB r - 32) }]) ∧
    (s.pageOn pg = true → (s.ring r).closed ≠ [] →
      (s.ringRoom r = false → exec (.blockCommit r) s = .next s) ∧
      (s.ringRoom r = true → ∃ u, exec (.blockCommit r) s = .next u ∧
        u.rget r ST_RING_WP = (s.rget r ST_RING_WP + 1) % 2 ^ 32 ∧ u.rget r ST_RING_RP = s.rget r ST_RING_RP ∧
        bits (u.hdr pg 0x010).toNat (r % 4) 1 = 1 ∧
        (s.rget r ST_RING_CFG.SRC < 0x80 → (u.ring r).closed = (s.ring r).closed.tail))) ∧
    (s.opensF m pg ST_RING_RP (r % 4) = true →
      let dist := (v.toNat + 2 ^ 32 - s.rget r ST_RING_RP) % 2 ^ 32
      let room := (s.rget r ST_RING_WP + 2 ^ 32 - s.rget r ST_RING_RP) % 2 ^ 32
      (dist ≤ room → exec (.rpWrite m r v) s = .next ((s.met m pg ST_RING_RP (r % 4)).set pg ST_RING_RP v.toNat (r % 4))) ∧
      (room < dist → exec (.rpWrite m r v) s = .next ((s.met m pg ST_RING_RP (r % 4)).setStatus pg stRP_REJECT)) ∧
      (∀ u, exec (.rpWrite m r v) s = .next u →
        (u.rget r ST_RING_WP + 2 ^ 32 - u.rget r ST_RING_RP) % 2 ^ 32 ≤ room)) ∧
    (s.opensF m pg ST_RING_CFG.EN (r % 4) = true →
      let w := s.met m pg ST_RING_CFG.EN (r % 4)
      (s.ringEn r = false → s.ringBad r = true → exec (.ringEnable m r true) s = .next (w.setStatus pg stCFG_REJECT)) ∧
      (s.ringEn r = false → s.ringBad r = false → ∃ u, exec (.ringEnable m r true) s = .next u ∧ u.ringEn r = true ∧
        u.rget r ST_RING_WP = 0 ∧ u.rget r ST_RING_RP = 0 ∧ u.mem = s.mem) ∧
      (s.ringEn r = true → exec (.ringEnable m r true) s = .next w) ∧
      (∃ u, exec (.ringEnable m r false) s = .next u ∧ u.ringEn r = false ∧ (u.ring r).cur = none ∧ u.mem = s.mem)) ∧
    (s.oldestHeld (0xE2 + e) = some t →
      let n := (payWord t.payload 2).toNat
      let ptr := bit (dFlags t.w0) 0
      let head := t.words.flatMap wordBytes
      let put := fun (k : Nat) (z : State) (item : List Byte) =>
        (∀ u, z.placeItem k item t.time false = some u → exec (.taskEntry e data) s = .next (u.complete t (taskReason 0))) ∧
        (z.placeItem k item t.time false = none → exec (.taskEntry e data) s = .next (s.closeFull k item.length))
      (s.taskRing e = none → exec (.taskEntry e data) s = .next (s.complete t (taskReason 1))) ∧
      (∀ k, s.taskRing e = some k →
        (s.ringB k - 32 < 32 + (if ptr = true then (n + 3) / 4 * 4 else 0) →
          exec (.taskEntry e data) s = .next (s.complete t (taskReason 2))) ∧
        (32 + (if ptr = true then (n + 3) / 4 * 4 else 0) ≤ s.ringB k - 32 →
          (s.pointerWaits t = true → exec (.taskEntry e data) s = .next s) ∧
          (ptr = false → put k s head) ∧
          (ptr = true → s.pointerWaits t = false → t.pointsIn = false →
            (data = none → exec (.taskEntry e data) s = .next (s.complete t (taskReason 3))) ∧
            (∀ d, data = some d → n ≤ d.length →
              put k s (head ++ d.take n ++ List.replicate ((4 - n % 4) % 4) 0))) ∧
          (ptr = true → s.pointerWaits t = false → t.pointsIn = true →
            let z := (s.pointedData e t).2
            ((s.pointedData e t).1 = none → exec (.taskEntry e data) s = .next (z.complete t (taskReason 3))) ∧
            (∀ d, (s.pointedData e t).1 = some d →
              put k z (head ++ d ++ List.replicate ((4 - n % 4) % 4) 0)))))) ∧
    (s.ringEn r = true → exec (.streamDmaError r) s =
      .next (s.raiseFault pg 2 (BitVec.ofNat 32 r) accDMAW (0x10 + r / 4) fun s =>
        (s.discardRing r).set pg ST_RING_CFG.EN 0 (r % 4)))

-- The ream store (chapter 14) ------------------------------------------------------------------------------------------------------

/-- MOUNT_DONE, FORMAT, LIB_WRITE, LIB_ERASE, SET_STARTUP, REFRESH_SWEEP_NOW, CMD_DONE, REFRESH_READ, RS_HA_ANS, RAW_READ_PAGE,
RAW_PROGRAM_PAGE, RAW_ERASE_BLOCK, RAW_DONE, NAND_NOT_RESPONDING (R386-R392, R420): a mount ends in its outcome; a store
command runs on a mounted store that is free, and is refused with a code otherwise, a write of the library also where its
sheet fails its check; each leaves the library, the start-up choice or the store as it names; a worn or uncorrectable block
is scheduled and raised; raw operations belong to host-assisted mode. The order of the refusals is log entry 67 (DEDUCED). -/
def Obligations.TheStoreCarriesOutCommands : Prop :=
  ∀ (m : Master) (slot op part worst : Nat) (d : List Byte) (a v : Word) (g b rv : Word) (o : RsOp) (s : State), slot < 64 →
    (s.get pgRS RS_STATE.STATE = 1 → s.pageOn pgRS = true → s.bootStep ≠ 5 →
      (∃ t, exec (.mountDone 2 g b rv false false false) s = .next t ∧ t.mounted = true ∧ t.lib = s.lib ∧
        bits (t.hdr pgRS 0x010).toNat stRS_MOUNTED 1 = 1 ∧ t.reg (RS_BLOCKS.RETIRED.addr pgRS 0) = b ∧ t.mem = s.mem) ∧
      (∃ t, exec (.mountDone 3 g b rv false false false) s = .next t ∧ t.mounted = false ∧
        t.get pgRS RS_STATE.STATE = 3 ∧ t.lib = s.lib ∧ t.mem = s.mem)) ∧
    (s.opensF m pgRS RS_CMD.OP = true → s.accepts pgRS = true →
      (s.rsOp = none → s.pressOn = false → s.mounted = true → s.readOnly = false → s.secondary = false →
        let begins := fun (i : Instr) (o : RsOp) (k : Nat) => ∃ t, exec i s = .next t ∧ t.rsOp = some o ∧
          t.get pgRS RS_CMD.OP = k ∧ t.get pgRS RS_CMD_RES.BUSY = 1 ∧ t.lib = s.lib ∧ t.mem = s.mem;
        begins (.format m 0xA5) .format 1 ∧ begins (.libErase m slot) (.libErase slot) 3 ∧
        begins (.setStartup m slot) (.setStartup slot) 4 ∧ begins (.refreshSweepNow m) .sweep 5 ∧
        (∃ t, exec (.format m 0) s = .next t ∧ t.rsOp = none ∧ t.get pgRS RS_CMD_RES.RESULT = 8) ∧
        (s.dmaOk = false → begins (.libWrite m slot (some d)) (.libFetch slot (some d)) 2) ∧
        (s.dmaOk = true → ∃ t, exec (.libWrite m slot none) s = .next t ∧ t.rsOp = none ∧
          t.get pgRS RS_CMD_RES.RESULT = 5 ∧ t.lib = s.lib) ∧
        (s.dmaOk = true → 32 * 2 ^ 20 < d.length → ∃ t, exec (.libWrite m slot (some d)) s = .next t ∧ t.rsOp = none ∧
          t.get pgRS RS_CMD_RES.RESULT = 3 ∧ t.lib = s.lib) ∧
        (s.dmaOk = true → d.length ≤ 32 * 2 ^ 20 →
          let w := (((s.met m pgRS RS_CMD.OP).set pgRS RS_CMD.OP 2).set pgRS RS_CMD.SLOT slot).rsBegin
            (.libFetch slot (some d))
          ((w.checkSheet d).1 = 0 → s.hostAssisted pgRS = false → ∃ t, exec (.libWrite m slot (some d)) s = .next t ∧
            t.rsOp = some (.libWrite slot d) ∧ t.get pgRS RS_CMD_RES.BUSY = 1 ∧ t.lib = s.lib ∧ t.mem = s.mem) ∧
          ((w.checkSheet d).1 ≠ 0 → ∃ t, exec (.libWrite m slot (some d)) s = .next t ∧ t.rsOp = none ∧
            t.get pgRS RS_CMD_RES.RESULT = 2 ∧ t.get pgRS RS_CMD_RES.CFG_CODE = (w.checkSheet d).1 % 256 ∧
            t.lib = s.lib ∧ t.mem = s.mem))) ∧
      (let refused := fun (i : Instr) =>
          (s.rsOp ≠ none → ∃ t, exec i s = .next t ∧ t.get pgRS RS_CMD_RES.RESULT = 1 ∧ t.rsOp = s.rsOp ∧ t.lib = s.lib) ∧
          (s.rsOp = none → s.pressOn = true → ∃ t, exec i s = .next t ∧ t.get pgRS RS_CMD_RES.RESULT = 6 ∧ t.rsOp = none) ∧
          (s.rsOp = none → s.pressOn = false → s.mounted = false → ∃ t, exec i s = .next t ∧
            t.get pgRS RS_CMD_RES.RESULT = 4 ∧ t.rsOp = none);
        refused (.libWrite m slot (some d)) ∧ refused (.libErase m slot) ∧ refused (.setStartup m slot) ∧
        refused (.refreshSweepNow m))) ∧
    (s.pageOn pgRS = true → s.rsOp = some o →
      (s.flashWaits = false → (o = .libErase slot ∨ o = .setStartup slot ∨ o = .sweep ∨ o = .format ∨
          (o = .libWrite slot d ∧ (s.flag pgRS RS_HA_REQ.PENDING && s.hostAssisted pgRS) = false)) →
        ∃ t, exec (.cmdDone false) s = .next t ∧ t.rsOp = none ∧ t.get pgRS RS_CMD_RES.RESULT = 0 ∧
          t.get pgRS RS_CMD_RES.BUSY = 0 ∧ bits (t.hdr pgRS 0x010).toNat stRS_CMD_DONE 1 = 1 ∧
          (o = .libErase slot → t.lib = adel s.lib slot) ∧ (o = .libWrite slot d → t.lib = aput s.lib slot d) ∧
          (o = .setStartup slot → t.lib = s.lib ∧ t.get pgRS RS_LIB_STARTUP.SLOT = slot ∧
            t.get pgRS RS_LIB_STARTUP.VALID = 1) ∧
          (o = .sweep → t.lib = s.lib) ∧ (o = .format → t.lib = [] ∧ t.vault = [] ∧ t.mounted = true)) ∧
      (∀ blk pgn, o = .raw op blk pgn d → op = 3 ∨ s.dmaOk = true →
        let w := s.toHost (s.get64 pgRS RS_SRC_ADDR_LO) d
        let z : State := { s with nandOut := .raw op blk pgn d :: s.nandOut }
        exec (.rawDone true) s =
          .next ((((if op = 1 then w else z).rsResult 0).set pgRS RS_RAW.ERR 0).setStatus pgRS stRS_RAW_DONE) ∧
        exec (.rawDone false) s = .next (((s.rsResult 0).set pgRS RS_RAW.ERR 1).setStatus pgRS stRS_RAW_DONE))) ∧
    (s.mounted = true → s.runs pgRS = true → s.pressOn = false → s.flashWaits = false →
      s.flag pgRS PG_INJECT.ARM = false →
      (worst ≤ s.get pgRS RS_REFRESH.THRESH → worst ≤ 100 → exec (.refreshRead part a worst false false) s = .next s) ∧
      (s.get pgRS RS_REFRESH.THRESH < worst → worst ≤ 100 → exec (.refreshRead part a worst false false) s =
        .next ((s.scheduleRefresh part (Config.rowBlock a.toNat % 2 ^ 24)).raiseFault pgRS 0 a accREAD 0x23)) ∧
      (100 < worst → exec (.refreshRead part a worst false false) s = .next (s.raiseFault pgRS 1 a accREAD 0x23))) ∧
    (s.opensF m pgRS RS_HA_ANS.GO = true → bit v.toNat 31 = true → s.flag pgRS RS_HA_REQ.PENDING = true →
      s.hostAssisted pgRS = true → exec (.rsHaAns m v) s = .next (((s.met m pgRS RS_HA_ANS.GO).set pgRS RS_HA_REQ.PENDING
        0).askRefresh (s.get pgRS RS_HA_REQ.PART))) ∧
    (s.opensF m pgRS RS_RAW.OP = true → s.accepts pgRS = true → s.rsOp = none → s.pressOn = false →
      2 ≤ s.get pgRS RS_STATE.STATE →
      let raw := fun (i : Instr) (k : Nat) (l : List Byte) =>
        (s.hostAssisted pgRS = true → s.readOnly = false →
          ∃ t, exec i s = .next t ∧ t.mem = s.mem ∧
            (Config.bootCopyBlock (bits v.toNat 0 24) = false → t.get pgRS RS_CMD_RES.BUSY = 1 ∧
              t.rsOp = some (.raw k (bits v.toNat 0 24) (s.get pgRS RS_RAW.PAGE) l)) ∧
            (Config.bootCopyBlock (bits v.toNat 0 24) = true → t.rsOp = none ∧ t.get pgRS RS_CMD_RES.RESULT = 7)) ∧
        (s.hostAssisted pgRS = false → ∃ t, exec i s = .next t ∧ t.rsOp = none ∧ t.get pgRS RS_RAW.ERR = 1 ∧
          t.get pgRS RS_CMD_RES.RESULT = 7 ∧ bits (t.hdr pgRS 0x010).toNat stRS_RAW_DONE 1 = 1);
      raw (.rawReadPage m v d) 1 d ∧ raw (.rawProgramPage m v d) 2 d ∧ raw (.rawEraseBlock m v) 3 []) ∧
    (s.pageOn pgRS = true → s.present pgRS = true → s.get pgRS RS_STATE.STATE ≠ 0 →
      exec (.nandNotResponding a) s = .next (s.raiseFault pgRS 3 a accREAD 0x23))

/-- OPEN_TXN, APPEND, COMMIT, ABANDON, GET_KEY, OP_DONE, COMMIT_DONE, CAPTURE_ENABLE, CAPTURE_TRIGGER, REARM, CAP_RD, READ_DONE
(R395-R399, R402-R404, R412): one transaction at a time, its owner's only; an append joins its entries; a commit is taken
unless the vault is in HOLD_OFF, and once done its records stand in the vault, each key with its last record; a get of a key
that is not there answers NO_KEY. A capture stream records from empty, a trigger freezes it after its further blocks, and a
read answers the blocks that it holds. That a commit asks the peer is log entry 64 (DEDUCED). -/
def Obligations.VaultAndCaptureKeepData : Prop :=
  ∀ (m : Master) (n : Nat) (x : Txn) (l : List VtRec) (d : List Byte) (bad : Bool) (bads : List Nat) (c : CapRead)
      (e : TrigAt) (s z : State), n < 16 →
    (s.opensF m pgVT RS_VT_CMD.OP = true → s.accepts pgVT = true → s.vtOp = none → s.pressOn = false → s.mounted = true →
      (s.readOnly = false →
        (s.txn = none → s.vtCommit = none → ∃ t, exec (.openTxn m) s = .next t ∧ t.txn = some ⟨m.id, [], 0, 0, false⟩ ∧
          t.get pgVT RS_VT_STATUS.RESULT = 0 ∧ t.get pgVT RS_VT_STATUS.OPEN = 1 ∧ t.vault = s.vault) ∧
        (s.txn = some x → ∃ t, exec (.openTxn m) s = .next t ∧ t.txn = some x ∧ t.get pgVT RS_VT_STATUS.RESULT = 1) ∧
        (s.txn = some x → x.owner = m.id →
          (∃ t, exec (.append m (some d)) s = .next t ∧ t.vtOp = some (.append (some d)) ∧ t.txn = some x) ∧
          (∃ t, exec (.abandon m) s = .next t ∧ t.txn = none ∧ t.get pgVT RS_VT_STATUS.RESULT = 0 ∧
            t.vault = s.vault) ∧
          (s.vtCommit = none → s.vtRebuild = false → s.holdOff (min n x.bytes) = true → ∃ t, exec (.commit m n false true) s = .next t ∧
            t.txn = some x ∧ t.vtCommit = none ∧ t.get pgVT RS_VT_STATUS.RESULT = 6 ∧ t.vault = s.vault) ∧
          (s.vtCommit = none → s.vtRebuild = false → s.holdOff (min n x.bytes) = false → (applyRecs s.vault x.recs).length ≤ 262144 →
            s.get pgTW TW_STATUS.ROLE = 0 → s.flag pgTW TW_STATUS.LINK_UP = false →
            ∃ t, exec (.commit m n false true) s = .next t ∧ t.txn = none ∧
              t.vtCommit = some { x with unwritten := min n x.bytes, solo := s.unpairedVault } ∧ t.get pgVT RS_VT_STATUS.RESULT = 0 ∧
              t.get pgVT RS_VT_SEQ = (s.get pgVT RS_VT_SEQ + 1) % 2 ^ 32 ∧
              t.get pgVT RS_VT_STATUS.COMMITTING = 1 ∧ t.vault = s.vault)) ∧
        (s.txn = some x → x.owner ≠ m.id →
          (∃ t, exec (.append m (some d)) s = .next t ∧ t.txn = some x ∧ t.get pgVT RS_VT_STATUS.RESULT = 3) ∧
          (∃ t, exec (.abandon m) s = .next t ∧ t.txn = some x ∧ t.get pgVT RS_VT_STATUS.RESULT = 3) ∧
          (∃ t, exec (.commit m n false true) s = .next t ∧ t.txn = some x ∧ t.get pgVT RS_VT_STATUS.RESULT = 3))) ∧
      (∃ t, exec (.getKey m bad) s = .next t ∧ t.vtOp = some (.get bad) ∧ t.txn = s.txn ∧ t.vault = s.vault)) ∧
    (s.dmaOk = true →
      (s.vtOp = some (.append (some d)) → s.txn = some x → parseEntries (d.length / 16 + 1) d = some l →
        x.bytes + d.length ≤ 2 ^ 20 → x.recs.length + l.length ≤ 1024 → ∃ t, exec (.opDone false) s = .next t ∧
          t.vtOp = none ∧ t.txn = some { x with recs := x.recs ++ l, bytes := x.bytes + d.length } ∧
          t.get pgVT RS_VT_STATUS.RESULT = 0 ∧ t.vault = s.vault) ∧
      (s.vtOp = some (.append (some d)) → s.txn = some x → ∃ t, exec (.opDone true) s = .next t ∧ t.txn = none ∧
        t.get pgVT RS_VT_STATUS.RESULT = 11) ∧
      (s.vtOp = some (.get bad) → aget s.vault (s.get64 pgVT RS_VT_KEY_LO) = none →
        ∃ t, exec (.opDone false) s = .next t ∧ t.vtOp = none ∧ t.get pgVT RS_VT_STATUS.RESULT = 10)) ∧
    (s.vtCommit = some x → ∃ t, exec .commitDone s = .next t ∧ t.vtCommit = none ∧
      t.vault = applyRecs s.vault x.recs ∧ t.get pgVT RS_VT_DURABLE = s.get pgVT RS_VT_SEQ ∧
      t.get pgVT RS_VT_STATUS.COMMITTING = 0 ∧ bits (t.hdr pgVT 0x010).toNat stVT_COMMIT_DONE 1 = 1 ∧
      t.get pgVT RS_VT_STATUS.SOLO = b2n (x.solo || s.unpairedVault)) ∧
    (s.opensF m pgCAP RS_CAP_CFG.EN n = true →
      (s.get pgCAP RS_CAP_CFG.EN n = 0 → ∃ t, exec (.captureEnable m n true) s = .next t ∧
        t.get pgCAP RS_CAP_CFG.EN n = 1 ∧ t.get pgCAP RS_CAP_STATE n = 1 ∧ t.get pgCAP RS_CAP_NEXT n = 0 ∧
        t.get pgCAP RS_CAP_OLDEST n = 0 ∧ t.cap n = ⟨[], 0⟩ ∧ t.mem = s.mem) ∧
      (∃ t, exec (.captureEnable m n false) s = .next t ∧ t.get pgCAP RS_CAP_CFG.EN n = 0 ∧
        t.get pgCAP RS_CAP_STATE n = 0 ∧ t.cap n = s.cap n ∧ t.mem = s.mem) ∧
      (s.get pgCAP RS_CAP_STATE n = 3 → s.get pgCAP RS_CAP_CFG.EN n = 1 → ∃ t, exec (.rearm m n) s = .next t ∧
        t.get pgCAP RS_CAP_STATE n = 1 ∧ t.cap n = s.cap n ∧ t.mem = s.mem)) ∧
    (s.get pgCAP RS_CAP_STATE n = 1 →
      let fires := fun (hw : Bool) (at' : Nat) => ∃ t, exec (.captureTrigger m n hw) s = .next t ∧
        t.get pgCAP RS_CAP_TRIG_BLK n = s.get pgCAP RS_CAP_NEXT n ∧ t.get64 pgCAP RS_CAP_TRIG_TIME_LO n = at' ∧
        t.get pgCAP RS_CAP_STATE n = (if s.get pgCAP RS_CAP_POST n = 0 then 3 else 2) ∧
        (t.cap n).blocks = (s.cap n).blocks ∧ (t.cap n).left = s.get pgCAP RS_CAP_POST n ∧ t.mem = s.mem;
      (s.opensF m pgCAP RS_CAP_CFG.TRIGGER n = true → fires false s.now) ∧
      (s.takeTrig (· == .cap n) = some (e, z) → fires true e.time.toNat)) ∧
    (s.opensF m pgCAP RS_CAP_RD.GO = true → s.capRead = none → s.pressOn = false → s.mounted = true →
      s.accepts pgCAP = true → exec (.capRd m) s = .next { s.met m pgCAP RS_CAP_RD.GO with
        capRead := some ⟨s.get pgCAP RS_CAP_RD.STREAM, s.get pgCAP RS_CAP_RD_FIRST, s.get pgCAP RS_CAP_RD_COUNT,
          s.get64 pgCAP RS_CAP_RD_ADDR_LO⟩ }) ∧
    (s.capRead = some c → s.dmaOk = true → exec (.readDone bads) s =
      .next (({ s with capRead := none }.copyBlocks c bads ((List.range c.count).map (c.first + ·)) 0 0).setStatus pgCAP
        stCAP_READ_DONE))

/-- PRESS_ARMED, VIN_FALL, PWR_FAIL, HOLDUP_TRIP, PRESS_TRIG, PRESS_STEP_DONE, ENERGY_MEASUREMENT, ENERGY_STALE, SAVE (R405,
R407, R408, R411, R412, R423): an enabled press arms after 1,000 ticks of LO crossed; each trigger starts it with its cause,
and no trigger starts a press that is not ready; its steps complete one after the other, the sixth ending in a resume or in
HOLD; a measurement gives the hold-up energy and RS_VT_STATUS.HOLD_OFF says what R412 says; a stale one is flagged; the saved
parameters are the page's. The rounding of the quotients is free (log entry 8). -/
def Obligations.ThePressRuns : Prop :=
  ∀ (m : Master) (cause at' : Nat) (y : Int) (hold pf : Bool) (p : Press) (s : State),
    (s.flag pgPR RS_PR_CTRL.EN = true → s.flag pgPR RS_PR_STATE.ARMED = false → 1000 ≤ s.pressRuns.lo →
      ∃ t, exec .pressArmed s = .next t ∧ t.flag pgPR RS_PR_STATE.ARMED = true ∧
        bits (t.hdr pgPR 0x010).toNat stPR_ARMED 1 = 1 ∧ t.mem = s.mem) ∧
    (2 ≤ s.pressRuns.loOff → exec .vinFall s = .next (s.pressStart 1 false)) ∧
    (s.flag pgPR RS_PR_CTRL.PWR_FAIL_EN = true → s.tbRun = true → exec .pwrFail s = .next (s.pressStart 2 false)) ∧
    (s.flag pgPR RS_PR_CTRL.HU_TRIP_EN = true → 2 ≤ s.pressRuns.huOff → exec .holdupTrip s = .next (s.pressStart 3 false)) ∧
    (s.opensF m pgPR RS_PR_CTRL.TRIG = true → exec (.pressTrig m) s =
      .next ((s.met m pgPR RS_PR_CTRL.TRIG).pressStart 4 (s.flag pgPR RS_PR_CTRL.TRIG_HOLD))) ∧
    (s.pressReady = false → s.pressStart cause hold = s) ∧
    (s.pressStops.txn = none ∧ s.pressStops.vtOp = none ∧ s.pressStops.capRead = none ∧
      s.pressStops.rsOp = none ∧ s.pressStops.bfeFetch = none ∧ (∀ l, s.pressStops.cfgOp ≠ .load l)) ∧
    (s.press = some p →
      let k := s.get pgPR RS_PR_STATE.STEP
      (k < 6 → exec (.pressStepDone pf) s = .next ((s.pressDone k).set pgPR RS_PR_STATE.STEP (k + 1))) ∧
      (k = 6 → s.powerBack pf = true → p.hold = false →
        exec (.pressStepDone pf) s = .next (((s.pressDone 6).pressResume p).setStatus pgPR stPR_RESUMED)) ∧
      (k = 6 → s.powerBack pf = false ∨ p.hold = true → exec (.pressStepDone pf) s = .next (s.pressDone 6).pressHold)) ∧
    (s.press = none → s.holdEntry = true → exec (.pressStepDone pf) s = .next s.surrender.enterHold) ∧
    s.syncHoldOff.flag pgVT RS_VT_STATUS.HOLD_OFF = s.holdOff 0 ∧
    (s.energySample = some (at', y) → ∃ t, exec .energyMeasurement s = .next t ∧ t.energyAt = some at' ∧
      let uv := (y * 625 / 2).toNat
      t.energyUv = uv ∧ t.energySample = none ∧
      t.energyTold = false ∧ t.get pgPR RS_PR_VHU.STALE = 0 ∧
      min (uv * s.get pgPR RS_PR_DIV / 256000) 0xFFFF ≤ t.get pgPR RS_PR_VHU.MV ∧
      t.get pgPR RS_PR_VHU.MV ≤ min (uv * s.get pgPR RS_PR_DIV / 256000 + 1) 0xFFFF ∧
      t.flag pgVT RS_VT_STATUS.HOLD_OFF = t.holdOff 0 ∧ t.mem = s.mem) ∧
    (s.energyTold = false → s.tbRun = true → s.energyAt.getD 0 + 11000000 < s.clk →
      let u := (({ s with energyTold := true }.set pgPR RS_PR_VHU.STALE 1).setStatus pgPR stPR_STALE).syncHoldOff
      exec .energyStale s = .next (if s.flag pgPR RS_PR_CTRL.EN then u.raiseFault pgPR 0 0 accREAD 0x23 else u)) ∧
    (s.opensF m pgPR RS_PR_CTRL.SAVE = true → s.mounted = true → s.readOnly = false → s.pressOn = false →
      ∃ t, exec (.save m) s = .next t ∧ t.regs = s.regs ∧ t.prSaved.length = 8 ∧
        t.prSaved.getD 0 0 = (s.reg (pgPR * 0x1000 + 0x040) &&& 0x1D#32) ∧
        ∀ i, 1 ≤ i → i < 8 → t.prSaved.getD i 0 = s.reg (pgPR * 0x1000 + 0x040 + 4 * i))

/-- READ_ID, READ_SFDP, READ_STATUS, WRITE_ENABLE, WRITE_DISABLE, WRITE_VOLATILE_CONFIGURATION, READ, FAST_READ, OCTAL_DDR_READ,
PAGE_PROGRAM, ERASE_4K, ERASE_64K, CHIP_ERASE, RESET_ENABLE, RESET, WIP_CLEAR, BFE_RST (R414-R418): what the port answers
while no program or erase is in hand. A read returns the bytes of the served image in the mode that the port is in; a program
or an erase needs WEL, clears it and sets WIP, and changes no byte of the served image before WIP clears. The SFDP table and
the bytes beyond the emulated size are free (log entries 11 and 7). -/
def Obligations.TheBootFlashPortAnswers : Prop :=
  ∀ (addr n : Nat) (data : Byte) (d : List Byte) (o : BfeOp) (s : State), s.bfeOn = true →
    let b := s.bfePort
    let idle : State := { s with bfePort := { b with rstEn := false } }
    (exec .readStatus s = .next (idle.answer [BitVec.ofNat 8 (b2n b.wip.isSome + 2 * b2n b.wel)])) ∧
    (exec .bfeRst s = .next { s with bfePort := { b with octal := false, rstEn := false } }) ∧
    (b.wip = none →
      exec (.readId n) s = .next (idle.answer ((List.range n).map fun i =>
        if i = 0 then 0x53 else if i = 1 then 0x9B else BitVec.ofNat 8 (0x1A + s.bfeSize))) ∧
      exec (.readSfdp addr n) s =
        .next (idle.answer ((List.range n).map fun i => Config.sfdp s.bfeSize b.dummy (addr + i))) ∧
      exec .writeEnable s = .next { s with bfePort := { b with wel := true, rstEn := false } } ∧
      exec .writeDisable s = .next { s with bfePort := { b with wel := false, rstEn := false } } ∧
      exec (.writeVolatileConfiguration 0 0xE7) s = .next { s with bfePort := { b with octal := true, rstEn := false } } ∧
      (8 ≤ data.toNat → data.toNat ≤ 20 → exec (.writeVolatileConfiguration 1 data) s =
        .next { s with bfePort := { b with dummy := data.toNat, rstEn := false } }) ∧
      (¬(addr = 0 ∧ data = 0xE7) → ¬(addr = 1 ∧ 8 ≤ data.toNat ∧ data.toNat ≤ 20) →
        exec (.writeVolatileConfiguration addr data) s = .next idle) ∧
      exec .resetEnable s = .next { s with bfePort := { b with rstEn := true } } ∧
      (b.rstEn = true →
        exec .resetPort s = .next { s with bfePort := { b with octal := false, rstEn := false, dummy := 20 } }) ∧
      (b.rstEn = false → exec .resetPort s = .next idle) ∧
      (∀ img, img = s.bfeServed → addr + n ≤ s.bfeBytes → s.flag pgBFE PG_INJECT.ARM = false →
        let reads := fun (i : Instr) => ∃ t, exec i s = .next t ∧
          t.resp = (List.range n).map (fun i => s.imgByte img (addr + i)) ∧
          t.get pgBFE BFE_READS = wrapInc 32 (s.get pgBFE BFE_READS) ∧ t.bfeImg = s.bfeImg ∧
          t.bfePort = idle.bfePort ∧ t.mem = s.mem;
        (b.octal = false → reads (.read addr n) ∧ reads (.fastRead addr n)) ∧
        (b.octal = true → reads (.octalDdrRead addr n))) ∧
      (b.octal = true → exec (.read addr n) s = .next idle ∧ exec (.fastRead addr n) s = .next idle) ∧
      (b.octal = false → exec (.octalDdrRead addr n) s = .next idle) ∧
      (addr < s.bfeBytes → d.length ≤ 256 →
        let changes := fun (i : Instr) (op : BfeOp) =>
          (s.bfeWritable = true → b.wel = true → ∃ t, exec i s = .next t ∧ t.bfePort.wip = some op ∧
            t.bfePort.wel = false ∧ bits (t.hdr pgBFE 0x010).toNat stBFE_HOST_WRITE 1 = 1 ∧
            (∀ a, a < 2 ^ 32 → t.imgByte s.bfeActive a = s.imgByte s.bfeActive a) ∧ t.mem = s.mem) ∧
          (s.bfeWritable = false ∨ b.wel = false → exec i s = .next idle);
        changes (.pageProgram addr d) ⟨addr, 256, some d⟩ ∧
        changes (.erase4k addr) ⟨addr / 0x1000 * 0x1000, 0x1000, none⟩ ∧
        changes (.erase64k addr) ⟨addr / 0x10000 * 0x10000, 0x10000, none⟩ ∧
        changes .chipErase ⟨0, s.bfeBytes, none⟩)) ∧
    (b.wip = some o → exec (.readId n) s = .next s ∧ exec .writeEnable s = .next s ∧ exec .resetEnable s = .next s ∧
      exec (.read addr n) s = .next s ∧ exec .chipErase s = .next s ∧
      exec .wipClear s = .next s.bfeFinish ∧ s.bfeFinish.bfePort = { b with wip := none } ∧
      (o.data = none → ∀ a, a < 2 ^ 32 → s.bfeFinish.imgByte s.bfeOther a =
        if o.addr ≤ a ∧ a < o.addr + o.len then 0xFF else s.imgByte s.bfeOther a) ∧
      (∀ a, a < 2 ^ 32 → o.addr < 2 ^ 32 → s.bfeFinish.imgByte s.bfeActive a = s.imgByte s.bfeActive a)) ∧
    (b.wip = none → exec .wipClear s = .next s)

/-- HOST_RESET_ASSERT, HOST_RESET_RELEASE, BOOT_OK, BFE_COMMIT, BFE_DISCARD, BFE_UPD, UPD_DONE (R417-R419, R424): an assertion
switches to a committed image, or falls back after MAX_TRIES tries if the other image is valid; a release counts a try and
BOOT_OK clears the count; a commit makes the update image valid and pending; a discard abandons it; an update starts an erase
and a program that UPD_DONE ends. When the edges reach the port is log entry 72 (DEDUCED). -/
def Obligations.BootImagesSwitch : Prop :=
  ∀ (m : Master) (d : List Byte) (o : BfeOp) (s : State),
    (s.hostRstDue = some true →
      let u : State := { s.bfe1S with hostRstDue := none }
      (s.flag pgBFE BFE_IMAGE.COMMIT_PENDING = true → ∃ t, exec .hostResetAssert s = .next t ∧
        t.bfeActive = s.bfeOther ∧ t.flag pgBFE BFE_IMAGE.COMMIT_PENDING = false ∧ t.get pgBFE BFE_BOOT.TRIES = 0 ∧
        t.bfePort.octal = false ∧ bits (t.hdr pgBFE 0x010).toNat stBFE_SWITCHED 1 = 1 ∧ t.bfeImg = s.bfeImg) ∧
      (s.flag pgBFE BFE_IMAGE.COMMIT_PENDING = false →
        (s.get pgBFE BFE_BOOT.TRIES < s.get pgBFE BFE_BOOT.MAX_TRIES ∨ s.imgValid s.bfeOther = false →
          exec .hostResetAssert s = .next u) ∧
        (s.get pgBFE BFE_BOOT.MAX_TRIES ≤ s.get pgBFE BFE_BOOT.TRIES → s.imgValid s.bfeOther = true →
          ∃ t, exec .hostResetAssert s = .next t ∧ t.bfeActive = s.bfeOther ∧ t.get pgBFE BFE_BOOT.FELL_BACK = 1 ∧
            t.get pgBFE BFE_BOOT.TRIES = 0 ∧ bits (t.hdr pgBFE 0x010).toNat stBFE_FALLBACK 1 = 1))) ∧
    (s.hostRstDue = some false → ∃ t, exec .hostResetRelease s = .next t ∧ t.hostRstDue = none ∧
      t.get pgBFE BFE_BOOT.TRIES = satInc 8 (s.get pgBFE BFE_BOOT.TRIES) ∧ t.mem = s.mem) ∧
    (s.opensF m pgBFE BFE_BOOT.BOOT_OK = true →
      exec (.bootOk m) s = .next ((s.met m pgBFE BFE_BOOT.BOOT_OK).set pgBFE BFE_BOOT.TRIES 0)) ∧
    (s.opensF m pgBFE BFE_CTRL.COMMIT = true →
      (s.locked pgBFE 9 = false → s.pressOn = false → s.flag pgBFE BFE_IMAGE.UPDATING = true →
        ∃ t, exec (.bfeCommit m) s = .next t ∧ t.imgValid s.bfeOther = true ∧
          t.flag pgBFE BFE_IMAGE.COMMIT_PENDING = true ∧ t.flag pgBFE BFE_IMAGE.UPDATING = false ∧
          bits (t.hdr pgBFE 0x010).toNat stBFE_COMMIT_DONE 1 = 1 ∧ t.bfeActive = s.bfeActive ∧ t.bfeImg = s.bfeImg) ∧
      (s.locked pgBFE 9 = true ∨ s.pressOn = true ∨ s.flag pgBFE BFE_IMAGE.UPDATING = false →
        exec (.bfeCommit m) s = .next (s.met m pgBFE BFE_CTRL.COMMIT))) ∧
    (s.opensF m pgBFE BFE_CTRL.DISCARD = true →
      exec (.bfeDiscard m) s = .next ((s.met m pgBFE BFE_CTRL.DISCARD).set pgBFE BFE_IMAGE.UPDATING 0)) ∧
    (s.opensF m pgBFE BFE_UPD.GO = true → s.bfeWritable = true → s.accepts pgBFE = true → s.bfeUpd = none →
      s.bfeFetch = none → s.bfePort.wip = none →
      (s.dmaOk = false → exec (.bfeUpd m (some d)) s = .next { s.met m pgBFE BFE_UPD.GO with
        bfeFetch := some (s.get pgBFE BFE_UPD_OFF, (s.get pgBFE BFE_UPD.LEN, some d)) }) ∧
      (s.dmaOk = true → ∃ t, exec (.bfeUpd m (some d)) s = .next t ∧
        t.bfeUpd = some ⟨s.get pgBFE BFE_UPD_OFF, s.get pgBFE BFE_UPD.LEN, some d⟩ ∧
        t.flag pgBFE BFE_IMAGE.UPDATING = true ∧ t.mem = s.mem) ∧
      (s.dmaOk = true → exec (.bfeUpd m none) s = .next ((s.met m pgBFE BFE_UPD.GO).raiseFault pgBFE 1
        (BitVec.ofNat 32 (s.get pgBFE BFE_UPD_OFF)) accDMAR 0x23))) ∧
    (s.bfeUpd = some o → ∃ t, exec .updDone s = .next t ∧ t.bfeUpd = none ∧
      bits (t.hdr pgBFE 0x010).toNat stBFE_UPD_DONE 1 = 1 ∧ t.mem = s.mem)


-- Faults and recovery (chapter 15) -----------------------------------------------------------------------------------------

/-- FAULT_DETECTED, FAULT_REGISTER_PARITY_CHECK, MP_WATCH_EXPIRY, MP_HEARTBEAT, FIRMWARE_RESTART_DONE, ERROR_PULSE_END,
NMI_PULSE_END (R52, R53, R426, R429, R431, R433, R437, R439, R442, R450, R455). A fault of a working page's checker whose reaction is
LOG, which asks for no ERROR# and has no local effect, while no ring carries the fault log: flag and count of its class rise
in PG_FAULT, the first-error capture takes it if it is armed and stays if it holds an earlier fault, and no register outside
PG_FAULT, the capture and the MSI-X table changes. With another reaction the state so counted traps, resets the block, or
enters the safe state. An injected fault is spent. Which class a source has is R425's list (`srcClass`); a checker of an
unpowered, absent or disabled page reports nothing (log entry 24, DEDUCED); local effects follow R427 (log entry 73,
DEDUCED). -/
def Obligations.FaultsReactInOrder : Prop :=
  ∀ (pg i src : Nat) (k : PageKind) (addr : Word) (acc mas off : Nat) (bad : Bool) (s : State),
    let cls := srcClass pg src
    let f : FaultRec := ⟨src, cls, addr, acc, mas, false⟩
    let u : State := (if s.captures pg f then s.writeCapture pg f else s).countFault pg cls
    let v : State := if s.assertsError pg f then u.errorCause else u
    let act := s.get pg PG_FAULT_REACT.SRC 0 src % 8
    (pageAt pg = some (k, i) →
      (s.checksOf pg = false ∨ cls = 0 → ∀ inj, exec (.faultDetected pg src addr acc mas inj) s = .next s) ∧
      (s.flag pg PG_INJECT.ARM = false → exec (.faultDetected pg src addr acc mas true) s = .next s) ∧
      (s.checksOf pg = true → cls ≠ 0 → s.flag pg PG_INJECT.ARM = true →
        ((srcCheckers k src).contains (s.get pg PG_INJECT.CHECKER) = true →
          exec (.faultDetected pg src addr acc mas true) s = .next ((s.spendInjection pg).raiseFault pg src addr acc mas
            (fun x => x.localEffect k i src addr.toNat acc) true)) ∧
        ((srcCheckers k src).contains (s.get pg PG_INJECT.CHECKER) = false →
          exec (.faultDetected pg src addr acc mas true) s = .next s)) ∧
      (s.checksOf pg = true → cls = 1 ∨ cls = 2 → (k = .rs0 → src ≠ 2) → (k = .tnd → src ≠ 2) →
        (∀ x : State, x.localEffect k i src addr.toNat acc = x) → s.flag pg PG_MODE.FAULT = false →
        pg ∉ s.fregBad → (s.ringOf srcFaultLog).isNone = true →
        (s.get pg PG_FAULT_REACT.SRC 0 src = 0 →
          ∃ t, exec (.faultDetected pg src addr acc mas false) s = .next t ∧
            (t.hdr pg 0x018).toNat % 8 = Nat.lor ((s.hdr pg 0x018).toNat % 8) (2 ^ (cls - 1)) ∧
            (cls = 1 → t.get pg PG_FAULT.CORR_COUNT = satInc 8 (s.get pg PG_FAULT.CORR_COUNT) ∧
              t.get pg PG_FAULT.CONT_COUNT = s.get pg PG_FAULT.CONT_COUNT) ∧
            (cls = 2 → t.get pg PG_FAULT.CONT_COUNT = satInc 8 (s.get pg PG_FAULT.CONT_COUNT) ∧
              t.get pg PG_FAULT.CORR_COUNT = s.get pg PG_FAULT.CORR_COUNT) ∧
            (s.flag pg PG_FE_SRC.VALID = false → t.reg (pg * 0x1000 + 0x020) = addr ∧
              t.reg (pg * 0x1000 + 0x024) = BitVec.ofNat 32
                (2 ^ 31 + cls * 2 ^ 16 + src % 16 * 2 ^ 12 + acc % 16 * 2 ^ 8 + mas % 256) ∧
              t.get64 pg PG_FE_TIME_LO = s.now) ∧
            (s.flag pg PG_FE_SRC.VALID = true → s.get64 pg PG_FE_TIME_LO ≠ s.now → ∀ o ∈ [0x020, 0x024, 0x028, 0x02C],
              t.reg (pg * 0x1000 + o) = s.reg (pg * 0x1000 + o)) ∧
            t.mem = s.mem ∧ t.errPin = s.errPin ∧ (∀ o, o < msixBase → o ∉ [pg * 0x1000 + 0x018, pg * 0x1000 + 0x020,
              pg * 0x1000 + 0x024, pg * 0x1000 + 0x028, pg * 0x1000 + 0x02C] → t.reg o = s.reg o)) ∧
        (∀ t : State, (t.ringOf srcFaultLog).isNone = true →
          (act = 1 ∧ t = v.faultVector pg cls) ∨ (act = 2 ∧ t = v.trap pg src) ∨
            (act = 5 ∧ t = v.enterSafe 1 (s.pgType pg) (s.pgInst pg) src) ∨
            (act = 3 ∧ s.safe = false ∧ t = v.resetChecked pg ⟨2, cutAttr (s.pgType pg) (s.pgInst pg) src cls⟩) ∨
            ((act = 3 ∨ act = 4) ∧ s.safe = true ∧ t = v) →
          exec (.faultDetected pg src addr acc mas false) s = .next t))) ∧
    (s.present pgTND = true → s.unpowered = false →
      (s.present pg = true → off ∈ parityRegs → bad = true ∨ (off = 0x01C ∧ pg ∈ s.fregBad) →
        exec (.faultRegisterParityCheck pg off bad) s = .next
          ((if off = 0x01C ∧ pg ∈ s.fregBad then { s with fregBad := s.fregBad.filter (· != pg) } else s : State).raiseOwn
            pgTND 2 (BitVec.ofNat 32 (pg * 0x1000 + off)))) ∧
      (off ∉ parityRegs ∨ (bad = false ∧ pg ∉ s.fregBad) →
        exec (.faultRegisterParityCheck pg off bad) s = .next s) ∧
      (s.mpDown = false → s.flag pgTND TND_WATCH.MP_EN = true →
        exec .mpWatchExpiry s = .next (s.raiseOwn pgTND 3 0 State.mpRestart)) ∧
      (s.mpDown = true ∨ s.flag pgTND TND_WATCH.MP_EN = false → exec .mpWatchExpiry s = .next s)) ∧
    (s.mpRestart.mpDown = true ∧ s.mpRestart.get pgTND TND_MP_RESTARTS = wrapInc 16 (s.get pgTND TND_MP_RESTARTS) ∧
      bits (s.mpRestart.hdr pgTND 0x010).toNat stMP_RESTART 1 = 1) ∧
    exec .mpHeartbeat s = .next s ∧ exec .firmwareRestartDone s = .next { s with mpDown := false } ∧
    exec .errorPulseEnd s = .next { s with errPulse := none, errPin := s.errPin && s.errorHeld } ∧
    (∃ t, exec .nmiPulseEnd s = .next t ∧ t.nmiHeld = false ∧ t.flag pgTND TND_STATUS.NMI = s.flag pgTND TND_TRAP.PENDING ∧
      t.mem = s.mem)

/-- KEYED_CHIP_RESET, KEYED_SAFE, KEYED_SURRENDER, INJECT_FREG, TND_TRAP_CLEAR, TENDER_VOTE, RESET_PIN, RESET_PIN_RELEASE,
POWER_ON_RESET (R442, R453, R454, R456-R459, R527). The command word of a keyed command acts only after its two keys, and
not at all after a lost vote (log entry 20, DEDUCED); equal copies and a repaired one leave the vote in force, three
different ones lose it; a chip reset that RESET# asks for holds until the pin rises. The effects of a chip reset are log
entry 75's reading (DEDUCED). -/
def Obligations.TheTenderActs : Prop :=
  ∀ (m : Master) (pg : Nat) (p : PageKind × Nat) (a b c : Nat) (s : State),
    let off := TND_CMD.addr pgTND 0
    let x := s.met m pgTND TND_CMD
    let u := (x.setKey m off 0).setStatus pgTND stCMD_DONE
    (s.opensF m pgTND TND_CMD = true →
      let each := fun (z : State) => exec (.keyedChipReset m) s = .next z ∧ exec (.keyedSafe m) s = .next z ∧
        exec (.keyedSurrender m) s = .next z ∧ exec (.injectFreg m pg) s = .next z;
      (s.flag pgTND TND_STATUS.VOTE_LOST = true → each x) ∧
      (s.flag pgTND TND_STATUS.VOTE_LOST = false →
        (s.keyStage m off ≠ 2 → each (x.setKey m off 0)) ∧
        (s.keyStage m off = 0 → ∃ s1 s2, exec (.registerWrite m off 0x544E4443) s = .next s1 ∧
          exec (.registerWrite m off 0xABB1BBBC) s1 = .next s2 ∧ s2.keyStage m off = 2 ∧ s2.regs = s.regs ∧
          s2.mem = s.mem) ∧
        (s.keyStage m off = 2 →
          exec (.keyedChipReset m) s = .next ((u.chipReset (plainCause 2)).startUp) ∧
          exec (.keyedSafe m) s = .next (u.enterSafe 2 0 0 0) ∧
          exec (.keyedSurrender m) s = .next u.surrender ∧
          (s.locked pgTND 9 = false → pageAt pg = some p → s.present pg = true →
            ∃ t, exec (.injectFreg m pg) s = .next t ∧ pg ∈ t.fregBad ∧ (∀ q ∈ s.fregBad, q ∈ t.fregBad) ∧
              bits (t.hdr pgTND 0x010).toNat stCMD_DONE 1 = 1 ∧ t.mem = s.mem) ∧
          (s.locked pgTND 9 = true → exec (.injectFreg m pg) s = .next (x.setKey m off 0)) ∧
          (s.locked pgTND 9 = false → pg < 256 → pageAt pg = none ∨ s.present pg = false →
            exec (.injectFreg m pg) s = .next ((x.setKey m off 0).setStatus pgTND stCMD_REJECT))))) ∧
    (s.opensF m pgTND TND_TRAP.PENDING = true → ∃ t, exec (.tndTrapClear m) s = .next t ∧
      t.flag pgTND TND_TRAP.PENDING = false ∧ t.flag pgTND TND_STATUS.NMI = s.nmiHeld ∧
      t.get pgTND TND_TRAP.SOURCE = s.get pgTND TND_TRAP.SOURCE ∧ t.mem = s.mem) ∧
    (s.unpowered = false → s.flag pgTND TND_STATUS.VOTE_LOST = false →
      exec (.tenderVote a a a) s = .next s ∧
      (a ≠ b →
        let fixed := fun (n : Nat) => (s.raiseOwn pgTND 0 (BitVec.ofNat 32 n) fun y => y.incSat pgTND TND_VOTE).setStatus
          pgTND stVOTE_FIX_TND;
        exec (.tenderVote a b b) s = .next (fixed 0) ∧ exec (.tenderVote b a b) s = .next (fixed 1) ∧
        exec (.tenderVote b b a) s = .next (fixed 2)) ∧
      (a ≠ b → b ≠ c → a ≠ c → exec (.tenderVote a b c) s = .next
        (((s.set pgTND TND_STATUS.VOTE_LOST 1).enterSafe 4 0 0 0).surrender.syncHealthy)) ∧
      (s.resetLow = false →
        (s.power ≠ powerHOLD → exec .resetPin s = .next { s.chipReset (plainCause 1) with resetLow := true }) ∧
        (s.power = powerHOLD → exec .resetPin s = .next { s.wakeHold 1 with resetLow := true })) ∧
      (s.resetLow = true → exec .resetPin s = .next s)) ∧
    (s.resetLow = true → s.power ≠ powerHOLD →
      exec .resetPinRelease s = .next (State.startUp { s with resetLow := false })) ∧
    (s.resetLow = true → s.power = powerHOLD → exec .resetPinRelease s = .next { s with resetLow := false }) ∧
    (s.resetLow = false → exec .resetPinRelease s = .next s) ∧
    exec .powerOnReset s = .next s.powerOn ∧
    (s.powerOn.hostRst = true ∧ s.powerOn.unpowered = false ∧ s.powerOn.resetLow = false ∧ s.powerOn.errPin = false ∧
      s.powerOn.vault = s.vault ∧ s.powerOn.lib = s.lib ∧ s.powerOn.bfeImg = s.bfeImg ∧ s.powerOn.caps = s.caps ∧
      (s.powerOn.suppliesOk = true → s.powerOn.get pgTND TND_STATUS.STEP = 1)) ∧
    (s.safe = true → s.enterSafe a b c pg = s.errorCause)

-- The twin link and the span link (chapter 16) ----------------------------------------------------------------------------

/-- TWIN_FRAME, TWIN_LINK_TIMEOUT, LINK_TRAINED, HEARTBEAT_SEND, MISSED_HEARTBEAT, HEARTBEAT_LOST, TWIN_PEER_CHANGE, CLAIM_STANDS,
CLAIM_WAIT_EXPIRY, PAD_HOLD_EXPIRY, SYNCED (R464-R482): heartbeats are sent, received, missed and lost; a listening device claims,
waits or becomes the secondary; a claim that stands makes a primary; mirrored state is taken by a secondary. A claim is judged
as log entry 83 reads it (DEDUCED), frames as entry 82 (DEDUCED). -/
def Obligations.TwinsTakeOver : Prop :=
  ∀ (lanes lag r line after uid step seq b f c : Nat) (sb : Bool) (lv out : Word) (at' : Time) (fr : Option TwinMsg)
    (vl : List (Nat × List Byte)) (s : State),
    let up := s.twinRuns && s.flag pgTW TW_STATUS.LINK_UP
    let hb : State := { s with twin := { s.twin with lastHb := s.clk, hbLost := false } }.set pgTW TW_HB.RUN 0
    (up = false → exec (.twinFrame lanes lag fr) s = .next s ∧ exec .twinLinkTimeout s = .next s ∧
      exec .missedHeartbeat s = .next s ∧ exec (.synced step seq vl) s = .next s) ∧
    (up = true →
      (s.flag pgTW PG_INJECT.ARM = true → s.get pgTW PG_INJECT.CHECKER = 3 →
        exec (.twinFrame lanes lag (some (.heartbeat r sb))) s = .next (((s.spendInjection pgTW).incSat pgTW
          TW_COUNTS.REPLAYS).raiseFault pgTW 0 (BitVec.ofNat 32 (lanes % 16)) accLINK 0x24 id true)) ∧
      (s.flag pgTW PG_INJECT.ARM = false →
      exec (.twinFrame lanes lag none) s = .next ((s.incSat pgTW TW_COUNTS.REPLAYS).raiseFault pgTW 0
        (BitVec.ofNat 32 (lanes % 16)) accLINK 0x24) ∧
      (r ≠ 3 → s.role ≠ 2 ∨ s.peer = 2 → exec (.twinFrame lanes lag (some (.heartbeat r sb))) s = .next hb) ∧
      (s.role = 2 → s.peer ≠ 2 → s.twin.raised = none → r ≠ 3 →
        ∃ t, exec (.twinFrame lanes lag (some (.heartbeat r sb))) s = .next t ∧ t.twin.raised = some s.clk ∧
          t.twin.takeover = true ∧ t.regs = hb.regs ∧ t.mem = s.mem) ∧
      (s.role = 3 → s.sideB = true →
        exec (.twinFrame lanes lag (some (.heartbeat 3 sb))) s = .next hb.withdraw) ∧
      (s.role = 3 → s.sideB = false → exec (.twinFrame lanes lag (some (.heartbeat 3 sb))) s = .next hb) ∧
      (s.secondary = false → exec (.twinFrame lanes lag (some (.checkpoint f at'))) s = .next s ∧
        exec (.twinFrame lanes lag (some (.gpio b lv out))) s = .next s) ∧
      (s.secondary = true →
        (∃ t, exec (.twinFrame lanes lag (some (.checkpoint f at'))) s = .next t ∧ aget t.twin.ckpts f = some at' ∧
          t.get pgTW TW_LAG.NOW = min lag 0xFFFF ∧ t.get pgTW TW_LAG.MAX = max (min lag 0xFFFF) (s.get pgTW TW_LAG.MAX) ∧
          t.mem = s.mem) ∧
        (b < 8 → ∃ t, exec (.twinFrame lanes lag (some (.gpio b lv out))) s = .next t ∧
          t.get (pgGB b) GB_OUT = out.toNat ∧
          (∀ i, i < 32 → (t.padLatch (32 * b + i)).level = bit lv.toNat i ∧
            (t.padLatch (32 * b + i)).holds = (s.padLatch (32 * b + i)).holds) ∧ t.mem = s.mem))) ∧
      exec .twinLinkTimeout s = .next (s.takeLinkDown.raiseFault pgTW 1 0 accLINK 0x24) ∧
      (s.takeLinkDown.flag pgTW TW_STATUS.LINK_UP = false ∧ s.takeLinkDown.flag pgTW TW_STATUS.SYNCED = false ∧
        s.takeLinkDown.flag pgTW TW_STATUS.VAULT_SYNCED = false ∧ s.takeLinkDown.flag pgTW TW_STATUS.LIB_SYNCED = false ∧
        s.takeLinkDown.get pgTW TW_COUNTS.LINK_DOWNS = wrapInc TW_COUNTS.LINK_DOWNS.len (s.get pgTW TW_COUNTS.LINK_DOWNS) ∧
        s.takeLinkDown.twin.hbLost = true ∧ s.takeLinkDown.mem = s.mem) ∧
      (s.tbRun = true → ∃ t, exec .missedHeartbeat s = .next t ∧
        t.get pgTW TW_HB.MISSED = wrapInc TW_HB.MISSED.len (s.get pgTW TW_HB.MISSED) ∧
        t.get pgTW TW_HB.RUN = min 8 (s.get pgTW TW_HB.RUN + 1) ∧ t.twin = s.twin ∧ t.mem = s.mem) ∧
      (s.role = 3 ∨ s.secondary = true →
        exec (.synced 2 seq vl) s = .next ((s.copyAll.set pgTW TW_STATUS.SYNCED 1).setStatus pgTW stTW_SYNCED) ∧
        (s.role = 3 → exec (.synced 3 seq vl) s =
          .next ((s.set pgTW TW_STATUS.VAULT_SYNCED 1).setStatus pgTW stTW_VAULT_SYNCED)) ∧
        exec (.synced 4 seq vl) s = .next (s.set pgTW TW_STATUS.LIB_SYNCED 1))) ∧
    (s.twinRuns = true → s.flag pgTW TW_STATUS.LINK_UP = false → uid < 2 ^ 64 →
      ∃ t, exec (.linkTrained uid) s = .next t ∧ t.flag pgTW TW_STATUS.LINK_UP = true ∧ t.get64 pgTW TW_PEER_UID_LO = uid ∧
        t.get pgTW TW_HB.RUN = 0 ∧ t.twin = { s.twin with lastHb := s.clk, hbLost := false } ∧ t.role = s.role ∧
        bits (t.hdr pgTW 0x010).toNat stTW_LINK_UP 1 = 1 ∧ t.mem = s.mem) ∧
    (s.twinRuns = true → s.tbRun = true → ∃ t, exec .heartbeatSend s = .next t ∧ t.regs = s.regs ∧ t.mem = s.mem ∧
      t.twin.out = (if up then (if s.role = 3 then [TwinMsg.time s.ts] else []) ++ .heartbeat s.role s.sideB :: s.twin.out
        else s.twin.out)) ∧
    (s.twinRuns = true → s.get pgTW TW_HB.RUN = 8 → s.twin.hbLost = false → exec .heartbeatLost s = .next s.lostHeartbeat) ∧
    (s.get pgTW TW_HB.RUN ≠ 8 → exec .heartbeatLost s = .next s) ∧
    (s.present pgTW = true → s.unpowered = false → s.tbRun = true → line ≤ 2 → line ≠ s.peer →
      (s.role = 1 → s.twin.raised = none → s.twin.hbLost = false →
        (line = 0 ∨ (line = 1 ∧ s.sideB = false) → ∃ t, exec (.twinPeerChange line) s = .next t ∧
          t.peer = line ∧ t.twin.raised = some s.clk ∧ t.twin.takeover = false ∧ t.role = 1 ∧ t.mem = s.mem) ∧
        (line = 1 → s.sideB = true → ∃ t, exec (.twinPeerChange line) s = .next t ∧ t.peer = 1 ∧
          t.twin.waiting = true ∧ t.twin.raised = none ∧ t.role = 1 ∧ t.mem = s.mem) ∧
        (line = 2 → ∃ u, exec (.twinPeerChange line) s = .next (State.setRole u 2) ∧ u.peer = 2 ∧ u.twin.seen = true ∧
          u.twin.clear = none ∧ u.twin.waiting = false)) ∧
      (s.role ≠ 1 → line ≠ 2 → s.twin.hbLost = false → ∃ t, exec (.twinPeerChange line) s = .next t ∧ t.peer = line ∧
        t.role = s.role ∧ t.twin.raised = s.twin.raised ∧
        t.twin.clear = (if s.peer = 2 then some s.clk else s.twin.clear) ∧ t.mem = s.mem) ∧
      (line = 2 → s.sideB = true → s.role = 3 → ∃ u, exec (.twinPeerChange line) s = .next (State.withdraw u) ∧ u.peer = 2)) ∧
    (line = s.peer → exec (.twinPeerChange line) s = .next s) ∧
    (s.twin.raised = none → exec (.claimStands after) s = .next s) ∧
    (s.twin.raised = some c →
      (s.sideB = true → s.twin.seen = true → exec (.claimStands after) s = .next s) ∧
      (s.sideB = false ∨ s.twin.seen = false →
        let w : State := s.reachClk (c + 2000)
        let x : State := State.setRole (State.claimPads
          { w with twin := { w.twin with raised := none, takeover := false } }) 3
        exec (.claimStands after) s = .next (if s.twin.takeover then x.takeOver after else x))) ∧
    (∀ x : State, (x.takeOver after).get64 pgTW TW_TAKEOVER_TIME_LO = x.now ∧
      (x.takeOver after).get pgTW TW_TAKEOVER_DUR = min (x.clk + after - x.twin.lastHb) (2 ^ 32 - 1) ∧
      (x.takeOver after).ckptSkip = x.twin.ckpts ∧ bits ((x.takeOver after).hdr pgTW 0x010).toNat stTW_TAKEOVER 1 = 1) ∧
    (s.twin.waiting = true → s.role = 1 → s.peer ≠ 2 → ∃ t, exec .claimWaitExpiry s = .next t ∧
      t.twin.raised = some s.clk ∧ t.twin.waiting = false ∧ t.regs = s.regs ∧ t.mem = s.mem) ∧
    (s.twin.waiting = false ∨ s.role ≠ 1 ∨ s.peer = 2 → exec .claimWaitExpiry s = .next s) ∧
    (s.twin.padHold = false → exec .padHoldExpiry s = .next s) ∧
    (s.twin.padHold = true → ∃ t, exec .padHoldExpiry s = .next t ∧ t.twin = { s.twin with padHold := false } ∧
      (∀ p, p < 256 → bit (t.padLatch p).holds 4 = false ∧ (t.padLatch p).level = (s.padLatch p).level) ∧
      t.regs = s.regs ∧ t.mem = s.mem)

/-- ENUM, ENUM_DONE, TIME_PACKET, SPAN_TIME_EXCHANGE, SPAN_PACKET, STROBE_TX, STROBE_PACKET, SYSTEM_STROBE, LANE_DOWN,
SPAN_LANE_UP (R485-R489): enumeration gives address and ranges, packets go to the subtree that holds their destination,
strobes go up to the root and down every lane and reach the load-strobe groups that select them, time packets set the clock of
a device that follows. How packets pass
through is log entry 84's reading (DEDUCED). -/
def Obligations.SpanLanesCarryPackets : Prop :=
  ∀ (m : Master) (lane k d dest n a depth delay g port : Nat) (offs : Int) (bad : Bool) (t' : Time) (w : Word) (desc : List Word)
    (rg : List (Option (Nat × Nat))) (s : State),
    (s.opensF m pgSN SN_CTRL.ENUM = true →
      (s.root = false → exec (.enum m) s = .next ((s.met m pgSN SN_CTRL.ENUM).setStatus pgSN stSN_REJECT)) ∧
      (s.root = true → s.accepts pgSN = true →
        exec (.enum m) s = .next ((s.met m pgSN SN_CTRL.ENUM).set pgSN SN_STATUS.ENUM_BUSY 1)) ∧
      (s.root = true → s.accepts pgSN = false → exec (.enum m) s = .next (s.met m pgSN SN_CTRL.ENUM))) ∧
    (s.opensF m pgSN SN_STROBE_TX.GO = true →
      let x := (s.met m pgSN SN_STROBE_TX.GO).set pgSN SN_STROBE_TX.K (w.toNat % 8)
      let time := BitVec.ofNat 64 (s.get64 pgSN SN_STROBE_T_LO)
      (bit w.toNat 31 = false ∨ s.accepts pgSN = false → exec (.strobeTx m w) s = .next x) ∧
      (bit w.toNat 31 = true → s.accepts pgSN = true →
        (s.root = true → exec (.strobeTx m w) s = .next (x.strobeDown (w.toNat % 8) time)) ∧
        (s.root = false → exec (.strobeTx m w) s = .next (x.spanSend 0 (.strobe 0 (w.toNat % 8) time))))) ∧
    (s.spanRuns = false → exec (.enumDone a depth rg d none) s = .next s ∧ exec (.timePacket offs delay) s = .next s ∧
      exec .spanTimeExchange s = .next s ∧ exec (.spanPacket (.lane lane) bad dest desc) s = .next s ∧
      exec (.strobePacket lane k t') s = .next s ∧ exec (.laneDown lane) s = .next s ∧
      exec (.spanLaneUp lane) s = .next s) ∧
    (s.spanRuns = true →
      (let taken := if s.sideB = false ∧ s.flag pgTW TW_STATUS.LINK_UP = true then (a + 1) / 2 * 2 else a;
      (s.root = false → taken < 2 ^ 14 → depth < 16 → ∃ t, exec (.enumDone a depth rg d none) s = .next t ∧
        t.get pgSN SN_STATUS.ADDR = taken ∧ t.get pgSN SN_STATUS.DEPTH = depth ∧
        t.flag pgSN SN_STATUS.ADDR_VALID = true ∧
        t.get pgSN SN_STATUS.ISOLATED = 0 ∧ bits (t.hdr pgSN 0x010).toNat stADDR_ASSIGNED 1 = 1 ∧
        (∀ i x y, i < 3 → x < 2 ^ 14 → y < 2 ^ 14 → rg.getD i none = some (x, y) → t.get pgSN SN_RANGE.VALID i = 1 ∧
          t.get pgSN SN_RANGE.FIRST i = x ∧ t.get pgSN SN_RANGE.LAST i = y) ∧
        (∀ i, i < 3 → rg.getD i none = none → t.get pgSN SN_RANGE.VALID i = 0) ∧ t.mem = s.mem) ∧
      (s.root = false → 2 ^ 14 ≤ taken ∨ 16 ≤ depth → ∃ t, exec (.enumDone a depth rg d none) s = .next t ∧
        t.flag pgSN SN_STATUS.ADDR_VALID = false ∧ t.mem = s.mem)) ∧
      (s.root = true → s.flag pgSN SN_STATUS.ENUM_BUSY = false → exec (.enumDone a depth rg d none) s = .next s) ∧
      (s.root = true → s.flag pgSN SN_STATUS.ENUM_BUSY = true → d < 2 ^ 15 →
        ∃ t, exec (.enumDone a depth rg d none) s = .next t ∧ t.flag pgSN SN_STATUS.ENUM_BUSY = false ∧
          t.get pgSN SN_COUNT = d ∧ t.get pgSN SN_STATUS.ADDR = 0 ∧ t.get pgSN SN_STATUS.DEPTH = 0 ∧
          t.flag pgSN SN_STATUS.ADDR_VALID = true ∧ bits (t.hdr pgSN 0x010).toNat stENUM_DONE 1 = 1 ∧ t.mem = s.mem) ∧
      (s.root = false → s.laneUp 0 = true → s.tbRun = true →
        (s.flag pgSN SN_CTRL.TIME_FOLLOW = false → ∃ t, exec (.timePacket offs delay) s = .next t ∧
          t.get pgSN SN_TIME_OFFS = trunc 32 offs ∧ t.get pgSN SN_DELAY.NS = min delay 0xFFFF ∧ t.ts = s.ts ∧
          t.slewLeft = s.slewLeft ∧ t.mem = s.mem) ∧
        (s.flag pgSN SN_CTRL.TIME_FOLLOW = true →
          let x : State := ((s.set pgSN SN_TIME_OFFS (trunc 32 offs)).set pgSN SN_DELAY.NS (min delay 0xFFFF)).followTime offs
          (1000 < offs.natAbs → s.flag pgSN SN_STATUS.TIME_LOCKED = false →
            exec (.timePacket offs delay) s = .next (x.setStatus pgSN stTIME_STEP)) ∧
          (1000 < offs.natAbs → s.flag pgSN SN_STATUS.TIME_LOCKED = true →
            exec (.timePacket offs delay) s = .next ((x.setStatus pgSN stTIME_STEP).raiseFault pgSN 2 0 accLINK 0x25)) ∧
          (offs.natAbs ≤ 2 * s.get pgSN SN_STATUS.DEPTH → s.flag pgSN SN_STATUS.TIME_LOCKED = false →
            exec (.timePacket offs delay) s = .next ((x.set pgSN SN_STATUS.TIME_LOCKED 1).setStatus pgSN stTIME_LOCKED)) ∧
          (2 * s.get pgSN SN_STATUS.DEPTH < offs.natAbs → offs.natAbs ≤ 1000 → exec (.timePacket offs delay) s = .next x))) ∧
      (s.root = true ∨ s.laneUp 0 = false ∨ s.tbRun = false → exec (.timePacket offs delay) s = .next s) ∧
      (s.tbRun = true → ∃ t, exec .spanTimeExchange s = .next t ∧ t.regs = s.regs ∧ t.mem = s.mem ∧
        t.snOut = (([3, 2, 1, 0].filter s.laneUp).map fun i => SpanOut.time i s.ts) ++ s.snOut) ∧
      ((s.spanWait.find? fun (e : Nat × List Word) => aget s.spanPorts e.1 == some port) = some (g, desc) →
        s.get pgSN SN_SP.EN port = 1 → s.accepts pgSN = true → (aget s.subWait 0x210).isNone = true →
        exec (.spanPacket (.port port) bad dest []) s =
          .next ((State.route { s with spanWait := adel s.spanWait g } true (s.get pgSN SN_SP.DEST port) desc).settle)) ∧
      ((aget s.subWait 0x210).isNone = true → s.laneUp lane = true → s.flag pgSN PG_INJECT.ARM = false →
        exec (.spanPacket (.lane lane) true dest desc) s = .next
          ((s.incSat pgSN SN_COUNTS.REPLAYS).raiseFault pgSN 0 (BitVec.ofNat 32 lane) accLINK 0x25) ∧
        (s.flag pgSN SN_STATUS.ADDR_VALID = true → s.get pgSN SN_STATUS.ADDR = dest →
          exec (.spanPacket (.lane lane) false dest desc) s = .next (s.submit 0x210 desc 0x25 accLINK)) ∧
        (s.flag pgSN SN_STATUS.ADDR_VALID = false ∨ s.get pgSN SN_STATUS.ADDR ≠ dest →
          (s.laneFor dest = some n → s.laneUp n = true → exec (.spanPacket (.lane lane) false dest desc) s =
            .next { s with snOut := .packet n dest desc :: s.snOut }) ∧
          (s.laneFor dest = none → lane ≠ 0 → s.root = false → s.laneUp 0 = true →
            exec (.spanPacket (.lane lane) false dest desc) s = .next { s with snOut := .packet 0 dest desc :: s.snOut }) ∧
          (s.laneFor dest = some n → s.laneUp n = false → exec (.spanPacket (.lane lane) false dest desc) s =
            .next ((s.incSat pgSN SN_UNROUTABLE).setStatus pgSN stUNROUTABLE)) ∧
          (s.laneFor dest = none → lane = 0 ∨ s.root = true ∨ s.laneUp 0 = false →
            exec (.spanPacket (.lane lane) false dest desc) s =
              .next ((s.incSat pgSN SN_UNROUTABLE).setStatus pgSN stUNROUTABLE)))) ∧
      (s.laneUp lane = true → k < 8 → s.flag pgSN PG_INJECT.ARM = false →
        (lane = 0 ∨ s.root = true → exec (.strobePacket lane k t') s = .next (s.strobeDown k t')) ∧
        (lane ≠ 0 → s.root = false → s.laneUp 0 = true →
          exec (.strobePacket lane k t') s = .next { s with snOut := .strobe 0 k t' :: s.snOut })) ∧
      (s.laneUp lane = true → lane < 4 →
        let x := ((s.setMaskBit pgSN SN_STATUS.LANE_UP lane false).incWrap pgSN SN_COUNTS.LANE_DOWNS).setStatus pgSN stLANE_CHANGE
        x.laneUp lane = false ∧ (∀ i, i < 4 → i ≠ lane → x.laneUp i = s.laneUp i) ∧
        (lane ≠ 0 → exec (.laneDown lane) s = .next (x.raiseFault pgSN 1 (BitVec.ofNat 32 lane) accLINK 0x25)) ∧
        (lane = 0 → exec (.laneDown lane) s = .next (State.raiseFault ((x.set pgSN SN_STATUS.ISOLATED
          (s.get pgSN SN_STATUS.ADDR_VALID)).set pgSN SN_STATUS.TIME_LOCKED 0) pgSN 1 0 accLINK 0x25))) ∧
      (s.laneUp lane = false → lane < 4 → ∃ t, exec (.spanLaneUp lane) s = .next t ∧ t.laneUp lane = true ∧
        (∀ i, i < 4 → i ≠ lane → t.laneUp i = s.laneUp i) ∧ (lane = 0 → t.flag pgSN SN_STATUS.ISOLATED = false) ∧
        bits (t.hdr pgSN 0x010).toNat stLANE_CHANGE 1 = 1 ∧ t.mem = s.mem)) ∧
    (t'.toNat < s.now → s.strobeDown k t' = (s.incSat pgSN SN_STROBE_CNT.LATE).setStatus pgSN stSTROBE_LATE) ∧
    (s.now ≤ t'.toNat → (s.strobeDown k t').strobes = s.strobes ++ [(k, t')] ∧ (s.strobeDown k t').regs = s.regs ∧
      (s.strobeDown k t').snOut = (([3, 2, 1].filter s.laneUp).map fun i => SpanOut.strobe i k t') ++ s.snOut) ∧
    (s.strobes.find? (fun e => e.1 == k && decide (s.now ≤ e.2.toNat)) = some (k, t') → s.tbRun = true →
      ∃ t, exec (.systemStrobe k) s = .next t ∧ t.strobes = s.strobes.erase (k, t') ∧ t.mem = s.mem ∧
        (s.slewLeft = 0 → t.ts = t' ∧
          t.get pgSN SN_STROBE_CNT.FIRED = wrapInc SN_STROBE_CNT.FIRED.len (s.get pgSN SN_STROBE_CNT.FIRED) ∧
          (g < 8 → s.accepts pgLS = true → s.get pgLS LS_CFG.SRC g = 4 → s.get pgLS LS_CFG.SEL g = k →
            ∃ e ∈ t.trig, e.what = .strobe g ∧ e.time = t'))) ∧
    (s.strobes.find? (fun e => e.1 == k && decide (s.now ≤ e.2.toNat)) = none → exec (.systemStrobe k) s = .next s)

-- Pads and serialiser quads (chapter 17) ------------------------------------------------------------------------------------

/-- GB_OUT_WRITE, GB_DIR_WRITE, GB_CFG_WRITE, GB_PADLOCK, EDGE, VIO_LOW, VIO_OK, QUAD_LOOP_LOCK, LOOP_LOSS, SQ_CFG_WRITE, LANE_TRANSMIT,
LANE_RECEIVE (R498, R502, R505-R508, R510-R518): the banks' registers take what they are written, locked pads and owned
pads aside; an edge of the level that a pad drives or sees is flagged where its mask enables it; a quad and its lanes follow their loop,
a lane port taking transfers from its channel and presenting what the lane receives. What a bank's inputs read
without their supply is free (log entry 60, DEDUCED); the filler of an idle lane is log entry 15 (PRESUMED). -/
def Obligations.PadsAndLanesFollow : Prop :=
  ∀ (m : Master) (b p q l errs prbs : Nat) (lv al : Bool) (v : Word) (h x : List Word) (r : List (List Word))
    (s : State),
    let g := pgGB b
    let e := pgGB (p / 32)
    let z := pgSQ q
    (s.opensF m g GB_OUT = true → b < 8 →
      (s.listening = true → exec (.gbOutWrite m b v) s = .next ((s.met m g GB_OUT).setStatus g stGB_REJECT)) ∧
      (s.listening = false → ∃ t, exec (.gbOutWrite m b v) s = .next t ∧ t.get g GB_OUT = v.toNat ∧
        (∀ o, o ≠ GB_OUT.addr g 0 → t.reg o = s.reg o) ∧ GB_OUT.addr g 0 ∉ t.gbBad ∧
        t.twin.out = (if s.role = 3 ∧ s.flag pgTW TW_STATUS.LINK_UP = true then
          TwinMsg.gpio b (BitVec.ofNat 32 (s.get g GB_IN)) v :: s.twin.out else s.twin.out) ∧ t.mem = s.mem)) ∧
    (s.opensF m g GB_DIR = true → b < 8 → ∃ t, exec (.gbDirWrite m b v) s = .next t ∧
      (∀ n, n < 32 → t.maskBit g GB_DIR n = if s.maskBit g GB_PADLOCK n then s.maskBit g GB_DIR n else bit v.toNat n) ∧
      t.get g GB_OUT = s.get g GB_OUT ∧ t.get g GB_PADLOCK = s.get g GB_PADLOCK ∧
      ((∃ n, n < 32 ∧ s.maskBit g GB_PADLOCK n = true ∧ s.maskBit g GB_DIR n ≠ bit v.toNat n) →
        bits (t.hdr g 0x010).toNat stLOCKED_WRITE 1 = 1) ∧ t.mem = s.mem) ∧
    (p < 256 → s.opensF m e GB_CFG (p % 32) = true →
      (s.padOwned p = true →
        exec (.gbCfgWrite m p v) s = .next ((s.met m e GB_CFG (p % 32)).setStatus e stOWNED_WRITE)) ∧
      (s.padOwned p = false → ∃ t, exec (.gbCfgWrite m p v) s = .next t ∧
        bits (t.get e GB_CFG (p % 32)) 6 4 = bits v.toNat 6 4 ∧
        (∀ n, 10 ≤ n → n < 22 → bit (t.get e GB_CFG (p % 32)) n =
          if s.padLocked (p / 32) (p % 32) then bit (s.get e GB_CFG (p % 32)) n else bit v.toNat n) ∧
        t.mem = s.mem)) ∧
    (s.opensF m g GB_PADLOCK = true → b < 8 →
      (s.keyStage m (GB_PADLOCK.addr g 0) ≠ 2 → ∃ t, exec (.gbPadlock m b v) s = .next t ∧ t.regs = s.regs ∧
        t.padLocks = s.padLocks) ∧
      (s.keyStage m (GB_PADLOCK.addr g 0) = 2 → ∃ t, exec (.gbPadlock m b v) s = .next t ∧
        t.get g GB_PADLOCK = Nat.lor (s.get g GB_PADLOCK) v.toNat ∧ t.keyStage m (GB_PADLOCK.addr g 0) = 0 ∧
        (∀ n, n < 32 → bit v.toNat n = true → s.padLocked b n = false →
          aget t.padLocks (32 * b + n) = some (s.padInForce (32 * b + n))) ∧
        (∀ n, bit v.toNat n = false ∨ s.padLocked b n = true → n < 32 →
          aget t.padLocks (32 * b + n) = aget s.padLocks (32 * b + n)) ∧
        (∀ o, o ≠ GB_PADLOCK.addr g 0 → t.reg o = s.reg o) ∧ t.mem = s.mem)) ∧
    (s.padSees p lv = (match s.padOut p with | .level v => v | _ => lv)) ∧
    (p < 256 → s.tbRun = true → s.padLevel p ≠ s.padSees p lv → ∃ u, exec (.edge p lv) s = .next (State.flow u) ∧
      u.padLevel p = s.padSees p lv ∧
      (s.maskBit e (if s.padSees p lv then GB_RISE_EN else GB_FALL_EN) (p % 32) = true →
        u.maskBit e GB_EDGE (p % 32) = true ∧ bits (u.hdr e 0x010).toNat stGB_EDGE 1 = 1) ∧
      (s.maskBit e (if s.padSees p lv then GB_RISE_EN else GB_FALL_EN) (p % 32) = false →
        ∀ o, o ≠ GB_IN.addr e 0 → u.reg o = s.reg o) ∧
      u.mem = s.mem) ∧
    (s.padLevel p = s.padSees p lv ∨ 256 ≤ p ∨ s.tbRun = false → exec (.edge p lv) s = .next s) ∧
    (b < 8 →
      (s.flag g GB_STATUS.VIO_OK = false → exec (.vioLow b) s = .next s ∧
        exec (.vioOk b) s = .next ((s.set g GB_STATUS.VIO_OK 1).setStatus g stVIO_CHANGE)) ∧
      (s.flag g GB_STATUS.VIO_OK = true → exec (.vioOk b) s = .next s ∧
        exec (.vioLow b) s = .next (State.raiseOwn (((State.set s.draw.2 g GB_STATUS.VIO_OK 0).set g GB_IN
          (Config.freeWord s.draw.1).toNat).setStatus g stVIO_CHANGE) g 2 0))) ∧
    (q < 8 → s.present z = true → s.pageOn z = true →
      exec (.quadLoopLock q) s = .next (s.set z SQ_STATUS.LOCKED 1) ∧
      (s.flag z SQ_STATUS.LOCKED = false → exec (.loopLoss q) s = .next s) ∧
      (s.flag z SQ_STATUS.LOCKED = true → ∃ u, exec (.loopLoss q) s = .next (State.raiseOwn u z 0 0) ∧
        u.flag z SQ_STATUS.LOCKED = false ∧ u.get z SQ_STATUS.LOSS_COUNT = wrapInc 16 (s.get z SQ_STATUS.LOSS_COUNT) ∧
        (∀ n, n < 4 → u.get z SQ_LANE_STATUS.ALIGNED n = 0) ∧ bits (u.hdr z 0x010).toNat stLOCK_LOST 1 = 1 ∧
        u.lanes = s.lanes ∧ u.mem = s.mem)) ∧
    (s.present z = false ∨ s.pageOn z = false → exec (.quadLoopLock q) s = .next s ∧ exec (.loopLoss q) s = .next s) ∧
    (q < 8 → s.opensF m z SQ_CFG.RATE = true →
      (6 ≤ q ∨ s.flag z PG_CTRL.EN = true ∨ 9 ≤ v.toNat % 16 →
        (s.locked z 8 = false ∨ v.toNat % 16 = s.get z SQ_CFG.RATE →
          exec (.sqCfgWrite m q v) s = .next ((s.met m z SQ_CFG.RATE).setStatus z stSQ_REJECT)) ∧
        (s.locked z 8 = true → v.toNat % 16 ≠ s.get z SQ_CFG.RATE → exec (.sqCfgWrite m q v) s =
          .next (((s.met m z SQ_CFG.RATE).setStatus z stLOCKED_WRITE).setStatus z stSQ_REJECT))) ∧
      (q < 6 → s.flag z PG_CTRL.EN = false → v.toNat % 16 < 9 →
        (v.toNat % 16 = s.get z SQ_CFG.RATE → exec (.sqCfgWrite m q v) s = .next (s.met m z SQ_CFG.RATE)) ∧
        (v.toNat % 16 ≠ s.get z SQ_CFG.RATE → s.locked z 8 = true →
          exec (.sqCfgWrite m q v) s = .next ((s.met m z SQ_CFG.RATE).setStatus z stLOCKED_WRITE)) ∧
        (v.toNat % 16 ≠ s.get z SQ_CFG.RATE → s.locked z 8 = false → ∃ t, exec (.sqCfgWrite m q v) s = .next t ∧
          t.get z SQ_CFG.RATE = v.toNat % 16 ∧ t.flag z SQ_STATUS.LOCKED = false ∧ t.mem = s.mem))) ∧
    (s.laneOn q l = false → exec (.laneTransmit q l) s = .next s ∧ exec (.laneReceive q l al x errs prbs) s = .next s) ∧
    (s.portFull (.lane q l) = true → (s.lane q l).tx.length < 64 → (s.laneTake q l).lane q l =
      { s.lane q l with tx := (s.lane q l).tx ++ [laneWords (s.portGot (.lane q l)).val] }) ∧
    (s.portFull (.lane q l) = false ∨ 64 ≤ (s.lane q l).tx.length → s.laneTake q l = s) ∧
    (s.laneOn q l = true →
      (let u := (s.laneTake q l).settle
      let y := u.lane q l
      let c := u.get z SQ_LANE_CTRL.CODING l
      let own := u.get z SQ_LANE_CTRL.PRBS l = 0 ∧ u.get z SQ_LANE_CTRL.LOOP l ≠ 2;
      (¬own → exec (.laneTransmit q l) s = .next u) ∧
      (own → y.tx = h :: r → exec (.laneTransmit q l) s =
        .next (((u.setLane q l { y with tx := r, line := h }).laneTake q l).settle)) ∧
      (own → y.tx = [] → ∃ t, exec (.laneTransmit q l) s = .next t ∧ t.lane q l = { y with tx := [], line := filler c } ∧
        t.get z SQ_LANE_FLOW.UNDERRUN l = satInc 16 (u.get z SQ_LANE_FLOW.UNDERRUN l) ∧
        t.get z SQ_LANE_FLOW.OVERRUN l = u.get z SQ_LANE_FLOW.OVERRUN l ∧ t.mem = u.mem)) ∧
      (let u := s.lanePresent q l
      let y := u.lane q l
      let c := s.get z SQ_LANE_CTRL.CODING l
      let x' := if s.get z SQ_LANE_CTRL.LOOP l = 1 then y.line else x
      let y' := if s.get z SQ_LANE_CTRL.LOOP l = 2 then { y with line := x' } else y;
      (x'.length ≠ 5 → exec (.laneReceive q l al x errs prbs) s = .next u) ∧
      (x'.length = 5 → ∃ t, exec (.laneReceive q l al x errs prbs) s = .next t ∧
        t.get z SQ_LANE_STATUS.SIGNAL l = 1 ∧ t.get z SQ_LANE_STATUS.RX_READY l = 1 ∧
        t.get z SQ_LANE_STATUS.ALIGNED l = b2n (al && c != 3) ∧
        t.get z SQ_LANE_ERR.CODE_ERRS l = (if c = 3 then s.get z SQ_LANE_ERR.CODE_ERRS l else
          satAdd 16 (s.get z SQ_LANE_ERR.CODE_ERRS l) errs) ∧
        (s.get z SQ_LANE_CTRL.PRBS_CHECK l = 1 → t.lane q l = y' ∧
          t.get z SQ_LANE_ERR.PRBS_ERRS l = satAdd 16 (s.get z SQ_LANE_ERR.PRBS_ERRS l) prbs ∧
          t.get z SQ_LANE_STATUS.PRBS_LOCK l = 1) ∧
        (s.get z SQ_LANE_CTRL.PRBS_CHECK l = 0 →
          (c ≠ 3 → al = false → t.lane q l = y') ∧
          (c = 3 ∨ al = true → 64 ≤ y.rx.length → t.lane q l = { y' with gap := true } ∧
            t.get z SQ_LANE_FLOW.OVERRUN l = satInc 16 (s.get z SQ_LANE_FLOW.OVERRUN l) ∧
            bits (t.hdr z 0x010).toNat (stSQ_LOSS + l) 1 = 1) ∧
          (c = 3 ∨ al = true → y.rx.length < 64 → t.get z SQ_LANE_FLOW.OVERRUN l = s.get z SQ_LANE_FLOW.OVERRUN l ∧
            ((∀ e ∈ s.nets, e.2.src ≠ .port (.lane q l)) → t.lane q l =
              { y' with rx := y.rx ++ [x'.take 4 ++ [rxControl c (x'.getD 4 0) y.gap]], gap := false }))) ∧
        t.mem = s.mem)))

-- Power and board sequencing (chapter 18) ------------------------------------------------------------------------------------

/-- DOMAIN_ON, DOMAIN_OFF, DOMAIN_ON_TIMEOUT, PWR_RUN, PWR_DOZE, PWR_HOLD, DOZE_WAKE, WAKE, HOLD_PFAIL_WAKE, HOLD_VIN_WAKE, VDD_AON_FALL,
SUPPLY_LOST, SUPPLY_VALID, TEMP_SAMPLE (R1, R521-R530, R545, R550): a domain follows what asks for it; DOZE, HOLD and their ends;
a lost supply, and the start when the last counted one is valid, in any order (R1); the die temperatures. That a request for the present state is done at once is
log entry 34 (DEDUCED); the way to and from HOLD is entries 75 and 79 (DEDUCED); sample counting is entry 81 (DEDUCED). -/
def Obligations.PowerStatesFollow : Prop :=
  ∀ (m : Master) (d n mv : Nat) (dig ana : Int) (s : State),
    let go (f : Nat) : State := (s.met m pgPWR PWR_STATE.GO).set pgPWR PWR_STATE.TARGET f
    (s.domWanted d = true → s.domOn d = false →
      (s.admitRamps.ramps.contains d = false → exec (.domainOn d) s = .next s) ∧
      (s.admitRamps.ramps.contains d = true →
        let z := (s.admitRamps.domUp d).admitRamps;
        z.domOn d = true ∧
        (d < 32 ∨ 40 ≤ d ∨ z.flag (pgAS (d - 32)) PG_CTRL.EN = false → exec (.domainOn d) s = .next z.bootPoll) ∧
        (32 ≤ d → d < 40 → z.flag (pgAS (d - 32)) PG_CTRL.EN = true → exec (.domainOn d) s =
          .next (z.checkWords State.resetChecked (d - 32)).bootPoll)) ∧
      exec (.domainOnTimeout d) s = .next (s.raiseOwn pgPWR 2 (BitVec.ofNat 32 d))) ∧
    (s.domWanted d = true → s.domOn d = true → exec (.domainOnTimeout d) s = .next s ∧ exec (.domainOff d) s = .next s) ∧
    (s.domWanted d = false → exec (.domainOn d) s = .next s ∧ exec (.domainOnTimeout d) s = .next s) ∧
    (d < 64 → s.domOn d = true → s.domWanted d = false →
      ((∀ pg ∈ domPages d, s.present pg = true → s.pageIdle pg = true) → s.power ≠ powerDOZE →
        exec (.domainOff d) s = .next (s.domDown d)) ∧
      ((∀ pg ∈ domPages d, s.present pg = true → s.pageIdle pg = true) → s.power = powerDOZE →
        s.dozeMasked d = true → s.domAsked d = true →
        exec (.domainOff d) s = .next { s.domDown d with dozeOff := d :: (s.domDown d).dozeOff }) ∧
      ((∃ pg ∈ domPages d, s.present pg = true ∧ s.pageIdle pg = false) → exec (.domainOff d) s = .next s)) ∧
    (d < 64 → (s.setDomOn d false).domOn d = false ∧ (s.setDomOn d true).domOn d = true ∧
      (∀ c, c < 64 → c ≠ d → (s.setDomOn d false).domOn c = s.domOn c ∧ (s.setDomOn d true).domOn c = s.domOn c)) ∧
    (s.opensF m pgPWR PWR_STATE.GO = true →
      (s.power = powerRUN → exec (.pwrRun m) s = .next ((go 0).setStatus pgPWR stSTATE_DONE)) ∧
      (s.power = powerDOZE → s.dozeOff ≠ [] → exec (.pwrRun m) s =
        .next (State.setStatus (State.dozeSync ((go 0).set pgPWR PWR_STATE.CURRENT powerRUN)).admitRamps pgPWR stSTATE_DONE)) ∧
      (s.power = powerDOZE → s.dozeOff = [] → exec (.pwrRun m) s =
        .next (State.setStatus (State.releaseAll ((go 0).set pgPWR PWR_STATE.CURRENT powerRUN) 2).admitRamps pgPWR
          stSTATE_DONE)) ∧
      (s.power = powerHOLD → exec (.pwrRun m) s = .next (go 0)) ∧
      (s.couch.isSome = true ∨ s.press.isSome = true ∨ s.safe = true ∨ s.holdEntry = true →
        exec (.pwrDoze m) s = .next ((go 1).setStatus pgPWR stPWR_REJECT)) ∧
      (s.couch = none → s.press = none → s.safe = false → s.holdEntry = false →
        (s.power = powerDOZE → exec (.pwrDoze m) s = .next ((go 1).setStatus pgPWR stSTATE_DONE)) ∧
        (s.power = powerHOLD → exec (.pwrDoze m) s = .next (go 1)) ∧
        (s.power = powerRUN → ∃ t, exec (.pwrDoze m) s = .next t ∧ t.power = powerDOZE ∧
          bits (t.hdr pgPWR 0x010).toNat stSTATE_DONE 1 = 1 ∧ t.get pgPWR PWR_STATE.TARGET = 1 ∧
          (∀ p, p < 256 → bit (t.padLatch p).holds 2 = true ∧
            ((s.padLatch p).holds = 0 → (t.padLatch p).level = s.padLevel p)) ∧ t.mem = s.mem)) ∧
      (s.power = powerHOLD ∨ s.press.isSome = true → exec (.pwrHold m) s = .next (go 2)) ∧
      (s.power ≠ powerHOLD → s.press = none →
        (s.flag pgPR RS_PR_CTRL.EN = true → exec (.pwrHold m) s = .next ((go 2).pressStart 4 true)) ∧
        (s.flag pgPR RS_PR_CTRL.EN = false → exec (.pwrHold m) s = .next { go 2 with holdEntry := true }))) ∧
    (s.enterHold.power = powerHOLD ∧ s.enterHold.holdEntry = false ∧ s.enterHold.press = none ∧
      s.enterHold.hostRst = true) ∧
    (s.power = powerDOZE → n < 4 → bit (s.get pgPWR PWR_WAKE.DOZE) n = true →
      exec (.dozeWake n) s = .next (s.toRun.setStatus pgPWR stWAKE)) ∧
    (s.power ≠ powerDOZE ∨ bit (s.get pgPWR PWR_WAKE.DOZE) n = false ∨ 4 ≤ n → exec (.dozeWake n) s = .next s) ∧
    (s.opensF m pgPWR PWR_STATE.WAKE = true →
      (m = .mgmtSpi ∨ m = .mgmtI2c → exec (.wake m) s = .next ((s.met m pgPWR PWR_STATE.WAKE).wakeHold 4)) ∧
      (m ≠ .mgmtSpi → m ≠ .mgmtI2c → exec (.wake m) s = .next (s.met m pgPWR PWR_STATE.WAKE))) ∧
    (s.power ≠ powerHOLD → s.wakeHold n = s) ∧
    (s.power = powerHOLD → s.suppliesOk = true → s.wakeHold n = (s.chipReset (plainCause n)).startUp) ∧
    (s.power = powerHOLD → s.suppliesOk = false → s.wakeHold n = State.setStatus { s with leaveHold := some n } pgPWR stWAKE) ∧
    (s.flag pgPWR PWR_WAKE.HOLD_PFAIL = true → exec .holdPfailWake s = .next (s.wakeHold 4)) ∧
    (s.flag pgPWR PWR_WAKE.HOLD_PFAIL = false → exec .holdPfailWake s = .next s) ∧
    (s.flag pgPWR PWR_WAKE.HOLD_VIN = true → s.get pgPWR PWR_HOLD_VIN < mv →
      exec (.holdVinWake mv) s = .next (s.wakeHold 4)) ∧
    (s.flag pgPWR PWR_WAKE.HOLD_VIN = false ∨ mv ≤ s.get pgPWR PWR_HOLD_VIN → exec (.holdVinWake mv) s = .next s) ∧
    (∃ t, exec .vddAonFall s = .next t ∧ t.unpowered = true ∧ t.hostRst = true ∧ t.vault = s.vault ∧ t.lib = s.lib ∧
      t.caps = s.caps ∧ t.bfeImg = s.bfeImg ∧ t.keyHash = s.keyHash) ∧
    (s.unpowered = false → n < 11 → bit (validSupplies s.variant) n = true → n ≠ 2 →
      (s.power = powerHOLD → exec (.supplyLost n) s = .next (s.setMaskBit pgPWR PWR_SUPPLY.VALID n false)) ∧
      (s.power ≠ powerHOLD → exec (.supplyLost n) s = .next (State.setStatus (((s.setMaskBit pgPWR PWR_SUPPLY.VALID n
        false).setMaskBit pgPWR PWR_SUPPLY.LOST n true).supplyReset) pgPWR stSUPPLY_LOST))) ∧
    (s.unpowered = false → exec (.supplyLost 2) s = exec .vddAonFall s) ∧
    (11 ≤ n ∨ bit (validSupplies s.variant) n = false → exec (.supplyLost n) s = .next s) ∧
    (s.unpowered = true → n < 11 → bit (validSupplies s.variant) n = true → exec (.supplyLost n) s =
      .next (if n = 2 then s else s.setMaskBit pgPWR PWR_SUPPLY.VALID n false)) ∧
    (n = 2 ∨ bit (validSupplies s.variant) n = false ∨ s.maskBit pgPWR PWR_SUPPLY.VALID n = true →
      exec (.supplyValid n) s = .next s) ∧
    (n ≠ 2 → bit (validSupplies s.variant) n = true → s.maskBit pgPWR PWR_SUPPLY.VALID n = false →
      let u := s.setMaskBit pgPWR PWR_SUPPLY.VALID n true
      (u.suppliesOk = true ↔ ∀ i, bit (validSupplies s.variant) i = true → i = n ∨ s.maskBit pgPWR PWR_SUPPLY.VALID i = true) ∧
      (s.unpowered = true ∨ u.suppliesOk = false → exec (.supplyValid n) s = .next u) ∧
      (s.unpowered = false → u.suppliesOk = true →
        (s.leaveHold = none → s.power = powerHOLD → exec (.supplyValid n) s = .next u) ∧
        (s.leaveHold = none → s.power ≠ powerHOLD → exec (.supplyValid n) s = .next u.startUp) ∧
        (∀ c, s.leaveHold = some c → exec (.supplyValid n) s = .next ((u.chipReset (plainCause c)).startUp)))) ∧
    (s.unpowered = false → dig ≤ 1040 → ana ≤ 1040 → dig ≤ s.get pgPWR PWR_TEMP_WARN → ana ≤ s.get pgPWR PWR_TEMP_WARN →
      ∃ t, exec (.tempSample dig ana) s = .next t ∧ t.get pgPWR PWR_TEMP.DIG = trunc 16 dig ∧
        t.get pgPWR PWR_TEMP.ANA = trunc 16 ana ∧ aget t.tempRun 0 = none ∧ aget t.tempRun 1 = none ∧
        (∀ o, o ≠ PWR_TEMP.DIG.addr pgPWR 0 → t.reg o = s.reg o) ∧ t.mem = s.mem) ∧
    (s.unpowered = false → 1040 < dig → dig ≤ 1120 → dig ≤ s.get pgPWR PWR_TEMP_WARN → ana ≤ 1040 →
      ana ≤ s.get pgPWR PWR_TEMP_WARN → (aget s.tempRun 0).getD 0 < 10 → ∃ t, exec (.tempSample dig ana) s = .next t ∧
        aget t.tempRun 0 = some ((aget s.tempRun 0).getD 0 + 1) ∧ t.mem = s.mem) ∧
    (s.unpowered = false → 1040 < dig → dig ≤ 1120 → (aget s.tempRun 0).getD 0 = 10 → ∃ u : State,
      exec (.tempSample dig ana) s = .next ((u.raiseOwn pgPWR 0 0).dieTemp 1 ana) ∧
      aget u.tempRun 0 = some 11 ∧ u.get pgPWR PWR_TEMP.DIG = trunc 16 dig ∧ u.mem = s.mem)

/-- SEQ_START, RAIL_STEP_DELAY, RAIL_PG, PG_TIMEOUT, PG_LOSS, RAIL_OFF_DELAY, HOST_DELAY_EXPIRY, SEQ_OFF, HOST_PULSE, SEQ_MANUAL,
VCORE_STEP, PWR_VCORE_TARGET, PMBUS_POLL, VOUT_MISMATCH, PMB_ALERT (R71-R73, R532-R540): a step of the plan enables its rails together,
awaits their power-good, and hands on to the next that has rails; a rail that fails is recorded and, with FAIL_OFF, the rails go off
from the highest step down; VDD_CORE moves to its target in steps of at most 10 mV. The voltage before the first step is log
entry 39's reading (DEDUCED), the failure shutdown entry 80's (DEDUCED). -/
def Obligations.RailsAndCoreVoltageStep : Prop :=
  ∀ (m : Master) (k r vout iout word fails cmd : Nat) (l : List Nat) (v : Word) (s : State),
    let rails := s.stepRails k
    let wait := rails.filter fun n => s.get pgSEQ SEQ_RAIL.PG_USE n == 1 && !s.maskBit pgSEQ SEQ_PG n
    let a := s.vcoreNow
    let g := s.vcoreTo
    (s.opensF m pgSEQ SEQ_CTRL.START = true →
      let x := s.met m pgSEQ SEQ_CTRL.START
      (s.seqHw = false ∨ s.accepts pgSEQ = false ∨ s.flag pgSEQ SEQ_STATUS.RUNNING = true ∨
        (s.flag pgSEQ SEQ_STATUS.DONE = true ∧ s.flag pgSEQ SEQ_STATUS.FAILED = false) → exec (.seqStart m) s = .next x) ∧
      (s.seqHw = true → s.accepts pgSEQ = true → s.flag pgSEQ SEQ_STATUS.RUNNING = false →
        s.flag pgSEQ SEQ_STATUS.DONE = false → s.flag pgSEQ SEQ_STATUS.FAILED = false →
        (rails ≠ [] → (∀ j, j < k → s.stepRails j = []) → k < 16 → ∃ t, exec (.seqStart m) s = .next t ∧
          t.seqPhase = .delay k ∧ t.get pgSEQ SEQ_STATUS.STEP = k ∧ t.flag pgSEQ SEQ_STATUS.RUNNING = true ∧
          t.get pgSEQ SEQ_STATUS.ENABLED = s.get pgSEQ SEQ_STATUS.ENABLED ∧ t.mem = s.mem) ∧
        ((∀ j, j < 16 → s.stepRails j = []) → ∃ t, exec (.seqStart m) s = .next t ∧ t.seqPhase = .idle ∧
          t.flag pgSEQ SEQ_STATUS.RUNNING = false ∧ t.flag pgSEQ SEQ_STATUS.DONE = true ∧
          bits (t.hdr pgSEQ 0x010).toNat stSEQ_DONE 1 = 1 ∧ t.mem = s.mem))) ∧
    (s.seqPhase = .delay k →
      (wait ≠ [] → ∃ t, exec .railStepDelay s = .next t ∧ t.seqPhase = .waitPg k wait ∧
        (∀ j, j < 16 → t.maskBit pgSEQ SEQ_STATUS.ENABLED j =
          (s.maskBit pgSEQ SEQ_STATUS.ENABLED j || rails.contains j)) ∧
        (∀ o, o ≠ SEQ_STATUS.ENABLED.addr pgSEQ 0 → t.reg o = s.reg o) ∧ t.mem = s.mem) ∧
      (wait = [] → exec .railStepDelay s = .next (State.seqStepDone (s.setRails
        (rails.foldl (fun x n => Nat.lor x (2 ^ n)) (s.get pgSEQ SEQ_STATUS.ENABLED))) k)) ∧
      (r < 16 → exec (.railPg r) s = .next (s.setMaskBit pgSEQ SEQ_PG r true))) ∧
    (s.seqPhase = .waitPg k l → r < 16 →
      (∀ n ∈ l, n ≠ r → exec (.railPg r) s =
        .next { s.setMaskBit pgSEQ SEQ_PG r true with seqPhase := .waitPg k (l.filter (· != r)) }) ∧
      ((∀ n ∈ l, n = r) → exec (.railPg r) s = .next ((s.setMaskBit pgSEQ SEQ_PG r true).seqStepDone k)) ∧
      (l.head? = some r → exec (.pgTimeout r) s = .next (s.seqFail 0 r)) ∧
      (l.head? ≠ some r → exec (.pgTimeout r) s = .next s)) ∧
    (s.seqPhase = .idle → exec .railStepDelay s = .next s ∧ exec (.pgTimeout r) s = .next s ∧
      exec .railOffDelay s = .next s) ∧
    ((∀ j, k < j → j < 16 → s.stepRails j = []) →
      (s.seqStepDone k).flag pgSEQ SEQ_STATUS.DONE = true ∧ (s.seqStepDone k).seqPhase = .idle) ∧
    (r < 16 → s.maskBit pgSEQ SEQ_PG r = true →
      let u := s.setMaskBit pgSEQ SEQ_PG r false
      (s.maskBit pgSEQ SEQ_STATUS.ENABLED r = true → exec (.pgLoss r) s = .next (u.seqFail 1 r)) ∧
      (s.maskBit pgSEQ SEQ_STATUS.ENABLED r = false → exec (.pgLoss r) s = .next u)) ∧
    (s.maskBit pgSEQ SEQ_PG r = false ∨ 16 ≤ r → exec (.pgLoss r) s = .next s) ∧
    (s.seqPhase = .failOff k → exec .railOffDelay s = .next s.failOff) ∧
    (∀ n, s.topRails = some (n, l) → (∀ j, j < 16 → s.failOff.maskBit pgSEQ SEQ_STATUS.ENABLED j =
      (s.maskBit pgSEQ SEQ_STATUS.ENABLED j && !l.contains j)) ∧ s.failOff.mem = s.mem) ∧
    (s.hostDelay = true → s.seqHw = true → exec .hostDelayExpiry s =
      .next (State.setHostRst { s with hostDelay := false } false)) ∧
    (s.hostDelay = false ∨ s.seqHw = false → exec .hostDelayExpiry s = .next s) ∧
    ((s.setHostRst false).hostRst = false ∧ (s.setHostRst true).hostRst = true ∧
      (s.hostRst = true → (s.setHostRst false).hostRstDue = some false ∧
        bits ((s.setHostRst false).hdr pgSEQ 0x010).toNat stHOST_RELEASED 1 = 1) ∧
      (s.hostRst = false → (s.setHostRst true).hostRstDue = some true)) ∧
    (s.opensF m pgSEQ SEQ_CTRL.OFF = true →
      (s.seqHw = true → s.flag pgSEQ PG_CTRL.EN = true → ∃ t, exec (.seqOff m) s = .next t ∧
        t.get pgSEQ SEQ_STATUS.ENABLED = 0 ∧ t.hostRst = true ∧ t.flag pgSEQ SEQ_STATUS.DONE = false ∧
        t.seqPhase = .idle ∧ bits (t.hdr pgSEQ 0x010).toNat stOFF_DONE 1 = 1 ∧ t.mem = s.mem) ∧
      (s.seqHw = false ∨ s.flag pgSEQ PG_CTRL.EN = false → exec (.seqOff m) s = .next (s.met m pgSEQ SEQ_CTRL.OFF))) ∧
    (s.opensF m pgSEQ SEQ_CTRL.HOST_PULSE = true →
      (s.seqHw = true → s.flag pgSEQ PG_CTRL.EN = true → ∃ t, exec (.hostPulse m) s = .next t ∧ t.hostRst = true ∧
        t.hostDelay = true ∧ t.get pgSEQ SEQ_STATUS.ENABLED = s.get pgSEQ SEQ_STATUS.ENABLED ∧ t.mem = s.mem) ∧
      (s.seqHw = false ∨ s.flag pgSEQ PG_CTRL.EN = false →
        exec (.hostPulse m) s = .next (s.met m pgSEQ SEQ_CTRL.HOST_PULSE))) ∧
    (s.opensF m pgSEQ SEQ_MANUAL.RAILS = true →
      (s.hostAssisted pgSEQ = true → s.flag pgSEQ PG_CTRL.EN = true → ∃ t, exec (.seqManual m v) s = .next t ∧
        t.get pgSEQ SEQ_MANUAL.RAILS = v.toNat % 2 ^ 16 ∧ t.get pgSEQ SEQ_STATUS.ENABLED = v.toNat % 2 ^ 16 ∧
        t.hostRst = !bit v.toNat 16 ∧
        t.mem = s.mem) ∧
      (s.hostAssisted pgSEQ = false ∨ s.flag pgSEQ PG_CTRL.EN = false → ∃ t, exec (.seqManual m v) s = .next t ∧
        t.get pgSEQ SEQ_STATUS.ENABLED = s.get pgSEQ SEQ_STATUS.ENABLED ∧ t.hostRst = s.hostRst ∧ t.mem = s.mem)) ∧
    (s.vcoreRuns = false ∨ a = g → ∀ ack, exec (.vcoreStep ack) s = .next s) ∧
    (s.vcoreRuns = true → a ≠ g →
      exec (.vcoreStep false) s = .next (s.pmbFail 3 pmbVOUT_COMMAND) ∧
      ∃ t, exec (.vcoreStep true) s = .next t ∧
        t.get pgPMB PWR_VCORE_STEP = (if a < g then min g (a + 10) else max g (a - 10)) ∧
        t.flag pgPMB PWR_PMB_STATUS.AT_TARGET = (t.get pgPMB PWR_VCORE_STEP == g) ∧ t.mem = s.mem) ∧
    (s.opensF m pgPMB PWR_VCORE_TARGET = true → s.pmbHeld = false → ∃ t, exec (.pwrVcoreTarget m v) s = .next t ∧
      t.vcoreGoal = clampN 650 (s.get pgPMB PWR_VCORE_LIMIT) (v.toNat % 2 ^ 16) ∧
      t.flag pgPMB PWR_PMB_STATUS.STOPPED = false ∧
      (s.get pgPMB PWR_VCORE_LIMIT < v.toNat % 2 ^ 16 → bits (t.hdr pgPMB 0x010).toNat stLIMITED 1 = 1) ∧ t.mem = s.mem) ∧
    (s.opensF m pgPMB PWR_VCORE_TARGET = true → s.pmbHeld = true → ∃ t, exec (.pwrVcoreTarget m v) s = .next t ∧
      t.vcoreGoal = s.vcoreGoal ∧ t.get pgPMB PWR_PMB_STATUS.STOPPED = s.get pgPMB PWR_PMB_STATUS.STOPPED ∧ t.mem = s.mem) ∧
    (s.flag pgPMB PWR_PMB_CFG.EN = true →
      (s.voutOff = true → exec .voutMismatch s = .next (s.raiseOwn pgPMB 1 (BitVec.ofNat 32 pmbREAD_VOUT))) ∧
      (s.voutOff = false → exec .voutMismatch s = .next s) ∧
      (s.voutOff = true ↔ s.vcoreNow + 25 < s.get pgPMB PWR_VCORE_READ.VOUT ∨
        s.get pgPMB PWR_VCORE_READ.VOUT + 25 < s.vcoreNow) ∧
      exec .pmbAlert s = .next (s.raiseOwn pgPMB 2 (BitVec.ofNat 32 pmbSTATUS_WORD)) ∧
      (s.unpowered = false →
        (fails < 3 → vout < 2 ^ 16 → iout < 2 ^ 16 → word < 2 ^ 16 →
          ∃ t, exec (.pmbusPoll vout iout word fails cmd) s = .next t ∧ t.get pgPMB PWR_VCORE_READ.VOUT = vout ∧
            t.get pgPMB PWR_VCORE_READ.IOUT = iout ∧ t.get pgPMB PWR_PMB_STATUS.WORD = word ∧
            t.get pgPMB PWR_PMB_STATUS.ERRORS = satAdd PWR_PMB_STATUS.ERRORS.len (s.get pgPMB PWR_PMB_STATUS.ERRORS) fails ∧
            t.mem = s.mem) ∧
        (3 ≤ fails → exec (.pmbusPoll vout iout word fails cmd) s = .next (s.pmbFail fails cmd)))) ∧
    (s.flag pgPMB PWR_PMB_CFG.EN = false → exec .voutMismatch s = .next s ∧ exec .pmbAlert s = .next s ∧
      exec (.pmbusPoll vout iout word fails cmd) s = .next s)
end

