-- ==== Sys2Proof/Laws/Tables.lean ====
section
/-!
SUPPORT. Laws of the sparse tables: what a read after a write gives, and that a write keeps the keys rising.
-/
namespace Sys2Proof.Machine

@[simp] theorem aget_nil {α : Type} (x : Nat) : aget ([] : List (Nat × α)) x = none := rfl

/-- A read of the key just written gives the value. -/
@[simp] theorem aget_aput_self {α : Type} (l : List (Nat × α)) (x : Nat) (v : α) : aget (aput l x v) x = some v := by
  induction l with
  | nil => simp [aput, aget]
  | cons e r ih =>
    obtain ⟨k, w⟩ := e
    by_cases h1 : x < k
    · simp [aput, aget, h1]
    · by_cases h2 : x = k
      · simp [aput, aget, h2]
      · have h3 : ¬ k = x := fun h => h2 h.symm
        simp [aput, aget, h1, h2, h3, ih]

/-- A read of another key is as before. -/
theorem aget_aput_of_ne {α : Type} (l : List (Nat × α)) {x y : Nat} (v : α) (h : y ≠ x) :
    aget (aput l x v) y = aget l y := by
  have hx : ¬ x = y := fun e => h e.symm
  induction l with
  | nil => simp [aput, aget, hx]
  | cons e r ih =>
    obtain ⟨k, w⟩ := e
    by_cases h1 : x < k
    · simp [aput, aget, h1, hx]
    · by_cases h2 : x = k
      · subst h2; simp [aput, aget, hx]
      · simp only [aput, h1, h2, if_false, aget, ih]

/-- A deleted key reads as none. -/
@[simp] theorem aget_adel_self {α : Type} (l : List (Nat × α)) (x : Nat) : aget (adel l x) x = none := by
  induction l with
  | nil => rfl
  | cons e r ih =>
    obtain ⟨k, w⟩ := e
    by_cases h : k = x
    · simp [adel, h, ih]
    · simp [adel, aget, h, ih]

/-- Another key is as before. -/
theorem aget_adel_of_ne {α : Type} (l : List (Nat × α)) {x y : Nat} (h : y ≠ x) : aget (adel l x) y = aget l y := by
  induction l with
  | nil => rfl
  | cons e r ih =>
    obtain ⟨k, w⟩ := e
    by_cases hk : k = x
    · have hy : ¬ k = y := fun e => h (e.symm.trans hk)
      simp only [adel, hk, if_true, aget, ih]
      rw [if_neg (hk ▸ hy)]
    · simp only [adel, hk, if_false, aget, ih]

/-- Keys that rise from a lower bound also rise from any smaller one. -/
theorem asortedFrom_mono {α : Type} {l : List (Nat × α)} {a b : Nat} (hab : a ≤ b) (h : asortedFrom (some b) l = true) :
    asortedFrom (some a) l = true := by
  cases l with
  | nil => rfl
  | cons e r =>
    obtain ⟨k, w⟩ := e
    simp only [asortedFrom, Bool.and_eq_true, decide_eq_true_eq] at h ⊢
    exact ⟨by omega, h.2⟩

theorem asortedFrom_none {α : Type} {l : List (Nat × α)} {a : Nat} (h : asortedFrom (some a) l = true) :
    asortedFrom none l = true := by
  cases l with
  | nil => rfl
  | cons e r =>
    obtain ⟨k, w⟩ := e
    simp only [asortedFrom, Bool.and_eq_true] at h ⊢
    exact h.2

/-- A write keeps the keys rising above a bound that lies below its own key. -/
theorem asortedFrom_aput {α : Type} {l : List (Nat × α)} {a x : Nat} (v : α) (hx : a < x)
    (h : asortedFrom (some a) l = true) : asortedFrom (some a) (aput l x v) = true := by
  induction l generalizing a with
  | nil => simp [aput, asortedFrom, hx]
  | cons e r ih =>
    obtain ⟨k, w⟩ := e
    simp only [asortedFrom, Bool.and_eq_true, decide_eq_true_eq] at h
    by_cases h1 : x < k
    · simp [aput, asortedFrom, h1, hx, h.2]
    · by_cases h2 : x = k
      · subst h2; simp [aput, asortedFrom, hx, h.2]
      · simp only [aput, h1, h2, if_false, asortedFrom, Bool.and_eq_true, decide_eq_true_eq]
        exact ⟨h.1, ih (by omega) h.2⟩

/-- A write keeps the keys rising. -/
theorem asorted_aput {α : Type} {l : List (Nat × α)} (x : Nat) (v : α) (h : asorted l = true) :
    asorted (aput l x v) = true := by
  unfold asorted at *
  cases l with
  | nil => rfl
  | cons e r =>
    obtain ⟨k, w⟩ := e
    simp only [asortedFrom] at h
    by_cases h1 : x < k
    · simp [aput, asortedFrom, h1, h]
    · by_cases h2 : x = k
      · subst h2; simp [aput, asortedFrom, h]
      · simp only [aput, h1, h2, if_false, asortedFrom]
        exact asortedFrom_aput v (by omega) h

/-- Leaving out some entries keeps the keys rising above a bound. -/
theorem asortedFrom_filter {α : Type} {l : List (Nat × α)} {a : Nat} (p : Nat × α → Bool)
    (h : asortedFrom (some a) l = true) : asortedFrom (some a) (l.filter p) = true := by
  induction l generalizing a with
  | nil => rfl
  | cons e r ih =>
    obtain ⟨k, w⟩ := e
    simp only [asortedFrom, Bool.and_eq_true, decide_eq_true_eq] at h
    by_cases hp : p (k, w) = true
    · simp only [List.filter_cons, hp, if_true, asortedFrom, Bool.and_eq_true, decide_eq_true_eq]
      exact ⟨h.1, ih h.2⟩
    · simp only [List.filter_cons, hp, if_false, Bool.false_eq_true]
      exact ih (asortedFrom_mono (by omega) h.2)

/-- Leaving out some entries keeps the keys rising. -/
theorem asorted_filter {α : Type} {l : List (Nat × α)} (p : Nat × α → Bool) (h : asorted l = true) :
    asorted (l.filter p) = true := by
  unfold asorted at *
  induction l with
  | nil => rfl
  | cons e r ih =>
    obtain ⟨k, w⟩ := e
    simp only [asortedFrom] at h
    by_cases hp : p (k, w) = true
    · simp only [List.filter_cons, hp, if_true, asortedFrom]
      exact asortedFrom_filter p h
    · simp only [List.filter_cons, hp, if_false, Bool.false_eq_true]
      exact ih (asortedFrom_none h)

/-- Deleting a key is leaving out its entries. -/
theorem adel_eq_filter {α : Type} (l : List (Nat × α)) (x : Nat) : adel l x = l.filter fun e => e.1 != x := by
  induction l with
  | nil => rfl
  | cons e r ih =>
    obtain ⟨k, w⟩ := e
    by_cases h : k = x <;> simp [adel, h, ih]

theorem asorted_adel {α : Type} {l : List (Nat × α)} (x : Nat) (h : asorted l = true) : asorted (adel l x) = true := by
  rw [adel_eq_filter]; exact asorted_filter _ h

/-- What holds of every value of a table and of a value written holds of every value after the write. -/
theorem all_aput {α : Type} {l : List (Nat × α)} {p : Nat × α → Bool} {x : Nat} {v : α} (h : l.all p = true)
    (hv : p (x, v) = true) : (aput l x v).all p = true := by
  induction l with
  | nil => simp [aput, hv]
  | cons e r ih =>
    obtain ⟨k, w⟩ := e
    simp only [List.all_cons, Bool.and_eq_true] at h
    by_cases h1 : x < k
    · simp only [aput, h1, if_true, List.all_cons, hv, h.1, h.2, Bool.and_self]
    · by_cases h2 : x = k
      · subst h2; simp only [aput, h1, if_false, if_true, List.all_cons, hv, h.2, Bool.and_self]
      · simp only [aput, h1, h2, if_false, List.all_cons, h.1, ih h.2, Bool.and_self]

theorem all_filter {α : Type} {l : List α} {p q : α → Bool} (h : l.all p = true) : (l.filter q).all p = true := by
  simp only [List.all_eq_true, List.mem_filter] at *
  exact fun x hx => h x hx.1

end Sys2Proof.Machine
end

