-- ==== Sys2Proof/Laws/Registers.lean ====
section
/-!
SUPPORT. Laws of bit fields and of the registers: what a read gives after a write, of the same register and of another.
-/
namespace Sys2Proof.Machine
open Sys2Proof

-- Bit fields ------------------------------------------------------------------------------------------------------

theorem toNat_setBits {w : Word} {lo len : Nat} (v : Nat) (h : lo + len ≤ 32) :
    (setBits w lo len v).toNat =
      w.toNat % 2 ^ lo + (v % 2 ^ len) * 2 ^ lo + w.toNat / 2 ^ (lo + len) * 2 ^ (lo + len) := by
  have hw := w.isLt
  have ha : w.toNat % 2 ^ lo < 2 ^ lo := Nat.mod_lt _ (by positivity)
  have hb : v % 2 ^ len < 2 ^ len := Nat.mod_lt _ (by positivity)
  have hp : (2 : Nat) ^ (lo + len) = 2 ^ lo * 2 ^ len := Nat.pow_add 2 lo len
  have h32 : (2 : Nat) ^ 32 = 2 ^ (lo + len) * 2 ^ (32 - (lo + len)) := by
    rw [← Nat.pow_add]; congr 1; omega
  have hc : w.toNat / 2 ^ (lo + len) < 2 ^ (32 - (lo + len)) := by
    rw [Nat.div_lt_iff_lt_mul (by positivity), Nat.mul_comm, ← h32]; exact hw
  unfold setBits
  rw [BitVec.toNat_ofNat, Nat.mod_eq_of_lt]
  have h1 : (v % 2 ^ len) * 2 ^ lo + 2 ^ lo ≤ 2 ^ (lo + len) := by
    rw [hp]; nlinarith [Nat.pos_of_ne_zero (by positivity : (2:Nat) ^ lo ≠ 0)]
  have h2 : w.toNat / 2 ^ (lo + len) * 2 ^ (lo + len) + 2 ^ (lo + len) ≤ 2 ^ 32 := by
    rw [h32]; nlinarith [Nat.pos_of_ne_zero (by positivity : (2:Nat) ^ (lo + len) ≠ 0)]
  omega

/-- A field that has been set reads its value. -/
theorem bits_setBits_self (w : Word) {lo len : Nat} (v : Nat) (h : lo + len ≤ 32) :
    bits (setBits w lo len v).toNat lo len = v % 2 ^ len := by
  have ha : w.toNat % 2 ^ lo < 2 ^ lo := Nat.mod_lt _ (by positivity)
  have hb : v % 2 ^ len < 2 ^ len := Nat.mod_lt _ (by positivity)
  rw [toNat_setBits v h]
  unfold bits
  have e : w.toNat % 2 ^ lo + (v % 2 ^ len) * 2 ^ lo + w.toNat / 2 ^ (lo + len) * 2 ^ (lo + len) =
      w.toNat % 2 ^ lo + 2 ^ lo * (v % 2 ^ len + 2 ^ len * (w.toNat / 2 ^ (lo + len))) := by
    rw [Nat.pow_add]; ring
  rw [e, Nat.add_mul_div_left _ _ (by positivity), Nat.div_eq_of_lt ha, Nat.zero_add, Nat.add_mul_mod_self_left,
    Nat.mod_eq_of_lt hb]

/-- A field below the one set reads as before. -/
theorem bits_setBits_below (w : Word) {lo len j m : Nat} (v : Nat) (h : lo + len ≤ 32) (hj : j + m ≤ lo) :
    bits (setBits w lo len v).toNat j m = bits w.toNat j m := by
  rw [toNat_setBits v h]
  unfold bits
  have key : ∀ x : Nat, x / 2 ^ j % 2 ^ m = x % 2 ^ (j + m) / 2 ^ j := by
    intro x; rw [Nat.pow_add, Nat.mod_mul_right_div_self]
  rw [key, key]
  congr 1
  obtain ⟨d, rfl⟩ : ∃ d, lo = j + m + d := ⟨lo - (j + m), by omega⟩
  have e : w.toNat % 2 ^ (j + m + d) + v % 2 ^ len * 2 ^ (j + m + d) +
      w.toNat / 2 ^ (j + m + d + len) * 2 ^ (j + m + d + len) =
      w.toNat % 2 ^ (j + m + d) + 2 ^ (j + m) * (v % 2 ^ len * 2 ^ d + w.toNat / 2 ^ (j + m + d + len) * 2 ^ (d + len)) := by
    rw [show j + m + d + len = (j + m) + (d + len) by omega, Nat.pow_add 2 (j + m) (d + len), Nat.pow_add 2 (j + m) d]
    ring
  rw [e, Nat.add_mul_mod_self_left, Nat.pow_add 2 (j + m) d, Nat.mod_mul_right_mod]

/-- A field above the one set reads as before. -/
theorem bits_setBits_above (w : Word) {lo len j m : Nat} (v : Nat) (h : lo + len ≤ 32) (hj : lo + len ≤ j) :
    bits (setBits w lo len v).toNat j m = bits w.toNat j m := by
  have ha : w.toNat % 2 ^ lo < 2 ^ lo := Nat.mod_lt _ (by positivity)
  have hb : v % 2 ^ len < 2 ^ len := Nat.mod_lt _ (by positivity)
  rw [toNat_setBits v h]
  unfold bits
  congr 1
  obtain ⟨d, rfl⟩ : ∃ d, j = lo + len + d := ⟨j - (lo + len), by omega⟩
  rw [Nat.pow_add 2 (lo + len) d, ← Nat.div_div_eq_div_mul, ← Nat.div_div_eq_div_mul]
  congr 1
  have hlt : w.toNat % 2 ^ lo + v % 2 ^ len * 2 ^ lo < 2 ^ (lo + len) := by
    have h1 : (v % 2 ^ len + 1) * 2 ^ lo ≤ 2 ^ len * 2 ^ lo := Nat.mul_le_mul_right _ hb
    rw [Nat.pow_add, Nat.mul_comm (2 ^ lo)]; rw [Nat.add_mul] at h1; omega
  rw [Nat.add_mul_div_right _ _ (by positivity), Nat.div_eq_of_lt hlt, Nat.zero_add]

-- Registers -------------------------------------------------------------------------------------------------------

/-- A register just written reads the word. -/
@[simp] theorem reg_setReg_self (s : State) (o : Nat) (w : Word) : (s.setReg o w).reg o = w := by
  unfold State.setReg State.reg
  by_cases h : w = resetWord s.part o <;> simp [h]

/-- Another register reads as before. -/
theorem reg_setReg_of_ne (s : State) {o p : Nat} (w : Word) (h : p ≠ o) : (s.setReg o w).reg p = s.reg p := by
  unfold State.setReg State.reg
  by_cases h' : w = resetWord s.part o <;> simp [h', aget_adel_of_ne _ h, aget_aput_of_ne _ _ h]

/-- A field just set reads the low bits of its value. -/
theorem get_set_self (s : State) (pg : Nat) (f : Fld) (v i k : Nat) (h : f.lo + f.bstep * k + f.len ≤ 32) :
    (s.set pg f v i k).get pg f i k = v % 2 ^ f.len := by
  unfold State.get State.set
  rw [reg_setReg_self, bits_setBits_self _ _ h]

/-- A field of another register reads as before. -/
theorem get_set_of_ne (s : State) {pg pg' : Nat} {f g : Fld} (v : Nat) {i i' k k' : Nat}
    (h : g.addr pg' i' ≠ f.addr pg i) : (s.set pg f v i k).get pg' g i' k' = s.get pg' g i' k' := by
  unfold State.get State.set
  rw [reg_setReg_of_ne _ _ h]

/-- A field beside the one set, in the same register, reads as before. -/
theorem get_set_beside (s : State) {pg pg' : Nat} {f g : Fld} (v : Nat) {i i' k k' : Nat}
    (h : f.lo + f.bstep * k + f.len ≤ 32)
    (hd : g.lo + g.bstep * k' + g.len ≤ f.lo + f.bstep * k ∨ f.lo + f.bstep * k + f.len ≤ g.lo + g.bstep * k') :
    (s.set pg f v i k).get pg' g i' k' = s.get pg' g i' k' := by
  by_cases e : g.addr pg' i' = f.addr pg i
  · unfold State.get State.set
    rw [e, reg_setReg_self]
    rcases hd with hd | hd
    · exact bits_setBits_below _ _ h hd
    · exact bits_setBits_above _ _ h hd
  · exact get_set_of_ne _ _ e

-- The way of a write to its register ---------------------------------------------------------------------------------

theorem restartKeys_reg (s : State) (m : Master) (off o : Nat) : (s.restartKeys m off).reg o = s.reg o := by
  unfold State.restartKeys; split <;> (try split) <;> rfl

theorem restartKeys_get (s : State) (m : Master) (off pg : Nat) (f : Fld) (i k : Nat) :
    (s.restartKeys m off).get pg f i k = s.get pg f i k := by
  unfold State.get; rw [restartKeys_reg]

/-- A write that reaches its register is its body's effect, after the master's other key sequences are restarted. -/
theorem gate_open {s : State} {m : Master} {off : Nat} (f : State → State) (h : s.opens m off = true) :
    s.gate m off f = f (s.restartKeys m off) := by
  simp only [State.opens, Bool.and_eq_true, Bool.not_eq_true'] at h
  obtain ⟨⟨⟨⟨h1, h2⟩, h3⟩, h4⟩, h5⟩ := h
  have e : (s.restartKeys m off).absentAt off = s.absentAt off ∧ (s.restartKeys m off).offAt off = s.offAt off ∧
      (s.restartKeys m off).unpowered = s.unpowered ∧ (s.restartKeys m off).resetLow = s.resetLow ∧
      (s.restartKeys m off).portShut m = s.portShut m := by
    unfold State.restartKeys; split <;> (try split) <;> exact ⟨rfl, rfl, rfl, rfl, rfl⟩
  obtain ⟨e1, e2, e3, e4, e5⟩ := e
  simp [State.gate, e1, e2, e3, e4, e5, h1, h2, h3, h4, h5]

theorem gateF_open {s : State} {m : Master} {pg : Nat} {fl : Fld} {i : Nat} (f : State → State)
    (h : s.opensF m pg fl i = true) : s.gateF m pg fl i f = f (s.met m pg fl i) := gate_open f h

end Sys2Proof.Machine
end

