-- ==== Sys2Proof/Laws/Keeps.lean ====
section
/-!
SUPPORT. What every operation keeps: the part, the queue, and the canonical forms of the byte memory and of the
register table.
-/
namespace Sys2Proof.Machine
open Sys2Proof

/-- From `s` to `t` the part and the waiting commands are the same, and the canonical forms are kept. -/
structure Keeps (s t : State) : Prop where
  part : t.part = s.part
  pending : t.pending = s.pending
  mem : Memory.wf s.mem = true → Memory.wf t.mem = true
  regs : s.regsWf = true → t.regsWf = true

theorem Keeps.refl (s : State) : Keeps s s := ⟨rfl, rfl, id, id⟩

theorem Keeps.trans {s t u : State} (a : Keeps s t) (b : Keeps t u) : Keeps s u :=
  ⟨b.part.trans a.part, b.pending.trans a.pending, b.mem ∘ a.mem, b.regs ∘ a.regs⟩

/-- A state built from another's part, queue, registers and memory. -/
theorem Keeps.mk_ {z t : State} (h : Keeps z t)
    {x1 x2 x3 x4 x5 x6 x7 x8 x9 x10 x11 x12 x13 x14 f} :
    Keeps z (State.mk
    t.toRegistersState x1 x2 x3 x4 x5 x6 x7 x8 x9 x10 x11 x12 x13 x14 t.part t.pending f) := by
  obtain ⟨a, b, c, d⟩ := h
  exact ⟨a, b, c, d⟩

/-- The same where other fields of the register structure change. -/
theorem Keeps.mkIn {z t : State} (h : Keeps z t)
    {y2 y3 y4 y5 y6 y7 y8 y9 y10 y11 y12 y13 y14 y15 x1 x2 x3 x4 x5 x6 x7 x8 x9 x10 x11 x12 x13 x14 f} :
    Keeps z (State.mk
    (RegistersState.mk t.toRegistersState.regs t.toRegistersState.mem y2 y3 y4 y5 y6 y7 y8 y9 y10 y11 y12 y13
    y14 y15) x1 x2 x3 x4 x5 x6 x7 x8 x9 x10 x11 x12 x13 x14 t.part t.pending f) := by
  obtain ⟨a, b, c, d⟩ := h
  exact ⟨a, b, c, d⟩

/-- The same with the registers of a third state. -/
theorem Keeps.mkRegs {z t u : State} (h : Keeps z t) (k : Keeps z u)
    {y2 y3 y4 y5 y6 y7 y8 y9 y10 y11 y12 y13 y14 y15 x1 x2 x3 x4 x5 x6 x7 x8 x9 x10 x11 x12 x13 x14 f} :
    Keeps z (State.mk
    (RegistersState.mk u.toRegistersState.regs t.toRegistersState.mem y2 y3 y4 y5 y6 y7 y8 y9 y10 y11 y12 y13
    y14 y15) x1 x2 x3 x4 x5 x6 x7 x8 x9 x10 x11 x12 x13 x14 t.part t.pending f) := by
  refine ⟨h.part, h.pending, h.mem, fun w => ?_⟩
  have := k.regs w
  unfold State.regsWf at *
  rw [k.part] at this
  dsimp only
  rw [h.part]; exact this
theorem Keeps.snd {z t : State} {α : Type} {r : α × State} {a : α} (h : Keeps z r.2) (e : r = (a, t)) : Keeps z t := by
  subst e; exact h

theorem Keeps.snd2 {z t : State} {α β : Type} {r : α × β × State} {a : α} {b : β} (h : Keeps z r.2.2)
    (e : r = (a, b, t)) : Keeps z t := by
  subst e; exact h

theorem Keeps.of_pair {z : State} {α : Type} {r x : α × State} (h : Keeps z r.2) (e : r = x) : Keeps z x.2 := e ▸ h

theorem Keeps.of_triple {z : State} {α β : Type} {r x : α × β × State} (h : Keeps z r.2.2) (e : r = x) :
    Keeps z x.2.2 := e ▸ h

theorem Keeps.foldl {z s : State} {α : Type} {l : List α} {f : State → α → State} (h : Keeps z s)
    (hf : ∀ u x, Keeps z u → Keeps z (f u x)) : Keeps z (l.foldl f s) := by
  induction l generalizing s with
  | nil => exact h
  | cons a r ih => exact ih (hf s a h)

theorem Keeps.foldl_snd {z : State} {α β : Type} {l : List α} {f : β × State → α → β × State} {r : β × State}
    (h : Keeps z r.2) (hf : ∀ (u : β × State) x, Keeps z u.2 → Keeps z (f u x).2) : Keeps z (l.foldl f r).2 := by
  induction l generalizing r with
  | nil => exact h
  | cons a l ih => exact ih (hf r a h)

theorem Keeps.foldl_snd2 {z : State} {α β γ : Type} {l : List α} {f : γ × β × State → α → γ × β × State}
    {r : γ × β × State} (h : Keeps z r.2.2) (hf : ∀ (u : γ × β × State) x, Keeps z u.2.2 → Keeps z (f u x).2.2) :
    Keeps z (l.foldl f r).2.2 := by
  induction l generalizing r with
  | nil => exact h
  | cons a l ih => exact ih (hf r a h)

theorem Keeps.getD {z d : State} {o : Option State} (h : ∀ t, o = some t → Keeps z t) (k : Keeps z d) :
    Keeps z (o.getD d) := by
  cases o with
  | none => exact k
  | some t => exact h t rfl

theorem Keeps.ite {z s t : State} {c : Prop} [Decidable c] (h : Keeps z s) (k : Keeps z t) :
    Keeps z (if c then s else t) := by
  split
  · exact h
  · exact k

theorem Keeps.ite_snd {z : State} {α : Type} {r x : α × State} {c : Prop} [Decidable c] (h : Keeps z r.2)
    (k : Keeps z x.2) : Keeps z (if c then r else x).2 := by
  split
  · exact h
  · exact k

theorem Keeps.ite_snd2 {z : State} {α β : Type} {r x : α × β × State} {c : Prop} [Decidable c] (h : Keeps z r.2.2)
    (k : Keeps z x.2.2) : Keeps z (if c then r else x).2.2 := by
  split
  · exact h
  · exact k

/-- Whatever next state an outcome answers, `Keeps` holds of it. -/
def Kept (z : State) (o : Host.Outcome State Fault Refusal) : Prop := ∀ t, o = .next t → Keeps z t

theorem Kept.next {z t : State} (h : Keeps z t) : Kept z (.next t) := by
  intro u e; cases e; exact h

theorem Kept.fault {z : State} {f : Fault} : Kept z (.fault f) := by
  intro u e; cases e

theorem Kept.ite {z : State} {c : Prop} [Decidable c] {a b : Host.Outcome State Fault Refusal} (h : Kept z a)
    (k : Kept z b) : Kept z (if c then a else b) := by
  split
  · exact h
  · exact k

theorem State.each_keeps {z s : State} {l : List Nat} {f : State → Nat → State} (h : Keeps z s)
    (hf : ∀ u x, Keeps z u → Keeps z (f u x)) : Keeps z (s.each l f) := Keeps.foldl h hf

theorem State.when_keeps {z s : State} {c : Bool} {f : State → State} (h : Keeps z s)
    (hf : ∀ u, Keeps z u → Keeps z (f u)) : Keeps z (s.when c f) := by
  unfold State.when; split
  · exact hf s h
  · exact h

theorem State.setReg_keeps {z s : State} {o : Nat} {w : Word} (h : Keeps z s) : Keeps z (s.setReg o w) := by
  refine h.trans ⟨rfl, rfl, id, fun e => ?_⟩
  simp only [State.regsWf, Bool.and_eq_true] at e
  unfold State.setReg State.regsWf
  split
  · simp only [Bool.and_eq_true]
    exact ⟨asorted_adel _ e.1, by rw [adel_eq_filter]; exact all_filter e.2⟩
  · rename_i hw
    simp only [Bool.and_eq_true]
    exact ⟨asorted_aput _ _ e.1, all_aput e.2 (by simpa using hw)⟩

theorem State.set_keeps {z s : State} {a1 a2 a3 a4 a5} (h : Keeps z s) : Keeps z (s.set a1 a2 a3 a4 a5) :=
  State.setReg_keeps h

theorem State.clearRegs_keeps {z s : State} {lo hi : Nat} (h : Keeps z s) : Keeps z (s.clearRegs lo hi) := by
  refine h.trans ⟨rfl, rfl, id, fun e => ?_⟩
  simp only [State.regsWf, Bool.and_eq_true] at e
  unfold State.clearRegs State.regsWf
  simp only [Bool.and_eq_true]
  exact ⟨asorted_filter _ e.1, all_filter e.2⟩

theorem State.dropReg_keeps {z s : State} {o : Nat} (h : Keeps z s) :
    Keeps z { s with regs := adel s.regs o } := by
  refine h.trans ⟨rfl, rfl, id, fun e => ?_⟩
  simp only [State.regsWf, Bool.and_eq_true] at e ⊢
  exact ⟨asorted_adel _ e.1, by rw [adel_eq_filter]; exact all_filter e.2⟩

theorem State.setByte_keeps {z s : State} {o : Nat} {b : Byte} (h : Keeps z s) : Keeps z (s.setByte o b) := by
  refine h.trans ⟨rfl, rfl, fun e => ?_, id⟩
  simp only [Memory.wf, Bool.and_eq_true] at e
  unfold State.setByte Memory.wf
  dsimp only
  split
  · simp only [Bool.and_eq_true]
    exact ⟨asorted_adel _ e.1, by rw [adel_eq_filter]; exact all_filter e.2⟩
  · rename_i hw
    simp only [Bool.and_eq_true]
    exact ⟨asorted_aput _ _ e.1, all_aput e.2 (by simpa using hw)⟩

theorem State.setBytes_keeps {z s : State} {o : Nat} {l : List Byte} (h : Keeps z s) : Keeps z (s.setBytes o l) := by
  induction l generalizing s o with
  | nil => exact h
  | cons b r ih => exact ih (State.setByte_keeps h)

theorem State.setBytesEn_keeps {z s : State} {o be : Nat} {l : List Byte} (h : Keeps z s) :
    Keeps z (s.setBytesEn o be l) := by
  induction l generalizing s o be with
  | nil => exact h
  | cons b r ih =>
    unfold State.setBytesEn
    refine ih ?_
    split
    · exact State.setByte_keeps h
    · exact h

theorem State.clearBytes_keeps {z s : State} {lo hi : Nat} (h : Keeps z s) : Keeps z (s.clearBytes lo hi) := by
  refine h.trans ⟨rfl, rfl, fun e => ?_, id⟩
  simp only [Memory.wf, Bool.and_eq_true] at e
  unfold State.clearBytes Memory.wf
  simp only [Bool.and_eq_true]
  exact ⟨asorted_filter _ e.1, all_filter e.2⟩

theorem State.toHost_keeps {z s : State} {a : Nat} {l : List Byte} (h : Keeps z s) : Keeps z (s.toHost a l) := by
  induction l generalizing s a with
  | nil => exact h
  | cons b r ih => exact ih (Keeps.mkIn h)

/-- The reset of the registers leaves out those that come to their reset value. -/
theorem asortedFrom_filterMap {α : Type} {g : Nat × α → Option (Nat × α)} (hg : ∀ e x, g e = some x → x.1 = e.1)
    {l : List (Nat × α)} {a : Nat} (h : asortedFrom (some a) l = true) :
    asortedFrom (some a) (l.filterMap g) = true := by
  induction l generalizing a with
  | nil => rfl
  | cons e r ih =>
    obtain ⟨k, w⟩ := e
    simp only [asortedFrom, Bool.and_eq_true, decide_eq_true_eq] at h
    rw [List.filterMap_cons]
    split
    · exact ih (asortedFrom_mono (by omega) h.2)
    · rename_i x hx
      have hk := hg _ _ hx
      obtain ⟨k', w'⟩ := x
      simp only at hk
      subst hk
      simp only [asortedFrom, Bool.and_eq_true, decide_eq_true_eq]
      exact ⟨h.1, ih h.2⟩

theorem asorted_filterMap {α : Type} {g : Nat × α → Option (Nat × α)} (hg : ∀ e x, g e = some x → x.1 = e.1)
    {l : List (Nat × α)} (h : asorted l = true) : asorted (l.filterMap g) = true := by
  unfold asorted at *
  induction l with
  | nil => rfl
  | cons e r ih =>
    obtain ⟨k, w⟩ := e
    simp only [asortedFrom] at h
    rw [List.filterMap_cons]
    split
    · exact ih (asortedFrom_none h)
    · rename_i x hx
      have hk := hg _ _ hx
      obtain ⟨k', w'⟩ := x
      simp only at hk
      subst hk
      simp only [asortedFrom]
      exact asortedFrom_filterMap hg h

theorem State.resetRegs_keeps {z s : State} {a1 a2} (h : Keeps z s) : Keeps z (s.resetRegs a1 a2) := by
  obtain ⟨W, hW⟩ : ∃ W : Nat × Word → Word, s.resetRegs a1 a2 = { s with
      regs := s.regs.filterMap fun (e : Nat × Word) =>
        if a1 e.1 then (if W e = resetWord s.part e.1 then none else some (e.1, W e)) else some e } := ⟨_, rfl⟩
  rw [hW]
  refine h.trans ⟨rfl, rfl, id, fun e => ?_⟩
  simp only [State.regsWf, Bool.and_eq_true] at e ⊢
  constructor
  · refine asorted_filterMap ?_ e.1
    intro e x hx
    by_cases c : a1 e.1 = true <;> simp only [c, if_true, if_false, Bool.false_eq_true] at hx
    · split at hx
      · cases hx
      · simp only [Option.some.injEq] at hx; subst hx; rfl
    · simp only [Option.some.injEq] at hx; subst hx; rfl
  · rw [List.all_eq_true]
    intro x hx
    rw [List.mem_filterMap] at hx
    obtain ⟨y, hy, hx⟩ := hx
    by_cases c : a1 y.1 = true <;> simp only [c, if_true, if_false, Bool.false_eq_true] at hx
    · split at hx
      · cases hx
      · rename_i hne
        simp only [Option.some.injEq] at hx; subst hx; simpa using hne
    · simp only [Option.some.injEq] at hx
      subst hx
      exact (List.all_eq_true.mp e.2) y hy

/-- The state of a reset keeps the part, the queue and the stores; registers come from elsewhere. -/
theorem State.bareReset_keeps {z s : State} (h : Keeps z s) : Keeps z s.bareReset := by
  refine h.trans ⟨rfl, rfl, fun e => ?_, fun _ => rfl⟩
  simp only [Memory.wf, Bool.and_eq_true] at e
  unfold State.bareReset Memory.wf
  simp only [Bool.and_eq_true]
  exact ⟨asorted_filter _ e.1, all_filter e.2⟩

/-- A trigger event that is taken leaves the rest as it was. -/
theorem State.takeTrig_keeps {z s : State} {p t} {e : TrigAt} (h : Keeps z s) (k : s.takeTrig p = some (e, t)) :
    Keeps z t := by
  unfold State.takeTrig at k
  obtain ⟨a, -, hb⟩ := Option.map_eq_some_iff.mp k
  cases hb
  exact Keeps.mk_ h

end Sys2Proof.Machine
end

