-- ==== Sys2Proof/Laws/Keeps1.lean ====
section
/-!
SUPPORT. What every operation keeps (`Keeps`, Laws/Keeps.lean), part 1: one lemma per operation over the state, and per
meaning of a command one of its outcome, callees before callers.
-/
namespace Sys2Proof.Machine
open Sys2Proof

theorem State.setMaskBit_keeps {z s : State} {a1 a2 a3 a4 a5} (h : Keeps z s) : Keeps z (State.setMaskBit s a1 a2
    a3 a4 a5) := by
  unfold State.setMaskBit; try dsimp only
  apply State.setReg_keeps; exact h

theorem State.incWrap_keeps {z s : State} {a1 a2 a3} (h : Keeps z s) : Keeps z (State.incWrap s a1 a2 a3) := by
  unfold State.incWrap; try dsimp only
  apply State.set_keeps; exact h

theorem State.setVectorPending_keeps {z s : State} {a1 a2} (h : Keeps z s) : Keeps z (State.setVectorPending s a1
    a2) := by
  unfold State.setVectorPending; try dsimp only
  apply State.setReg_keeps; exact h

theorem State.sendVector_keeps {z s : State} {a1} (h : Keeps z s) : Keeps z (State.sendVector s a1) := by
  unfold State.sendVector; try dsimp only
  apply Keeps.ite; apply State.setVectorPending_keeps; exact h; with_reducible apply Keeps.mkIn; exact h

theorem State.sendPage_keeps {z s : State} {a1} (h : Keeps z s) : Keeps z (State.sendPage s a1) := by
  unfold State.sendPage; try dsimp only
  split; exact h; apply Keeps.ite; apply State.sendVector_keeps; exact h; exact h

theorem State.irqRise_keeps {z s : State} {a0 a1} (h : Keeps z s) : Keeps z (State.irqRise a0 a1 s) := by
  unfold State.irqRise; try dsimp only
  apply Keeps.ite; apply State.sendPage_keeps; exact h; exact h

theorem State.setStatus_keeps {z s : State} {a1 a2} (h : Keeps z s) : Keeps z (State.setStatus s a1 a2) := by
  unfold State.setStatus; try dsimp only
  apply State.irqRise_keeps; apply State.incWrap_keeps; apply State.setReg_keeps; exact h

theorem State.loopPin_keeps {z s : State} {a1 a2 a3} (h : Keeps z s) : Keeps z (State.loopPin s a1 a2 a3) := by
  unfold State.loopPin; try dsimp only
  apply Keeps.ite; exact h; apply Keeps.ite; with_reducible apply Keeps.mk_; apply Keeps.ite; apply Keeps.ite
  apply State.set_keeps; apply State.set_keeps; exact h; apply State.setStatus_keeps; apply State.setMaskBit_keeps
  apply State.set_keeps; apply State.set_keeps; exact h; apply State.setStatus_keeps; apply State.setMaskBit_keeps
  apply Keeps.ite; apply State.set_keeps; apply State.set_keeps; exact h; apply State.setStatus_keeps
  apply State.setMaskBit_keeps; apply State.set_keeps; apply State.set_keeps; exact h; apply Keeps.ite
  apply Keeps.ite; apply State.set_keeps; apply State.set_keeps; exact h; apply State.setStatus_keeps
  apply State.setMaskBit_keeps; apply State.set_keeps; apply State.set_keeps; exact h; apply State.setStatus_keeps
  apply State.setMaskBit_keeps; apply Keeps.ite; apply State.set_keeps; apply State.set_keeps; exact h
  apply State.setStatus_keeps; apply State.setMaskBit_keeps; apply State.set_keeps; apply State.set_keeps; exact h

theorem State.limitPin_keeps {z s : State} {a1 a2 a3} (h : Keeps z s) : Keeps z (State.limitPin s a1 a2 a3) := by
  unfold State.limitPin; try dsimp only
  apply Keeps.ite; exact h; with_reducible apply Keeps.mk_; exact h

theorem State.readPin_keeps {z s : State} {a1 a2 a3} (h : Keeps z s) : Keeps z (State.readPin s a1 a2 a3) := by
  unfold State.readPin; try dsimp only
  apply Keeps.ite; exact h; with_reducible apply Keeps.mk_; exact h

theorem State.integrateAll_keeps {z s : State} {a1} (h : Keeps z s) : Keeps z (State.integrateAll s a1) := by
  unfold State.integrateAll; try dsimp only
  apply Keeps.ite; exact h; with_reducible apply Keeps.mk_; exact h

theorem State.setCp_keeps {z s : State} {a1 a2 a3} (h : Keeps z s) : Keeps z (State.setCp s a1 a2 a3) := by
  unfold State.setCp; try dsimp only
  apply State.set_keeps; exact h

theorem State.cpPresentLevel_keeps {z s : State} {a1 a2} (h : Keeps z s) : Keeps z (State.cpPresentLevel s a1 a2)
    := by
  unfold State.cpPresentLevel; try dsimp only
  with_reducible apply Keeps.mk_; apply Keeps.ite; apply State.set_keeps; apply State.setCp_keeps; exact h
  apply State.set_keeps; apply State.setCp_keeps; exact h

theorem State.presentDue_keeps {z s : State} (h : Keeps z s) : Keeps z (State.presentDue s) := by
  unfold State.presentDue; try dsimp only
  refine Keeps.foldl ?_ ?_; with_reducible apply Keeps.mk_; exact h; intros; apply State.cpPresentLevel_keeps
  assumption

theorem State.skipEdges_keeps {z s : State} {a1} (h : Keeps z s) : Keeps z (State.skipEdges s a1) := by
  unfold State.skipEdges; try dsimp only
  apply State.presentDue_keeps; with_reducible apply Keeps.mk_; apply State.integrateAll_keeps; exact h

theorem State.slewEdge_keeps {z s : State} (h : Keeps z s) : Keeps z (State.slewEdge s) := by
  unfold State.slewEdge; try dsimp only
  apply Keeps.ite; apply State.setStatus_keeps; apply State.set_keeps; apply State.presentDue_keeps
  with_reducible apply Keeps.mk_; apply State.integrateAll_keeps; exact h; with_reducible apply Keeps.mk_
  apply State.set_keeps; apply State.presentDue_keeps; with_reducible apply Keeps.mk_
  apply State.integrateAll_keeps; exact h

theorem State.runEdges_keeps {z s : State} {a0 a2} (h : Keeps z s) : Keeps z (State.runEdges a0 s a2) := by
  induction a0 generalizing s a2 with
  | zero => exact h
  | succ k ih =>
    unfold State.runEdges
    split
    · exact State.skipEdges_keeps h
    · exact ih (State.slewEdge_keeps (State.skipEdges_keeps h))

theorem State.advance_keeps {z s : State} {a1} (h : Keeps z s) : Keeps z (State.advance s a1) := by
  unfold State.advance; try dsimp only
  apply State.runEdges_keeps; exact h

theorem State.reachClk_keeps {z s : State} {a1} (h : Keeps z s) : Keeps z (State.reachClk s a1) := by
  unfold State.reachClk; try dsimp only
  apply State.advance_keeps; exact h

theorem execLoopMonitorTick_keeps {z s : State} {a0 a1 a2 a3} (h : Keeps z s) : Kept z (execLoopMonitorTick a0 a1
    a2 a3 s) := by
  unfold execLoopMonitorTick; try dsimp only
  apply Kept.ite; apply Kept.next; exact h; apply Kept.next; apply State.each_keeps; refine Keeps.foldl ?_ ?_
  refine Keeps.foldl ?_ ?_; apply State.set_keeps; with_reducible apply Keeps.mk_; apply State.reachClk_keeps
  exact h; intros; apply State.readPin_keeps; assumption; intros; apply State.loopPin_keeps; assumption; intros
  apply State.limitPin_keeps; assumption

theorem State.incSat_keeps {z s : State} {a1 a2 a3} (h : Keeps z s) : Keeps z (State.incSat s a1 a2 a3) := by
  unfold State.incSat; try dsimp only
  apply State.set_keeps; exact h

theorem State.draw_keeps {z s : State} (h : Keeps z s) : Keeps z (State.draw s).2 := by
  unfold State.draw; try dsimp only
  with_reducible apply Keeps.mk_; exact h

theorem State.anyAccess_keeps {z s : State} (h : Keeps z s) : Keeps z (State.anyAccess s).2 := by
  unfold State.anyAccess; try dsimp only
  apply State.draw_keeps; exact h

theorem State.countFault_keeps {z s : State} {a1 a2} (h : Keeps z s) : Keeps z (State.countFault s a1 a2) := by
  unfold State.countFault; try dsimp only
  apply State.irqRise_keeps; split; apply State.incSat_keeps; apply State.set_keeps; exact h
  apply State.incSat_keeps; apply State.set_keeps; exact h; apply State.set_keeps; exact h

theorem State.errorCause_keeps {z s : State} (h : Keeps z s) : Keeps z (State.errorCause s) := by
  unfold State.errorCause; try dsimp only
  with_reducible apply Keeps.mk_; exact h

theorem State.setRing_keeps {z s : State} {a1 a2} (h : Keeps z s) : Keeps z (State.setRing s a1 a2) := by
  unfold State.setRing; try dsimp only
  with_reducible apply Keeps.mk_; exact h

theorem State.closeBlock_keeps {z s : State} {a1} (h : Keeps z s) : Keeps z (State.closeBlock s a1) := by
  unfold State.closeBlock; try dsimp only
  split; exact h; apply State.setRing_keeps; exact h

theorem State.closeFull_keeps {z s : State} {a1 a2} (h : Keeps z s) : Keeps z (State.closeFull s a1 a2) := by
  unfold State.closeFull; try dsimp only
  apply Keeps.ite; apply State.closeBlock_keeps; exact h; exact h

theorem State.loseItem_keeps {z s : State} {a1} (h : Keeps z s) : Keeps z (State.loseItem s a1) := by
  unfold State.loseItem; try dsimp only
  apply State.setStatus_keeps; apply State.incSat_keeps; apply State.setRing_keeps; exact h

theorem State.placeItem_keeps {z s : State} {a1 a2 a3 a4} {t} (h : Keeps z s) : (State.placeItem s a1 a2 a3 a4) =
    some t → Keeps z t := by
  intro e
  unfold State.placeItem at e
  dsimp only at e
  have k : Keeps z (if s.itemFits a1 a2.length = true then s else s.closeBlock a1) :=
    Keeps.ite h (State.closeBlock_keeps h)
  generalize (if s.itemFits a1 a2.length = true then s else s.closeBlock a1) = u at e k
  split at e
  · cases e
  · split at e
    · cases e; exact State.setRing_keeps k
    · split at e
      · cases e; exact State.setRing_keeps k
      · cases e

theorem State.offerItem_keeps {z s : State} {a1 a2 a3 a4} (h : Keeps z s) : Keeps z (State.offerItem s a1 a2 a3
    a4).2 := by
  unfold State.offerItem; try dsimp only
  split; dsimp only; exact h; split; dsimp only; refine State.placeItem_keeps ?_ (by assumption); exact h
  dsimp only; apply State.loseItem_keeps; apply State.closeFull_keeps; exact h

theorem State.logFault_keeps {z s : State} {a1 a2 a3 a4 a5 a6 a7} (h : Keeps z s) : Keeps z (State.logFault s a1
    a2 a3 a4 a5 a6 a7) := by
  unfold State.logFault; try dsimp only
  apply Keeps.ite; exact h; apply Keeps.ite; apply State.setStatus_keeps; apply State.incSat_keeps
  with_reducible apply Keeps.mkIn; apply State.offerItem_keeps; exact h; with_reducible apply Keeps.mkIn
  apply State.offerItem_keeps; exact h

theorem State.acknowledge_keeps {z s : State} (h : Keeps z s) : Keeps z (State.acknowledge s) := by
  unfold State.acknowledge; try dsimp only
  split; exact h; apply State.setStatus_keeps; apply State.set_keeps; apply State.set_keeps; apply State.set_keeps
  apply State.draw_keeps; apply State.set_keeps; apply State.set_keeps; with_reducible apply Keeps.mk_; exact h

theorem State.loadPress_keeps {z s : State} (h : Keeps z s) : Keeps z (State.loadPress s) := by
  unfold State.loadPress; try dsimp only
  apply State.each_keeps; exact h; intros; apply State.setReg_keeps; assumption

theorem State.chipState_keeps {z s : State} (h : Keeps z s) : Keeps z (State.chipState s) := by
  unfold State.chipState; try dsimp only
  apply State.loadPress_keeps; apply State.set_keeps; apply State.set_keeps; apply State.set_keeps
  with_reducible refine Keeps.mkRegs ?_ ?_; apply State.bareReset_keeps; exact h; apply State.resetRegs_keeps
  exact h

theorem State.bfeErase_keeps {z s : State} {a1 a2 a3} (h : Keeps z s) : Keeps z (State.bfeErase s a1 a2 a3) := by
  unfold State.bfeErase; try dsimp only
  with_reducible apply Keeps.mk_; exact h

theorem State.setImgByte_keeps {z s : State} {a1 a2 a3} (h : Keeps z s) : Keeps z (State.setImgByte s a1 a2 a3)
    := by
  unfold State.setImgByte; try dsimp only
  with_reducible apply Keeps.mk_; exact h

theorem State.bfeProgram_keeps {z s : State} {a1 a2} (h : Keeps z s) : Keeps z (State.bfeProgram s a1 a2) := by
  induction a2 generalizing s with
  | nil => exact h
  | cons x r ih =>
    obtain ⟨a, b⟩ := x
    exact ih (State.setImgByte_keeps h)

theorem State.bfeFinish_keeps {z s : State} (h : Keeps z s) : Keeps z (State.bfeFinish s) := by
  unfold State.bfeFinish; try dsimp only
  split; exact h; split; apply State.incWrap_keeps; apply State.bfeErase_keeps; with_reducible apply Keeps.mk_
  exact h; apply State.incWrap_keeps; apply State.bfeProgram_keeps; with_reducible apply Keeps.mk_; exact h

theorem State.bfeUpdFinish_keeps {z s : State} (h : Keeps z s) : Keeps z (State.bfeUpdFinish s) := by
  unfold State.bfeUpdFinish; try dsimp only
  split; exact h; apply State.setStatus_keeps; apply State.setReg_keeps; apply State.draw_keeps
  apply State.bfeProgram_keeps; apply State.bfeErase_keeps; with_reducible apply Keeps.mk_; exact h

theorem State.capFreeze_keeps {z s : State} {a1} (h : Keeps z s) : Keeps z (State.capFreeze s a1) := by
  unfold State.capFreeze; try dsimp only
  apply State.setStatus_keeps; apply State.set_keeps; exact h

theorem State.setCap_keeps {z s : State} {a1 a2} (h : Keeps z s) : Keeps z (State.setCap s a1 a2) := by
  unfold State.setCap; try dsimp only
  with_reducible apply Keeps.mk_; exact h

theorem State.capWrite_keeps {z s : State} {a1 a2} (h : Keeps z s) : Keeps z (State.capWrite s a1 a2) := by
  unfold State.capWrite; try dsimp only
  apply Keeps.ite; apply Keeps.ite; apply State.capFreeze_keeps; apply State.setCap_keeps; apply State.set_keeps
  apply State.set_keeps; exact h; apply State.setCap_keeps; apply State.set_keeps; apply State.set_keeps; exact h
  apply State.setCap_keeps; apply State.set_keeps; apply State.set_keeps; exact h

theorem State.offerPort_keeps {z s : State} {a1 a2} (h : Keeps z s) : Keeps z (State.offerPort s a1 a2) := by
  unfold State.offerPort; try dsimp only
  split; with_reducible apply Keeps.mk_; exact h; split; refine State.placeItem_keeps ?_ (by assumption); exact h
  with_reducible apply Keeps.mk_; apply State.closeFull_keeps; exact h

theorem State.setFine_keeps {z s : State} {a1 a2 a3} (h : Keeps z s) : Keeps z (State.setFine s a1 a2 a3) := by
  unfold State.setFine; try dsimp only
  with_reducible apply Keeps.mk_; exact h

theorem State.clearJoined_keeps {z s : State} {a1 a2} (h : Keeps z s) : Keeps z (State.clearJoined s a1 a2) := by
  unfold State.clearJoined; try dsimp only
  refine Keeps.foldl ?_ ?_; exact h; intros; split; assumption; apply State.setFine_keeps; assumption

theorem State.present'_keeps {z s : State} {a1 a2} (h : Keeps z s) : Keeps z (State.present' s a1 a2) := by
  unfold State.present'; try dsimp only
  with_reducible apply Keeps.mk_; exact h

theorem State.setLane_keeps {z s : State} {a1 a2 a3} (h : Keeps z s) : Keeps z (State.setLane s a1 a2 a3) := by
  unfold State.setLane; try dsimp only
  with_reducible apply Keeps.mk_; exact h

theorem State.lanePresent_keeps {z s : State} {a1 a2} (h : Keeps z s) : Keeps z (State.lanePresent s a1 a2) := by
  unfold State.lanePresent; try dsimp only
  split; exact h; apply Keeps.ite; apply State.present'_keeps; apply State.setLane_keeps; exact h; exact h

theorem State.nextWord_keeps {z s : State} {a1} (h : Keeps z s) : Keeps z (State.nextWord s a1) := by
  unfold State.nextWord; try dsimp only
  split; apply State.present'_keeps; with_reducible apply Keeps.mk_; exact h; with_reducible apply Keeps.mk_
  exact h

theorem State.setWord_keeps {z s : State} {a1 a2 a3} (h : Keeps z s) : Keeps z (State.setWord s a1 a2 a3) := by
  unfold State.setWord; try dsimp only
  with_reducible apply Keeps.mk_; exact h

theorem State.emptyOut_keeps {z s : State} {a1} (h : Keeps z s) : Keeps z (State.emptyOut s a1) := by
  unfold State.emptyOut; try dsimp only
  apply Keeps.ite; exact h; split; split; exact h; apply State.setWord_keeps; exact h; apply Keeps.ite
  apply State.clearJoined_keeps; exact h; exact h; with_reducible apply Keeps.mk_; exact h
  apply State.nextWord_keeps; exact h; apply State.lanePresent_keeps; exact h; exact h

theorem State.settleOnce_keeps {z s : State} (h : Keeps z s) : Keeps z (State.settleOnce s) := by
  unfold State.settleOnce; try dsimp only
  split; exact h; apply State.emptyOut_keeps; with_reducible apply Keeps.mk_; exact h

theorem State.settleN_keeps {z s : State} {a0} (h : Keeps z s) : Keeps z (State.settleN a0 s) := by
  induction a0 generalizing s with
  | zero => exact h
  | succ k ih => exact ih (State.settleOnce_keeps h)

theorem State.settle_keeps {z s : State} (h : Keeps z s) : Keeps z (State.settle s) := by
  unfold State.settle; try dsimp only
  apply State.settleN_keeps; exact h

theorem State.servePort_keeps {z s : State} {a1} (h : Keeps z s) : Keeps z (State.servePort s a1) := by
  unfold State.servePort; try dsimp only
  apply Keeps.ite; split; exact h; apply State.settle_keeps; apply State.offerPort_keeps
  with_reducible apply Keeps.mk_; exact h; exact h

theorem State.set64_keeps {z s : State} {a1 a2 a3 a4} (h : Keeps z s) : Keeps z (State.set64 s a1 a2 a3 a4) := by
  unfold State.set64; try dsimp only
  apply State.setReg_keeps; apply State.setReg_keeps; exact h

theorem State.commitBlock_keeps {z s : State} {a1} (h : Keeps z s) : Keeps z (State.commitBlock s a1) := by
  unfold State.commitBlock; try dsimp only
  split; exact h; apply Keeps.ite; exact h; apply State.servePort_keeps; apply State.setStatus_keeps
  apply State.set64_keeps; apply Keeps.ite; apply State.toHost_keeps; apply State.set_keeps; apply Keeps.ite
  apply State.capWrite_keeps; apply State.setRing_keeps; exact h; apply Keeps.ite; apply State.setBytes_keeps
  apply State.setRing_keeps; exact h; apply State.toHost_keeps; apply State.setRing_keeps; exact h
  apply State.set_keeps; apply Keeps.ite; apply State.capWrite_keeps; apply State.setRing_keeps; exact h
  apply Keeps.ite; apply State.setBytes_keeps; apply State.setRing_keeps; exact h; apply State.toHost_keeps
  apply State.setRing_keeps; exact h

theorem State.commitAll_keeps {z s : State} {a1} (h : Keeps z s) : Keeps z (State.commitAll s a1) := by
  unfold State.commitAll; try dsimp only
  apply State.each_keeps; exact h; intros; apply State.commitBlock_keeps; assumption

theorem State.flushTails_keeps {z s : State} (h : Keeps z s) : Keeps z (State.flushTails s) := by
  unfold State.flushTails; try dsimp only
  apply State.each_keeps; exact h; intros; apply State.each_keeps; assumption; intros; apply State.commitAll_keeps
  assumption

theorem State.quotient_keeps {z s : State} {a1} (h : Keeps z s) : Keeps z (State.quotient s a1).2 := by
  unfold State.quotient; try dsimp only
  apply Keeps.ite_snd; dsimp only; apply State.draw_keeps; exact h; dsimp only; apply State.draw_keeps; exact h

theorem State.pressDone_keeps {z s : State} {a1} (h : Keeps z s) : Keeps z (State.pressDone s a1) := by
  unfold State.pressDone; try dsimp only
  split; apply State.bfeUpdFinish_keeps; apply State.bfeFinish_keeps; apply State.acknowledge_keeps; exact h
  apply State.flushTails_keeps; exact h; split; exact h; apply State.set_keeps; apply State.quotient_keeps
  exact h; exact h

theorem State.pressToSix_keeps {z s : State} (h : Keeps z s) : Keeps z (State.pressToSix s) := by
  unfold State.pressToSix; try dsimp only
  apply Keeps.ite; exact h; apply State.set_keeps; with_reducible apply Keeps.mk_; refine Keeps.foldl ?_ ?_
  exact h; intros; apply Keeps.ite; apply State.pressDone_keeps; assumption; assumption

theorem State.setRegs_keeps {z s : State} {a1 a2} (h : Keeps z s) : Keeps z (State.setRegs s a1 a2) := by
  induction a2 generalizing s a1 with
  | nil => exact h
  | cons w r ih => exact ih (State.setReg_keeps h)

theorem State.traceRec_keeps {z s : State} {a1 a2 a3 a4 a5 a6} (h : Keeps z s) : Keeps z (State.traceRec s a1 a2
    a3 a4 a5 a6) := by
  unfold State.traceRec; try dsimp only
  apply Keeps.ite; exact h; apply Keeps.ite; apply State.setStatus_keeps; apply State.incSat_keeps
  apply State.incWrap_keeps; apply State.offerItem_keeps; exact h; apply State.incWrap_keeps
  apply State.offerItem_keeps; exact h

theorem State.trace_keeps {z s : State} {a1 a2 a3 a4} (h : Keeps z s) : Keeps z (State.trace s a1 a2 a3 a4) := by
  unfold State.trace; try dsimp only
  apply Keeps.ite; apply State.traceRec_keeps; exact h; exact h

theorem State.brokeRecord_keeps {z s : State} {a1 a2} (h : Keeps z s) : Keeps z (State.brokeRecord s a1 a2) := by
  unfold State.brokeRecord; try dsimp only
  split; apply Keeps.ite; with_reducible apply Keeps.mk_; apply State.trace_keeps; apply State.setStatus_keeps
  apply State.offerItem_keeps; apply Keeps.ite; apply State.incSat_keeps; exact h; apply State.set_keeps
  apply State.setRegs_keeps; exact h; apply State.trace_keeps; apply State.setStatus_keeps
  apply State.offerItem_keeps; apply Keeps.ite; apply State.incSat_keeps; exact h; apply State.set_keeps
  apply State.setRegs_keeps; exact h; apply State.trace_keeps; apply State.setStatus_keeps
  apply State.offerItem_keeps; apply Keeps.ite; apply State.incSat_keeps; exact h; apply State.set_keeps
  apply State.setRegs_keeps; exact h

theorem State.flowSet_keeps {z s : State} {a1 a2 a3} (h : Keeps z s) : Keeps z (State.flowSet s a1 a2 a3) := by
  unfold State.flowSet; try dsimp only
  apply State.setReg_keeps; exact h

theorem State.syncFlow_keeps {z s : State} {a1} (h : Keeps z s) : Keeps z (State.syncFlow s a1) := by
  unfold State.syncFlow; try dsimp only
  apply State.flowSet_keeps; apply State.flowSet_keeps; exact h

theorem State.syncUse_keeps {z s : State} (h : Keeps z s) : Keeps z (State.syncUse s) := by
  unfold State.syncUse; try dsimp only
  apply State.set_keeps; apply State.set_keeps; exact h

theorem State.syncWkr_keeps {z s : State} {a1} (h : Keeps z s) : Keeps z (State.syncWkr s a1) := by
  unfold State.syncWkr; try dsimp only
  apply State.set_keeps; apply State.set_keeps; exact h

theorem State.syncTask_keeps {z s : State} {a1} (h : Keeps z s) : Keeps z (State.syncTask s a1) := by
  unfold State.syncTask; try dsimp only
  split; apply State.syncUse_keeps; apply State.syncFlow_keeps; exact h; apply State.syncWkr_keeps
  apply State.syncUse_keeps; apply State.syncFlow_keeps; exact h

theorem State.schedClear_keeps {z s : State} {a1} (h : Keeps z s) : Keeps z (State.schedClear s a1) := by
  unfold State.schedClear; try dsimp only
  apply State.syncUse_keeps; refine Keeps.foldl ?_ ?_; apply State.set_keeps; with_reducible apply Keeps.mk_
  refine Keeps.foldl ?_ ?_; exact h; intros; apply State.brokeRecord_keeps; assumption; intros
  apply State.syncTask_keeps; assumption

theorem State.setPad_keeps {z s : State} {a1 a2} (h : Keeps z s) : Keeps z (State.setPad s a1 a2) := by
  unfold State.setPad; try dsimp only
  with_reducible apply Keeps.mk_; exact h

theorem State.releasePad_keeps {z s : State} {a1 a2} (h : Keeps z s) : Keeps z (State.releasePad s a1 a2) := by
  unfold State.releasePad; try dsimp only
  apply Keeps.ite; apply State.setPad_keeps; exact h; exact h

theorem State.releaseAll_keeps {z s : State} {a1} (h : Keeps z s) : Keeps z (State.releaseAll s a1) := by
  unfold State.releaseAll; try dsimp only
  apply State.each_keeps; exact h; intros; apply State.releasePad_keeps; assumption

theorem State.setOut_keeps {z s : State} {a1 a2} (h : Keeps z s) : Keeps z (State.setOut s a1 a2) := by
  unfold State.setOut; try dsimp only
  with_reducible apply Keeps.mk_; exact h

theorem State.modOut_keeps {z s : State} {a1 a2} (h : Keeps z s) : Keeps z (State.modOut s a1 a2) := by
  unfold State.modOut; try dsimp only
  apply State.setOut_keeps; exact h

theorem State.setDa_keeps {z s : State} {a1 a2 a3} (h : Keeps z s) : Keeps z (State.setDa s a1 a2 a3) := by
  unfold State.setDa; try dsimp only
  apply State.set_keeps; exact h

theorem State.daWarm_keeps {z s : State} {a1} (h : Keeps z s) : Keeps z (State.daWarm s a1) := by
  unfold State.daWarm; try dsimp only
  apply Keeps.ite; exact h; apply Keeps.ite; apply State.modOut_keeps; apply State.setDa_keeps
  apply State.setDa_keeps; exact h; apply Keeps.ite; apply State.modOut_keeps; apply State.setDa_keeps
  apply State.setDa_keeps; exact h; exact h

theorem State.daWarmAll_keeps {z s : State} (h : Keeps z s) : Keeps z (State.daWarmAll s) := by
  unfold State.daWarmAll; try dsimp only
  apply State.each_keeps; exact h; intros; apply State.daWarm_keeps; assumption

theorem State.holdFrom_keeps {z s : State} {a1 a2 a3} (h : Keeps z s) : Keeps z (State.holdFrom s a1 a2 a3) := by
  unfold State.holdFrom; try dsimp only
  apply Keeps.ite; exact h; with_reducible apply Keeps.mk_; exact h

theorem State.mutePath_keeps {z s : State} {a1 a2 a3} (h : Keeps z s) : Keeps z (State.mutePath s a1 a2 a3) := by
  unfold State.mutePath; try dsimp only
  apply Keeps.ite; exact h; apply State.incWrap_keeps; with_reducible apply Keeps.mk_; exact h

theorem State.muteFrom_keeps {z s : State} {a1 a2 a3 a4} (h : Keeps z s) : Keeps z (State.muteFrom s a1 a2 a3 a4)
    := by
  unfold State.muteFrom; try dsimp only
  split; apply Keeps.ite; with_reducible apply Keeps.mk_; exact h; apply State.incWrap_keeps
  apply State.setMaskBit_keeps; apply State.holdFrom_keeps; with_reducible apply Keeps.mk_; exact h
  apply State.mutePath_keeps; with_reducible apply Keeps.mk_; exact h

theorem State.mute_keeps {z s : State} {a1 a2 a3} (h : Keeps z s) : Keeps z (State.mute s a1 a2 a3) := by
  unfold State.mute; try dsimp only
  apply State.muteFrom_keeps; exact h

theorem State.refreshPins_keeps {z s : State} {a1} (h : Keeps z s) : Keeps z (State.refreshPins s a1) := by
  unfold State.refreshPins; try dsimp only
  apply State.each_keeps; exact h; intros; apply Keeps.ite; assumption; with_reducible apply Keeps.mk_
  apply Keeps.ite; apply State.set_keeps; assumption; apply State.set_keeps; apply State.set_keeps
  apply State.set_keeps; assumption

theorem State.refreshShunts_keeps {z s : State} {a1} (h : Keeps z s) : Keeps z (State.refreshShunts s a1) := by
  unfold State.refreshShunts; try dsimp only
  apply State.each_keeps; apply State.refreshPins_keeps; exact h; intros; apply State.mute_keeps; assumption

theorem State.setRole_keeps {z s : State} {a1} (h : Keeps z s) : Keeps z (State.setRole s a1) := by
  unfold State.setRole; try dsimp only
  apply State.daWarmAll_keeps; apply State.each_keeps; apply State.set_keeps; exact h; intros
  apply State.refreshShunts_keeps; assumption

theorem State.twinSend_keeps {z s : State} {a1} (h : Keeps z s) : Keeps z (State.twinSend s a1) := by
  unfold State.twinSend; try dsimp only
  apply Keeps.ite; with_reducible apply Keeps.mk_; exact h; exact h

theorem State.surrender_keeps {z s : State} (h : Keeps z s) : Keeps z (State.surrender s) := by
  unfold State.surrender; try dsimp only
  apply Keeps.ite; exact h; apply Keeps.ite; apply State.setRole_keeps; exact h; apply State.setStatus_keeps
  apply State.setRole_keeps; apply State.releaseAll_keeps; with_reducible apply Keeps.mk_
  apply State.twinSend_keeps; exact h

theorem State.writeCause_keeps {z s : State} {a1} (h : Keeps z s) : Keeps z (State.writeCause s a1) := by
  unfold State.writeCause; try dsimp only
  apply State.set64_keeps; apply State.set_keeps; apply State.set_keeps; apply State.set_keeps
  apply State.set_keeps; apply State.set_keeps; exact h

theorem State.chipReset_keeps {z s : State} {a1} (h : Keeps z s) : Keeps z (State.chipReset s a1) := by
  unfold State.chipReset; try dsimp only
  apply Keeps.ite; exact h; with_reducible apply Keeps.mk_; apply State.chipState_keeps
  apply State.pressToSix_keeps; apply State.acknowledge_keeps; apply State.schedClear_keeps
  apply State.incWrap_keeps; apply State.writeCause_keeps; apply Keeps.ite; exact h; apply State.surrender_keeps
  exact h

theorem State.couchCut_keeps {z s : State} (h : Keeps z s) : Keeps z (State.couchCut s) := by
  unfold State.couchCut; try dsimp only
  split; exact h; apply Keeps.ite; apply State.set_keeps; apply State.set_keeps; apply State.set_keeps
  with_reducible apply Keeps.mk_; exact h; apply State.set_keeps; apply State.set_keeps
  with_reducible apply Keeps.mk_; exact h

theorem State.mirror_keeps {z s : State} {a1} (h : Keeps z s) : Keeps z (State.mirror s a1) := by
  unfold State.mirror; try dsimp only
  apply Keeps.ite; apply State.twinSend_keeps; exact h; exact h

theorem State.mirrorOut_keeps {z s : State} {a1} (h : Keeps z s) : Keeps z (State.mirrorOut s a1) := by
  unfold State.mirrorOut; try dsimp only
  apply State.mirror_keeps; exact h

theorem State.outToSafe_keeps {z s : State} {a1 a2} (h : Keeps z s) : Keeps z (State.outToSafe s a1 a2) := by
  unfold State.outToSafe; try dsimp only
  apply State.mirrorOut_keeps; apply State.setDa_keeps; exact h

theorem State.daSafe_keeps {z s : State} (h : Keeps z s) : Keeps z (State.daSafe s) := by
  unfold State.daSafe; try dsimp only
  apply State.each_keeps; exact h; intros; apply Keeps.ite; apply State.setDa_keeps; apply State.outToSafe_keeps
  assumption; assumption

theorem State.freeze_keeps {z s : State} {a1 a2} (h : Keeps z s) : Keeps z (State.freeze s a1 a2) := by
  unfold State.freeze; try dsimp only
  apply State.set_keeps; exact h

theorem State.latchLevels_keeps {z s : State} (h : Keeps z s) : Keeps z (State.latchLevels s) := by
  unfold State.latchLevels; try dsimp only
  apply State.each_keeps; exact h; intros; apply Keeps.ite; apply State.setPad_keeps; assumption; assumption

theorem State.holdReset_keeps {z s : State} {a1 a2} (h : Keeps z s) : Keeps z (State.holdReset s a1 a2) := by
  unfold State.holdReset; try dsimp only
  apply Keeps.ite; exact h; with_reducible apply Keeps.mkIn; exact h

theorem State.admitRamps_keeps {z s : State} (h : Keeps z s) : Keeps z (State.admitRamps s) := by
  unfold State.admitRamps; try dsimp only
  with_reducible apply Keeps.mk_; exact h

theorem State.dozeSync_keeps {z s : State} (h : Keeps z s) : Keeps z (State.dozeSync s) := by
  unfold State.dozeSync; try dsimp only
  apply Keeps.ite; exact h; apply Keeps.ite; apply State.releaseAll_keeps; with_reducible apply Keeps.mk_; exact h
  with_reducible apply Keeps.mk_; exact h

theorem State.refuseOff_keeps {z s : State} {a1} (h : Keeps z s) : Keeps z (State.refuseOff s a1) := by
  unfold State.refuseOff; try dsimp only
  apply State.setStatus_keeps; apply Keeps.ite; apply State.setMaskBit_keeps; exact h
  apply State.setMaskBit_keeps; exact h

theorem State.askChanged_keeps {z s : State} {a0 a2} (h : Keeps z s) : Keeps z (State.askChanged a0 s a2) := by
  unfold State.askChanged; try dsimp only
  apply State.dozeSync_keeps; apply State.admitRamps_keeps; apply State.each_keeps; exact h; intros; apply Keeps.ite
  apply State.refuseOff_keeps; assumption; assumption

theorem State.linkEn_keeps {z s : State} {a1} (h : Keeps z s) : Keeps z (State.linkEn s a1) := by
  unfold State.linkEn; try dsimp only
  apply Keeps.ite; apply State.set_keeps; exact h; apply Keeps.ite; apply State.set_keeps; exact h; exact h

theorem State.endLoad_keeps {z s : State} {a1 a2 a3 a4} (h : Keeps z s) : Keeps z (State.endLoad s a1 a2 a3 a4)
    := by
  unfold State.endLoad; try dsimp only
  apply Keeps.ite; apply State.setStatus_keeps; apply State.set_keeps; apply State.set_keeps
  apply State.set_keeps; apply State.set64_keeps; with_reducible apply Keeps.mk_; apply State.set_keeps
  apply State.set_keeps; apply State.set_keeps; apply State.set_keeps; apply Keeps.ite
  apply State.setStatus_keeps; split; apply Keeps.ite; apply State.set_keeps; apply State.set_keeps
  apply State.set_keeps; apply State.set_keeps; with_reducible apply Keeps.mk_; exact h; apply State.set_keeps
  apply State.set_keeps; apply State.set_keeps; apply State.set_keeps; apply State.set_keeps
  with_reducible apply Keeps.mk_; exact h; apply State.set_keeps; apply State.set_keeps; apply State.set_keeps
  apply Keeps.ite; apply State.set_keeps; apply State.set_keeps; apply State.set_keeps; apply State.set_keeps
  with_reducible apply Keeps.mk_; exact h; apply State.set_keeps; apply State.set_keeps; apply State.set_keeps
  apply State.set_keeps; apply State.set_keeps; with_reducible apply Keeps.mk_; exact h; split; apply Keeps.ite
  apply State.set_keeps; apply State.set_keeps; apply State.set_keeps; apply State.set_keeps
  with_reducible apply Keeps.mk_; exact h; apply State.set_keeps; apply State.set_keeps; apply State.set_keeps
  apply State.set_keeps; apply State.set_keeps; with_reducible apply Keeps.mk_; exact h; apply State.set_keeps
  apply State.set_keeps; apply State.set_keeps; apply Keeps.ite; apply State.set_keeps; apply State.set_keeps
  apply State.set_keeps; apply State.set_keeps; with_reducible apply Keeps.mk_; exact h; apply State.set_keeps
  apply State.set_keeps; apply State.set_keeps; apply State.set_keeps; apply State.set_keeps
  with_reducible apply Keeps.mk_; exact h; apply State.setStatus_keeps; apply Keeps.ite
  apply State.setStatus_keeps; split; apply Keeps.ite; apply State.set_keeps; apply State.set_keeps
  apply State.set_keeps; apply State.set_keeps; with_reducible apply Keeps.mk_; exact h; apply State.set_keeps
  apply State.set_keeps; apply State.set_keeps; apply State.set_keeps; apply State.set_keeps
  with_reducible apply Keeps.mk_; exact h; apply State.set_keeps; apply State.set_keeps; apply State.set_keeps
  apply Keeps.ite; apply State.set_keeps; apply State.set_keeps; apply State.set_keeps; apply State.set_keeps
  with_reducible apply Keeps.mk_; exact h; apply State.set_keeps; apply State.set_keeps; apply State.set_keeps
  apply State.set_keeps; apply State.set_keeps; with_reducible apply Keeps.mk_; exact h; split; apply Keeps.ite
  apply State.set_keeps; apply State.set_keeps; apply State.set_keeps; apply State.set_keeps
  with_reducible apply Keeps.mk_; exact h; apply State.set_keeps; apply State.set_keeps; apply State.set_keeps
  apply State.set_keeps; apply State.set_keeps; with_reducible apply Keeps.mk_; exact h; apply State.set_keeps
  apply State.set_keeps; apply State.set_keeps; apply Keeps.ite; apply State.set_keeps; apply State.set_keeps
  apply State.set_keeps; apply State.set_keeps; with_reducible apply Keeps.mk_; exact h; apply State.set_keeps
  apply State.set_keeps; apply State.set_keeps; apply State.set_keeps; apply State.set_keeps
  with_reducible apply Keeps.mk_; exact h

theorem State.abortOp_keeps {z s : State} (h : Keeps z s) : Keeps z (State.abortOp s) := by
  unfold State.abortOp; try dsimp only
  split; exact h; apply State.endLoad_keeps; exact h; apply State.set_keeps; with_reducible apply Keeps.mk_
  exact h

theorem State.asBlockReset_keeps {z s : State} {a1} (h : Keeps z s) : Keeps z (State.asBlockReset s a1) := by
  unfold State.asBlockReset; try dsimp only
  with_reducible apply Keeps.mk_; apply State.clearRegs_keeps; apply State.clearRegs_keeps
  apply State.clearRegs_keeps; exact h

theorem State.calPass_keeps {z s : State} (h : Keeps z s) : Keeps z (State.calPass s) := by
  unfold State.calPass; try dsimp only
  with_reducible apply Keeps.mk_; apply State.set_keeps; apply State.set_keeps; exact h

theorem State.setConv_keeps {z s : State} {a1 a2} (h : Keeps z s) : Keeps z (State.setConv s a1 a2) := by
  unfold State.setConv; try dsimp only
  with_reducible apply Keeps.mk_; exact h

theorem State.modConv_keeps {z s : State} {a1 a2} (h : Keeps z s) : Keeps z (State.modConv s a1 a2) := by
  unfold State.modConv; try dsimp only
  apply State.setConv_keeps; exact h

theorem State.convBlockReset_keeps {z s : State} {a1} (h : Keeps z s) : Keeps z (State.convBlockReset s a1) := by
  unfold State.convBlockReset; try dsimp only
  apply State.modConv_keeps; apply State.clearRegs_keeps; apply State.clearRegs_keeps; apply State.clearRegs_keeps
  exact h

theorem State.convCtrl_keeps {z s : State} {a1 a2} (h : Keeps z s) : Keeps z (State.convCtrl s a1 a2) := by
  unfold State.convCtrl; try dsimp only
  apply Keeps.ite; apply Keeps.ite; apply State.modConv_keeps; exact h; exact h; apply State.modConv_keeps
  with_reducible apply Keeps.mk_; apply Keeps.ite; apply State.modConv_keeps; exact h; exact h

theorem State.cpUnsettle_keeps {z s : State} {a1} (h : Keeps z s) : Keeps z (State.cpUnsettle s a1) := by
  unfold State.cpUnsettle; try dsimp only
  with_reducible apply Keeps.mk_; apply State.setCp_keeps; exact h

theorem State.cpClear_keeps {z s : State} {a1} (h : Keeps z s) : Keeps z (State.cpClear s a1) := by
  unfold State.cpClear; try dsimp only
  apply State.cpPresentLevel_keeps; apply State.cpUnsettle_keeps; apply State.setCp_keeps; apply State.setCp_keeps
  apply State.setCp_keeps; exact h

theorem State.cpForget_keeps {z s : State} {a1} (h : Keeps z s) : Keeps z (State.cpForget s a1) := by
  unfold State.cpForget; try dsimp only
  with_reducible apply Keeps.mk_; exact h

theorem State.cpSync_keeps {z s : State} {a1} (h : Keeps z s) : Keeps z (State.cpSync s a1) := by
  unfold State.cpSync; try dsimp only
  split; with_reducible apply Keeps.mk_; apply State.cpClear_keeps; apply State.cpForget_keeps; exact h
  with_reducible apply Keeps.mk_; apply State.cpClear_keeps; apply State.cpForget_keeps; exact h; exact h

theorem State.cpBlockReset_keeps {z s : State} {a1} (h : Keeps z s) : Keeps z (State.cpBlockReset s a1) := by
  unfold State.cpBlockReset; try dsimp only
  apply Keeps.ite; apply State.set_keeps; apply State.each_keeps; exact h; intros; apply Keeps.ite; assumption
  apply State.cpSync_keeps; apply State.setCp_keeps; assumption; apply State.each_keeps; exact h; intros
  apply Keeps.ite; assumption; apply State.cpSync_keeps; apply State.setCp_keeps; assumption

theorem State.clearTrip_keeps {z s : State} {a1} (h : Keeps z s) : Keeps z (State.clearTrip s a1) := by
  unfold State.clearTrip; try dsimp only
  apply State.modOut_keeps; apply State.setMaskBit_keeps; apply State.setDa_keeps; exact h

theorem State.daDisable_keeps {z s : State} {a1 a2} (h : Keeps z s) : Keeps z (State.daDisable s a1 a2) := by
  unfold State.daDisable; try dsimp only
  apply Keeps.ite; apply State.modOut_keeps; exact h; apply Keeps.ite; exact h; apply State.modOut_keeps
  apply State.setDa_keeps; apply State.outToSafe_keeps; exact h

theorem State.daBlockReset_keeps {z s : State} {a1} (h : Keeps z s) : Keeps z (State.daBlockReset s a1) := by
  unfold State.daBlockReset; try dsimp only
  apply State.each_keeps; exact h; intros; apply Keeps.ite; apply State.modOut_keeps; apply State.clearTrip_keeps
  apply State.modOut_keeps; apply State.daDisable_keeps; assumption; apply State.modOut_keeps
  apply State.daDisable_keeps; assumption

theorem State.daCtrl_keeps {z s : State} {a1 a2} (h : Keeps z s) : Keeps z (State.daCtrl s a1 a2) := by
  unfold State.daCtrl; try dsimp only
  apply Keeps.ite; apply State.each_keeps; exact h; intros; apply State.daDisable_keeps; assumption; exact h

theorem State.bankGates_keeps {z s : State} {a1} (h : Keeps z s) : Keeps z (State.bankGates s a1) := by
  unfold State.bankGates; try dsimp only
  with_reducible apply Keeps.mk_; exact h

theorem State.putTask_keeps {z s : State} {a1 a2} (h : Keeps z s) : Keeps z (State.putTask s a1 a2) := by
  unfold State.putTask; try dsimp only
  with_reducible apply Keeps.mk_; exact h

theorem State.stamp_keeps {z s : State} (h : Keeps z s) : Keeps z (State.stamp s).2 := by
  unfold State.stamp; try dsimp only
  with_reducible apply Keeps.mk_; exact h

theorem State.enqueue_keeps {z s : State} {a1 a2 a3 a4} (h : Keeps z s) : Keeps z (State.enqueue s a1 a2 a3 a4).2
    := by
  unfold State.enqueue; try dsimp only
  apply State.trace_keeps; apply State.syncTask_keeps; with_reducible apply Keeps.mk_; apply State.stamp_keeps
  with_reducible apply Keeps.mk_; apply State.draw_keeps; exact h

theorem State.returnHandle_keeps {z s : State} {a1 a2} (h : Keeps z s) : Keeps z (State.returnHandle s a1 a2) := by
  unfold State.returnHandle; try dsimp only
  apply Keeps.ite; with_reducible apply Keeps.mk_; exact h; apply Keeps.ite; apply State.present'_keeps
  with_reducible apply Keeps.mk_; exact h; exact h

theorem State.traceStall_keeps {z s : State} {a1 a2 a3} (h : Keeps z s) : Keeps z (State.traceStall s a1 a2 a3)
    := by
  unfold State.traceStall; try dsimp only
  apply Keeps.ite; apply State.setStatus_keeps; apply State.traceRec_keeps; exact h; apply State.traceRec_keeps
  exact h

theorem State.serveOne_keeps {z s : State} (h : Keeps z s) : Keeps z (State.serveOne s) := by
  unfold State.serveOne; try dsimp only
  split; exact h; apply Keeps.ite; exact h; split; apply State.traceStall_keeps; apply State.enqueue_keeps
  with_reducible apply Keeps.mk_; exact h; split; exact h; apply State.settle_keeps; apply State.traceStall_keeps
  apply State.returnHandle_keeps; apply State.enqueue_keeps; with_reducible apply Keeps.mk_; exact h

theorem State.serveWaiting_keeps {z s : State} (h : Keeps z s) : Keeps z (State.serveWaiting s) := by
  unfold State.serveWaiting; try dsimp only
  apply State.each_keeps; exact h; intros; apply State.serveOne_keeps; assumption

theorem State.cutWorkers_keeps {z s : State} {a1 a2} (h : Keeps z s) : Keeps z (State.cutWorkers s a1 a2) := by
  unfold State.cutWorkers; try dsimp only
  apply Keeps.ite; refine Keeps.foldl ?_ ?_; exact h; intros; apply State.syncTask_keeps
  apply State.putTask_keeps; apply State.stamp_keeps; apply State.brokeRecord_keeps; assumption
  apply State.serveWaiting_keeps; refine Keeps.foldl ?_ ?_; exact h; intros; apply State.syncTask_keeps
  apply State.putTask_keeps; apply State.stamp_keeps; apply State.brokeRecord_keeps; assumption

theorem State.clearBankNets_keeps {z s : State} {a1} (h : Keeps z s) : Keeps z (State.clearBankNets s a1) := by
  unfold State.clearBankNets; try dsimp only
  with_reducible apply Keeps.mk_; exact h

theorem State.latchTile_keeps {z s : State} {a1 a2} (h : Keeps z s) : Keeps z (State.latchTile s a1 a2) := by
  unfold State.latchTile; try dsimp only
  split; exact h; apply Keeps.ite; apply State.setFine_keeps; exact h; exact h

theorem State.pushTrig_keeps {z s : State} {a1 a2 a3} (h : Keeps z s) : Keeps z (State.pushTrig s a1 a2 a3) := by
  unfold State.pushTrig; try dsimp only
  with_reducible apply Keeps.mk_; exact h

theorem State.startLine_keeps {z s : State} {a1} (h : Keeps z s) : Keeps z (State.startLine s a1) := by
  unfold State.startLine; try dsimp only
  apply Keeps.ite; apply State.pushTrig_keeps; exact h; exact h

theorem State.strobeLine_keeps {z s : State} {a1} (h : Keeps z s) : Keeps z (State.strobeLine s a1) := by
  unfold State.strobeLine; try dsimp only
  apply State.each_keeps; exact h; intros; apply Keeps.ite; apply State.pushTrig_keeps; assumption; assumption

theorem State.triggerLine_keeps {z s : State} {a1 a2 a3} (h : Keeps z s) : Keeps z (State.triggerLine s a1 a2 a3)
    := by
  unfold State.triggerLine; try dsimp only
  apply State.each_keeps; apply Keeps.ite; apply State.pushTrig_keeps; exact h; exact h; intros; apply Keeps.ite
  apply State.pushTrig_keeps; assumption; assumption

theorem State.levelTo_keeps {z s : State} {a1 a2 a3} (h : Keeps z s) : Keeps z (State.levelTo s a1 a2 a3) := by
  unfold State.levelTo; try dsimp only
  split; split; exact h; apply State.setFine_keeps; exact h; apply Keeps.ite; apply State.startLine_keeps; exact h
  exact h; apply Keeps.ite; apply State.triggerLine_keeps; exact h; exact h; apply Keeps.ite
  apply State.strobeLine_keeps; exact h; exact h; exact h

theorem State.levelNet_keeps {z s : State} {a1} (h : Keeps z s) : Keeps z (State.levelNet s a1) := by
  unfold State.levelNet; try dsimp only
  apply Keeps.ite; exact h; apply Keeps.ite; exact h; refine Keeps.foldl ?_ ?_; with_reducible apply Keeps.mk_
  exact h; intros; apply State.levelTo_keeps; assumption

theorem State.levelPass_keeps {z s : State} (h : Keeps z s) : Keeps z (State.levelPass s) := by
  unfold State.levelPass; try dsimp only
  refine Keeps.foldl ?_ ?_; refine Keeps.foldl ?_ ?_; exact h; intros; apply State.levelNet_keeps; assumption
  intros; apply State.latchTile_keeps; assumption

theorem State.flow_keeps {z s : State} (h : Keeps z s) : Keeps z (State.flow s) := by
  unfold State.flow; try dsimp only
  refine Keeps.foldl ?_ ?_; exact h; intros; apply State.levelPass_keeps; assumption

theorem State.initBank_keeps {z s : State} {a1} (h : Keeps z s) : Keeps z (State.initBank s a1) := by
  unfold State.initBank; try dsimp only
  apply State.flow_keeps; apply State.settle_keeps; apply State.clearBankNets_keeps
  with_reducible apply Keeps.mk_; exact h

theorem State.fbBlockReset_keeps {z s : State} {a1} (h : Keeps z s) : Keeps z (State.fbBlockReset s a1) := by
  unfold State.fbBlockReset; try dsimp only
  apply State.clearRegs_keeps; apply State.initBank_keeps; exact h

theorem State.fbReset_keeps {z s : State} {a1 a2} (h : Keeps z s) : Keeps z (State.fbReset s a1 a2) := by
  unfold State.fbReset; try dsimp only
  apply State.bankGates_keeps; apply State.set_keeps; apply State.fbBlockReset_keeps; apply State.cutWorkers_keeps
  exact h

theorem State.setChain_keeps {z s : State} {a1 a2} (h : Keeps z s) : Keeps z (State.setChain s a1 a2) := by
  unfold State.setChain; try dsimp only
  with_reducible apply Keeps.mk_; exact h

theorem State.setFc_keeps {z s : State} {a1 a2 a3} (h : Keeps z s) : Keeps z (State.setFc s a1 a2 a3) := by
  unfold State.setFc; try dsimp only
  apply State.set_keeps; exact h

theorem State.changeChain_keeps {z s : State} {a1} (h : Keeps z s) : Keeps z (State.changeChain s a1) := by
  unfold State.changeChain; try dsimp only
  apply Keeps.ite; apply State.setChain_keeps; apply State.setFc_keeps; apply State.setFc_keeps
  apply State.setFc_keeps; apply State.setFc_keeps; apply State.setFc_keeps; apply State.setFc_keeps; exact h
  apply State.setFc_keeps; apply State.setFc_keeps; apply State.setFc_keeps; apply State.setFc_keeps
  apply State.setFc_keeps; apply State.setFc_keeps; exact h

theorem State.chainSync_keeps {z s : State} {a1} (h : Keeps z s) : Keeps z (State.chainSync s a1) := by
  unfold State.chainSync; try dsimp only
  split; apply State.changeChain_keeps; apply State.setChain_keeps; exact h; apply State.setChain_keeps; exact h
  exact h

theorem State.fcBlockReset_keeps {z s : State} {a1} (h : Keeps z s) : Keeps z (State.fcBlockReset s a1) := by
  unfold State.fcBlockReset; try dsimp only
  with_reducible apply Keeps.mk_; apply State.each_keeps; apply State.set_keeps; exact h; intros
  apply State.setFc_keeps; apply State.setFc_keeps; apply State.setFc_keeps; apply State.setFc_keeps
  apply State.setFc_keeps; apply State.setFc_keeps; apply State.chainSync_keeps; assumption

theorem State.gbBlockReset_keeps {z s : State} {a1} (h : Keeps z s) : Keeps z (State.gbBlockReset s a1) := by
  unfold State.gbBlockReset; try dsimp only
  apply State.set_keeps; apply State.set_keeps; apply State.set_keeps; exact h

theorem State.lsBlockReset_keeps {z s : State} (h : Keeps z s) : Keeps z (State.lsBlockReset s) := by
  unfold State.lsBlockReset; try dsimp only
  apply State.each_keeps; exact h; intros; apply State.set_keeps; apply State.set_keeps; apply State.set_keeps
  assumption

theorem State.markCellErr_keeps {z s : State} {a1} (h : Keeps z s) : Keeps z (State.markCellErr s a1) := by
  unfold State.markCellErr; try dsimp only
  apply Keeps.ite; apply State.set_keeps; exact h; apply State.setStatus_keeps; apply State.set_keeps; exact h

theorem State.clearCq_keeps {z s : State} {a1} (h : Keeps z s) : Keeps z (State.clearCq s a1) := by
  unfold State.clearCq; try dsimp only
  with_reducible apply Keeps.mk_; apply State.set_keeps; apply State.set_keeps; exact h

theorem State.clearSq_keeps {z s : State} {a1} (h : Keeps z s) : Keeps z (State.clearSq s a1) := by
  unfold State.clearSq; try dsimp only
  apply State.set_keeps; apply State.set_keeps; exact h

theorem State.schedBlockReset_keeps {z s : State} {a1 a2} (h : Keeps z s) : Keeps z (State.schedBlockReset s a1
    a2) := by
  unfold State.schedBlockReset; try dsimp only
  split; apply State.clearRegs_keeps; apply State.schedClear_keeps; exact h; exact h; apply State.clearRegs_keeps
  exact h; apply State.each_keeps; with_reducible apply Keeps.mk_; apply State.cutWorkers_keeps; exact h; intros
  apply State.clearCq_keeps; apply State.clearSq_keeps; apply State.set_keeps; apply State.set_keeps; assumption

theorem State.setTxn_keeps {z s : State} {a1} (h : Keeps z s) : Keeps z (State.setTxn s a1) := by
  unfold State.setTxn; try dsimp only
  apply State.set_keeps; apply State.set_keeps; apply State.set_keeps; apply State.set_keeps
  with_reducible apply Keeps.mk_; exact h

theorem State.snBlockReset_keeps {z s : State} (h : Keeps z s) : Keeps z (State.snBlockReset s) := by
  unfold State.snBlockReset; try dsimp only
  apply State.clearRegs_keeps; apply State.set_keeps; apply State.set_keeps; apply State.set_keeps; exact h

theorem State.sqBlockReset_keeps {z s : State} {a1} (h : Keeps z s) : Keeps z (State.sqBlockReset s a1) := by
  unfold State.sqBlockReset; try dsimp only
  apply State.each_keeps; apply State.set_keeps; exact h; intros; apply State.setLane_keeps
  apply State.setReg_keeps; apply State.setReg_keeps; apply State.setReg_keeps; apply State.set_keeps; assumption

theorem State.addSat_keeps {z s : State} {a1 a2 a3 a4} (h : Keeps z s) : Keeps z (State.addSat s a1 a2 a3 a4) := by
  unfold State.addSat; try dsimp only
  apply State.set_keeps; exact h

theorem State.discardRing_keeps {z s : State} {a1} (h : Keeps z s) : Keeps z (State.discardRing s a1) := by
  unfold State.discardRing; try dsimp only
  apply Keeps.ite; exact h; apply State.addSat_keeps; apply State.setRing_keeps; exact h

theorem State.streamBlockReset_keeps {z s : State} {a1} (h : Keeps z s) : Keeps z (State.streamBlockReset s a1)
    := by
  unfold State.streamBlockReset; try dsimp only
  apply State.each_keeps; apply State.clearRegs_keeps; apply State.each_keeps; exact h; intros
  apply State.discardRing_keeps; assumption; intros; apply State.set_keeps; apply State.set_keeps; assumption

theorem State.syncNmi_keeps {z s : State} (h : Keeps z s) : Keeps z (State.syncNmi s) := by
  unfold State.syncNmi; try dsimp only
  apply State.set_keeps; exact h

theorem State.tbBlockReset_keeps {z s : State} (h : Keeps z s) : Keeps z (State.tbBlockReset s) := by
  unfold State.tbBlockReset; try dsimp only
  with_reducible apply Keeps.mk_; apply State.set_keeps; apply State.set_keeps; exact h

theorem State.nextTick_keeps {z s : State} (h : Keeps z s) : Keeps z (State.nextTick s) := by
  unfold State.nextTick; try dsimp only
  apply State.advance_keeps; exact h

theorem State.setTimer_keeps {z s : State} {a1 a2} (h : Keeps z s) : Keeps z (State.setTimer s a1 a2) := by
  unfold State.setTimer; try dsimp only
  with_reducible apply Keeps.mk_; exact h

theorem State.release_keeps {z s : State} {a1 a2} (h : Keeps z s) : Keeps z (State.release s a1 a2) := by
  unfold State.release; try dsimp only
  apply Keeps.ite; exact h; with_reducible apply Keeps.mk_; exact h

theorem State.timerCells_keeps {z s : State} {a1 a2} (h : Keeps z s) : Keeps z (State.timerCells s a1 a2) := by
  unfold State.timerCells; try dsimp only
  refine Keeps.foldl ?_ ?_; exact h; intros; apply Keeps.ite; assumption; apply Keeps.ite
  apply State.holdFrom_keeps; assumption; apply State.release_keeps; assumption

theorem State.timerOut_keeps {z s : State} {a1 a2 a3} (h : Keeps z s) : Keeps z (State.timerOut s a1 a2 a3) := by
  unfold State.timerOut; try dsimp only
  apply Keeps.ite; apply State.each_keeps; apply State.timerCells_keeps; exact h; intros; apply State.each_keeps
  apply Keeps.ite; apply State.pushTrig_keeps; assumption; assumption; intros; apply Keeps.ite
  apply State.pushTrig_keeps; assumption; assumption; apply State.each_keeps; apply Keeps.ite
  apply State.pushTrig_keeps; apply State.each_keeps; apply State.each_keeps; apply State.timerCells_keeps
  exact h; intros; apply State.each_keeps; apply Keeps.ite; apply State.pushTrig_keeps; assumption; assumption
  intros; apply Keeps.ite; apply State.pushTrig_keeps; assumption; assumption; intros; apply Keeps.ite
  apply State.pushTrig_keeps; assumption; assumption; apply State.each_keeps; apply State.each_keeps
  apply State.timerCells_keeps; exact h; intros; apply State.each_keeps; apply Keeps.ite
  apply State.pushTrig_keeps; assumption; assumption; intros; apply Keeps.ite; apply State.pushTrig_keeps
  assumption; assumption; intros; apply Keeps.ite; apply State.pushTrig_keeps; assumption; assumption; intros
  apply Keeps.ite; apply State.pushTrig_keeps; assumption; assumption

theorem State.raiseHw_keeps {z s : State} {a1 a2} (h : Keeps z s) : Keeps z (State.raiseHw s a1 a2) := by
  unfold State.raiseHw; try dsimp only
  apply Keeps.ite; with_reducible apply Keeps.mk_; exact h; exact h

theorem State.timerSched_keeps {z s : State} {a1 a2 a3} (h : Keeps z s) : Keeps z (State.timerSched s a1 a2 a3)
    := by
  unfold State.timerSched; try dsimp only
  apply Keeps.ite; apply State.raiseHw_keeps; exact h; exact h

theorem State.timerFall_keeps {z s : State} {a1 a2} (h : Keeps z s) : Keeps z (State.timerFall s a1 a2) := by
  unfold State.timerFall; try dsimp only
  apply Keeps.ite; apply State.timerOut_keeps; apply State.setTimer_keeps; exact h; apply State.timerSched_keeps
  apply State.timerOut_keeps; apply State.setTimer_keeps; exact h

theorem State.timerRise_keeps {z s : State} {a1 a2 a3} (h : Keeps z s) : Keeps z (State.timerRise s a1 a2 a3) := by
  unfold State.timerRise; try dsimp only
  apply State.timerSched_keeps; apply State.timerOut_keeps; apply Keeps.ite; apply State.setStatus_keeps
  apply State.incWrap_keeps; apply State.setMaskBit_keeps; apply Keeps.ite; apply State.set_keeps
  apply State.setTimer_keeps; split; exact h; apply Keeps.ite; apply State.timerFall_keeps; exact h; exact h
  apply State.setTimer_keeps; split; exact h; apply Keeps.ite; apply State.timerFall_keeps; exact h; exact h
  apply State.incWrap_keeps; apply State.setMaskBit_keeps; apply Keeps.ite; apply State.set_keeps
  apply State.setTimer_keeps; split; exact h; apply Keeps.ite; apply State.timerFall_keeps; exact h; exact h
  apply State.setTimer_keeps; split; exact h; apply Keeps.ite; apply State.timerFall_keeps; exact h; exact h

theorem State.startOne_keeps {z s : State} {a1 a2} (h : Keeps z s) : Keeps z (State.startOne s a1 a2).2 := by
  unfold State.startOne; try dsimp only
  apply Keeps.ite_snd; dsimp only; exact h; apply Keeps.ite_snd; dsimp only; apply State.setTimer_keeps; exact h
  apply Keeps.ite_snd; dsimp only; apply State.timerRise_keeps; apply State.set_keeps; apply State.setTimer_keeps
  apply Keeps.ite; apply State.timerFall_keeps; exact h; exact h; dsimp only; apply State.set_keeps
  apply State.setTimer_keeps; apply Keeps.ite; apply State.timerFall_keeps; exact h; exact h

theorem State.startAll_keeps {z s : State} {a0 a1 a2 a4} (h : Keeps z s) : Keeps z (State.startAll a0 a1 a2 s a4)
    := by
  induction a0 generalizing s a1 a2 with
  | zero => exact h
  | succ k ih =>
    cases a1 with
    | nil => exact h
    | cons n r =>
      unfold State.startAll
      split
      · exact ih h
      · exact ih (State.startOne_keeps h)

theorem State.startTimer_keeps {z s : State} {a1 a2} (h : Keeps z s) : Keeps z (State.startTimer s a1 a2) := by
  unfold State.startTimer; try dsimp only
  apply State.startAll_keeps; exact h

theorem State.lateStart_keeps {z s : State} {a1} (h : Keeps z s) : Keeps z (State.lateStart s a1) := by
  unfold State.lateStart; try dsimp only
  apply Keeps.ite; apply State.setStatus_keeps; apply State.startTimer_keeps; exact h; exact h

theorem State.armTimer_keeps {z s : State} {a1} (h : Keeps z s) : Keeps z (State.armTimer s a1) := by
  unfold State.armTimer; try dsimp only
  apply State.lateStart_keeps; apply State.set_keeps; apply State.setTimer_keeps; exact h

theorem State.timerDue_keeps {z s : State} {a1 a2 a3} (h : Keeps z s) : Keeps z (State.timerDue s a1 a2 a3) := by
  unfold State.timerDue; try dsimp only
  apply State.startAll_keeps; apply State.timerRise_keeps; exact h

theorem State.timerCatchUp_keeps {z s : State} {a0 a2} (h : Keeps z s) : Keeps z (State.timerCatchUp a0 s a2) := by
  induction a0 generalizing s with
  | zero => exact h
  | succ k ih =>
    unfold State.timerCatchUp
    split
    · exact h
    · split
      · exact ih (State.timerDue_keeps h)
      · exact h

theorem State.stopTimer_keeps {z s : State} {a1} (h : Keeps z s) : Keeps z (State.stopTimer s a1) := by
  unfold State.stopTimer; try dsimp only
  apply State.set_keeps; apply State.setTimer_keeps; split; apply State.timerCatchUp_keeps; exact h
  apply State.timerFall_keeps; apply State.timerCatchUp_keeps; exact h

theorem State.toTick_keeps {z s : State} (h : Keeps z s) : Keeps z (State.toTick s) := by
  unfold State.toTick; try dsimp only
  apply State.advance_keeps; exact h

theorem State.setTimerEn_keeps {z s : State} {a1 a2} (h : Keeps z s) : Keeps z (State.setTimerEn s a1 a2) := by
  unfold State.setTimerEn; try dsimp only
  apply Keeps.ite; exact h; apply Keeps.ite; apply State.armTimer_keeps; apply State.set_keeps
  apply State.toTick_keeps; exact h; apply State.set_keeps; apply State.stopTimer_keeps; apply State.toTick_keeps
  exact h

theorem State.tmBlockReset_keeps {z s : State} (h : Keeps z s) : Keeps z (State.tmBlockReset s) := by
  unfold State.tmBlockReset; try dsimp only
  apply State.each_keeps; exact h; intros; apply State.setTimerEn_keeps; assumption

theorem State.clearSynced_keeps {z s : State} (h : Keeps z s) : Keeps z (State.clearSynced s) := by
  unfold State.clearSynced; try dsimp only
  apply State.set_keeps; apply State.set_keeps; apply State.set_keeps; exact h

theorem State.raiseClaim_keeps {z s : State} {a1} (h : Keeps z s) : Keeps z (State.raiseClaim s a1) := by
  unfold State.raiseClaim; try dsimp only
  with_reducible apply Keeps.mk_; exact h

theorem State.tryTakeOver_keeps {z s : State} (h : Keeps z s) : Keeps z (State.tryTakeOver s) := by
  unfold State.tryTakeOver; try dsimp only
  apply Keeps.ite; apply State.raiseClaim_keeps; exact h; exact h

theorem State.lostHeartbeat_keeps {z s : State} (h : Keeps z s) : Keeps z (State.lostHeartbeat s) := by
  unfold State.lostHeartbeat; try dsimp only
  apply Keeps.ite; apply State.set_keeps; with_reducible apply Keeps.mk_; exact h; apply State.tryTakeOver_keeps
  with_reducible apply Keeps.mk_; exact h

theorem State.takeLinkDown_keeps {z s : State} (h : Keeps z s) : Keeps z (State.takeLinkDown s) := by
  unfold State.takeLinkDown; try dsimp only
  apply Keeps.ite; apply State.lostHeartbeat_keeps; apply State.setStatus_keeps; apply State.incWrap_keeps
  with_reducible apply Keeps.mk_; apply State.clearSynced_keeps; apply State.set_keeps; exact h; exact h

theorem State.twBlockReset_keeps {z s : State} (h : Keeps z s) : Keeps z (State.twBlockReset s) := by
  unfold State.twBlockReset; try dsimp only
  apply State.clearRegs_keeps; apply State.clearRegs_keeps; apply State.clearRegs_keeps
  apply State.takeLinkDown_keeps; exact h

theorem State.resetFunc_keeps {z s : State} {a1 a2 a3 a4} (h : Keeps z s) : Keeps z (State.resetFunc s a1 a2 a3
    a4) := by
  unfold State.resetFunc; try dsimp only
  split; apply State.syncNmi_keeps; apply State.setReg_keeps; with_reducible apply Keeps.mk_
  apply State.set_keeps; apply State.set_keeps; exact h; apply State.setReg_keeps; apply State.set_keeps
  with_reducible apply Keeps.mk_; exact h; apply State.tbBlockReset_keeps; exact h; apply State.tmBlockReset_keeps
  exact h; apply State.abortOp_keeps; exact h; apply Keeps.ite; apply State.calPass_keeps; exact h
  with_reducible apply Keeps.mk_; apply State.set_keeps; apply State.set_keeps; exact h
  apply State.clearRegs_keeps; exact h; apply State.fbReset_keeps; exact h; apply State.refreshShunts_keeps
  apply State.markCellErr_keeps; apply State.asBlockReset_keeps; exact h; apply State.convCtrl_keeps
  apply State.convBlockReset_keeps; exact h; apply State.fcBlockReset_keeps; exact h
  apply State.cpBlockReset_keeps; exact h; apply State.daBlockReset_keeps; apply State.daCtrl_keeps; exact h
  apply State.lsBlockReset_keeps; exact h; apply State.schedBlockReset_keeps; exact h
  apply State.schedBlockReset_keeps; exact h; apply State.schedBlockReset_keeps; exact h
  apply State.schedBlockReset_keeps; exact h; apply State.streamBlockReset_keeps; exact h
  apply State.setTxn_keeps; exact h; apply State.twBlockReset_keeps; exact h; apply State.snBlockReset_keeps
  exact h; apply State.gbBlockReset_keeps; exact h; apply State.sqBlockReset_keeps; exact h; exact h; exact h
  exact h; exact h; exact h; exact h; exact h; exact h; exact h

theorem State.resetBlock_keeps {z s : State} {a1 a2} (h : Keeps z s) : Keeps z (State.resetBlock s a1 a2) := by
  unfold State.resetBlock; try dsimp only
  split; exact h; apply State.askChanged_keeps; apply State.linkEn_keeps; apply State.resetFunc_keeps
  apply Keeps.ite; exact h; apply State.set_keeps; exact h

theorem State.blockReset_keeps {z s : State} {a1 a2} (h : Keeps z s) : Keeps z (State.blockReset s a1 a2) := by
  unfold State.blockReset; try dsimp only
  apply Keeps.ite; exact h; apply Keeps.ite; apply State.holdReset_keeps; exact h; apply State.resetBlock_keeps
  exact h

theorem State.releaseResets_keeps {z s : State} {a1} (h : Keeps z s) : Keeps z (State.releaseResets s a1) := by
  unfold State.releaseResets; try dsimp only
  refine Keeps.foldl ?_ ?_; with_reducible apply Keeps.mkIn; exact h; intros; apply Keeps.ite
  apply State.blockReset_keeps; assumption; assumption

theorem State.syncHealthy_keeps {z s : State} (h : Keeps z s) : Keeps z (State.syncHealthy s) := by
  unfold State.syncHealthy; try dsimp only
  apply State.set_keeps; exact h

theorem State.enterSafe_keeps {z s : State} {a1 a2 a3 a4} (h : Keeps z s) : Keeps z (State.enterSafe s a1 a2 a3
    a4) := by
  unfold State.enterSafe; try dsimp only
  apply Keeps.ite; apply State.errorCause_keeps; exact h; apply State.setStatus_keeps
  apply State.syncHealthy_keeps; apply Keeps.ite; apply State.surrender_keeps; apply State.daSafe_keeps
  apply State.latchLevels_keeps; apply State.set_keeps; apply State.set_keeps; with_reducible apply Keeps.mk_
  apply State.each_keeps; apply State.releaseResets_keeps; apply State.couchCut_keeps; apply State.set_keeps
  apply State.set64_keeps; apply State.set_keeps; apply State.set_keeps; apply State.set_keeps
  apply State.set_keeps; apply State.errorCause_keeps; exact h; intros; apply State.freeze_keeps; assumption
  apply State.daSafe_keeps; apply State.latchLevels_keeps; apply State.set_keeps; apply State.set_keeps
  with_reducible apply Keeps.mk_; apply State.each_keeps; apply State.releaseResets_keeps
  apply State.couchCut_keeps; apply State.set_keeps; apply State.set64_keeps; apply State.set_keeps
  apply State.set_keeps; apply State.set_keeps; apply State.set_keeps; apply State.errorCause_keeps; exact h
  intros; apply State.freeze_keeps; assumption

theorem State.faultVector_keeps {z s : State} {a1 a2} (h : Keeps z s) : Keeps z (State.faultVector s a1 a2) := by
  unfold State.faultVector; try dsimp only
  apply State.irqRise_keeps; with_reducible apply Keeps.mkIn; exact h

theorem State.startUp_keeps {z s : State} (h : Keeps z s) : Keeps z (State.startUp s) := by
  unfold State.startUp; try dsimp only
  apply State.set_keeps; exact h

theorem State.trap_keeps {z s : State} {a1 a2} (h : Keeps z s) : Keeps z (State.trap s a1 a2) := by
  unfold State.trap; try dsimp only
  apply State.setStatus_keeps; apply State.syncNmi_keeps; with_reducible apply Keeps.mk_; apply Keeps.ite; exact h
  apply State.set_keeps; apply State.set_keeps; apply State.set_keeps; apply State.set_keeps; exact h

theorem State.react_keeps {z s : State} {a1 a2 a3 a4} (h : Keeps z s) (h1 : ∀ u x0 x1, Keeps z u → Keeps z (a1 u
    x0 x1)) : Keeps z (State.react s a1 a2 a3 a4) := by
  unfold State.react; try dsimp only
  split; apply State.faultVector_keeps; exact h; apply State.trap_keeps; exact h; apply h1; exact h
  apply State.startUp_keeps; apply State.chipReset_keeps; exact h; apply State.enterSafe_keeps; exact h; exact h

theorem State.writeCapture_keeps {z s : State} {a1 a2} (h : Keeps z s) : Keeps z (State.writeCapture s a1 a2) := by
  unfold State.writeCapture; try dsimp only
  apply State.set64_keeps; apply State.setReg_keeps; apply State.set_keeps; exact h

theorem State.faultBy_keeps {z s : State} {a1 a2 a3 a4 a5} (h : Keeps z s) (h1 : ∀ u x0 x1, Keeps z u → Keeps z
    (a1 u x0 x1)) (h2 : ∀ u, Keeps z u → Keeps z (a2 u)) (h5 : ∀ u, Keeps z u → Keeps z (a5 u)) : Keeps z (State.faultBy s a1 a2 a3 a4 a5) := by
  unfold State.faultBy; try dsimp only
  apply Keeps.ite; exact h; apply State.logFault_keeps; apply State.react_keeps; apply Keeps.ite
  apply State.errorCause_keeps; apply h2; apply h5; apply State.countFault_keeps; apply Keeps.ite
  apply State.writeCapture_keeps; exact h; exact h; apply h2; apply h5; apply State.countFault_keeps
  apply Keeps.ite; apply State.writeCapture_keeps; exact h; exact h; intros; apply h1; assumption

theorem State.useReact_keeps {z s : State} {a1} (h : Keeps z s) : Keeps z (State.useReact s a1) := by
  unfold State.useReact; try dsimp only
  apply Keeps.ite; apply State.faultBy_keeps; apply State.anyAccess_keeps; with_reducible apply Keeps.mkIn
  exact h; intros; assumption; intros; dsimp only [id]; assumption; intros; dsimp only [id]; assumption; exact h

theorem State.faultWith_keeps {z s : State} {a1 a2 a3 a4} (h : Keeps z s) (h1 : ∀ u x0 x1, Keeps z u → Keeps z
    (a1 u x0 x1)) (h4 : ∀ u, Keeps z u → Keeps z (a4 u)) : Keeps z (State.faultWith s a1 a2 a3 a4) := by
  unfold State.faultWith; try dsimp only
  apply State.faultBy_keeps; exact h; intros; apply h1; assumption; intros; apply State.useReact_keeps; assumption
  intros; apply h4; assumption

theorem State.checkWords_keeps {z s : State} {a1 a2} (h : Keeps z s) (h1 : ∀ u x0 x1, Keeps z u → Keeps z (a1 u
    x0 x1)) : Keeps z (State.checkWords s a1 a2) := by
  unfold State.checkWords; try dsimp only
  refine Keeps.foldl ?_ ?_; exact h; intros; apply State.faultWith_keeps; assumption; intros; apply h1; assumption
  intros; dsimp only [id]; assumption

theorem State.resetChecked_keeps {z s : State} {a1 a2} (h : Keeps z s) : Keeps z (State.resetChecked s a1 a2) := by
  unfold State.resetChecked; try dsimp only
  apply Keeps.ite; apply State.checkWords_keeps; apply State.blockReset_keeps; exact h; intros; assumption
  apply State.blockReset_keeps; exact h

theorem State.raiseFault_keeps {z s : State} {a1 a2 a3 a4 a5 a6 a7} (h : Keeps z s) (h6 : ∀ u, Keeps z u → Keeps
    z (a6 u)) : Keeps z (State.raiseFault s a1 a2 a3 a4 a5 a6 a7) := by
  unfold State.raiseFault; try dsimp only
  apply State.faultWith_keeps; exact h; intros; apply State.resetChecked_keeps; assumption; intros; apply h6
  assumption

theorem State.raiseOwn_keeps {z s : State} {a1 a2 a3 a4} (h : Keeps z s) (h4 : ∀ u, Keeps z u → Keeps z (a4 u)) :
    Keeps z (State.raiseOwn s a1 a2 a3 a4) := by
  unfold State.raiseOwn; try dsimp only
  apply State.raiseFault_keeps; apply State.anyAccess_keeps; exact h; intros; apply h4; assumption

theorem State.pinTrip_keeps {z s : State} {a1 a2 a3 a4} (h : Keeps z s) : Keeps z (State.pinTrip s a1 a2 a3 a4)
    := by
  unfold State.pinTrip; try dsimp only
  apply Keeps.ite; exact h; apply State.raiseOwn_keeps; exact h; intros; apply State.refreshShunts_keeps
  apply State.setStatus_keeps; apply State.incSat_keeps; apply State.setMaskBit_keeps
  with_reducible apply Keeps.mk_; assumption

theorem execShuntTrip_keeps {z s : State} {a0} (h : Keeps z s) : Kept z (execShuntTrip a0 s) := by
  unfold execShuntTrip; try dsimp only
  apply Kept.next; apply State.pinTrip_keeps; exact h

theorem execVoutTrip_keeps {z s : State} {a0} (h : Keeps z s) : Kept z (execVoutTrip a0 s) := by
  unfold execVoutTrip; try dsimp only
  apply Kept.next; apply State.pinTrip_keeps; exact h

theorem State.pinRestore_keeps {z s : State} {a1 a2} (h : Keeps z s) : Keeps z (State.pinRestore s a1 a2) := by
  unfold State.pinRestore; try dsimp only
  apply State.refreshShunts_keeps; apply State.setReg_keeps; exact h

theorem State.absentWrite_keeps {z s : State} (h : Keeps z s) : Keeps z (State.absentWrite s) := by
  unfold State.absentWrite; try dsimp only
  apply State.setStatus_keeps; apply State.incSat_keeps; exact h

theorem State.restartKeys_keeps {z s : State} {a1 a2} (h : Keeps z s) : Keeps z (State.restartKeys s a1 a2) := by
  unfold State.restartKeys; try dsimp only
  split; apply Keeps.ite; exact h; with_reducible apply Keeps.mkIn; exact h; exact h

theorem State.gate_keeps {z s : State} {a1 a2 a3} (h : Keeps z s) (h3 : ∀ u, Keeps z u → Keeps z (a3 u)) : Keeps
    z (State.gate s a1 a2 a3) := by
  unfold State.gate; try dsimp only
  apply Keeps.ite; apply State.restartKeys_keeps; exact h; apply Keeps.ite; apply State.setStatus_keeps
  apply State.restartKeys_keeps; exact h; apply Keeps.ite; apply State.absentWrite_keeps
  apply State.restartKeys_keeps; exact h; apply Keeps.ite; apply State.setStatus_keeps
  apply State.restartKeys_keeps; exact h; apply h3; apply State.restartKeys_keeps; exact h

theorem State.gateF_keeps {z s : State} {a1 a2 a3 a4 a5} (h : Keeps z s) (h5 : ∀ u, Keeps z u → Keeps z (a5 u)) :
    Keeps z (State.gateF s a1 a2 a3 a4 a5) := by
  unfold State.gateF; try dsimp only
  apply State.gate_keeps; exact h; intros; apply h5; assumption

theorem execAsPinRestore_keeps {z s : State} {a0 a1 a2} (h : Keeps z s) : Kept z (execAsPinRestore a0 a1 a2 s) := by
  unfold execAsPinRestore; try dsimp only
  apply Kept.next; apply State.gateF_keeps; exact h; intros; apply State.pinRestore_keeps; assumption

theorem State.gainCell_keeps {z s : State} {a1 a2 a3 a4} (h : Keeps z s) : Keeps z (State.gainCell s a1 a2 a3 a4)
    := by
  unfold State.gainCell; try dsimp only
  apply Keeps.ite; exact h; apply Keeps.ite; apply State.setStatus_keeps; exact h; apply State.set_keeps
  apply State.set_keeps; apply State.mute_keeps; exact h

theorem State.lockedWrite_keeps {z s : State} {a1} (h : Keeps z s) : Keeps z (State.lockedWrite s a1) := by
  unfold State.lockedWrite; try dsimp only
  apply State.setStatus_keeps; exact h

theorem State.underLock_keeps {z s : State} {a1 a2 a3 a4} (h : Keeps z s) (h4 : ∀ u, Keeps z u → Keeps z (a4 u))
    : Keeps z (State.underLock s a1 a2 a3 a4) := by
  unfold State.underLock; try dsimp only
  apply Keeps.ite; apply Keeps.ite; apply State.lockedWrite_keeps; exact h; exact h; apply h4; exact h

theorem State.gainOvr_keeps {z s : State} {a1 a2 a3} (h : Keeps z s) : Keeps z (State.gainOvr s a1 a2 a3) := by
  unfold State.gainOvr; try dsimp only
  apply State.underLock_keeps; exact h; intros; apply State.each_keeps; assumption; intros
  apply State.gainCell_keeps; assumption

end Sys2Proof.Machine
end

