-- ==== Sys2Proof/Laws/Keeps2.lean ====
section
/-!
SUPPORT. What every operation keeps (`Keeps`, Laws/Keeps.lean), part 2: one lemma per operation over the state, and per
meaning of a command one of its outcome, callees before callers.
-/
namespace Sys2Proof.Machine
open Sys2Proof

theorem execAsGainOvr_keeps {z s : State} {a0 a1 a2 a3} (h : Keeps z s) : Kept z (execAsGainOvr a0 a1 a2 a3 s) := by
  unfold execAsGainOvr; try dsimp only
  apply Kept.next; apply State.gateF_keeps; exact h; intros; apply Keeps.ite; apply State.gainOvr_keeps
  assumption; assumption

theorem execMuteEnd_keeps {z s : State} {a0 a1 a2} (h : Keeps z s) : Kept z (execMuteEnd a0 a1 a2 s) := by
  unfold execMuteEnd; try dsimp only
  apply Kept.ite; apply Kept.next; exact h; apply Kept.next; apply State.setStatus_keeps; split
  apply State.release_keeps; apply State.setMaskBit_keeps; with_reducible apply Keeps.mk_
  apply State.reachClk_keeps; exact h; with_reducible apply Keeps.mk_; apply State.reachClk_keeps; exact h
  with_reducible apply Keeps.mk_; apply State.reachClk_keeps; exact h; with_reducible apply Keeps.mk_
  apply State.reachClk_keeps; exact h

theorem State.muteRunning_keeps {z s : State} {a1 a2} (h : Keeps z s) : Keeps z (State.muteRunning s a1 a2) := by
  unfold State.muteRunning; try dsimp only
  apply State.each_keeps; exact h; intros; apply Keeps.ite; assumption; apply State.muteFrom_keeps; assumption

theorem State.cellsOff_keeps {z s : State} {a1} (h : Keeps z s) : Keeps z (State.cellsOff s a1) := by
  unfold State.cellsOff; try dsimp only
  with_reducible apply Keeps.mk_; exact h

theorem State.setField_keeps {z s : State} {a1} (h : Keeps z s) : Keeps z (State.setField s a1) := by
  unfold State.setField; try dsimp only
  with_reducible apply Keeps.mk_; exact h

theorem State.bootEnable_keeps {z s : State} {a1} (h : Keeps z s) : Keeps z (State.bootEnable s a1) := by
  unfold State.bootEnable; try dsimp only
  apply State.each_keeps; exact h; intros; apply Keeps.ite; apply State.set_keeps; assumption; assumption

theorem State.clearErr_keeps {z s : State} {a1} (h : Keeps z s) : Keeps z (State.clearErr s a1) := by
  unfold State.clearErr; try dsimp only
  apply State.set_keeps; apply State.setReg_keeps; apply State.set_keeps; apply State.set_keeps; exact h

theorem State.startLoad_keeps {z s : State} {a1 a2} (h : Keeps z s) : Keeps z (State.startLoad s a1 a2) := by
  unfold State.startLoad; try dsimp only
  apply Keeps.ite; apply State.setStatus_keeps; exact h; apply State.set_keeps; apply State.set_keeps
  apply State.clearErr_keeps; with_reducible apply Keeps.mk_; exact h

theorem State.bootPoll_keeps {z s : State} (h : Keeps z s) : Keeps z (State.bootPoll s) := by
  unfold State.bootPoll; try dsimp only
  apply Keeps.ite; exact h; apply Keeps.ite; apply State.startLoad_keeps; with_reducible apply Keeps.mk_; exact h
  apply State.startLoad_keeps; with_reducible apply Keeps.mk_; exact h

theorem State.bootMark_keeps {z s : State} {a1} (h : Keeps z s) : Keeps z (State.bootMark s a1) := by
  unfold State.bootMark; try dsimp only
  apply State.set_keeps; apply State.set_keeps; apply State.set_keeps; with_reducible apply Keeps.mk_; exact h

theorem State.bootWait_keeps {z s : State} {a1} (h : Keeps z s) : Keeps z (State.bootWait s a1) := by
  unfold State.bootWait; try dsimp only
  apply State.set_keeps; exact h

theorem State.bootLocked_keeps {z s : State} (h : Keeps z s) : Keeps z (State.bootLocked s) := by
  unfold State.bootLocked; try dsimp only
  apply Keeps.ite; exact h; apply Keeps.ite; apply State.bootPoll_keeps; with_reducible apply Keeps.mk_
  apply State.bootMark_keeps; exact h; apply State.bootWait_keeps; apply State.bootMark_keeps; exact h

theorem State.checkRegions_keeps {z s : State} (h : Keeps z s) : Keeps z (State.checkRegions s) := by
  unfold State.checkRegions; try dsimp only
  apply Keeps.ite; apply State.setStatus_keeps; apply Keeps.ite; apply State.set_keeps; apply Keeps.ite
  apply State.set_keeps; exact h; exact h; apply Keeps.ite; apply State.set_keeps; exact h; exact h
  apply Keeps.ite; apply State.set_keeps; apply Keeps.ite; apply State.set_keeps; exact h; exact h
  apply Keeps.ite; apply State.set_keeps; exact h; exact h

theorem State.bootOne_keeps {z s : State} (h : Keeps z s) : Keeps z (State.bootOne s) := by
  unfold State.bootOne; try dsimp only
  apply State.bootLocked_keeps; apply State.bootWait_keeps; apply State.bootMark_keeps
  apply State.checkRegions_keeps; apply State.bootEnable_keeps; apply State.set_keeps; exact h

theorem State.calCtrl_keeps {z s : State} {a1} (h : Keeps z s) : Keeps z (State.calCtrl s a1) := by
  unfold State.calCtrl; try dsimp only
  apply Keeps.ite; apply Keeps.ite; exact h; apply State.calPass_keeps; exact h; apply State.set_keeps
  with_reducible apply Keeps.mk_; exact h

theorem State.listen_keeps {z s : State} (h : Keeps z s) : Keeps z (State.listen s) := by
  unfold State.listen; try dsimp only
  apply Keeps.ite; exact h; split; apply State.setRole_keeps; with_reducible apply Keeps.mk_; exact h
  apply State.raiseClaim_keeps; exact h; apply Keeps.ite; with_reducible apply Keeps.mk_; exact h
  apply State.raiseClaim_keeps; exact h

theorem State.startListening_keeps {z s : State} (h : Keeps z s) : Keeps z (State.startListening s) := by
  unfold State.startListening; try dsimp only
  apply Keeps.ite; apply State.listen_keeps; apply State.setRole_keeps; exact h; exact h

theorem State.bootThree_keeps {z s : State} (h : Keeps z s) : Keeps z (State.bootThree s) := by
  unfold State.bootThree; try dsimp only
  apply State.syncHealthy_keeps; apply Keeps.ite; apply State.startListening_keeps; apply State.calCtrl_keeps
  apply State.linkEn_keeps; apply State.set_keeps; apply State.bootEnable_keeps; with_reducible apply Keeps.mk_
  apply State.bootMark_keeps; exact h; apply State.calCtrl_keeps; apply State.linkEn_keeps; apply State.set_keeps
  apply State.bootEnable_keeps; with_reducible apply Keeps.mk_; apply State.bootMark_keeps; exact h

theorem State.bootSeven_keeps {z s : State} (h : Keeps z s) : Keeps z (State.bootSeven s) := by
  unfold State.bootSeven; try dsimp only
  apply Keeps.ite; apply State.bootMark_keeps; exact h; exact h

theorem State.bootFull_keeps {z s : State} (h : Keeps z s) : Keeps z (State.bootFull s) := by
  unfold State.bootFull; try dsimp only
  apply State.bootSeven_keeps; apply State.setStatus_keeps; apply State.set_keeps; apply State.bootMark_keeps
  exact h

theorem State.bootOnly_keeps {z s : State} (h : Keeps z s) : Keeps z (State.bootOnly s) := by
  unfold State.bootOnly; try dsimp only
  apply State.bootSeven_keeps; apply State.setStatus_keeps; apply State.set_keeps; apply State.set_keeps
  apply State.set_keeps; with_reducible apply Keeps.mk_; exact h

theorem State.bootFive_keeps {z s : State} (h : Keeps z s) : Keeps z (State.bootFive s) := by
  unfold State.bootFive; try dsimp only
  apply Keeps.ite; apply State.bootPoll_keeps; with_reducible apply Keeps.mk_; apply State.bootMark_keeps; exact h
  apply State.bootOnly_keeps; apply State.bootMark_keeps; exact h

theorem State.bootFour_keeps {z s : State} (h : Keeps z s) : Keeps z (State.bootFour s) := by
  unfold State.bootFour; try dsimp only
  apply Keeps.ite; apply State.bootFive_keeps; apply State.bootMark_keeps; exact h; apply State.bootMark_keeps
  exact h

theorem State.bootFail_keeps {z s : State} (h : Keeps z s) : Keeps z (State.bootFail s) := by
  unfold State.bootFail; try dsimp only
  apply Keeps.ite; apply State.bootOnly_keeps; with_reducible apply Keeps.mk_; exact h; apply Keeps.ite
  apply State.bootWait_keeps; with_reducible apply Keeps.mk_; exact h; with_reducible apply Keeps.mk_; exact h

theorem State.couchRefuse_keeps {z s : State} {a1 a2} (h : Keeps z s) : Keeps z (State.couchRefuse s a1 a2) := by
  unfold State.couchRefuse; try dsimp only
  apply State.setStatus_keeps; split; apply State.setReg_keeps; apply State.set_keeps; exact h
  apply State.set_keeps; apply State.set_keeps; apply State.set_keeps; apply State.setReg_keeps
  apply State.set_keeps; exact h

theorem State.suspendPorts_keeps {z s : State} {a1 a2} (h : Keeps z s) : Keeps z (State.suspendPorts s a1 a2) := by
  unfold State.suspendPorts; try dsimp only
  apply State.each_keeps; exact h; intros; apply State.set_keeps; assumption

theorem State.startCouch_keeps {z s : State} {a1 a2} (h : Keeps z s) : Keeps z (State.startCouch s a1 a2) := by
  unfold State.startCouch; try dsimp only
  apply State.each_keeps; apply State.set_keeps; apply State.setReg_keeps; with_reducible apply Keeps.mk_; exact h
  intros; apply State.suspendPorts_keeps; with_reducible apply Keeps.mk_; assumption

theorem State.bootCouch_keeps {z s : State} {a1} (h : Keeps z s) : Keeps z (State.bootCouch s a1) := by
  unfold State.bootCouch; try dsimp only
  split; apply State.startCouch_keeps; with_reducible apply Keeps.mk_; apply State.bootWait_keeps; exact h
  apply State.bootFail_keeps; apply State.couchRefuse_keeps; exact h

theorem State.bootAfter_keeps {z s : State} {a0} (h : Keeps z s) : Keeps z (State.bootAfter a0 s) := by
  unfold State.bootAfter; try dsimp only
  split; apply Keeps.ite; exact h; apply Keeps.ite; apply Keeps.ite; apply State.bootCouch_keeps; exact h
  apply State.bootOnly_keeps; exact h; apply Keeps.ite; exact h; apply Keeps.ite; apply State.bootCouch_keeps
  exact h; apply Keeps.ite; apply State.startLoad_keeps; apply State.setStatus_keeps; apply State.set_keeps
  exact h; apply State.bootFail_keeps; exact h; exact h

theorem State.bfeCmd_keeps {z s : State} {a1} (h : Keeps z s) (h1 : ∀ u, Keeps z u → Keeps z (a1 u)) : Keeps z
    (State.bfeCmd s a1) := by
  unfold State.bfeCmd; try dsimp only
  apply Keeps.ite; apply h1; with_reducible apply Keeps.mk_; exact h; exact h

theorem State.answer_keeps {z s : State} {a1} (h : Keeps z s) : Keeps z (State.answer s a1) := by
  unfold State.answer; try dsimp only
  with_reducible apply Keeps.mkIn; exact h

theorem execReadId_keeps {z s : State} {a0} (h : Keeps z s) : Kept z (execReadId a0 s) := by
  unfold execReadId; try dsimp only
  apply Kept.next; apply State.bfeCmd_keeps; exact h; intros; apply State.answer_keeps; assumption

theorem execReadSfdp_keeps {z s : State} {a0 a1} (h : Keeps z s) : Kept z (execReadSfdp a0 a1 s) := by
  unfold execReadSfdp; try dsimp only
  apply Kept.next; apply State.bfeCmd_keeps; exact h; intros; apply State.answer_keeps; assumption

theorem execReadStatus_keeps {z s : State} (h : Keeps z s) : Kept z (execReadStatus s) := by
  unfold execReadStatus; try dsimp only
  apply Kept.ite; apply Kept.next; apply State.answer_keeps; with_reducible apply Keeps.mk_; exact h
  apply Kept.next; exact h

theorem execWriteEnable_keeps {z s : State} (h : Keeps z s) : Kept z (execWriteEnable s) := by
  unfold execWriteEnable; try dsimp only
  apply Kept.next; apply State.bfeCmd_keeps; exact h; intros; with_reducible apply Keeps.mk_; assumption

theorem execWriteDisable_keeps {z s : State} (h : Keeps z s) : Kept z (execWriteDisable s) := by
  unfold execWriteDisable; try dsimp only
  apply Kept.next; apply State.bfeCmd_keeps; exact h; intros; with_reducible apply Keeps.mk_; assumption

theorem execWriteVolatileConfiguration_keeps {z s : State} {a0 a1} (h : Keeps z s) : Kept z
    (execWriteVolatileConfiguration a0 a1 s) := by
  unfold execWriteVolatileConfiguration; try dsimp only
  apply Kept.next; apply State.bfeCmd_keeps; exact h; intros; apply Keeps.ite; with_reducible apply Keeps.mk_
  assumption; apply Keeps.ite; with_reducible apply Keeps.mk_; assumption; assumption

theorem State.spendInjection_keeps {z s : State} {a1} (h : Keeps z s) : Keeps z (State.spendInjection s a1) := by
  unfold State.spendInjection; try dsimp only
  apply Keeps.ite; apply State.set_keeps; with_reducible apply Keeps.mkIn; exact h
  with_reducible apply Keeps.mkIn; exact h

theorem State.injectedCheck_keeps {z s : State} {a1 a2} (h : Keeps z s) : Keeps z (State.injectedCheck s a1 a2).2
    := by
  unfold State.injectedCheck; try dsimp only
  apply Keeps.ite_snd; dsimp only; apply State.spendInjection_keeps; exact h; dsimp only; exact h

theorem State.bfeWords_keeps {z s : State} {a1 a2} (h : Keeps z s) : Keeps z (State.bfeWords s a1 a2).2 := by
  induction a2 generalizing s a1 with
  | zero => exact h
  | succ k ih =>
    unfold State.bfeWords
    dsimp only
    refine ih ?_
    split
    · exact State.raiseFault_keeps (State.injectedCheck_keeps h) fun _ k => k
    · exact State.injectedCheck_keeps h

theorem State.bfeRead_keeps {z s : State} {a1 a2} (h : Keeps z s) : Keeps z (State.bfeRead s a1 a2) := by
  unfold State.bfeRead; try dsimp only
  apply State.incWrap_keeps; apply State.answer_keeps; apply State.bfeWords_keeps; apply State.draw_keeps; exact h

theorem execRead_keeps {z s : State} {a0 a1} (h : Keeps z s) : Kept z (execRead a0 a1 s) := by
  unfold execRead; try dsimp only
  apply Kept.next; apply State.bfeCmd_keeps; exact h; intros; apply Keeps.ite; assumption
  apply State.bfeRead_keeps; assumption

theorem execFastRead_keeps {z s : State} {a0 a1} (h : Keeps z s) : Kept z (execFastRead a0 a1 s) := by
  unfold execFastRead; try dsimp only
  apply Kept.next; apply State.bfeCmd_keeps; exact h; intros; apply Keeps.ite; assumption
  apply State.bfeRead_keeps; assumption

theorem execOctalDdrRead_keeps {z s : State} {a0 a1} (h : Keeps z s) : Kept z (execOctalDdrRead a0 a1 s) := by
  unfold execOctalDdrRead; try dsimp only
  apply Kept.next; apply State.bfeCmd_keeps; exact h; intros; apply Keeps.ite; apply State.bfeRead_keeps
  assumption; assumption

theorem State.bfeTouch_keeps {z s : State} (h : Keeps z s) : Keeps z (State.bfeTouch s) := by
  unfold State.bfeTouch; try dsimp only
  apply Keeps.ite; exact h; apply State.set_keeps; apply State.set_keeps; apply State.set_keeps
  with_reducible apply Keeps.mk_; exact h

theorem State.bfeStart_keeps {z s : State} {a1} (h : Keeps z s) : Keeps z (State.bfeStart s a1) := by
  unfold State.bfeStart; try dsimp only
  apply Keeps.ite; apply State.setStatus_keeps; with_reducible apply Keeps.mk_; apply State.bfeTouch_keeps
  exact h; exact h

theorem execPageProgram_keeps {z s : State} {a0 a1} (h : Keeps z s) : Kept z (execPageProgram a0 a1 s) := by
  unfold execPageProgram; try dsimp only
  apply Kept.next; apply State.bfeCmd_keeps; exact h; intros; apply Keeps.ite; apply State.bfeStart_keeps
  assumption; assumption

theorem execErase4k_keeps {z s : State} {a0} (h : Keeps z s) : Kept z (execErase4k a0 s) := by
  unfold execErase4k; try dsimp only
  apply Kept.next; apply State.bfeCmd_keeps; exact h; intros; apply Keeps.ite; apply State.bfeStart_keeps
  assumption; assumption

theorem execErase64k_keeps {z s : State} {a0} (h : Keeps z s) : Kept z (execErase64k a0 s) := by
  unfold execErase64k; try dsimp only
  apply Kept.next; apply State.bfeCmd_keeps; exact h; intros; apply Keeps.ite; apply State.bfeStart_keeps
  assumption; assumption

theorem execChipErase_keeps {z s : State} (h : Keeps z s) : Kept z (execChipErase s) := by
  unfold execChipErase; try dsimp only
  apply Kept.next; apply State.bfeCmd_keeps; exact h; intros; apply State.bfeStart_keeps; assumption

theorem execWipClear_keeps {z s : State} (h : Keeps z s) : Kept z (execWipClear s) := by
  unfold execWipClear; try dsimp only
  apply Kept.next; apply State.bfeFinish_keeps; exact h

theorem execResetEnable_keeps {z s : State} (h : Keeps z s) : Kept z (execResetEnable s) := by
  unfold execResetEnable; try dsimp only
  apply Kept.next; apply State.bfeCmd_keeps; exact h; intros; with_reducible apply Keeps.mk_; assumption

theorem State.bfe1S_keeps {z s : State} (h : Keeps z s) : Keeps z (State.bfe1S s) := by
  unfold State.bfe1S; try dsimp only
  with_reducible apply Keeps.mk_; exact h

theorem execResetPort_keeps {z s : State} (h : Keeps z s) : Kept z (execResetPort s) := by
  unfold execResetPort; try dsimp only
  apply Kept.ite; apply Kept.next; with_reducible apply Keeps.mk_; apply State.bfe1S_keeps; exact h
  apply Kept.next; apply State.bfeCmd_keeps; exact h; intros; dsimp only [id]; assumption

theorem execBfeRst_keeps {z s : State} (h : Keeps z s) : Kept z (execBfeRst s) := by
  unfold execBfeRst; try dsimp only
  apply Kept.ite; apply Kept.next; apply State.bfe1S_keeps; exact h; apply Kept.next; exact h

theorem State.bfeSwitch_keeps {z s : State} (h : Keeps z s) : Keeps z (State.bfeSwitch s) := by
  unfold State.bfeSwitch; try dsimp only
  apply State.setStatus_keeps; apply State.set_keeps; apply State.set_keeps; exact h

theorem execHostResetAssert_keeps {z s : State} (h : Keeps z s) : Kept z (execHostResetAssert s) := by
  unfold execHostResetAssert; try dsimp only
  apply Kept.ite; apply Kept.next; exact h; apply Kept.ite; apply Kept.next; apply State.bfeSwitch_keeps
  apply State.set_keeps; with_reducible apply Keeps.mk_; apply State.bfe1S_keeps; exact h; apply Kept.ite
  apply Kept.next; apply State.setStatus_keeps; apply State.set_keeps; apply State.bfeSwitch_keeps
  with_reducible apply Keeps.mk_; apply State.bfe1S_keeps; exact h; apply Kept.next
  with_reducible apply Keeps.mk_; apply State.bfe1S_keeps; exact h

theorem execHostResetRelease_keeps {z s : State} (h : Keeps z s) : Kept z (execHostResetRelease s) := by
  unfold execHostResetRelease; try dsimp only
  apply Kept.ite; apply Kept.next; exact h; apply Kept.next; apply State.incSat_keeps
  with_reducible apply Keeps.mk_; exact h

theorem execBootOk_keeps {z s : State} {a0} (h : Keeps z s) : Kept z (execBootOk a0 s) := by
  unfold execBootOk; try dsimp only
  apply Kept.next; apply State.gateF_keeps; exact h; intros; apply State.set_keeps; assumption

theorem State.bfeDoCommit_keeps {z s : State} (h : Keeps z s) : Keeps z (State.bfeDoCommit s) := by
  unfold State.bfeDoCommit; try dsimp only
  apply Keeps.ite; exact h; apply State.setStatus_keeps; apply State.set_keeps; apply State.set_keeps
  apply State.set_keeps; exact h

theorem execBfeCommit_keeps {z s : State} {a0} (h : Keeps z s) : Kept z (execBfeCommit a0 s) := by
  unfold execBfeCommit; try dsimp only
  apply Kept.next; apply State.gateF_keeps; exact h; intros; apply State.bfeDoCommit_keeps; assumption

theorem execBfeDiscard_keeps {z s : State} {a0} (h : Keeps z s) : Kept z (execBfeDiscard a0 s) := by
  unfold execBfeDiscard; try dsimp only
  apply Kept.next; apply State.gateF_keeps; exact h; intros; apply State.set_keeps; assumption

theorem State.bfeDma_keeps {z s : State} (h : Keeps z s) : Keeps z (State.bfeDma s) := by
  unfold State.bfeDma; try dsimp only
  split; exact h; apply Keeps.ite; exact h; split; apply State.raiseFault_keeps; with_reducible apply Keeps.mk_
  exact h; intros; dsimp only [id]; assumption; with_reducible apply Keeps.mk_; apply State.bfeTouch_keeps
  with_reducible apply Keeps.mk_; exact h

theorem execBfeUpd_keeps {z s : State} {a0 a1} (h : Keeps z s) : Kept z (execBfeUpd a0 a1 s) := by
  unfold execBfeUpd; try dsimp only
  apply Kept.next; apply State.gateF_keeps; exact h; intros; apply Keeps.ite; assumption; apply State.bfeDma_keeps
  with_reducible apply Keeps.mk_; assumption

theorem execUpdDone_keeps {z s : State} (h : Keeps z s) : Kept z (execUpdDone s) := by
  unfold execUpdDone; try dsimp only
  apply Kept.next; apply State.bfeUpdFinish_keeps; exact h

theorem State.capEnable_keeps {z s : State} {a1 a2} (h : Keeps z s) : Keeps z (State.capEnable s a1 a2) := by
  unfold State.capEnable; try dsimp only
  apply Keeps.ite; apply State.setCap_keeps; apply State.set_keeps; apply State.set_keeps; apply State.set_keeps
  apply State.set_keeps; exact h; apply Keeps.ite; apply State.set_keeps; apply State.set_keeps; exact h
  apply State.set_keeps; exact h

theorem execCaptureEnable_keeps {z s : State} {a0 a1 a2} (h : Keeps z s) : Kept z (execCaptureEnable a0 a1 a2 s)
    := by
  unfold execCaptureEnable; try dsimp only
  apply Kept.next; apply State.gateF_keeps; exact h; intros; apply Keeps.ite; apply State.capEnable_keeps
  assumption; assumption

theorem State.capTrigger_keeps {z s : State} {a1 a2} (h : Keeps z s) : Keeps z (State.capTrigger s a1 a2) := by
  unfold State.capTrigger; try dsimp only
  apply Keeps.ite; exact h; apply Keeps.ite; apply State.capFreeze_keeps; apply State.setCap_keeps
  apply State.set_keeps; apply State.set64_keeps; apply State.set_keeps; exact h; apply State.setCap_keeps
  apply State.set_keeps; apply State.set64_keeps; apply State.set_keeps; exact h

theorem execCaptureTrigger_keeps {z s : State} {a0 a1 a2} (h : Keeps z s) : Kept z (execCaptureTrigger a0 a1 a2
    s) := by
  unfold execCaptureTrigger; try dsimp only
  apply Kept.ite; apply Kept.next; exact h; apply Kept.ite; apply Kept.next; apply State.gateF_keeps; exact h
  intros; apply State.capTrigger_keeps; assumption; split; apply Kept.next; exact h; apply Kept.next
  apply State.capTrigger_keeps; refine State.takeTrig_keeps ?_ (by assumption); exact h

theorem State.capRearm_keeps {z s : State} {a1} (h : Keeps z s) : Keeps z (State.capRearm s a1) := by
  unfold State.capRearm; try dsimp only
  apply Keeps.ite; apply State.set_keeps; exact h; exact h

theorem execRearm_keeps {z s : State} {a0 a1} (h : Keeps z s) : Kept z (execRearm a0 a1 s) := by
  unfold execRearm; try dsimp only
  apply Kept.next; apply State.gateF_keeps; exact h; intros; apply Keeps.ite; apply State.capRearm_keeps
  assumption; assumption

theorem State.writePlace_keeps {z s : State} {a1 a2 a3 a4 a5 a6} (h : Keeps z s) : Keeps z (State.writePlace s a1
    a2 a3 a4 a5 a6) := by
  unfold State.writePlace; try dsimp only
  split; apply Keeps.ite; exact h; apply State.set_keeps; exact h; apply State.set_keeps; exact h; exact h

theorem State.plainWrite_keeps {z s : State} {a1 a2} (h : Keeps z s) : Keeps z (State.plainWrite s a1 a2) := by
  unfold State.plainWrite; try dsimp only
  split; exact h; apply Keeps.ite; apply State.lockedWrite_keeps; refine Keeps.foldl ?_ ?_; exact h; intros
  apply State.each_keeps; assumption; intros; apply State.writePlace_keeps; assumption; refine Keeps.foldl ?_ ?_
  exact h; intros; apply State.each_keeps; assumption; intros; apply State.writePlace_keeps; assumption

theorem State.plainWriteAs_keeps {z s : State} {a1 a2 a3} (h : Keeps z s) : Keeps z (State.plainWriteAs s a1 a2
    a3) := by
  unfold State.plainWriteAs; try dsimp only
  split; exact h; apply Keeps.ite; apply State.lockedWrite_keeps; apply State.plainWrite_keeps; exact h
  apply State.plainWrite_keeps; exact h

theorem State.capCfg_keeps {z s : State} {a1 a2} (h : Keeps z s) : Keeps z (State.capCfg s a1 a2) := by
  unfold State.capCfg; try dsimp only
  apply Keeps.ite; apply State.capTrigger_keeps; apply Keeps.ite; apply State.capRearm_keeps
  apply State.capEnable_keeps; apply State.plainWriteAs_keeps; exact h; apply State.capEnable_keeps
  apply State.plainWriteAs_keeps; exact h; apply Keeps.ite; apply State.capRearm_keeps
  apply State.capEnable_keeps; apply State.plainWriteAs_keeps; exact h; apply State.capEnable_keeps
  apply State.plainWriteAs_keeps; exact h

theorem State.capStart_keeps {z s : State} (h : Keeps z s) : Keeps z (State.capStart s) := by
  unfold State.capStart; try dsimp only
  apply Keeps.ite; exact h; with_reducible apply Keeps.mk_; exact h

theorem execCapRd_keeps {z s : State} {a0} (h : Keeps z s) : Kept z (execCapRd a0 s) := by
  unfold execCapRd; try dsimp only
  apply Kept.next; apply State.gateF_keeps; exact h; intros; apply State.capStart_keeps; assumption

theorem State.copyBlocks_keeps {z s : State} {a1 a2 a3 a4 a5} (h : Keeps z s) : Keeps z (State.copyBlocks s a1 a2
    a3 a4 a5) := by
  induction a3 generalizing s a4 a5 with
  | nil => exact State.set_keeps h
  | cons i r ih =>
    unfold State.copyBlocks
    split
    · dsimp only
      split
      · exact ih (State.raiseFault_keeps (State.injectedCheck_keeps h) fun _ k => k)
      · exact ih (State.toHost_keeps (State.injectedCheck_keeps h))
    · exact ih h

theorem execReadDone_keeps {z s : State} {a0} (h : Keeps z s) : Kept z (execReadDone a0 s) := by
  unfold execReadDone; try dsimp only
  split; apply Kept.next; exact h; apply Kept.ite; apply Kept.next; exact h; apply Kept.next
  apply State.setStatus_keeps; apply State.copyBlocks_keeps; with_reducible apply Keeps.mk_; exact h

theorem State.tick_keeps {z s : State} (h : Keeps z s) : Keeps z (State.tick s) := by
  unfold State.tick; try dsimp only
  apply Keeps.ite; apply State.flow_keeps; apply State.nextTick_keeps; with_reducible apply Keeps.mk_; exact h
  with_reducible apply Keeps.mk_; exact h

theorem State.injArrive_keeps {z s : State} {a1 a2 a3 a4} (h : Keeps z s) : Keeps z (State.injArrive s a1 a2 a3
    a4) := by
  unfold State.injArrive; try dsimp only
  apply Keeps.ite; apply State.setStatus_keeps; apply State.incSat_keeps; apply State.modConv_keeps; exact h
  apply State.modConv_keeps; exact h

theorem State.scanTriggered_keeps {z s : State} {a1 a2 a3} (h : Keeps z s) : Keeps z (State.scanTriggered s a1 a2
    a3) := by
  unfold State.scanTriggered; try dsimp only
  apply Keeps.ite; exact h; apply State.modConv_keeps; exact h

theorem State.fgRequest_keeps {z s : State} {a1} (h : Keeps z s) : Keeps z (State.fgRequest s a1) := by
  unfold State.fgRequest; try dsimp only
  apply Keeps.ite; exact h; apply Keeps.ite; apply State.set_keeps; apply State.set_keeps
  apply State.modConv_keeps; exact h; apply State.modConv_keeps; exact h

theorem State.sliceState_keeps {z s : State} {a1 a2 a3} (h : Keeps z s) : Keeps z (State.sliceState s a1 a2 a3)
    := by
  unfold State.sliceState; try dsimp only
  apply Keeps.ite; exact h; apply State.set_keeps; exact h

theorem State.bgAbandon_keeps {z s : State} {a1} (h : Keeps z s) : Keeps z (State.bgAbandon s a1) := by
  unfold State.bgAbandon; try dsimp only
  apply State.set_keeps; apply State.modConv_keeps; split; apply State.modConv_keeps; split; exact h
  apply State.sliceState_keeps; exact h; apply State.sliceState_keeps; exact h; apply State.sliceState_keeps
  apply State.sliceState_keeps; exact h; apply State.sliceState_keeps; apply State.sliceState_keeps; exact h
  apply State.when_keeps; apply State.sliceState_keeps; exact h; intros; apply State.sliceState_keeps; assumption
  apply State.modConv_keeps; split; exact h; apply State.sliceState_keeps; exact h; apply State.sliceState_keeps
  exact h; apply State.sliceState_keeps; apply State.sliceState_keeps; exact h; apply State.sliceState_keeps
  apply State.sliceState_keeps; exact h; apply State.when_keeps; apply State.sliceState_keeps; exact h; intros
  apply State.sliceState_keeps; assumption; apply State.when_keeps; split; exact h; apply State.sliceState_keeps
  exact h; apply State.sliceState_keeps; exact h; apply State.sliceState_keeps; apply State.sliceState_keeps
  exact h; apply State.sliceState_keeps; apply State.sliceState_keeps; exact h; apply State.when_keeps
  apply State.sliceState_keeps; exact h; intros; apply State.sliceState_keeps; assumption; intros
  apply State.modConv_keeps; assumption; split; exact h; apply State.sliceState_keeps; exact h
  apply State.sliceState_keeps; exact h; apply State.sliceState_keeps; apply State.sliceState_keeps; exact h
  apply State.sliceState_keeps; apply State.sliceState_keeps; exact h; apply State.when_keeps
  apply State.sliceState_keeps; exact h; intros; apply State.sliceState_keeps; assumption

theorem State.convOff_keeps {z s : State} {a1} (h : Keeps z s) : Keeps z (State.convOff s a1) := by
  unfold State.convOff; try dsimp only
  with_reducible apply Keeps.mk_; exact h

theorem State.convOn_keeps {z s : State} {a1} (h : Keeps z s) : Keeps z (State.convOn s a1) := by
  unfold State.convOn; try dsimp only
  apply State.fgRequest_keeps; exact h

theorem State.retireSlice_keeps {z s : State} {a1 a2} (h : Keeps z s) : Keeps z (State.retireSlice s a1 a2) := by
  unfold State.retireSlice; try dsimp only
  apply Keeps.ite; exact h; apply State.setStatus_keeps; apply State.raiseOwn_keeps; apply Keeps.ite
  apply State.set_keeps; apply State.modConv_keeps; apply State.set_keeps; apply State.set_keeps
  apply State.bgAbandon_keeps; exact h; apply Keeps.ite; apply State.modConv_keeps; apply State.set_keeps
  apply State.set_keeps; apply State.bgAbandon_keeps; exact h; apply State.set_keeps; apply State.set_keeps
  apply State.bgAbandon_keeps; exact h; intros; dsimp only [id]; assumption

theorem State.sliceFails_keeps {z s : State} {a1 a2} (h : Keeps z s) : Keeps z (State.sliceFails s a1 a2) := by
  unfold State.sliceFails; try dsimp only
  apply Keeps.ite; apply State.retireSlice_keeps; apply State.set_keeps; exact h; apply State.set_keeps; exact h

theorem State.takeCoef_keeps {z s : State} {a1 a2 a3} (h : Keeps z s) : Keeps z (State.takeCoef s a1 a2 a3) := by
  unfold State.takeCoef; try dsimp only
  apply State.modConv_keeps; apply State.set_keeps; apply State.set_keeps; apply State.set_keeps; exact h

theorem State.countCal_keeps {z s : State} {a1 a2} (h : Keeps z s) : Keeps z (State.countCal s a1 a2) := by
  unfold State.countCal; try dsimp only
  apply State.incWrap_keeps; apply State.set_keeps; exact h

theorem State.capture_keeps {z s : State} {a1 a2 a3} (h : Keeps z s) : Keeps z (State.capture s a1 a2 a3) := by
  unfold State.capture; try dsimp only
  apply State.setStatus_keeps; apply State.set_keeps; apply State.set_keeps; apply State.set_keeps
  apply State.set_keeps; apply State.set_keeps; exact h

theorem State.bgOutcome_keeps {z s : State} {a1 a2 a3} (h : Keeps z s) : Keeps z (State.bgOutcome s a1 a2 a3) := by
  unfold State.bgOutcome; try dsimp only
  apply Keeps.ite; apply State.sliceFails_keeps; apply State.incSat_keeps; apply State.raiseOwn_keeps; exact h
  intros; dsimp only [id]; assumption; apply State.incWrap_keeps; apply State.countCal_keeps
  apply State.takeCoef_keeps; exact h

theorem execBgCalInterval_keeps {z s : State} {a0} (h : Keeps z s) : Kept z (execBgCalInterval a0 s) := by
  unfold execBgCalInterval; try dsimp only
  apply Kept.ite; apply Kept.next; apply State.set_keeps; apply State.sliceState_keeps; apply State.modConv_keeps
  exact h; apply Kept.next; exact h

theorem execBgCalDone_keeps {z s : State} {a0 a1} (h : Keeps z s) : Kept z (execBgCalDone a0 a1 s) := by
  unfold execBgCalDone; try dsimp only
  split; apply Kept.ite; apply Kept.next; apply State.capture_keeps; apply State.modConv_keeps; exact h
  apply Kept.next; apply State.bgOutcome_keeps; apply State.modConv_keeps; exact h; apply Kept.ite
  apply Kept.next; apply State.capture_keeps; apply State.modConv_keeps; exact h; apply Kept.next
  apply State.bgOutcome_keeps; apply State.modConv_keeps; exact h; apply Kept.next; exact h

theorem execBgEn_keeps {z s : State} {a0 a1 a2} (h : Keeps z s) : Kept z (execBgEn a0 a1 a2 s) := by
  unfold execBgEn; try dsimp only
  apply Kept.next; apply State.gateF_keeps; exact h; intros; apply State.underLock_keeps; assumption; intros
  apply State.set_keeps; assumption

theorem execFgStart_keeps {z s : State} {a0 a1} (h : Keeps z s) : Kept z (execFgStart a0 a1 s) := by
  unfold execFgStart; try dsimp only
  apply Kept.next; apply State.gateF_keeps; exact h; intros; apply State.fgRequest_keeps; assumption

theorem State.fgOutcome_keeps {z s : State} {a1 a2 a3} (h : Keeps z s) : Keeps z (State.fgOutcome s a1 a2 a3) := by
  unfold State.fgOutcome; try dsimp only
  apply Keeps.ite; apply State.capture_keeps; exact h; apply Keeps.ite; exact h; apply Keeps.ite
  apply State.retireSlice_keeps; exact h; apply State.countCal_keeps; apply State.takeCoef_keeps; exact h

theorem execFgCalDone_keeps {z s : State} {a0 a1 a2} (h : Keeps z s) : Kept z (execFgCalDone a0 a1 a2 s) := by
  unfold execFgCalDone; try dsimp only
  apply Kept.ite; apply Kept.next; exact h; apply Kept.next; apply State.bootSeven_keeps
  apply State.setStatus_keeps; refine Keeps.foldl ?_ ?_; apply State.each_keeps; apply State.modConv_keeps
  apply State.set_keeps; apply State.set_keeps; exact h; intros; apply State.sliceState_keeps; assumption; intros
  apply State.fgOutcome_keeps; assumption

theorem State.commitCoef_keeps {z s : State} {a1 a2} (h : Keeps z s) : Keeps z (State.commitCoef s a1 a2) := by
  unfold State.commitCoef; try dsimp only
  apply Keeps.ite; apply State.setStatus_keeps; exact h; apply Keeps.ite; exact h; apply State.modConv_keeps
  apply State.set_keeps; exact h

theorem execCvCalCommit_keeps {z s : State} {a0 a1 a2} (h : Keeps z s) : Kept z (execCvCalCommit a0 a1 a2 s) := by
  unfold execCvCalCommit; try dsimp only
  apply Kept.next; apply State.gateF_keeps; exact h; intros; apply State.commitCoef_keeps; assumption

theorem State.corrGo_keeps {z s : State} {a1} (h : Keeps z s) : Keeps z (State.corrGo s a1) := by
  unfold State.corrGo; try dsimp only
  apply State.modConv_keeps; exact h

theorem execCvCorrApply_keeps {z s : State} {a0 a1} (h : Keeps z s) : Kept z (execCvCorrApply a0 a1 s) := by
  unfold execCvCorrApply; try dsimp only
  apply Kept.next; apply State.gateF_keeps; exact h; intros; apply State.corrGo_keeps; assumption

theorem State.takeCommits_keeps {z s : State} {a1} (h : Keeps z s) : Keeps z (State.takeCommits s a1) := by
  unfold State.takeCommits; try dsimp only
  split; apply Keeps.ite; apply State.modConv_keeps; exact h; apply State.modConv_keeps; apply State.incWrap_keeps
  apply State.countCal_keeps; apply State.modConv_keeps; exact h; apply State.modConv_keeps; exact h

theorem State.bgSwitch_keeps {z s : State} {a1} (h : Keeps z s) : Keeps z (State.bgSwitch s a1) := by
  unfold State.bgSwitch; try dsimp only
  apply Keeps.ite; apply State.modConv_keeps; apply State.bgAbandon_keeps; exact h; apply Keeps.ite
  apply Keeps.ite; apply State.modConv_keeps; exact h; apply State.set_keeps; apply State.sliceState_keeps
  apply State.modConv_keeps; apply State.modConv_keeps; exact h; exact h

theorem State.bgOut_keeps {z s : State} {a1} (h : Keeps z s) : Keeps z (State.bgOut s a1) := by
  unfold State.bgOut; try dsimp only
  apply Keeps.ite; apply State.set_keeps; apply State.sliceState_keeps; apply State.sliceState_keeps
  apply State.modConv_keeps; exact h; exact h

theorem State.bgBack_keeps {z s : State} {a1} (h : Keeps z s) : Keeps z (State.bgBack s a1) := by
  unfold State.bgBack; try dsimp only
  apply Keeps.ite; apply State.set_keeps; apply State.sliceState_keeps; apply State.sliceState_keeps
  apply State.modConv_keeps; exact h; exact h

theorem State.diagAbort_keeps {z s : State} {a1} (h : Keeps z s) : Keeps z (State.diagAbort s a1) := by
  unfold State.diagAbort; try dsimp only
  split; exact h; apply State.setStatus_keeps; apply State.set_keeps; apply State.set_keeps
  apply State.modConv_keeps; exact h

theorem State.fgBegin_keeps {z s : State} {a1} (h : Keeps z s) : Keeps z (State.fgBegin s a1) := by
  unfold State.fgBegin; try dsimp only
  apply Keeps.ite; apply State.each_keeps; apply State.set_keeps; apply State.set_keeps; apply State.set_keeps
  apply State.modConv_keeps; apply State.diagAbort_keeps; apply State.bgAbandon_keeps; exact h; intros
  apply State.sliceState_keeps; assumption; exact h

theorem State.convStop_keeps {z s : State} {a1} (h : Keeps z s) : Keeps z (State.convStop s a1) := by
  unfold State.convStop; try dsimp only
  apply Keeps.ite; exact h; apply State.set_keeps; apply State.modConv_keeps; exact h

theorem State.roundUses_keeps {z s : State} {a1} (h : Keeps z s) : Keeps z (State.roundUses s a1) := by
  unfold State.roundUses; try dsimp only
  apply Keeps.ite; apply State.modConv_keeps; exact h; apply Keeps.ite; apply State.modConv_keeps; exact h
  apply Keeps.ite; apply State.modConv_keeps; with_reducible apply Keeps.mk_; exact h; apply State.modConv_keeps
  exact h

theorem execRoundStart_keeps {z s : State} {a0} (h : Keeps z s) : Kept z (execRoundStart a0 s) := by
  unfold execRoundStart; try dsimp only
  apply Kept.ite; apply Kept.next; apply State.modConv_keeps; apply State.roundUses_keeps
  apply State.fgBegin_keeps; apply State.modConv_keeps; apply State.bgOut_keeps; apply State.bgSwitch_keeps
  apply State.bgBack_keeps; apply State.modConv_keeps; apply State.takeCommits_keeps; apply State.convStop_keeps
  apply State.set_keeps; apply State.reachClk_keeps; exact h; apply Kept.next; exact h

theorem State.beginScan_keeps {z s : State} {a1 a2} (h : Keeps z s) : Keeps z (State.beginScan s a1 a2) := by
  unfold State.beginScan; try dsimp only
  apply State.modConv_keeps; exact h

theorem State.serveStart_keeps {z s : State} {a1 a2 a3} (h : Keeps z s) : Keeps z (State.serveStart s a1 a2 a3)
    := by
  unfold State.serveStart; try dsimp only
  apply Keeps.ite; exact h; apply Keeps.ite; apply Keeps.ite; apply State.setStatus_keeps
  apply State.incSat_keeps; apply State.modConv_keeps; exact h; exact h; apply State.beginScan_keeps; exact h

theorem State.dueScans_keeps {z s : State} {a1 a2} (h : Keeps z s) : Keeps z (State.dueScans s a1 a2) := by
  unfold State.dueScans; try dsimp only
  apply Keeps.ite; exact h; apply Keeps.ite; apply State.beginScan_keeps; refine Keeps.foldl ?_ ?_
  apply State.modConv_keeps; exact h; intros; apply State.serveStart_keeps; assumption; refine Keeps.foldl ?_ ?_
  apply State.modConv_keeps; exact h; intros; apply State.serveStart_keeps; assumption

theorem State.diagConvert_keeps {z s : State} {a1 a2 a3 a4} (h : Keeps z s) : Keeps z (State.diagConvert s a1 a2
    a3 a4) := by
  unfold State.diagConvert; try dsimp only
  split; exact h; apply State.modConv_keeps; exact h

theorem State.energyConvert_keeps {z s : State} {a1 a2 a3 a4} (h : Keeps z s) : Keeps z (State.energyConvert s a1
    a2 a3 a4) := by
  unfold State.energyConvert; try dsimp only
  with_reducible apply Keeps.mk_; exact h

theorem execSlotConversion_keeps {z s : State} {a0 a1 a2} (h : Keeps z s) : Kept z (execSlotConversion a0 a1 a2
    s) := by
  unfold execSlotConversion; try dsimp only
  split; apply Kept.next; exact h; apply Kept.ite; apply Kept.next; exact h; split; apply Kept.next
  apply State.modConv_keeps; apply State.modConv_keeps; apply State.dueScans_keeps; apply State.setField_keeps
  apply State.reachClk_keeps; exact h; apply Kept.next; apply State.energyConvert_keeps; apply State.modConv_keeps
  apply State.dueScans_keeps; apply State.setField_keeps; apply State.reachClk_keeps; exact h; apply Kept.next
  apply State.diagConvert_keeps; apply State.modConv_keeps; apply State.dueScans_keeps; apply State.setField_keeps
  apply State.reachClk_keeps; exact h; split; apply Kept.next; apply State.modConv_keeps
  apply State.dueScans_keeps; apply State.setField_keeps; apply State.reachClk_keeps; exact h; apply Kept.next
  apply State.modConv_keeps; apply State.modConv_keeps; apply State.dueScans_keeps; apply State.setField_keeps
  apply State.reachClk_keeps; exact h

theorem State.countScan_keeps {z s : State} {a1 a2} (h : Keeps z s) : Keeps z (State.countScan s a1 a2) := by
  unfold State.countScan; try dsimp only
  apply Keeps.ite; apply State.modConv_keeps; exact h; apply Keeps.ite; apply State.modConv_keeps
  apply State.modConv_keeps; exact h; apply Keeps.ite; apply State.raiseHw_keeps; apply State.setStatus_keeps
  apply State.modConv_keeps; apply State.modConv_keeps; exact h; apply State.setStatus_keeps
  apply State.modConv_keeps; apply State.modConv_keeps; exact h

theorem State.injDone_keeps {z s : State} {a1 a2 a3} (h : Keeps z s) : Keeps z (State.injDone s a1 a2 a3) := by
  unfold State.injDone; try dsimp only
  apply Keeps.ite; apply State.raiseHw_keeps; apply Keeps.ite; apply State.set_keeps; apply State.setStatus_keeps
  apply State.set64_keeps; apply State.set_keeps; exact h; apply State.setStatus_keeps; apply State.set64_keeps
  apply State.set_keeps; exact h; apply Keeps.ite; apply State.set_keeps; apply State.setStatus_keeps
  apply State.set64_keeps; apply State.set_keeps; exact h; apply State.setStatus_keeps; apply State.set64_keeps
  apply State.set_keeps; exact h

theorem execResultOut_keeps {z s : State} {a0} (h : Keeps z s) : Kept z (execResultOut a0 s) := by
  unfold execResultOut; try dsimp only
  split; apply Kept.next; exact h; apply Kept.ite; apply Kept.next; apply State.injDone_keeps; apply Keeps.ite
  apply State.setStatus_keeps; apply State.incSat_keeps; apply State.offerItem_keeps; apply State.modConv_keeps
  exact h; apply State.offerItem_keeps; apply State.modConv_keeps; exact h; apply Kept.next
  apply State.countScan_keeps; with_reducible apply Keeps.mk_; apply Keeps.ite; apply State.setStatus_keeps
  apply State.incSat_keeps; apply State.offerItem_keeps; apply State.modConv_keeps; exact h
  apply State.offerItem_keeps; apply State.modConv_keeps; exact h

theorem State.scanStart_keeps {z s : State} {a1} (h : Keeps z s) : Keeps z (State.scanStart s a1) := by
  unfold State.scanStart; try dsimp only
  apply Keeps.ite; apply State.scanTriggered_keeps; apply State.toTick_keeps; exact h; exact h

theorem execScanStart_keeps {z s : State} {a0 a1} (h : Keeps z s) : Kept z (execScanStart a0 a1 s) := by
  unfold execScanStart; try dsimp only
  apply Kept.next; apply State.gateF_keeps; exact h; intros; apply State.scanStart_keeps; assumption

theorem execScanTrigger_keeps {z s : State} {a0} (h : Keeps z s) : Kept z (execScanTrigger a0 s) := by
  unfold execScanTrigger; try dsimp only
  split; apply Kept.next; exact h; apply Kept.ite; apply Kept.next; refine State.takeTrig_keeps ?_ (by assumption)
  exact h; apply Kept.ite; apply Kept.next; apply Keeps.ite; apply State.scanTriggered_keeps; apply Keeps.ite
  apply State.reachClk_keeps; refine State.takeTrig_keeps ?_ (by assumption); exact h; apply State.modConv_keeps
  apply State.reachClk_keeps; refine State.takeTrig_keeps ?_ (by assumption); exact h; apply Keeps.ite
  apply State.reachClk_keeps; refine State.takeTrig_keeps ?_ (by assumption); exact h; apply State.modConv_keeps
  apply State.reachClk_keeps; refine State.takeTrig_keeps ?_ (by assumption); exact h; apply Kept.next
  apply Keeps.ite; apply State.scanTriggered_keeps; apply Keeps.ite; apply State.reachClk_keeps
  refine State.takeTrig_keeps ?_ (by assumption); exact h; apply State.modConv_keeps; apply State.reachClk_keeps
  refine State.takeTrig_keeps ?_ (by assumption); exact h; apply Keeps.ite; apply State.reachClk_keeps
  refine State.takeTrig_keeps ?_ (by assumption); exact h; apply State.modConv_keeps; apply State.reachClk_keeps
  refine State.takeTrig_keeps ?_ (by assumption); exact h

theorem execInjectedRequest_keeps {z s : State} {a0 a1} (h : Keeps z s) : Kept z (execInjectedRequest a0 a1 s) := by
  unfold execInjectedRequest; try dsimp only
  split; apply Kept.next; exact h; apply Kept.ite; apply Kept.next; apply State.injArrive_keeps
  apply State.reachClk_keeps; refine State.takeTrig_keeps ?_ (by assumption); exact h; apply Kept.next
  refine State.takeTrig_keeps ?_ (by assumption); exact h

theorem State.injSw_keeps {z s : State} {a1 a2} (h : Keeps z s) : Keeps z (State.injSw s a1 a2) := by
  unfold State.injSw; try dsimp only
  apply Keeps.ite; apply State.injArrive_keeps; apply State.toTick_keeps; exact h; exact h

theorem execCvInjSw_keeps {z s : State} {a0 a1 a2} (h : Keeps z s) : Kept z (execCvInjSw a0 a1 a2 s) := by
  unfold execCvInjSw; try dsimp only
  apply Kept.next; apply State.gateF_keeps; exact h; intros; apply State.injSw_keeps; assumption

theorem State.diagGo_keeps {z s : State} {a1} (h : Keeps z s) : Keeps z (State.diagGo s a1) := by
  unfold State.diagGo; try dsimp only
  apply Keeps.ite; exact h; apply Keeps.ite; apply State.setStatus_keeps; apply State.set_keeps
  apply State.set_keeps; apply State.set_keeps; exact h; apply Keeps.ite; apply State.set_keeps
  apply State.set_keeps; apply State.set_keeps; exact h; apply State.modConv_keeps; apply State.set_keeps
  apply State.set_keeps; apply State.set_keeps; exact h

theorem State.diagCtrl_keeps {z s : State} {a1 a2} (h : Keeps z s) : Keeps z (State.diagCtrl s a1 a2) := by
  unfold State.diagCtrl; try dsimp only
  apply Keeps.ite; apply State.diagGo_keeps; apply State.plainWrite_keeps; exact h; apply State.plainWrite_keeps
  exact h

theorem execDiagGo_keeps {z s : State} {a0 a1 a2 a3 a4} (h : Keeps z s) : Kept z (execDiagGo a0 a1 a2 a3 a4 s) := by
  unfold execDiagGo; try dsimp only
  apply Kept.next; apply State.gateF_keeps; exact h; intros; apply State.diagCtrl_keeps; assumption

theorem State.mean16_keeps {z s : State} {a1} (h : Keeps z s) : Keeps z (State.mean16 s a1).2 := by
  unfold State.mean16; try dsimp only
  apply State.draw_keeps; exact h

theorem execDiagDone_keeps {z s : State} {a0} (h : Keeps z s) : Kept z (execDiagDone a0 s) := by
  unfold execDiagDone; try dsimp only
  split; apply Kept.next; exact h; apply Kept.ite; apply Kept.next; exact h; apply Kept.next
  apply State.setStatus_keeps; apply State.modConv_keeps; apply State.set_keeps; apply State.set_keeps
  apply State.set_keeps; apply State.set_keeps; apply State.mean16_keeps; apply State.mean16_keeps; exact h

theorem State.trigWrite_keeps {z s : State} {a1 a2} (h : Keeps z s) : Keeps z (State.trigWrite s a1 a2) := by
  unfold State.trigWrite; try dsimp only
  apply State.modConv_keeps; apply State.plainWrite_keeps; with_reducible apply Keeps.mk_; exact h

theorem State.convWrite_keeps {z s : State} {a1 a2 a3} {t} (h : Keeps z s) : (State.convWrite s a1 a2 a3) = some
    t → Keeps z t := by
  intro e
  unfold State.convWrite at e
  dsimp only at e
  repeat' split at e
  all_goals first
    | (cases e; done)
    | (obtain rfl := Option.some.inj e
       first
       | exact State.plainWrite_keeps (State.modConv_keeps h)
       | exact State.setStatus_keeps h
       | exact State.diagCtrl_keeps h
       | exact State.scanStart_keeps h
       | exact State.fgRequest_keeps (State.plainWrite_keeps h)
       | exact State.plainWrite_keeps h
       | exact State.trigWrite_keeps h
       | exact State.injSw_keeps h
       | exact State.injArrive_keeps h
       | exact State.corrGo_keeps h
       | exact State.commitCoef_keeps h
       | exact h)

theorem State.couchAsk_keeps {z s : State} {a1} (h : Keeps z s) : Keeps z (State.couchAsk s a1) := by
  unfold State.couchAsk; try dsimp only
  apply Keeps.ite; exact h; split; apply State.couchRefuse_keeps; exact h; apply State.startCouch_keeps
  apply Keeps.ite; apply State.mirror_keeps; exact h; exact h

theorem State.couchCtrl_keeps {z s : State} {a1 a2} (h : Keeps z s) : Keeps z (State.couchCtrl s a1 a2) := by
  unfold State.couchCtrl; try dsimp only
  apply Keeps.ite; apply State.couchAsk_keeps; apply State.set_keeps; apply State.set_keeps; exact h
  apply State.set_keeps; apply State.set_keeps; exact h

theorem execCouchRequest_keeps {z s : State} {a0 a1 a2} (h : Keeps z s) : Kept z (execCouchRequest a0 a1 a2 s) := by
  unfold execCouchRequest; try dsimp only
  apply Kept.next; apply State.gateF_keeps; exact h; intros; apply State.couchCtrl_keeps; assumption

theorem State.raiseIf_keeps {z s : State} {a1 a2 a3 a4 a5 a6} (h : Keeps z s) : Keeps z (State.raiseIf s a1 a2 a3
    a4 a5 a6) := by
  unfold State.raiseIf; try dsimp only
  apply Keeps.ite; apply State.raiseFault_keeps; exact h; intros; dsimp only [id]; assumption; exact h

theorem State.exchangeFaults_keeps {z s : State} {a1} (h : Keeps z s) : Keeps z (State.exchangeFaults s a1) := by
  unfold State.exchangeFaults; try dsimp only
  refine Keeps.foldl ?_ ?_; refine Keeps.foldl ?_ ?_; exact h; intros; apply State.raiseIf_keeps; assumption
  intros; apply State.raiseIf_keeps; assumption

theorem State.applySheet_keeps {z s : State} {a1} (h : Keeps z s) : Keeps z (State.applySheet s a1) := by
  unfold State.applySheet; try dsimp only
  apply State.flow_keeps; apply State.settle_keeps; apply State.each_keeps; apply State.set_keeps
  apply State.set_keeps; apply State.set_keeps; apply State.set_keeps; apply State.set_keeps
  with_reducible apply Keeps.mk_; apply State.clearRegs_keeps; with_reducible apply Keeps.mk_
  apply State.clearBankNets_keeps; exact h; intros; with_reducible apply Keeps.mk_; apply State.set_keeps
  assumption

theorem State.calRelease_keeps {z s : State} {a1} (h : Keeps z s) : Keeps z (State.calRelease s a1) := by
  unfold State.calRelease; try dsimp only
  refine Keeps.foldl ?_ ?_; apply State.freeze_keeps; exact h; intros; apply State.releasePad_keeps; assumption

theorem State.muteChanged_keeps {z s : State} {a0 a2} (h : Keeps z s) : Keeps z (State.muteChanged a0 s a2) := by
  unfold State.muteChanged; try dsimp only
  apply State.each_keeps; apply State.each_keeps; exact h; intros; apply Keeps.ite; apply State.muteFrom_keeps
  assumption; assumption; intros; apply Keeps.ite; apply State.mute_keeps; apply Keeps.ite; apply State.mute_keeps
  apply Keeps.ite; apply State.mute_keeps; apply State.setMaskBit_keeps; apply State.setMaskBit_keeps; assumption
  assumption; apply Keeps.ite; apply State.mute_keeps; apply State.setMaskBit_keeps; apply State.setMaskBit_keeps
  assumption; assumption; apply Keeps.ite; apply State.mute_keeps; apply Keeps.ite; apply State.mute_keeps
  apply State.setMaskBit_keeps; apply State.setMaskBit_keeps; assumption; assumption; apply Keeps.ite
  apply State.mute_keeps; apply State.setMaskBit_keeps; apply State.setMaskBit_keeps; assumption; assumption

theorem State.writeImages_keeps {z s : State} {a1} (h : Keeps z s) : Keeps z (State.writeImages s a1) := by
  unfold State.writeImages; try dsimp only
  apply State.each_keeps; exact h; intros; apply Keeps.ite; with_reducible apply Keeps.mk_
  apply State.setBytes_keeps; apply State.clearBytes_keeps; assumption; assumption

theorem State.couchApply_keeps {z s : State} {a0 a2} (h : Keeps z s) : Keeps z (State.couchApply a0 s a2) := by
  unfold State.couchApply; try dsimp only
  refine Keeps.foldl ?_ ?_; apply State.each_keeps; apply State.each_keeps; exact h; intros
  apply State.writeImages_keeps; apply State.applySheet_keeps; apply State.set_keeps; apply State.setMaskBit_keeps
  apply State.calRelease_keeps; with_reducible apply Keeps.mk_; assumption; intros
  apply State.refreshShunts_keeps; apply State.markCellErr_keeps; apply State.muteChanged_keeps
  with_reducible apply Keeps.mk_; apply State.set_keeps; apply State.clearRegs_keeps; apply Keeps.ite; assumption
  apply State.setMaskBit_keeps; assumption; intros; apply State.set_keeps; assumption

theorem State.holdPad_keeps {z s : State} {a1 a2} (h : Keeps z s) : Keeps z (State.holdPad s a1 a2) := by
  unfold State.holdPad; try dsimp only
  apply Keeps.ite; exact h; apply State.setPad_keeps; exact h

theorem State.couchLatch_keeps {z s : State} {a1} (h : Keeps z s) : Keeps z (State.couchLatch s a1) := by
  unfold State.couchLatch; try dsimp only
  apply State.set_keeps; apply State.each_keeps; refine Keeps.foldl ?_ ?_; exact h; intros
  apply State.holdPad_keeps; assumption; intros; apply State.set_keeps; assumption

theorem State.setOrigin_keeps {z s : State} {a1 a2} (h : Keeps z s) : Keeps z (State.setOrigin s a1 a2) := by
  unfold State.setOrigin; try dsimp only
  apply Keeps.ite; apply State.set_keeps; apply State.set_keeps; with_reducible apply Keeps.mk_; exact h
  apply State.set_keeps; apply State.set_keeps; with_reducible apply Keeps.mk_; exact h

theorem State.setSetting_keeps {z s : State} {a1 a2 a3} (h : Keeps z s) : Keeps z (State.setSetting s a1 a2 a3)
    := by
  unfold State.setSetting; try dsimp only
  with_reducible apply Keeps.mk_; exact h

theorem State.swapWord_keeps {z s : State} {a1} (h : Keeps z s) : Keeps z (State.swapWord s a1) := by
  unfold State.swapWord; try dsimp only
  apply State.setSetting_keeps; apply State.setSetting_keeps; exact h

theorem State.exchange_keeps {z s : State} {a1} (h : Keeps z s) : Keeps z (State.exchange s a1) := by
  unfold State.exchange; try dsimp only
  apply State.set64_keeps; apply State.each_keeps; with_reducible apply Keeps.mk_; refine Keeps.foldl ?_ ?_
  refine Keeps.foldl ?_ ?_; with_reducible apply Keeps.mk_; apply State.set_keeps; apply State.set_keeps; exact h
  intros; apply State.swapWord_keeps; assumption; intros; apply State.swapWord_keeps; assumption; intros
  apply State.setOrigin_keeps; with_reducible apply Keeps.mk_; assumption

theorem State.couchSteps_keeps {z s : State} {a1} (h : Keeps z s) : Keeps z (State.couchSteps s a1) := by
  unfold State.couchSteps; try dsimp only
  apply State.exchangeFaults_keeps; apply State.set_keeps; apply State.couchApply_keeps
  apply State.exchange_keeps; with_reducible apply Keeps.mk_; apply State.set_keeps; apply State.set_keeps
  apply State.set_keeps; apply State.couchLatch_keeps; exact h

theorem execDrainComplete_keeps {z s : State} (h : Keeps z s) : Kept z (execDrainComplete s) := by
  unfold execDrainComplete; try dsimp only
  split; apply Kept.next; exact h; apply Kept.next; apply Keeps.ite; apply State.couchSteps_keeps; exact h
  exact h

theorem State.cutNet_keeps {z s : State} {a1} (h : Keeps z s) : Keeps z (State.cutNet s a1) := by
  unfold State.cutNet; try dsimp only
  apply State.emptyOut_keeps; refine Keeps.foldl ?_ ?_; with_reducible apply Keeps.mk_; exact h; intros; split
  split; assumption; apply Keeps.ite; apply State.setFine_keeps; assumption; assumption; assumption

theorem State.forceDrain_keeps {z s : State} {a1} (h : Keeps z s) : Keeps z (State.forceDrain s a1) := by
  unfold State.forceDrain; try dsimp only
  apply State.couchSteps_keeps; apply State.setStatus_keeps; apply State.set_keeps; apply State.set_keeps
  apply State.set_keeps; apply State.cutWorkers_keeps; with_reducible apply Keeps.mk_; apply State.settle_keeps
  refine Keeps.foldl ?_ ?_; exact h; intros; apply State.cutNet_keeps; assumption

theorem State.reopen_keeps {z s : State} {a1} (h : Keeps z s) : Keeps z (State.reopen s a1) := by
  unfold State.reopen; try dsimp only
  apply State.suspendPorts_keeps; apply State.bankGates_keeps; exact h

theorem State.couchBack_keeps {z s : State} {a1} (h : Keeps z s) : Keeps z (State.couchBack s a1) := by
  unfold State.couchBack; try dsimp only
  apply Keeps.ite; apply State.bootFail_keeps; apply State.setReg_keeps; with_reducible apply Keeps.mk_
  apply State.each_keeps; refine Keeps.foldl ?_ ?_; exact h; intros; apply State.releasePad_keeps; assumption
  intros; apply State.reopen_keeps; assumption; apply State.setReg_keeps; with_reducible apply Keeps.mk_
  apply State.each_keeps; refine Keeps.foldl ?_ ?_; exact h; intros; apply State.releasePad_keeps; assumption
  intros; apply State.reopen_keeps; assumption

theorem execDrainLimitExpiry_keeps {z s : State} (h : Keeps z s) : Kept z (execDrainLimitExpiry s) := by
  unfold execDrainLimitExpiry; try dsimp only
  split; apply Kept.next; exact h; apply Kept.ite; apply Kept.next; exact h; apply Kept.ite; apply Kept.next
  apply State.forceDrain_keeps; exact h; apply Kept.next; apply State.serveWaiting_keeps
  apply State.couchRefuse_keeps; apply State.couchBack_keeps; exact h

theorem State.cpSyncPage_keeps {z s : State} {a1} (h : Keeps z s) : Keeps z (State.cpSyncPage s a1) := by
  unfold State.cpSyncPage; try dsimp only
  apply State.each_keeps; exact h; intros; apply State.cpSync_keeps; assumption

theorem State.daOff_keeps {z s : State} {a1} (h : Keeps z s) : Keeps z (State.daOff s a1) := by
  unfold State.daOff; try dsimp only
  with_reducible apply Keeps.mk_; exact h

theorem State.fcSync_keeps {z s : State} {a1} (h : Keeps z s) : Keeps z (State.fcSync s a1) := by
  unfold State.fcSync; try dsimp only
  apply State.each_keeps; exact h; intros; apply State.chainSync_keeps; assumption

theorem State.pciReset_keeps {z s : State} (h : Keeps z s) : Keeps z (State.pciReset s) := by
  unfold State.pciReset; try dsimp only
  apply State.clearRegs_keeps; apply State.set_keeps; exact h

theorem State.hostDown_keeps {z s : State} (h : Keeps z s) : Keeps z (State.hostDown s) := by
  unfold State.hostDown; try dsimp only
  apply Keeps.ite; exact h; apply State.setStatus_keeps; apply State.incWrap_keeps; apply State.pciReset_keeps
  apply State.set_keeps; apply State.set_keeps; exact h

theorem State.setDomOn_keeps {z s : State} {a1 a2} (h : Keeps z s) : Keeps z (State.setDomOn s a1 a2) := by
  unfold State.setDomOn; try dsimp only
  apply Keeps.ite; apply State.setMaskBit_keeps; exact h; apply State.setMaskBit_keeps; exact h

theorem State.domDown_keeps {z s : State} {a1} (h : Keeps z s) : Keeps z (State.domDown s a1) := by
  unfold State.domDown; try dsimp only
  apply Keeps.ite; exact h; apply Keeps.ite; with_reducible apply Keeps.mk_; apply State.initBank_keeps
  refine Keeps.foldl ?_ ?_; apply State.setDomOn_keeps; exact h; intros; apply State.holdPad_keeps; assumption
  apply Keeps.ite; apply State.refreshShunts_keeps; apply State.cellsOff_keeps; apply State.setDomOn_keeps
  exact h; apply Keeps.ite; apply State.convOff_keeps; apply State.setDomOn_keeps; exact h; apply Keeps.ite
  apply State.each_keeps; apply State.setDomOn_keeps; exact h; intros; apply State.daOff_keeps; assumption
  apply Keeps.ite; apply State.each_keeps; apply State.setDomOn_keeps; exact h; intros
  apply State.cpSyncPage_keeps; assumption; apply Keeps.ite; apply State.each_keeps; apply State.setDomOn_keeps
  exact h; intros; apply State.setLane_keeps; assumption; apply Keeps.ite; apply State.takeLinkDown_keeps
  apply State.setDomOn_keeps; exact h; apply Keeps.ite; with_reducible apply Keeps.mk_; apply State.setDomOn_keeps
  exact h; apply Keeps.ite; apply State.set_keeps; apply State.hostDown_keeps; apply State.setDomOn_keeps; exact h
  apply Keeps.ite; with_reducible apply Keeps.mk_; apply State.setTxn_keeps; apply State.setDomOn_keeps; exact h
  apply Keeps.ite; with_reducible apply Keeps.mk_; apply State.setDomOn_keeps; exact h; apply Keeps.ite
  apply State.syncUse_keeps; refine Keeps.foldl ?_ ?_; with_reducible apply Keeps.mk_; apply Keeps.ite
  apply State.setDomOn_keeps; exact h; apply State.set_keeps; apply State.setDomOn_keeps; exact h; intros
  apply State.syncTask_keeps; assumption; apply Keeps.ite; with_reducible apply Keeps.mk_
  apply State.setDomOn_keeps; exact h; apply Keeps.ite; with_reducible apply Keeps.mk_; apply State.setDomOn_keeps
  exact h; apply Keeps.ite; with_reducible apply Keeps.mk_; apply State.each_keeps; apply State.setDomOn_keeps
  exact h; intros; apply State.fcSync_keeps; assumption; apply State.setDomOn_keeps; exact h

theorem State.pressDown_keeps {z s : State} {a1} (h : Keeps z s) : Keeps z (State.pressDown s a1) := by
  unfold State.pressDown; try dsimp only
  split; exact h; apply State.each_keeps; with_reducible apply Keeps.mk_; exact h; intros
  apply State.domDown_keeps; apply Keeps.ite; apply State.fbReset_keeps; assumption; assumption

theorem State.pressBanksDown_keeps {z s : State} (h : Keeps z s) : Keeps z (State.pressBanksDown s) := by
  unfold State.pressBanksDown; try dsimp only
  apply Keeps.ite; apply State.pressDown_keeps; exact h; exact h

theorem State.calHold_keeps {z s : State} {a1} (h : Keeps z s) : Keeps z (State.calHold s a1) := by
  unfold State.calHold; try dsimp only
  refine Keeps.foldl ?_ ?_; apply State.freeze_keeps; exact h; intros; apply State.holdPad_keeps; assumption

theorem State.repairStart_keeps {z s : State} {a1} (h : Keeps z s) : Keeps z (State.repairStart s a1) := by
  unfold State.repairStart; try dsimp only
  split; split; exact h; apply State.set_keeps; apply State.abortOp_keeps; apply State.calHold_keeps
  with_reducible apply Keeps.mk_; exact h; apply Keeps.ite; apply State.abortOp_keeps
  with_reducible apply Keeps.mk_; exact h; exact h

theorem State.syncRepair_keeps {z s : State} (h : Keeps z s) : Keeps z (State.syncRepair s) := by
  unfold State.syncRepair; try dsimp only
  apply State.set_keeps; apply State.set_keeps; exact h

theorem State.repairNext_keeps {z s : State} (h : Keeps z s) : Keeps z (State.repairNext s) := by
  unfold State.repairNext; try dsimp only
  split; apply State.syncRepair_keeps; exact h; apply State.syncRepair_keeps; apply State.repairStart_keeps
  with_reducible apply Keeps.mk_; exact h

theorem State.couchEnd_keeps {z s : State} {a1} (h : Keeps z s) : Keeps z (State.couchEnd s a1) := by
  unfold State.couchEnd; try dsimp only
  apply State.pressBanksDown_keeps; apply State.repairNext_keeps; apply State.releaseResets_keeps
  apply State.serveWaiting_keeps; apply State.setStatus_keeps; apply State.set_keeps; apply State.set_keeps
  apply State.set_keeps; apply State.set_keeps; apply State.each_keeps; with_reducible apply Keeps.mk_; exact h
  intros; apply State.reopen_keeps; apply State.set_keeps; apply State.set_keeps; assumption

theorem State.eccFail_keeps {z s : State} {a1 a2 a3 a4 a5 a6} (h : Keeps z s) : Keeps z (State.eccFail s a1 a2 a3
    a4 a5 a6) := by
  unfold State.eccFail; try dsimp only
  apply State.raiseFault_keeps; apply State.setStatus_keeps; apply State.incSat_keeps; exact h; intros
  dsimp only [id]; assumption

theorem State.eccWord_keeps {z s : State} {a1 a2 a3 a4 a5} (h : Keeps z s) : Keeps z (State.eccWord s a1 a2 a3 a4
    a5).2 := by
  unfold State.eccWord; try dsimp only
  apply Keeps.ite_snd; dsimp only; apply State.eccFail_keeps; apply State.injectedCheck_keeps; exact h; split
  dsimp only; apply State.injectedCheck_keeps; exact h; dsimp only; apply State.raiseFault_keeps
  apply State.setStatus_keeps; apply State.incSat_keeps; with_reducible apply Keeps.mk_; apply Keeps.ite
  apply State.setByte_keeps; apply State.injectedCheck_keeps; exact h; apply State.injectedCheck_keeps; exact h
  intros; dsimp only [id]; assumption; dsimp only; apply State.eccFail_keeps; apply State.injectedCheck_keeps
  exact h

theorem State.memRead_keeps {z s : State} {a1 a2 a3 a4 a5 a6} (h : Keeps z s) : Keeps z (State.memRead s a1 a2 a3
    a4 a5 a6).2.2 := by
  unfold State.memRead; try dsimp only
  apply Keeps.ite_snd; refine Keeps.foldl_snd ?_ ?_; dsimp only; exact h; intros; dsimp only
  apply State.eccWord_keeps; assumption; dsimp only; exact h

theorem State.memHostRead_keeps {z s : State} {a1 a2 a3} (h : Keeps z s) : Keeps z (State.memHostRead s a1 a2 a3)
    := by
  unfold State.memHostRead; try dsimp only
  with_reducible apply Keeps.mkIn; apply State.memRead_keeps; exact h

theorem State.memWrite_keeps {z s : State} {a1 a2 a3 a4 a5 a6 a7} (h : Keeps z s) : Keeps z (State.memWrite s a1
    a2 a3 a4 a5 a6 a7).2 := by
  unfold State.memWrite; try dsimp only
  apply Keeps.ite_snd; apply Keeps.ite_snd; refine Keeps.foldl_snd ?_ ?_; dsimp only; exact h; intros
  apply Keeps.ite_snd; assumption; dsimp only; apply State.eccWord_keeps; assumption; dsimp only; exact h
  dsimp only; with_reducible apply Keeps.mk_; apply State.setBytesEn_keeps; apply Keeps.ite_snd
  refine Keeps.foldl_snd ?_ ?_; dsimp only; exact h; intros; apply Keeps.ite_snd; assumption; dsimp only
  apply State.eccWord_keeps; assumption; dsimp only; exact h

theorem State.mirrorWrite_keeps {z s : State} {a1 a2 a3} (h : Keeps z s) : Keeps z (State.mirrorWrite s a1 a2 a3)
    := by
  unfold State.mirrorWrite; try dsimp only
  apply Keeps.ite; apply State.twinSend_keeps; with_reducible apply Keeps.mk_; apply Keeps.ite
  apply State.reachClk_keeps; exact h; exact h; exact h

theorem State.localWrite_keeps {z s : State} {a1 a2 a3 a4 a5 a6 a7} (h : Keeps z s) : Keeps z (State.localWrite s
    a1 a2 a3 a4 a5 a6 a7).2 := by
  unfold State.localWrite; try dsimp only
  apply Keeps.ite_snd; dsimp only; apply State.setStatus_keeps; apply State.incSat_keeps; exact h; dsimp only
  apply Keeps.ite; apply State.mirrorWrite_keeps; apply State.memWrite_keeps; exact h; apply State.memWrite_keeps
  exact h

theorem State.memHostWrite_keeps {z s : State} {a1 a2 a3} (h : Keeps z s) : Keeps z (State.memHostWrite s a1 a2
    a3) := by
  unfold State.memHostWrite; try dsimp only
  with_reducible apply Keeps.mkIn; apply State.localWrite_keeps; exact h

theorem State.memPeerWrite_keeps {z s : State} {a1 a2 a3} (h : Keeps z s) : Keeps z (State.memPeerWrite s a1 a2
    a3) := by
  unfold State.memPeerWrite; try dsimp only
  apply State.memWrite_keeps; exact h

theorem State.memReq_keeps {z s : State} {a1} (h : Keeps z s) : Keeps z (State.memReq s a1) := by
  unfold State.memReq; try dsimp only
  split; apply State.memHostRead_keeps; exact h; apply State.memHostWrite_keeps; exact h
  apply State.memPeerWrite_keeps; exact h; exact h

theorem State.memRelease_keeps {z s : State} {a1} (h : Keeps z s) : Keeps z (State.memRelease s a1) := by
  unfold State.memRelease; try dsimp only
  refine Keeps.foldl ?_ ?_; with_reducible apply Keeps.mk_; exact h; intros; apply State.memReq_keeps; assumption

theorem State.relWr_keeps {z s : State} {a1} (h : Keeps z s) : Keeps z (State.relWr s a1) := by
  unfold State.relWr; try dsimp only
  apply State.each_keeps; exact h; intros; apply State.memRelease_keeps; assumption

theorem State.relOut_keeps {z s : State} {a1} (h : Keeps z s) : Keeps z (State.relOut s a1) := by
  unfold State.relOut; try dsimp only
  apply State.flow_keeps; apply State.each_keeps; refine Keeps.foldl ?_ ?_; exact h; intros
  apply State.releasePad_keeps; assumption; intros; apply State.set_keeps; assumption

theorem State.writeTagged_keeps {z s : State} {a1 a2} (h : Keeps z s) : Keeps z (State.writeTagged s a1 a2) := by
  unfold State.writeTagged; try dsimp only
  apply Keeps.ite; split; exact h; apply State.setFine_keeps; exact h; split; exact h; apply State.setWord_keeps
  exact h

theorem State.relRst_keeps {z s : State} {a1 a2} (h : Keeps z s) : Keeps z (State.relRst s a1 a2).2 := by
  unfold State.relRst; try dsimp only
  apply State.flow_keeps; refine Keeps.foldl ?_ ?_; exact h; intros; apply State.writeTagged_keeps; assumption

theorem State.relRun_keeps {z s : State} {a1} (h : Keeps z s) : Keeps z (State.relRun s a1) := by
  unfold State.relRun; try dsimp only
  apply State.flow_keeps; apply State.settle_keeps; with_reducible apply Keeps.mk_; exact h

theorem State.couchRelease_keeps {z s : State} {a1 a2} (h : Keeps z s) : Keeps z (State.couchRelease s a1 a2) := by
  unfold State.couchRelease; try dsimp only
  apply Keeps.ite; refine Keeps.foldl ?_ ?_; apply Keeps.ite; apply State.couchEnd_keeps; apply Keeps.ite
  apply State.relRun_keeps; split; apply State.relOut_keeps; exact h; apply State.relWr_keeps; exact h
  apply State.set_keeps; apply State.set_keeps; apply State.relRst_keeps; exact h; split; apply State.relOut_keeps
  exact h; apply State.relWr_keeps; exact h; apply State.set_keeps; apply State.set_keeps
  apply State.relRst_keeps; exact h; apply State.set_keeps; apply Keeps.ite; apply State.relRun_keeps; split
  apply State.relOut_keeps; exact h; apply State.relWr_keeps; exact h; apply State.set_keeps
  apply State.set_keeps; apply State.relRst_keeps; exact h; split; apply State.relOut_keeps; exact h
  apply State.relWr_keeps; exact h; apply State.set_keeps; apply State.set_keeps; apply State.relRst_keeps
  exact h; intros; apply State.raiseIf_keeps; assumption; apply Keeps.ite; apply State.couchEnd_keeps
  apply Keeps.ite; apply State.relRun_keeps; split; apply State.relOut_keeps; exact h; apply State.relWr_keeps
  exact h; apply State.set_keeps; apply State.set_keeps; apply State.relRst_keeps; exact h; split
  apply State.relOut_keeps; exact h; apply State.relWr_keeps; exact h; apply State.set_keeps
  apply State.set_keeps; apply State.relRst_keeps; exact h; apply State.set_keeps; apply Keeps.ite
  apply State.relRun_keeps; split; apply State.relOut_keeps; exact h; apply State.relWr_keeps; exact h
  apply State.set_keeps; apply State.set_keeps; apply State.relRst_keeps; exact h; split; apply State.relOut_keeps
  exact h; apply State.relWr_keeps; exact h; apply State.set_keeps; apply State.set_keeps
  apply State.relRst_keeps; exact h

theorem execLockWaitEnd_keeps {z s : State} {a0 a1} (h : Keeps z s) : Kept z (execLockWaitEnd a0 a1 s) := by
  unfold execLockWaitEnd; try dsimp only
  split; apply Kept.next; exact h; apply Kept.ite; apply Kept.next; exact h; apply Kept.next; apply Keeps.ite
  apply State.couchRelease_keeps; apply State.set_keeps; refine Keeps.foldl ?_ ?_; apply Keeps.ite; exact h
  apply State.setStatus_keeps; exact h; intros; apply State.raiseIf_keeps; assumption; refine Keeps.foldl ?_ ?_
  apply Keeps.ite; exact h; apply State.setStatus_keeps; exact h; intros; apply State.raiseIf_keeps; assumption

theorem execReleaseStep_keeps {z s : State} {a0} (h : Keeps z s) : Kept z (execReleaseStep a0 s) := by
  unfold execReleaseStep; try dsimp only
  split; apply Kept.next; exact h; apply Kept.next; apply Keeps.ite; apply State.couchRelease_keeps; exact h
  exact h

theorem execBootStepDone_keeps {z s : State} {a0} (h : Keeps z s) : Kept z (execBootStepDone a0 s) := by
  unfold execBootStepDone; try dsimp only
  apply Kept.ite; apply Kept.next; exact h; split; apply Kept.next; apply State.bootOne_keeps
  apply State.bootPoll_keeps; exact h; apply Kept.next; apply State.bootLocked_keeps; apply State.bootPoll_keeps
  exact h; apply Kept.next; apply Keeps.ite; apply State.bootThree_keeps; apply State.bootPoll_keeps; exact h
  apply State.bootPoll_keeps; exact h; apply Kept.next; apply Keeps.ite; apply State.bootFail_keeps
  apply State.bootPoll_keeps; exact h; apply State.bootPoll_keeps; exact h; apply Kept.next
  apply State.bootFour_keeps; apply State.bootPoll_keeps; exact h; apply Kept.next; apply Keeps.ite
  apply State.bootFull_keeps; apply State.bootPoll_keeps; exact h; apply State.bootPoll_keeps; exact h
  apply Kept.next; apply Keeps.ite; apply State.bootFail_keeps; apply State.bootPoll_keeps; exact h
  apply State.bootPoll_keeps; exact h; apply Kept.next; apply State.bootSeven_keeps; apply State.bootPoll_keeps
  exact h; apply Kept.next; apply State.bootPoll_keeps; exact h

theorem State.calVote_keeps {z s : State} {a1} (h : Keeps z s) : Keeps z (State.calVote s a1) := by
  unfold State.calVote; try dsimp only
  apply Keeps.ite; apply State.raiseFault_keeps; apply State.setStatus_keeps; apply State.incSat_keeps; exact h
  intros; dsimp only [id]; assumption; exact h

theorem execCalenderPass_keeps {z s : State} {a0} (h : Keeps z s) : Kept z (execCalenderPass a0 s) := by
  unfold execCalenderPass; try dsimp only
  apply Kept.ite; apply Kept.next; exact h; apply Kept.next; apply Keeps.ite; with_reducible apply Keeps.mk_
  apply State.calVote_keeps; exact h; apply State.calPass_keeps; apply State.calVote_keeps; exact h

theorem State.passNow_keeps {z s : State} (h : Keeps z s) : Keeps z (State.passNow s) := by
  unfold State.passNow; try dsimp only
  apply Keeps.ite; apply State.calPass_keeps; exact h; exact h

theorem execPassNow_keeps {z s : State} {a0} (h : Keeps z s) : Kept z (execPassNow a0 s) := by
  unfold execPassNow; try dsimp only
  apply Kept.next; apply State.gateF_keeps; exact h; intros; apply State.passNow_keeps; assumption

theorem State.shadowChanged_keeps {z s : State} {a1} (h : Keeps z s) : Keeps z (State.shadowChanged s a1) := by
  unfold State.shadowChanged; try dsimp only
  split; apply Keeps.ite; apply State.setOrigin_keeps; exact h; exact h; exact h

theorem State.markTorn_keeps {z s : State} {a1} (h : Keeps z s) : Keeps z (State.markTorn s a1) := by
  unfold State.markTorn; try dsimp only
  apply State.shadowChanged_keeps; apply Keeps.ite; apply State.setMaskBit_keeps; exact h
  apply State.setMaskBit_keeps; exact h

theorem State.calTorn_keeps {z s : State} {a1 a2} (h : Keeps z s) : Keeps z (State.calTorn s a1 a2) := by
  unfold State.calTorn; try dsimp only
  apply State.setStatus_keeps; apply State.markTorn_keeps; exact h

theorem State.repairAsk_keeps {z s : State} {a1} (h : Keeps z s) : Keeps z (State.repairAsk s a1) := by
  unfold State.repairAsk; try dsimp only
  apply State.repairNext_keeps; with_reducible apply Keeps.mk_; exact h

theorem State.calBadFrame_keeps {z s : State} {a1 a2} (h : Keeps z s) : Keeps z (State.calBadFrame s a1 a2) := by
  unfold State.calBadFrame; try dsimp only
  apply State.repairAsk_keeps; with_reducible apply Keeps.mk_; exact h

theorem State.calBadWord_keeps {z s : State} {a1} (h : Keeps z s) : Keeps z (State.calBadWord s a1) := by
  unfold State.calBadWord; try dsimp only
  apply State.repairAsk_keeps; apply Keeps.ite; apply State.refreshShunts_keeps; with_reducible apply Keeps.mk_
  exact h; with_reducible apply Keeps.mk_; exact h

theorem State.calFinding_keeps {z s : State} {a1 a2 a3 a4 a5} (h : Keeps z s) : Keeps z (State.calFinding s a1 a2
    a3 a4 a5) := by
  unfold State.calFinding; try dsimp only
  apply Keeps.ite; apply State.raiseFault_keeps; apply State.setStatus_keeps; apply State.incSat_keeps; exact h
  intros; dsimp only [id]; assumption; apply Keeps.ite; exact h; apply Keeps.ite; apply Keeps.ite
  apply State.raiseFault_keeps; exact h; intros; apply State.calBadWord_keeps; assumption
  apply State.raiseFault_keeps; exact h; intros; apply State.calTorn_keeps; assumption; apply Keeps.ite
  apply State.raiseFault_keeps; exact h; intros; apply State.calBadFrame_keeps; assumption
  apply State.raiseFault_keeps; exact h; intros; apply State.calTorn_keeps; assumption

theorem State.calCheck_keeps {z s : State} {a1 a2 a3 a4} (h : Keeps z s) : Keeps z (State.calCheck s a1 a2 a3 a4)
    := by
  unfold State.calCheck; try dsimp only
  apply State.calFinding_keeps; apply Keeps.ite_snd; dsimp only; apply State.injectedCheck_keeps; exact h
  apply State.injectedCheck_keeps; apply State.injectedCheck_keeps; exact h

theorem State.calPassEnd_keeps {z s : State} (h : Keeps z s) : Keeps z (State.calPassEnd s) := by
  unfold State.calPassEnd; try dsimp only
  apply Keeps.ite; apply State.calPass_keeps; apply State.setStatus_keeps; apply State.set_keeps
  apply State.incWrap_keeps; apply State.set_keeps; apply State.quotient_keeps; exact h
  apply State.setStatus_keeps; apply State.set_keeps; apply State.incWrap_keeps; apply State.set_keeps
  apply State.quotient_keeps; exact h

theorem execCalenderRead_keeps {z s : State} {a0 a1 a2 a3 a4} (h : Keeps z s) : Kept z (execCalenderRead a0 a1 a2
    a3 a4 s) := by
  unfold execCalenderRead; try dsimp only
  apply Kept.ite; apply Kept.next; exact h; apply Kept.next; apply Keeps.ite; apply State.calPassEnd_keeps
  apply Keeps.ite; apply Keeps.ite; with_reducible apply Keeps.mk_; apply State.calVote_keeps; exact h
  apply State.set_keeps; with_reducible apply Keeps.mk_; apply State.calVote_keeps; exact h
  apply State.calCheck_keeps; apply Keeps.ite; with_reducible apply Keeps.mk_; apply State.calVote_keeps; exact h
  apply State.set_keeps; with_reducible apply Keeps.mk_; apply State.calVote_keeps; exact h; apply Keeps.ite
  apply Keeps.ite; with_reducible apply Keeps.mk_; apply State.calVote_keeps; exact h; apply State.set_keeps
  with_reducible apply Keeps.mk_; apply State.calVote_keeps; exact h; apply State.calCheck_keeps; apply Keeps.ite
  with_reducible apply Keeps.mk_; apply State.calVote_keeps; exact h; apply State.set_keeps
  with_reducible apply Keeps.mk_; apply State.calVote_keeps; exact h

theorem State.acceptHeader_keeps {z s : State} {a1 a2} (h : Keeps z s) : Keeps z (State.acceptHeader s a1 a2) := by
  unfold State.acceptHeader; try dsimp only
  apply State.set_keeps; with_reducible apply Keeps.mk_; apply State.each_keeps; with_reducible apply Keeps.mk_
  refine Keeps.foldl ?_ ?_; exact h; intros; apply State.markTorn_keeps; assumption; intros; apply Keeps.ite
  apply State.setSetting_keeps; assumption; assumption

theorem State.cmdAnalog_keeps {z s : State} {a1 a2} (h : Keeps z s) : Keeps z (State.cmdAnalog s a1 a2).2.2 := by
  unfold State.cmdAnalog; try dsimp only
  apply Keeps.ite_snd2; dsimp only; exact h; split; dsimp only; exact h; dsimp only; refine Keeps.foldl ?_ ?_
  exact h; intros; apply State.setSetting_keeps; assumption

theorem State.setFrame_keeps {z s : State} {a1 a2 a3} (h : Keeps z s) : Keeps z (State.setFrame s a1 a2 a3) := by
  unfold State.setFrame; try dsimp only
  with_reducible apply Keeps.mk_; exact h

theorem State.putFrame_keeps {z s : State} {a1 a2 a3} (h : Keeps z s) : Keeps z (State.putFrame s a1 a2 a3).2.2
    := by
  unfold State.putFrame; try dsimp only
  apply Keeps.ite_snd2; dsimp only; exact h; apply Keeps.ite_snd2; dsimp only; exact h; dsimp only
  apply State.set_keeps; apply State.setFrame_keeps; exact h

theorem State.cmdFrame_keeps {z s : State} {a1 a2} (h : Keeps z s) : Keeps z (State.cmdFrame s a1 a2).2.2 := by
  unfold State.cmdFrame; try dsimp only
  split; dsimp only; exact h; split; apply Keeps.ite_snd2; dsimp only
  refine Keeps.snd2 (?_ : Keeps _ (Prod.snd (Prod.snd _))) (by assumption); apply State.putFrame_keeps; exact h
  apply Keeps.ite_snd2; dsimp only; refine Keeps.snd2 (?_ : Keeps _ (Prod.snd (Prod.snd _))) (by assumption)
  apply State.putFrame_keeps; exact h; dsimp only
  refine Keeps.snd2 (?_ : Keeps _ (Prod.snd (Prod.snd _))) (by assumption); apply State.putFrame_keeps; exact h
  apply State.putFrame_keeps; exact h

theorem State.putFrames_keeps {z s : State} {a1 a2 a3} (h : Keeps z s) : Keeps z (State.putFrames s a1 a2 a3).2.2
    := by
  induction a3 generalizing s a1 with
  | nil => exact h
  | cons n r ih =>
    have k := State.putFrame_keeps (a1 := a1) (a2 := n) (a3 := a2) h
    unfold State.putFrames
    split
    · exact ih (Keeps.snd2 k (by assumption))
    · exact k

theorem State.cmdQuire_keeps {z s : State} {a1 a2 a3} (h : Keeps z s) : Keeps z (State.cmdQuire s a1 a2 a3).2.2
    := by
  unfold State.cmdQuire; try dsimp only
  apply Keeps.ite_snd2; dsimp only; exact h; split; dsimp only; exact h; apply Keeps.ite_snd2
  apply Keeps.ite_snd2; dsimp only; exact h; dsimp only; apply State.setStatus_keeps; apply State.set_keeps
  apply State.set_keeps; apply State.set_keeps; exact h; split; dsimp only; exact h; apply State.putFrames_keeps
  exact h

theorem State.cmdRetain_keeps {z s : State} {a1 a2} (h : Keeps z s) : Keeps z (State.cmdRetain s a1 a2).2.2 := by
  unfold State.cmdRetain; try dsimp only
  split; dsimp only; with_reducible apply Keeps.mk_; exact h; dsimp only; exact h

theorem State.cmdZero_keeps {z s : State} {a1 a2} (h : Keeps z s) : Keeps z (State.cmdZero s a1 a2).2.2 := by
  unfold State.cmdZero; try dsimp only
  split; dsimp only; exact h; apply State.putFrames_keeps; exact h

theorem State.loaderDrop_keeps {z s : State} {a1 a2} (h : Keeps z s) : Keeps z (State.loaderDrop s a1 a2).2 := by
  unfold State.loaderDrop; try dsimp only
  apply Keeps.ite_snd; dsimp only; with_reducible apply Keeps.mk_; exact h; dsimp only; exact h

theorem State.loaderTake_keeps {z s : State} {a1} (h : Keeps z s) : Keeps z (State.loaderTake s a1) := by
  unfold State.loaderTake; try dsimp only
  with_reducible apply Keeps.mk_; exact h

theorem State.loadCmd_keeps {z s : State} {a1 a2} (h : Keeps z s) : Keeps z (State.loadCmd s a1 a2) := by
  unfold State.loadCmd; try dsimp only
  split; apply Keeps.ite; exact h; apply Keeps.ite; apply State.endLoad_keeps; exact h; apply Keeps.ite
  apply State.loaderTake_keeps; exact h; apply Keeps.ite; apply State.endLoad_keeps; exact h; apply Keeps.ite
  exact h; split; apply State.endLoad_keeps; exact h; apply Keeps.ite; apply State.endLoad_keeps; exact h
  apply Keeps.ite; apply State.loaderTake_keeps; exact h; apply Keeps.ite; apply State.endLoad_keeps; exact h
  apply Keeps.ite; split; apply State.endLoad_keeps; apply State.loaderDrop_keeps; exact h
  apply State.endLoad_keeps; apply State.loaderDrop_keeps; exact h; split; with_reducible apply Keeps.mk_
  refine Keeps.snd2 (?_ : Keeps _ (Prod.snd (Prod.snd _))) (by assumption); split; apply State.cmdFrame_keeps
  apply State.loaderDrop_keeps; exact h; apply State.cmdQuire_keeps; apply State.loaderDrop_keeps; exact h
  apply State.cmdZero_keeps; apply State.loaderDrop_keeps; exact h; apply State.cmdAnalog_keeps
  apply State.loaderDrop_keeps; exact h; apply State.cmdRetain_keeps; apply State.loaderDrop_keeps; exact h
  apply State.endLoad_keeps; refine Keeps.snd2 (?_ : Keeps _ (Prod.snd (Prod.snd _))) (by assumption); split
  apply State.cmdFrame_keeps; apply State.loaderDrop_keeps; exact h; apply State.cmdQuire_keeps
  apply State.loaderDrop_keeps; exact h; apply State.cmdZero_keeps; apply State.loaderDrop_keeps; exact h
  apply State.cmdAnalog_keeps; apply State.loaderDrop_keeps; exact h; apply State.cmdRetain_keeps
  apply State.loaderDrop_keeps; exact h; exact h

theorem State.stopLoad_keeps {z s : State} {a1} (h : Keeps z s) : Keeps z (State.stopLoad s a1) := by
  unfold State.stopLoad; try dsimp only
  split; apply State.endLoad_keeps; exact h; exact h

theorem State.loadAll_keeps {z s : State} {a0 a2} (h : Keeps z s) : Keeps z (State.loadAll a0 s a2) := by
  induction a0 generalizing s with
  | zero => exact State.stopLoad_keeps h
  | succ k ih =>
    unfold State.loadAll
    split
    · exact ih (State.loadCmd_keeps h)
    · exact h

theorem State.expand_keeps {z s : State} {a1} (h : Keeps z s) : Keeps z (State.expand s a1) := by
  unfold State.expand; try dsimp only
  apply State.loadAll_keeps; apply State.acceptHeader_keeps; apply State.set_keeps; with_reducible apply Keeps.mk_
  exact h

end Sys2Proof.Machine
end

