-- ==== Sys2Proof/Laws/Keeps3.lean ====
section
/-!
SUPPORT. What every operation keeps (`Keeps`, Laws/Keeps.lean), part 3: one lemma per operation over the state, and per
meaning of a command one of its outcome, callees before callers.
-/
namespace Sys2Proof.Machine
open Sys2Proof

theorem State.repairSource_keeps {z s : State} {a1} (h : Keeps z s) : Keeps z (State.repairSource s a1) := by
  unfold State.repairSource; try dsimp only
  apply Keeps.ite; exact h; apply State.expand_keeps; with_reducible apply Keeps.mk_; exact h

theorem State.repairOk_keeps {z s : State} {a1} (h : Keeps z s) : Keeps z (State.repairOk s a1) := by
  unfold State.repairOk; try dsimp only
  apply State.setStatus_keeps; apply State.incSat_keeps; apply State.set_keeps; split
  apply State.calRelease_keeps; refine Keeps.foldl ?_ ?_; exact h; intros; apply State.setFrame_keeps; assumption
  apply Keeps.ite; apply State.refreshShunts_keeps; apply State.markCellErr_keeps; apply Keeps.ite
  apply State.muteFrom_keeps; apply State.setSetting_keeps; with_reducible apply Keeps.mk_; exact h
  apply State.setSetting_keeps; with_reducible apply Keeps.mk_; exact h; apply State.setSetting_keeps
  with_reducible apply Keeps.mk_; exact h

theorem State.repairFail_keeps {z s : State} {a1 a2} (h : Keeps z s) : Keeps z (State.repairFail s a1 a2) := by
  unfold State.repairFail; try dsimp only
  apply State.setStatus_keeps; apply State.raiseFault_keeps; apply State.set_keeps; exact h; intros; split
  with_reducible apply Keeps.mk_; apply State.setMaskBit_keeps; assumption; apply Keeps.ite
  with_reducible apply Keeps.mk_; apply State.setMaskBit_keeps; assumption; with_reducible apply Keeps.mk_
  assumption

theorem State.repairList_keeps {z s : State} {a1 a2} (h : Keeps z s) : Keeps z (State.repairList s a1 a2).2 := by
  unfold State.repairList; try dsimp only
  split; dsimp only; exact h; dsimp only; apply State.set_keeps; with_reducible apply Keeps.mk_; exact h

theorem execRepairDone_keeps {z s : State} {a0 a1} (h : Keeps z s) : Kept z (execRepairDone a0 a1 s) := by
  unfold execRepairDone; try dsimp only
  split; apply Kept.next; exact h; apply Kept.ite; apply Kept.next; exact h; apply Kept.next
  apply State.repairNext_keeps; apply Keeps.ite; apply State.repairOk_keeps; apply State.repairList_keeps
  with_reducible apply Keeps.mk_; exact h; apply State.repairFail_keeps; apply State.repairList_keeps
  with_reducible apply Keeps.mk_; exact h

theorem execCalenderWatchExpiry_keeps {z s : State} (h : Keeps z s) : Kept z (execCalenderWatchExpiry s) := by
  unfold execCalenderWatchExpiry; try dsimp only
  apply Kept.next; apply Keeps.ite; apply State.raiseOwn_keeps; exact h; intros; dsimp only [id]; assumption
  exact h

theorem State.restoreBank_keeps {z s : State} {a1} (h : Keeps z s) : Keeps z (State.restoreBank s a1) := by
  unfold State.restoreBank; try dsimp only
  apply Keeps.ite; with_reducible apply Keeps.mk_; apply State.clearBytes_keeps; exact h; apply State.set_keeps
  apply State.set_keeps; apply State.writeImages_keeps; apply State.applySheet_keeps
  with_reducible apply Keeps.mk_; apply State.clearBytes_keeps; exact h

theorem State.vtResult_keeps {z s : State} {a1} (h : Keeps z s) : Keeps z (State.vtResult s a1) := by
  unfold State.vtResult; try dsimp only
  apply State.setStatus_keeps; apply State.set_keeps; exact h

theorem State.abandonTxn_keeps {z s : State} {a1} (h : Keeps z s) : Keeps z (State.abandonTxn s a1) := by
  unfold State.abandonTxn; try dsimp only
  split; apply State.vtResult_keeps; exact h; apply State.vtResult_keeps; apply State.setTxn_keeps; exact h

theorem State.vtBegin_keeps {z s : State} {a1 a2} (h : Keeps z s) (h2 : ∀ u, Keeps z u → Keeps z (a2 u)) : Keeps
    z (State.vtBegin s a1 a2) := by
  unfold State.vtBegin; try dsimp only
  apply Keeps.ite; apply State.set_keeps; exact h; apply Keeps.ite; apply State.vtResult_keeps
  apply State.set_keeps; exact h; apply Keeps.ite; apply State.vtResult_keeps; apply State.set_keeps; exact h
  apply Keeps.ite; apply State.vtResult_keeps; apply State.set_keeps; exact h; apply h2; apply State.set_keeps
  exact h

theorem State.vtCmd_keeps {z s : State} {a1 a2 a3} (h : Keeps z s) (h3 : ∀ u, Keeps z u → Keeps z (a3 u)) : Keeps
    z (State.vtCmd s a1 a2 a3) := by
  unfold State.vtCmd; try dsimp only
  apply State.gateF_keeps; exact h; intros; apply State.vtBegin_keeps; assumption; intros; apply h3; assumption

theorem execAbandon_keeps {z s : State} {a0} (h : Keeps z s) : Kept z (execAbandon a0 s) := by
  unfold execAbandon; try dsimp only
  apply Kept.next; apply State.vtCmd_keeps; exact h; intros; apply State.abandonTxn_keeps; assumption

theorem execAbort_keeps {z s : State} {a0} (h : Keeps z s) : Kept z (execAbort a0 s) := by
  unfold execAbort; try dsimp only
  apply Kept.next; apply State.gateF_keeps; exact h; intros; apply State.bootAfter_keeps
  apply State.stopLoad_keeps; assumption

theorem State.bar2Gate_keeps {z s : State} {a1 a2 a3 a4} (h : Keeps z s) (h4 : ∀ u, Keeps z u → Keeps z (a4 u)) :
    Keeps z (State.bar2Gate s a1 a2 a3 a4) := by
  unfold State.bar2Gate; try dsimp only
  apply Keeps.ite; exact h; apply Keeps.ite; apply State.setStatus_keeps; with_reducible apply Keeps.mkIn; exact h
  apply Keeps.ite; with_reducible apply Keeps.mkIn; exact h; apply h4; exact h

theorem State.memEnter_keeps {z s : State} {a1} (h : Keeps z s) : Keeps z (State.memEnter s a1) := by
  unfold State.memEnter; try dsimp only
  apply Keeps.ite; with_reducible apply Keeps.mk_; exact h; apply State.memReq_keeps; exact h

theorem State.bar2Write_keeps {z s : State} {a1 a2 a3} (h : Keeps z s) : Keeps z (State.bar2Write s a1 a2 a3) := by
  unfold State.bar2Write; try dsimp only
  apply Keeps.ite; apply State.setStatus_keeps; apply State.incSat_keeps; exact h; apply Keeps.ite
  apply Keeps.ite; apply State.setStatus_keeps; exact h; apply Keeps.ite; apply State.raiseFault_keeps; exact h
  intros; dsimp only [id]; assumption; apply State.memEnter_keeps; exact h; apply Keeps.ite
  apply State.setStatus_keeps; exact h; apply Keeps.ite; apply State.setStatus_keeps; exact h
  apply State.setStatus_keeps; exact h

theorem State.badAccess_keeps {z s : State} {a1 a2 a3} (h : Keeps z s) : Keeps z (State.badAccess s a1 a2 a3) := by
  unfold State.badAccess; try dsimp only
  apply Keeps.ite; apply Keeps.ite; with_reducible apply Keeps.mkIn; exact h; with_reducible apply Keeps.mkIn
  exact h; apply State.setStatus_keeps; apply Keeps.ite; with_reducible apply Keeps.mkIn; exact h
  with_reducible apply Keeps.mkIn; exact h

theorem State.blkResetWrite_keeps {z s : State} {a1} (h : Keeps z s) : Keeps z (State.blkResetWrite s a1) := by
  unfold State.blkResetWrite; try dsimp only
  apply Keeps.ite; exact h; apply Keeps.ite; apply State.lockedWrite_keeps; exact h
  apply State.resetChecked_keeps; exact h

theorem State.setHostRst_keeps {z s : State} {a1} (h : Keeps z s) : Keeps z (State.setHostRst s a1) := by
  unfold State.setHostRst; try dsimp only
  apply Keeps.ite; exact h; apply Keeps.ite; apply State.set_keeps; with_reducible apply Keeps.mk_; exact h
  apply State.setStatus_keeps; apply State.set_keeps; with_reducible apply Keeps.mk_; exact h

theorem State.setRails_keeps {z s : State} {a1} (h : Keeps z s) : Keeps z (State.setRails s a1) := by
  unfold State.setRails; try dsimp only
  apply State.set_keeps; exact h

theorem State.manualOn_keeps {z s : State} (h : Keeps z s) : Keeps z (State.manualOn s) := by
  unfold State.manualOn; try dsimp only
  apply Keeps.ite; apply State.setHostRst_keeps; apply State.setRails_keeps; exact h; exact h

theorem State.seqFinish_keeps {z s : State} (h : Keeps z s) : Keeps z (State.seqFinish s) := by
  unfold State.seqFinish; try dsimp only
  apply State.setStatus_keeps; apply State.set_keeps; apply State.set_keeps; with_reducible apply Keeps.mk_
  exact h

theorem State.seqHost_keeps {z s : State} {a1} (h : Keeps z s) : Keeps z (State.seqHost s a1) := by
  unfold State.seqHost; try dsimp only
  apply Keeps.ite; with_reducible apply Keeps.mk_; exact h; exact h

theorem State.seqFrom_keeps {z s : State} {a0} (h : Keeps z s) : Keeps z (State.seqFrom a0 s) := by
  induction a0 generalizing s with
  | nil => exact State.seqFinish_keeps h
  | cons k r ih =>
    unfold State.seqFrom
    split
    · exact ih (State.seqHost_keeps h)
    · split
      · exact State.set_keeps (Keeps.mk_ h)
      · exact Keeps.mk_ h

theorem State.seqResume_keeps {z s : State} (h : Keeps z s) : Keeps z (State.seqResume s) := by
  unfold State.seqResume; try dsimp only
  apply Keeps.ite; exact h; apply Keeps.ite; apply State.manualOn_keeps; exact h; split; apply State.seqFrom_keeps
  exact h; exact h

theorem State.timersEn_keeps {z s : State} {a1} (h : Keeps z s) : Keeps z (State.timersEn s a1) := by
  unfold State.timersEn; try dsimp only
  apply Keeps.ite; apply Keeps.ite; exact h; apply State.toTick_keeps; exact h; apply Keeps.ite
  apply State.each_keeps; apply Keeps.ite; exact h; apply State.toTick_keeps; exact h; intros; apply Keeps.ite
  apply State.armTimer_keeps; assumption; assumption; apply State.each_keeps; apply Keeps.ite; exact h
  apply State.toTick_keeps; exact h; intros; apply Keeps.ite; apply State.stopTimer_keeps; assumption; assumption

theorem State.ctrlHooks_keeps {z s : State} {a0 a2 a3 a4} (h : Keeps z s) : Keeps z (State.ctrlHooks a0 s a2 a3
    a4) := by
  unfold State.ctrlHooks; try dsimp only
  split; apply State.bankGates_keeps; exact h; apply Keeps.ite; exact h; apply State.refreshShunts_keeps
  apply Keeps.ite; apply State.muteRunning_keeps; exact h; apply State.cellsOff_keeps; exact h
  apply State.convCtrl_keeps; exact h; apply State.fcSync_keeps; exact h; apply State.cpSyncPage_keeps; exact h
  apply State.daWarmAll_keeps; apply State.daCtrl_keeps; exact h; apply State.timersEn_keeps; exact h
  apply Keeps.ite; apply State.seqResume_keeps; exact h; exact h; apply State.calCtrl_keeps; exact h
  apply State.linkEn_keeps; exact h; apply Keeps.ite; apply State.serveWaiting_keeps; exact h; exact h
  apply Keeps.ite; apply State.each_keeps; exact h; intros; apply State.servePort_keeps; assumption; exact h
  apply State.bootPoll_keeps; exact h; exact h; exact h; exact h; exact h; exact h; exact h; exact h; exact h
  exact h; exact h; exact h; exact h; exact h; exact h; exact h; exact h; exact h; exact h; exact h; exact h

theorem State.twEn_keeps {z s : State} {a1} (h : Keeps z s) : Keeps z (State.twEn s a1) := by
  unfold State.twEn; try dsimp only
  apply Keeps.ite; apply State.linkEn_keeps; apply State.startListening_keeps; apply State.set_keeps; exact h
  apply Keeps.ite; apply State.linkEn_keeps; apply State.setRole_keeps; apply State.set_keeps
  apply State.takeLinkDown_keeps; exact h; apply Keeps.ite; apply State.linkEn_keeps; apply State.set_keeps
  exact h; apply State.setStatus_keeps; exact h

theorem State.enWrite_keeps {z s : State} {a1 a2 a3 a4} (h : Keeps z s) : Keeps z (State.enWrite s a1 a2 a3 a4)
    := by
  unfold State.enWrite; try dsimp only
  split; exact h; apply Keeps.ite; apply State.set_keeps; exact h; exact h; apply Keeps.ite; exact h
  apply State.twEn_keeps; exact h; apply Keeps.ite; apply Keeps.ite; exact h; apply State.setStatus_keeps; exact h
  apply State.set_keeps; exact h; apply State.set_keeps; exact h

theorem State.ctrlWrite_keeps {z s : State} {a1 a2 a3 a4} (h : Keeps z s) : Keeps z (State.ctrlWrite s a1 a2 a3
    a4) := by
  unfold State.ctrlWrite; try dsimp only
  apply Keeps.ite; apply Keeps.ite; exact h; apply State.lockedWrite_keeps; exact h; apply Keeps.ite
  apply State.blkResetWrite_keeps; apply State.askChanged_keeps; apply Keeps.ite; apply State.ctrlHooks_keeps
  apply State.enWrite_keeps; apply State.set_keeps; apply Keeps.ite; exact h; apply State.set_keeps; exact h
  apply State.enWrite_keeps; apply State.set_keeps; apply Keeps.ite; exact h; apply State.set_keeps; exact h
  apply State.askChanged_keeps; apply Keeps.ite; apply State.ctrlHooks_keeps; apply State.enWrite_keeps
  apply State.set_keeps; apply Keeps.ite; exact h; apply State.set_keeps; exact h; apply State.enWrite_keeps
  apply State.set_keeps; apply Keeps.ite; exact h; apply State.set_keeps; exact h

theorem State.countsClear_keeps {z s : State} {a1} (h : Keeps z s) : Keeps z (State.countsClear s a1) := by
  unfold State.countsClear; try dsimp only
  apply State.set_keeps; apply State.set_keeps; exact h

theorem State.irqAfterWrite_keeps {z s : State} {a1} (h : Keeps z s) : Keeps z (State.irqAfterWrite s a1) := by
  unfold State.irqAfterWrite; try dsimp only
  apply Keeps.ite; apply State.sendPage_keeps; exact h; exact h

theorem State.faultWrite_keeps {z s : State} {a1 a2} (h : Keeps z s) : Keeps z (State.faultWrite s a1 a2) := by
  unfold State.faultWrite; try dsimp only
  apply State.irqAfterWrite_keeps; apply Keeps.ite; apply State.countsClear_keeps; with_reducible apply Keeps.mkIn
  apply State.setReg_keeps; exact h; with_reducible apply Keeps.mkIn; apply State.setReg_keeps; exact h

theorem State.feWrite_keeps {z s : State} {a1 a2} (h : Keeps z s) : Keeps z (State.feWrite s a1 a2) := by
  unfold State.feWrite; try dsimp only
  apply Keeps.ite; apply State.set_keeps; exact h; exact h

theorem State.injectWrite_keeps {z s : State} {a1 a2 a3} (h : Keeps z s) : Keeps z (State.injectWrite s a1 a2 a3)
    := by
  unfold State.injectWrite; try dsimp only
  apply State.underLock_keeps; exact h; intros; with_reducible apply Keeps.mkIn; apply State.set_keeps
  apply State.set_keeps; apply State.set_keeps; assumption

theorem State.irqEnWrite_keeps {z s : State} {a1 a2} (h : Keeps z s) : Keeps z (State.irqEnWrite s a1 a2) := by
  unfold State.irqEnWrite; try dsimp only
  apply State.underLock_keeps; exact h; intros; apply State.irqRise_keeps; apply State.setReg_keeps; assumption

theorem State.setKey_keeps {z s : State} {a1 a2 a3} (h : Keeps z s) : Keeps z (State.setKey s a1 a2 a3) := by
  unfold State.setKey; try dsimp only
  with_reducible apply Keeps.mkIn; exact h

theorem State.keyWrite_keeps {z s : State} {a1 a2 a3 a4 a5} (h : Keeps z s) : Keeps z (State.keyWrite s a1 a2 a3
    a4 a5).2 := by
  unfold State.keyWrite; try dsimp only
  split; dsimp only; apply State.setKey_keeps; exact h; apply Keeps.ite_snd; dsimp only; apply State.setKey_keeps
  exact h; dsimp only; apply State.setKey_keeps; exact h; dsimp only; apply State.setKey_keeps; exact h

theorem State.lockWrite_keeps {z s : State} {a1 a2 a3} (h : Keeps z s) : Keeps z (State.lockWrite s a1 a2 a3) := by
  unfold State.lockWrite; try dsimp only
  apply Keeps.ite; apply State.setReg_keeps; apply State.keyWrite_keeps; exact h; apply State.keyWrite_keeps
  exact h

theorem State.modeWrite_keeps {z s : State} {a1 a2 a3} (h : Keeps z s) : Keeps z (State.modeWrite s a1 a2 a3) := by
  unfold State.modeWrite; try dsimp only
  apply Keeps.ite; apply Keeps.ite; apply Keeps.ite; exact h; apply State.setStatus_keeps; exact h
  apply State.lockedWrite_keeps; apply Keeps.ite; exact h; apply State.setStatus_keeps; exact h; apply Keeps.ite
  apply State.setReg_keeps; exact h; apply Keeps.ite; exact h; apply State.setStatus_keeps; exact h

theorem State.reactWrite_keeps {z s : State} {a1 a2 a3} (h : Keeps z s) : Keeps z (State.reactWrite s a1 a2 a3)
    := by
  unfold State.reactWrite; try dsimp only
  apply State.underLock_keeps; exact h; intros; with_reducible apply Keeps.mkIn; apply State.setReg_keeps
  assumption

theorem State.statusWrite_keeps {z s : State} {a1 a2} (h : Keeps z s) : Keeps z (State.statusWrite s a1 a2) := by
  unfold State.statusWrite; try dsimp only
  apply State.irqAfterWrite_keeps; apply State.setReg_keeps; exact h

theorem State.hdrWrite_keeps {z s : State} {a1 a2 a3 a4 a5 a6} (h : Keeps z s) : Keeps z (State.hdrWrite s a1 a2
    a3 a4 a5 a6) := by
  unfold State.hdrWrite; try dsimp only
  apply Keeps.ite; apply State.ctrlWrite_keeps; exact h; apply Keeps.ite; apply State.modeWrite_keeps; exact h
  apply Keeps.ite; apply State.statusWrite_keeps; exact h; apply Keeps.ite; apply State.irqEnWrite_keeps; exact h
  apply Keeps.ite; apply State.faultWrite_keeps; exact h; apply Keeps.ite; apply State.reactWrite_keeps; exact h
  apply Keeps.ite; apply State.feWrite_keeps; exact h; apply Keeps.ite; apply State.lockWrite_keeps; exact h
  apply Keeps.ite; apply State.injectWrite_keeps; exact h; exact h

theorem State.takeLow_keeps {z s : State} {a1 a2} (h : Keeps z s) : Keeps z (State.takeLow s a1 a2).2 := by
  unfold State.takeLow; try dsimp only
  split; dsimp only; with_reducible apply Keeps.mkIn; exact h; dsimp only; exact h

theorem State.writePair_keeps {z s : State} {a1 a2 a3} (h : Keeps z s) : Keeps z (State.writePair s a1 a2 a3) := by
  unfold State.writePair; try dsimp only
  apply State.plainWrite_keeps; apply State.plainWrite_keeps; apply State.takeLow_keeps; exact h

theorem State.hqBase_keeps {z s : State} {a1 a2 a3 a4} (h : Keeps z s) : Keeps z (State.hqBase s a1 a2 a3 a4) := by
  unfold State.hqBase; try dsimp only
  apply Keeps.ite; apply State.setStatus_keeps; apply State.takeLow_keeps; exact h; apply Keeps.ite
  apply State.writePair_keeps; exact h; apply Keeps.ite; apply State.clearCq_keeps; apply State.writePair_keeps
  exact h; apply State.clearSq_keeps; apply State.writePair_keeps; exact h

theorem State.ringField_keeps {z s : State} {a1 a2} (h : Keeps z s) (h2 : ∀ u, Keeps z u → Keeps z (a2 u)) :
    Keeps z (State.ringField s a1 a2) := by
  unfold State.ringField; try dsimp only
  apply Keeps.ite; apply State.setStatus_keeps; exact h; apply h2; exact h

theorem State.startTimeWrite_keeps {z s : State} {a1 a2 a3} (h : Keeps z s) : Keeps z (State.startTimeWrite s a1
    a2 a3) := by
  unfold State.startTimeWrite; try dsimp only
  apply State.lateStart_keeps; apply State.writePair_keeps; exact h

theorem State.loadAt_keeps {z s : State} {a1} (h : Keeps z s) : Keeps z (State.loadAt s a1) := by
  unfold State.loadAt; try dsimp only
  apply State.setStatus_keeps; apply State.set_keeps; apply State.set_keeps; with_reducible apply Keeps.mk_
  exact h

theorem State.loadTime_keeps {z s : State} {a1} (h : Keeps z s) : Keeps z (State.loadTime s a1) := by
  unfold State.loadTime; try dsimp only
  apply State.loadAt_keeps; apply State.nextTick_keeps; exact h

theorem State.timeWrite_keeps {z s : State} {a1} (h : Keeps z s) (h1 : ∀ u, Keeps z u → Keeps z (a1 u)) : Keeps z
    (State.timeWrite s a1) := by
  unfold State.timeWrite; try dsimp only
  apply Keeps.ite; apply State.incSat_keeps; exact h; apply Keeps.ite; apply State.incSat_keeps; exact h; apply h1
  exact h

theorem State.timeSet_keeps {z s : State} {a1 a2} (h : Keeps z s) : Keeps z (State.timeSet s a1 a2) := by
  unfold State.timeSet; try dsimp only
  apply State.timeWrite_keeps; apply State.takeLow_keeps; exact h; intros; apply Keeps.ite
  apply State.loadTime_keeps; apply State.setReg_keeps; apply State.setReg_keeps; assumption
  apply State.setReg_keeps; apply State.setReg_keeps; assumption

theorem State.highWrite_keeps {z s : State} {a1 a2 a3 a4 a5 a6} (h : Keeps z s) : Keeps z (State.highWrite s a1
    a2 a3 a4 a5 a6) := by
  unfold State.highWrite; try dsimp only
  split; apply State.timeSet_keeps; exact h; split; apply State.startTimeWrite_keeps; exact h; exact h; split
  apply State.hqBase_keeps; exact h; apply State.hqBase_keeps; exact h; exact h; with_reducible apply Keeps.mkIn
  apply State.ringField_keeps; exact h; intros; apply State.writePair_keeps; assumption
  apply State.writePair_keeps; exact h

theorem State.holdLow_keeps {z s : State} {a1 a2 a3} (h : Keeps z s) : Keeps z (State.holdLow s a1 a2 a3) := by
  unfold State.holdLow; try dsimp only
  split; exact h; apply Keeps.ite; apply Keeps.ite; apply State.lockedWrite_keeps; exact h; exact h
  with_reducible apply Keeps.mkIn; exact h

theorem State.asWrite_keeps {z s : State} {a1 a2 a3} (h : Keeps z s) : Keeps z (State.asWrite s a1 a2 a3) := by
  unfold State.asWrite; try dsimp only
  split; apply State.gainOvr_keeps; exact h; apply Keeps.ite; apply State.pinRestore_keeps; exact h
  apply State.plainWrite_keeps; exact h

theorem State.bfeWrite_keeps {z s : State} {a1 a2} (h : Keeps z s) : Keeps z (State.bfeWrite s a1 a2) := by
  unfold State.bfeWrite; try dsimp only
  apply Keeps.ite; apply Keeps.ite; apply State.set_keeps; apply State.plainWrite_keeps; exact h
  apply State.plainWrite_keeps; exact h; apply Keeps.ite; apply Keeps.ite; apply State.set_keeps; apply Keeps.ite
  apply State.bfeDoCommit_keeps; apply State.plainWrite_keeps; exact h; apply State.plainWrite_keeps; exact h
  apply Keeps.ite; apply State.bfeDoCommit_keeps; apply State.plainWrite_keeps; exact h
  apply State.plainWrite_keeps; exact h; apply State.plainWrite_keeps; exact h

theorem State.capPageWrite_keeps {z s : State} {a1 a2} (h : Keeps z s) : Keeps z (State.capPageWrite s a1 a2) := by
  unfold State.capPageWrite; try dsimp only
  split; apply State.capCfg_keeps; exact h; apply Keeps.ite; apply State.capStart_keeps
  apply State.plainWrite_keeps; exact h; apply State.plainWrite_keeps; exact h

theorem State.cchWrite_keeps {z s : State} {a1 a2} (h : Keeps z s) : Keeps z (State.cchWrite s a1 a2) := by
  unfold State.cchWrite; try dsimp only
  apply Keeps.ite; apply State.couchCtrl_keeps; exact h; apply State.plainWrite_keeps; exact h

theorem State.cfgLoad_keeps {z s : State} {a1} (h : Keeps z s) : Keeps z (State.cfgLoad s a1) := by
  unfold State.cfgLoad; try dsimp only
  apply Keeps.ite; apply State.startLoad_keeps; apply Keeps.ite; apply State.bootAfter_keeps
  apply State.stopLoad_keeps; apply State.set_keeps; apply State.set_keeps; exact h; apply State.set_keeps
  apply State.set_keeps; exact h; apply Keeps.ite; apply State.bootAfter_keeps; apply State.stopLoad_keeps
  apply State.set_keeps; apply State.set_keeps; exact h; apply State.set_keeps; apply State.set_keeps; exact h

theorem State.startResync_keeps {z s : State} (h : Keeps z s) : Keeps z (State.startResync s) := by
  unfold State.startResync; try dsimp only
  apply Keeps.ite; apply State.setStatus_keeps; exact h; apply State.set_keeps; apply State.clearErr_keeps
  with_reducible apply Keeps.mk_; exact h

theorem State.startUpdate_keeps {z s : State} {a1} (h : Keeps z s) : Keeps z (State.startUpdate s a1) := by
  unfold State.startUpdate; try dsimp only
  apply Keeps.ite; apply State.setStatus_keeps; exact h; apply State.set_keeps; apply State.clearErr_keeps
  with_reducible apply Keeps.mk_; exact h

theorem State.xframeDone_keeps {z s : State} (h : Keeps z s) : Keeps z (State.xframeDone s) := by
  unfold State.xframeDone; try dsimp only
  split; split; exact h; apply Keeps.ite; split; apply State.set_keeps; with_reducible apply Keeps.mk_
  refine Keeps.snd2 (?_ : Keeps _ (Prod.snd (Prod.snd _))) (by assumption); apply State.putFrames_keeps
  apply State.set_keeps; exact h; apply State.endLoad_keeps
  refine Keeps.snd2 (?_ : Keeps _ (Prod.snd (Prod.snd _))) (by assumption); apply State.putFrames_keeps
  apply State.set_keeps; exact h; apply State.endLoad_keeps; apply State.set_keeps; exact h; exact h

theorem State.cfgWrite_keeps {z s : State} {a1 a2} (h : Keeps z s) : Keeps z (State.cfgWrite s a1 a2) := by
  unfold State.cfgWrite; try dsimp only
  apply Keeps.ite; apply State.cfgLoad_keeps; exact h; apply Keeps.ite; split; apply State.startResync_keeps
  exact h; apply State.startUpdate_keeps; exact h; apply State.startUpdate_keeps; exact h; exact h
  apply Keeps.ite; apply Keeps.ite; apply State.bootAfter_keeps; apply State.xframeDone_keeps; exact h; exact h
  apply State.plainWrite_keeps; exact h

theorem State.cntClr_keeps {z s : State} {a1} (h : Keeps z s) : Keeps z (State.cntClr s a1) := by
  unfold State.cntClr; try dsimp only
  apply State.set_keeps; apply State.set_keeps; apply State.set_keeps; exact h

theorem State.cpWrite_keeps {z s : State} {a1 a2 a3} (h : Keeps z s) : Keeps z (State.cpWrite s a1 a2 a3) := by
  unfold State.cpWrite; try dsimp only
  apply Keeps.ite; apply State.setStatus_keeps; exact h; apply State.cpSync_keeps; apply Keeps.ite
  apply State.cpUnsettle_keeps; apply State.plainWrite_keeps; exact h; apply State.plainWrite_keeps; exact h

theorem State.cpPageWrite_keeps {z s : State} {a1 a2 a3} (h : Keeps z s) : Keeps z (State.cpPageWrite s a1 a2 a3)
    := by
  unfold State.cpPageWrite; try dsimp only
  split; apply State.cpWrite_keeps; exact h; apply State.cpWrite_keeps; exact h; apply Keeps.ite; exact h
  apply State.plainWrite_keeps; exact h

theorem State.spanChange_keeps {z s : State} {a1} (h : Keeps z s) : Keeps z (State.spanChange s a1) := by
  unfold State.spanChange; try dsimp only
  apply Keeps.ite; apply State.setOut_keeps; apply State.outToSafe_keeps; apply State.setDa_keeps
  apply State.setDa_keeps; exact h; apply State.mirrorOut_keeps; apply State.modOut_keeps; exact h

theorem State.daConfig_keeps {z s : State} {a1 a2} (h : Keeps z s) : Keeps z (State.daConfig s a1 a2) := by
  unfold State.daConfig; try dsimp only
  apply Keeps.ite; apply State.setStatus_keeps; apply Keeps.ite; apply State.lockedWrite_keeps; exact h; exact h
  apply State.daWarm_keeps; apply Keeps.ite; apply State.daDisable_keeps; apply Keeps.ite
  apply State.spanChange_keeps; apply State.plainWrite_keeps; exact h; apply State.plainWrite_keeps; exact h
  apply Keeps.ite; apply State.spanChange_keeps; apply State.plainWrite_keeps; exact h
  apply State.plainWrite_keeps; exact h

theorem State.publish_keeps {z s : State} {a1} (h : Keeps z s) : Keeps z (State.publish s a1) := by
  unfold State.publish; try dsimp only
  apply State.mirrorOut_keeps; apply State.modOut_keeps; apply State.setDa_keeps; apply State.setDa_keeps
  apply State.setDa_keeps; exact h

theorem State.strobeNow_keeps {z s : State} {a1 a2} (h : Keeps z s) : Keeps z (State.strobeNow s a1 a2) := by
  unfold State.strobeNow; try dsimp only
  apply State.each_keeps; apply State.setStatus_keeps; apply State.set64_keeps; apply State.incWrap_keeps
  with_reducible apply Keeps.mk_; exact h; intros; apply State.publish_keeps; assumption

theorem State.strobe_keeps {z s : State} {a1 a2} (h : Keeps z s) : Keeps z (State.strobe s a1 a2) := by
  unfold State.strobe; try dsimp only
  apply Keeps.ite; exact h; split; apply Keeps.ite; apply State.incSat_keeps; exact h; apply State.strobeNow_keeps
  exact h; apply State.strobeNow_keeps; exact h

theorem State.serveStrobes_keeps {z s : State} {a1} (h : Keeps z s) : Keeps z (State.serveStrobes s a1) := by
  unfold State.serveStrobes; try dsimp only
  refine Keeps.foldl ?_ ?_; with_reducible apply Keeps.mk_; exact h; intros; split; apply State.strobe_keeps
  assumption; assumption

theorem State.daCfg_keeps {z s : State} {a1 a2} (h : Keeps z s) : Keeps z (State.daCfg s a1 a2) := by
  unfold State.daCfg; try dsimp only
  apply Keeps.ite; apply State.daConfig_keeps; apply State.setStatus_keeps; apply State.serveStrobes_keeps
  exact h; apply State.daConfig_keeps; apply State.serveStrobes_keeps; exact h

theorem State.meetStrobe_keeps {z s : State} {a1} (h : Keeps z s) : Keeps z (State.meetStrobe s a1) := by
  unfold State.meetStrobe; try dsimp only
  split; apply Keeps.ite; apply State.publish_keeps; exact h; exact h; exact h

theorem State.daCodeWrite_keeps {z s : State} {a1 a2} (h : Keeps z s) : Keeps z (State.daCodeWrite s a1 a2) := by
  unfold State.daCodeWrite; try dsimp only
  apply Keeps.ite; apply State.setStatus_keeps; exact h; split; apply State.mirrorOut_keeps; split
  apply State.meetStrobe_keeps; apply State.plainWrite_keeps; apply State.toTick_keeps
  apply State.serveStrobes_keeps; exact h; apply State.plainWrite_keeps; apply State.toTick_keeps
  apply State.serveStrobes_keeps; exact h; split; apply State.meetStrobe_keeps; apply State.plainWrite_keeps
  apply State.toTick_keeps; apply State.serveStrobes_keeps; exact h; apply State.plainWrite_keeps
  apply State.toTick_keeps; apply State.serveStrobes_keeps; exact h

theorem State.restoreOut_keeps {z s : State} {a1} (h : Keeps z s) : Keeps z (State.restoreOut s a1) := by
  unfold State.restoreOut; try dsimp only
  apply Keeps.ite; exact h; apply Keeps.ite; apply State.clearTrip_keeps; exact h; apply Keeps.ite
  apply State.modOut_keeps; apply State.setDa_keeps; apply State.outToSafe_keeps; apply State.clearTrip_keeps
  exact h; apply State.modOut_keeps; apply State.clearTrip_keeps; exact h

theorem State.daWrite_keeps {z s : State} {a1 a2 a3} (h : Keeps z s) : Keeps z (State.daWrite s a1 a2 a3) := by
  unfold State.daWrite; try dsimp only
  apply Keeps.ite; apply State.each_keeps; exact h; intros; apply State.restoreOut_keeps; assumption; split
  apply State.daCfg_keeps; exact h; apply State.daCodeWrite_keeps; exact h; apply State.daCodeWrite_keeps; exact h
  apply State.plainWrite_keeps; exact h

theorem State.errorRelease_keeps {z s : State} (h : Keeps z s) : Keeps z (State.errorRelease s) := by
  unfold State.errorRelease; try dsimp only
  apply Keeps.ite; with_reducible apply Keeps.mk_; exact h; exact h

theorem State.devWrite_keeps {z s : State} {a1 a2} (h : Keeps z s) : Keeps z (State.devWrite s a1 a2) := by
  unfold State.devWrite; try dsimp only
  apply Keeps.ite; apply Keeps.ite; apply State.set_keeps; exact h; exact h; apply Keeps.ite
  apply State.errorRelease_keeps; apply State.plainWrite_keeps; exact h; apply State.plainWrite_keeps; exact h

theorem State.chainWrite_keeps {z s : State} {a1 a2 a3} (h : Keeps z s) : Keeps z (State.chainWrite s a1 a2 a3)
    := by
  unfold State.chainWrite; try dsimp only
  apply Keeps.ite; apply State.setStatus_keeps; exact h; apply Keeps.ite; apply State.changeChain_keeps
  apply State.chainSync_keeps; apply State.plainWrite_keeps; exact h; apply State.chainSync_keeps
  apply State.plainWrite_keeps; exact h

theorem State.fcWrite_keeps {z s : State} {a1 a2 a3} (h : Keeps z s) : Keeps z (State.fcWrite s a1 a2 a3) := by
  unfold State.fcWrite; try dsimp only
  apply Keeps.ite; apply State.chainWrite_keeps; exact h; apply State.plainWrite_keeps; exact h

theorem State.gbRewritten_keeps {z s : State} {a1} (h : Keeps z s) : Keeps z (State.gbRewritten s a1) := by
  unfold State.gbRewritten; try dsimp only
  with_reducible apply Keeps.mk_; exact h

theorem State.gbCfg_keeps {z s : State} {a1 a2} (h : Keeps z s) : Keeps z (State.gbCfg s a1 a2) := by
  unfold State.gbCfg; try dsimp only
  apply Keeps.ite; apply State.setStatus_keeps; exact h; apply Keeps.ite; apply State.lockedWrite_keeps
  apply State.gbRewritten_keeps; apply State.set_keeps; exact h; apply State.gbRewritten_keeps
  apply State.set_keeps; exact h

theorem State.gbDir_keeps {z s : State} {a1 a2} (h : Keeps z s) : Keeps z (State.gbDir s a1 a2) := by
  unfold State.gbDir; try dsimp only
  apply Keeps.ite; apply State.lockedWrite_keeps; apply State.gbRewritten_keeps; apply State.set_keeps; exact h
  apply State.gbRewritten_keeps; apply State.set_keeps; exact h

theorem State.mirrorPads_keeps {z s : State} {a1} (h : Keeps z s) : Keeps z (State.mirrorPads s a1) := by
  unfold State.mirrorPads; try dsimp only
  apply State.mirror_keeps; exact h

theorem State.gbOut_keeps {z s : State} {a1 a2} (h : Keeps z s) : Keeps z (State.gbOut s a1 a2) := by
  unfold State.gbOut; try dsimp only
  apply Keeps.ite; apply State.setStatus_keeps; exact h; apply State.mirrorPads_keeps
  apply State.gbRewritten_keeps; apply State.set_keeps; exact h

theorem State.padlock_keeps {z s : State} {a1 a2 a3} (h : Keeps z s) : Keeps z (State.padlock s a1 a2 a3) := by
  unfold State.padlock; try dsimp only
  apply Keeps.ite; apply State.keyWrite_keeps; exact h; apply State.set_keeps; apply State.each_keeps
  apply State.keyWrite_keeps; exact h; intros; with_reducible apply Keeps.mk_; assumption

theorem State.gbWrite_keeps {z s : State} {a1 a2 a3 a4} (h : Keeps z s) : Keeps z (State.gbWrite s a1 a2 a3 a4)
    := by
  unfold State.gbWrite; try dsimp only
  apply Keeps.ite; apply State.gbOut_keeps; exact h; apply Keeps.ite; apply State.gbDir_keeps; exact h
  apply Keeps.ite; apply State.padlock_keeps; exact h; split; apply State.gbCfg_keeps; exact h
  apply State.gbRewritten_keeps; apply State.plainWrite_keeps; exact h

theorem State.cqHead_keeps {z s : State} {a1 a2} (h : Keeps z s) : Keeps z (State.cqHead s a1 a2) := by
  unfold State.cqHead; try dsimp only
  apply Keeps.ite; apply State.sendVector_keeps; apply Keeps.ite; apply State.setStatus_keeps; exact h
  apply State.set_keeps; exact h; apply Keeps.ite; apply State.setStatus_keeps; exact h; apply State.set_keeps
  exact h

theorem State.hqCfg_keeps {z s : State} {a1 a2 a3} (h : Keeps z s) : Keeps z (State.hqCfg s a1 a2 a3) := by
  unfold State.hqCfg; try dsimp only
  apply Keeps.ite; apply State.plainWrite_keeps; exact h; apply Keeps.ite; apply State.setStatus_keeps; exact h
  apply Keeps.ite; apply State.clearCq_keeps; apply State.plainWrite_keeps; exact h; apply State.clearSq_keeps
  apply State.plainWrite_keeps; exact h

theorem State.complete_keeps {z s : State} {a1 a2} (h : Keeps z s) : Keeps z (State.complete s a1 a2) := by
  unfold State.complete; try dsimp only
  apply State.trace_keeps; apply State.syncTask_keeps; apply State.putTask_keeps; with_reducible apply Keeps.mk_
  apply State.stamp_keeps; exact h

theorem State.hqDone_keeps {z s : State} {a1 a2 a3} (h : Keeps z s) : Keeps z (State.hqDone s a1 a2 a3) := by
  unfold State.hqDone; try dsimp only
  split; apply State.incSat_keeps; exact h; apply State.complete_keeps; exact h

theorem State.sqTail_keeps {z s : State} {a1 a2} (h : Keeps z s) : Keeps z (State.sqTail s a1 a2) := by
  unfold State.sqTail; try dsimp only
  apply Keeps.ite; apply State.setStatus_keeps; exact h; apply State.set_keeps; exact h

theorem State.hqWrite_keeps {z s : State} {a1 a2 a3} (h : Keeps z s) : Keeps z (State.hqWrite s a1 a2 a3) := by
  unfold State.hqWrite; try dsimp only
  apply Keeps.ite; exact h; split; apply State.hqCfg_keeps; exact h; apply State.sqTail_keeps; exact h
  apply State.hqCfg_keeps; exact h; apply State.cqHead_keeps; exact h; with_reducible apply Keeps.mk_; exact h
  apply State.hqDone_keeps; exact h; exact h

theorem State.keyProg_keeps {z s : State} {a1 a2 a3} (h : Keeps z s) : Keeps z (State.keyProg s a1 a2 a3) := by
  unfold State.keyProg; try dsimp only
  apply Keeps.ite; exact h; with_reducible apply Keeps.mk_; exact h

theorem State.lsCfg_keeps {z s : State} {a1 a2} (h : Keeps z s) : Keeps z (State.lsCfg s a1 a2) := by
  unfold State.lsCfg; try dsimp only
  apply Keeps.ite; apply State.when_keeps; apply State.setStatus_keeps; exact h; intros
  apply State.lockedWrite_keeps; assumption; apply State.plainWrite_keeps; apply State.serveStrobes_keeps; exact h

theorem State.lsFire_keeps {z s : State} {a1} (h : Keeps z s) : Keeps z (State.lsFire s a1) := by
  unfold State.lsFire; try dsimp only
  apply Keeps.ite; apply State.each_keeps; apply State.toTick_keeps; exact h; intros; apply State.strobe_keeps
  assumption; exact h

theorem State.lsWrite_keeps {z s : State} {a1 a2} (h : Keeps z s) : Keeps z (State.lsWrite s a1 a2) := by
  unfold State.lsWrite; try dsimp only
  apply Keeps.ite; apply State.lsFire_keeps; exact h; apply Keeps.ite; apply State.lsCfg_keeps; exact h
  apply State.plainWrite_keeps; exact h

theorem State.syncVcore_keeps {z s : State} (h : Keeps z s) : Keeps z (State.syncVcore s) := by
  unfold State.syncVcore; try dsimp only
  apply State.set_keeps; apply State.set_keeps; exact h

theorem State.vcoreTarget_keeps {z s : State} {a1} (h : Keeps z s) : Keeps z (State.vcoreTarget s a1) := by
  unfold State.vcoreTarget; try dsimp only
  apply Keeps.ite; apply Keeps.ite; apply State.setStatus_keeps; apply State.set_keeps; exact h
  apply State.set_keeps; exact h; apply Keeps.ite; apply State.setStatus_keeps; apply State.syncVcore_keeps
  apply State.set_keeps; with_reducible apply Keeps.mk_; apply Keeps.ite; apply State.setStatus_keeps
  apply State.set_keeps; exact h; apply State.set_keeps; exact h; apply State.syncVcore_keeps
  apply State.set_keeps; with_reducible apply Keeps.mk_; apply Keeps.ite; apply State.setStatus_keeps
  apply State.set_keeps; exact h; apply State.set_keeps; exact h

theorem State.pmbWrite_keeps {z s : State} {a1 a2} (h : Keeps z s) : Keeps z (State.pmbWrite s a1 a2) := by
  unfold State.pmbWrite; try dsimp only
  apply Keeps.ite; apply State.vcoreTarget_keeps; exact h; apply Keeps.ite; apply State.syncVcore_keeps
  apply State.plainWrite_keeps; exact h; apply State.plainWrite_keeps; exact h

theorem State.cpRetime_keeps {z s : State} {a1} (h : Keeps z s) : Keeps z (State.cpRetime s a1) := by
  unfold State.cpRetime; try dsimp only
  apply Keeps.ite; with_reducible apply Keeps.mk_; exact h; exact h

theorem State.pressSave_keeps {z s : State} (h : Keeps z s) : Keeps z (State.pressSave s) := by
  unfold State.pressSave; try dsimp only
  apply Keeps.ite; with_reducible apply Keeps.mk_; exact h; exact h

theorem State.pressStops_keeps {z s : State} (h : Keeps z s) : Keeps z (State.pressStops s) := by
  unfold State.pressStops; try dsimp only
  apply State.stopLoad_keeps; split; apply Keeps.ite; apply State.couchRefuse_keeps; apply State.couchBack_keeps
  split; apply Keeps.ite; apply State.setStatus_keeps; with_reducible apply Keeps.mk_; apply Keeps.ite
  apply State.vtResult_keeps; with_reducible apply Keeps.mk_; apply State.setTxn_keeps
  with_reducible apply Keeps.mk_; exact h; apply State.setTxn_keeps; with_reducible apply Keeps.mk_; exact h
  apply Keeps.ite; apply State.vtResult_keeps; with_reducible apply Keeps.mk_; apply State.setTxn_keeps
  with_reducible apply Keeps.mk_; exact h; apply State.setTxn_keeps; with_reducible apply Keeps.mk_; exact h
  split; apply State.setStatus_keeps; apply State.set_keeps; apply State.set_keeps; apply State.set_keeps
  with_reducible apply Keeps.mk_; apply Keeps.ite; apply State.setStatus_keeps; with_reducible apply Keeps.mk_
  apply Keeps.ite; apply State.vtResult_keeps; with_reducible apply Keeps.mk_; apply State.setTxn_keeps
  with_reducible apply Keeps.mk_; exact h; apply State.setTxn_keeps; with_reducible apply Keeps.mk_; exact h
  apply Keeps.ite; apply State.vtResult_keeps; with_reducible apply Keeps.mk_; apply State.setTxn_keeps
  with_reducible apply Keeps.mk_; exact h; apply State.setTxn_keeps; with_reducible apply Keeps.mk_; exact h
  apply State.setStatus_keeps; apply State.set_keeps; apply State.set_keeps; with_reducible apply Keeps.mk_
  apply Keeps.ite; apply State.setStatus_keeps; with_reducible apply Keeps.mk_; apply Keeps.ite
  apply State.vtResult_keeps; with_reducible apply Keeps.mk_; apply State.setTxn_keeps
  with_reducible apply Keeps.mk_; exact h; apply State.setTxn_keeps; with_reducible apply Keeps.mk_; exact h
  apply Keeps.ite; apply State.vtResult_keeps; with_reducible apply Keeps.mk_; apply State.setTxn_keeps
  with_reducible apply Keeps.mk_; exact h; apply State.setTxn_keeps; with_reducible apply Keeps.mk_; exact h
  split; apply Keeps.ite; apply State.setStatus_keeps; with_reducible apply Keeps.mk_; apply Keeps.ite
  apply State.vtResult_keeps; with_reducible apply Keeps.mk_; apply State.setTxn_keeps
  with_reducible apply Keeps.mk_; exact h; apply State.setTxn_keeps; with_reducible apply Keeps.mk_; exact h
  apply Keeps.ite; apply State.vtResult_keeps; with_reducible apply Keeps.mk_; apply State.setTxn_keeps
  with_reducible apply Keeps.mk_; exact h; apply State.setTxn_keeps; with_reducible apply Keeps.mk_; exact h
  split; apply State.setStatus_keeps; apply State.set_keeps; apply State.set_keeps; apply State.set_keeps
  with_reducible apply Keeps.mk_; apply Keeps.ite; apply State.setStatus_keeps; with_reducible apply Keeps.mk_
  apply Keeps.ite; apply State.vtResult_keeps; with_reducible apply Keeps.mk_; apply State.setTxn_keeps
  with_reducible apply Keeps.mk_; exact h; apply State.setTxn_keeps; with_reducible apply Keeps.mk_; exact h
  apply Keeps.ite; apply State.vtResult_keeps; with_reducible apply Keeps.mk_; apply State.setTxn_keeps
  with_reducible apply Keeps.mk_; exact h; apply State.setTxn_keeps; with_reducible apply Keeps.mk_; exact h
  apply State.setStatus_keeps; apply State.set_keeps; apply State.set_keeps; with_reducible apply Keeps.mk_
  apply Keeps.ite; apply State.setStatus_keeps; with_reducible apply Keeps.mk_; apply Keeps.ite
  apply State.vtResult_keeps; with_reducible apply Keeps.mk_; apply State.setTxn_keeps
  with_reducible apply Keeps.mk_; exact h; apply State.setTxn_keeps; with_reducible apply Keeps.mk_; exact h
  apply Keeps.ite; apply State.vtResult_keeps; with_reducible apply Keeps.mk_; apply State.setTxn_keeps
  with_reducible apply Keeps.mk_; exact h; apply State.setTxn_keeps; with_reducible apply Keeps.mk_; exact h
  split; apply Keeps.ite; apply State.setStatus_keeps; with_reducible apply Keeps.mk_; apply Keeps.ite
  apply State.vtResult_keeps; with_reducible apply Keeps.mk_; apply State.setTxn_keeps
  with_reducible apply Keeps.mk_; exact h; apply State.setTxn_keeps; with_reducible apply Keeps.mk_; exact h
  apply Keeps.ite; apply State.vtResult_keeps; with_reducible apply Keeps.mk_; apply State.setTxn_keeps
  with_reducible apply Keeps.mk_; exact h; apply State.setTxn_keeps; with_reducible apply Keeps.mk_; exact h
  split; apply State.setStatus_keeps; apply State.set_keeps; apply State.set_keeps; apply State.set_keeps
  with_reducible apply Keeps.mk_; apply Keeps.ite; apply State.setStatus_keeps; with_reducible apply Keeps.mk_
  apply Keeps.ite; apply State.vtResult_keeps; with_reducible apply Keeps.mk_; apply State.setTxn_keeps
  with_reducible apply Keeps.mk_; exact h; apply State.setTxn_keeps; with_reducible apply Keeps.mk_; exact h
  apply Keeps.ite; apply State.vtResult_keeps; with_reducible apply Keeps.mk_; apply State.setTxn_keeps
  with_reducible apply Keeps.mk_; exact h; apply State.setTxn_keeps; with_reducible apply Keeps.mk_; exact h
  apply State.setStatus_keeps; apply State.set_keeps; apply State.set_keeps; with_reducible apply Keeps.mk_
  apply Keeps.ite; apply State.setStatus_keeps; with_reducible apply Keeps.mk_; apply Keeps.ite
  apply State.vtResult_keeps; with_reducible apply Keeps.mk_; apply State.setTxn_keeps
  with_reducible apply Keeps.mk_; exact h; apply State.setTxn_keeps; with_reducible apply Keeps.mk_; exact h
  apply Keeps.ite; apply State.vtResult_keeps; with_reducible apply Keeps.mk_; apply State.setTxn_keeps
  with_reducible apply Keeps.mk_; exact h; apply State.setTxn_keeps; with_reducible apply Keeps.mk_; exact h

theorem State.pressStart_keeps {z s : State} {a1 a2} (h : Keeps z s) : Keeps z (State.pressStart s a1 a2) := by
  unfold State.pressStart; try dsimp only
  apply Keeps.ite; exact h; apply Keeps.ite; apply State.surrender_keeps; apply State.pressBanksDown_keeps
  apply State.pressDown_keeps; apply State.setStatus_keeps; apply State.set64_keeps; apply State.incWrap_keeps
  apply State.set_keeps; apply State.set_keeps; apply State.set_keeps; apply State.set_keeps
  apply State.set_keeps; with_reducible apply Keeps.mk_; refine Keeps.foldl ?_ ?_; apply State.pressStops_keeps
  exact h; intros; apply State.closeBlock_keeps; assumption; apply State.pressBanksDown_keeps
  apply State.pressDown_keeps; apply State.setStatus_keeps; apply State.set64_keeps; apply State.incWrap_keeps
  apply State.set_keeps; apply State.set_keeps; apply State.set_keeps; apply State.set_keeps
  apply State.set_keeps; with_reducible apply Keeps.mk_; refine Keeps.foldl ?_ ?_; apply State.pressStops_keeps
  exact h; intros; apply State.closeBlock_keeps; assumption

theorem State.pressTrig_keeps {z s : State} (h : Keeps z s) : Keeps z (State.pressTrig s) := by
  unfold State.pressTrig; try dsimp only
  apply State.pressStart_keeps; exact h

theorem State.syncHoldOff_keeps {z s : State} (h : Keeps z s) : Keeps z (State.syncHoldOff s) := by
  unfold State.syncHoldOff; try dsimp only
  apply Keeps.ite; exact h; apply State.setStatus_keeps; apply State.set_keeps; exact h

theorem State.pressWrite_keeps {z s : State} {a1 a2} (h : Keeps z s) : Keeps z (State.pressWrite s a1 a2) := by
  unfold State.pressWrite; try dsimp only
  apply Keeps.ite; apply State.pressTrig_keeps; apply Keeps.ite; apply State.pressSave_keeps; apply Keeps.ite
  apply State.plainWrite_keeps; exact h; apply State.syncHoldOff_keeps; apply State.cpRetime_keeps
  apply State.cpRetime_keeps; apply State.cpSyncPage_keeps; apply State.set_keeps; with_reducible apply Keeps.mk_
  apply State.plainWrite_keeps; exact h; apply Keeps.ite; apply State.plainWrite_keeps; exact h
  apply State.syncHoldOff_keeps; apply State.cpRetime_keeps; apply State.cpRetime_keeps
  apply State.cpSyncPage_keeps; apply State.set_keeps; with_reducible apply Keeps.mk_
  apply State.plainWrite_keeps; exact h; apply Keeps.ite; apply State.pressSave_keeps; apply Keeps.ite
  apply State.plainWrite_keeps; exact h; apply State.syncHoldOff_keeps; apply State.cpRetime_keeps
  apply State.cpRetime_keeps; apply State.cpSyncPage_keeps; apply State.set_keeps; with_reducible apply Keeps.mk_
  apply State.plainWrite_keeps; exact h; apply Keeps.ite; apply State.plainWrite_keeps; exact h
  apply State.syncHoldOff_keeps; apply State.cpRetime_keeps; apply State.cpRetime_keeps
  apply State.cpSyncPage_keeps; apply State.set_keeps; with_reducible apply Keeps.mk_
  apply State.plainWrite_keeps; exact h

theorem State.prWrite_keeps {z s : State} {a1 a2} (h : Keeps z s) : Keeps z (State.prWrite s a1 a2) := by
  unfold State.prWrite; try dsimp only
  apply Keeps.ite; apply State.pressWrite_keeps; exact h; apply Keeps.ite; apply Keeps.ite
  with_reducible apply Keeps.mk_; apply State.plainWrite_keeps; exact h; exact h; apply State.plainWrite_keeps
  exact h

theorem State.holdAll_keeps {z s : State} {a1} (h : Keeps z s) : Keeps z (State.holdAll s a1) := by
  unfold State.holdAll; try dsimp only
  apply State.each_keeps; exact h; intros; apply State.holdPad_keeps; assumption

theorem State.toDoze_keeps {z s : State} (h : Keeps z s) : Keeps z (State.toDoze s) := by
  unfold State.toDoze; try dsimp only
  apply Keeps.ite; apply State.setStatus_keeps; exact h; apply Keeps.ite; apply State.setStatus_keeps; exact h
  apply Keeps.ite; exact h; apply State.setStatus_keeps; apply State.each_keeps; apply State.set_keeps
  with_reducible apply Keeps.mk_; apply State.holdAll_keeps; exact h; intros; apply Keeps.ite
  apply State.refuseOff_keeps; assumption; assumption

theorem State.toHold_keeps {z s : State} (h : Keeps z s) : Keeps z (State.toHold s) := by
  unfold State.toHold; try dsimp only
  apply Keeps.ite; exact h; apply Keeps.ite; apply State.pressStart_keeps; exact h; with_reducible apply Keeps.mk_
  exact h

theorem State.toRun_keeps {z s : State} (h : Keeps z s) : Keeps z (State.toRun s) := by
  unfold State.toRun; try dsimp only
  apply Keeps.ite; apply State.setStatus_keeps; apply State.admitRamps_keeps; apply Keeps.ite
  apply State.releaseAll_keeps; apply State.set_keeps; exact h; apply State.dozeSync_keeps; apply State.set_keeps
  exact h; apply Keeps.ite; apply State.setStatus_keeps; exact h; exact h

theorem State.wakeHold_keeps {z s : State} {a1} (h : Keeps z s) : Keeps z (State.wakeHold s a1) := by
  unfold State.wakeHold; try dsimp only
  apply Keeps.ite; exact h; apply Keeps.ite; apply State.startUp_keeps; apply State.chipReset_keeps; exact h
  apply State.setStatus_keeps; with_reducible apply Keeps.mk_; exact h

theorem State.pwrWrite_keeps {z s : State} {a1 a2 a3} (h : Keeps z s) : Keeps z (State.pwrWrite s a1 a2 a3) := by
  unfold State.pwrWrite; try dsimp only
  apply Keeps.ite; apply State.plainWrite_keeps; exact h; apply Keeps.ite; apply State.wakeHold_keeps
  apply Keeps.ite; apply State.plainWrite_keeps; exact h; split; apply State.toRun_keeps
  apply State.plainWrite_keeps; exact h; apply State.toDoze_keeps; apply State.plainWrite_keeps; exact h
  apply State.toHold_keeps; apply State.plainWrite_keeps; exact h; apply State.setStatus_keeps
  apply State.plainWrite_keeps; exact h; apply Keeps.ite; apply State.plainWrite_keeps; exact h; split
  apply State.toRun_keeps; apply State.plainWrite_keeps; exact h; apply State.toDoze_keeps
  apply State.plainWrite_keeps; exact h; apply State.toHold_keeps; apply State.plainWrite_keeps; exact h
  apply State.setStatus_keeps; apply State.plainWrite_keeps; exact h

theorem State.haReq_keeps {z s : State} {a1 a2 a3} (h : Keeps z s) : Keeps z (State.haReq s a1 a2 a3) := by
  unfold State.haReq; try dsimp only
  apply Keeps.ite; exact h; apply State.setStatus_keeps; apply State.set_keeps; apply State.set_keeps
  apply State.set_keeps; apply State.set_keeps; exact h

theorem State.askRefresh_keeps {z s : State} {a1} (h : Keeps z s) : Keeps z (State.askRefresh s a1) := by
  unfold State.askRefresh; try dsimp only
  split; exact h; apply Keeps.ite; exact h; apply State.haReq_keeps; with_reducible apply Keeps.mk_; exact h

theorem State.haAnswer_keeps {z s : State} {a1} (h : Keeps z s) : Keeps z (State.haAnswer s a1) := by
  unfold State.haAnswer; try dsimp only
  apply Keeps.ite; apply State.askRefresh_keeps; apply State.set_keeps; exact h; exact h

theorem State.rawRefuse_keeps {z s : State} {a1} (h : Keeps z s) : Keeps z (State.rawRefuse s a1) := by
  unfold State.rawRefuse; try dsimp only
  apply State.setStatus_keeps; apply State.set_keeps; apply State.set_keeps; exact h

theorem State.rsBegin_keeps {z s : State} {a1} (h : Keeps z s) : Keeps z (State.rsBegin s a1) := by
  unfold State.rsBegin; try dsimp only
  apply State.set_keeps; with_reducible apply Keeps.mk_; exact h

theorem State.rawCmd_keeps {z s : State} {a1 a2 a3} (h : Keeps z s) : Keeps z (State.rawCmd s a1 a2 a3) := by
  unfold State.rawCmd; try dsimp only
  apply Keeps.ite; apply State.set_keeps; apply State.set_keeps; exact h; apply Keeps.ite
  apply State.rawRefuse_keeps; apply State.set_keeps; apply State.set_keeps; exact h; apply Keeps.ite
  apply State.rawRefuse_keeps; apply State.set_keeps; apply State.set_keeps; exact h; apply Keeps.ite
  apply State.rawRefuse_keeps; apply State.set_keeps; apply State.set_keeps; exact h; apply Keeps.ite
  apply State.rawRefuse_keeps; apply State.set_keeps; apply State.set_keeps; exact h; apply State.rsBegin_keeps
  apply State.set_keeps; apply State.set_keeps; exact h

theorem State.rsRefuse_keeps {z s : State} {a1} (h : Keeps z s) : Keeps z (State.rsRefuse s a1) := by
  unfold State.rsRefuse; try dsimp only
  apply State.setStatus_keeps; apply State.set_keeps; exact h

theorem State.rsCmd_keeps {z s : State} {a1 a2 a3 a4 a5} (h : Keeps z s) (h5 : ∀ u, Keeps z u → Keeps z (a5 u)) :
    Keeps z (State.rsCmd s a1 a2 a3 a4 a5) := by
  unfold State.rsCmd; try dsimp only
  apply Keeps.ite; apply State.set_keeps; apply State.set_keeps; exact h; apply Keeps.ite
  apply State.rsRefuse_keeps; apply State.set_keeps; apply State.set_keeps; exact h; apply Keeps.ite
  apply State.rsRefuse_keeps; apply State.set_keeps; apply State.set_keeps; exact h; apply Keeps.ite
  apply State.rsRefuse_keeps; apply State.set_keeps; apply State.set_keeps; exact h; apply Keeps.ite
  apply State.rsRefuse_keeps; apply State.set_keeps; apply State.set_keeps; exact h; apply h5
  apply State.set_keeps; apply State.set_keeps; exact h

theorem State.rsFormat_keeps {z s : State} {a1} (h : Keeps z s) : Keeps z (State.rsFormat s a1) := by
  unfold State.rsFormat; try dsimp only
  apply State.rsCmd_keeps; exact h; intros; apply Keeps.ite; apply State.rsRefuse_keeps; assumption
  apply State.rsBegin_keeps; assumption

theorem State.rsLibErase_keeps {z s : State} {a1} (h : Keeps z s) : Keeps z (State.rsLibErase s a1) := by
  unfold State.rsLibErase; try dsimp only
  apply State.rsCmd_keeps; exact h; intros; apply State.rsBegin_keeps; assumption

theorem State.rsSetStartup_keeps {z s : State} {a1} (h : Keeps z s) : Keeps z (State.rsSetStartup s a1) := by
  unfold State.rsSetStartup; try dsimp only
  apply State.rsCmd_keeps; exact h; intros; apply State.rsBegin_keeps; assumption

theorem State.rsSweep_keeps {z s : State} (h : Keeps z s) : Keeps z (State.rsSweep s) := by
  unfold State.rsSweep; try dsimp only
  apply State.rsCmd_keeps; exact h; intros; apply State.rsBegin_keeps; assumption

theorem State.rsWrite_keeps {z s : State} {a1 a2} (h : Keeps z s) : Keeps z (State.rsWrite s a1 a2) := by
  unfold State.rsWrite; try dsimp only
  apply Keeps.ite; split; apply State.rsFormat_keeps; apply State.plainWrite_keeps; exact h
  apply State.rsLibErase_keeps; apply State.plainWrite_keeps; exact h; apply State.rsSetStartup_keeps
  apply State.plainWrite_keeps; exact h; apply State.rsSweep_keeps; apply State.plainWrite_keeps; exact h
  apply State.plainWrite_keeps; exact h; apply Keeps.ite; apply State.haAnswer_keeps; exact h; apply Keeps.ite
  apply State.rawCmd_keeps; exact h; apply State.plainWrite_keeps; exact h

theorem State.cancelOutcome_keeps {z s : State} {a1 a2 a3} (h : Keeps z s) : Keeps z (State.cancelOutcome s a1 a2
    a3) := by
  unfold State.cancelOutcome; try dsimp only
  apply State.setStatus_keeps; with_reducible apply Keeps.mk_; exact h

theorem State.cancel_keeps {z s : State} {a1 a2} (h : Keeps z s) : Keeps z (State.cancel s a1 a2) := by
  unfold State.cancel; try dsimp only
  apply Keeps.ite; apply State.cancelOutcome_keeps; exact h; split; apply State.cancelOutcome_keeps; exact h
  split; apply State.trace_keeps; apply State.cancelOutcome_keeps; apply State.putTask_keeps; exact h
  apply State.trace_keeps; apply State.cancelOutcome_keeps; apply State.syncTask_keeps; apply State.putTask_keeps
  apply State.stamp_keeps; exact h; apply State.trace_keeps; apply State.cancelOutcome_keeps; exact h
  apply State.trace_keeps; apply State.cancelOutcome_keeps; split; apply Keeps.ite; apply State.syncTask_keeps
  apply State.putTask_keeps; exact h; with_reducible apply Keeps.mk_; apply State.syncTask_keeps
  apply State.putTask_keeps; exact h; apply State.syncTask_keeps; apply State.putTask_keeps; exact h

theorem State.offer_keeps {z s : State} {a1 a2} (h : Keeps z s) : Keeps z (State.offer s a1 a2) := by
  unfold State.offer; try dsimp only
  apply State.trace_keeps; apply State.syncTask_keeps; split; with_reducible apply Keeps.mk_
  apply State.incWrap_keeps; apply State.flowSet_keeps; apply State.flowSet_keeps; apply State.putTask_keeps
  exact h; apply State.incWrap_keeps; apply State.flowSet_keeps; apply State.flowSet_keeps
  apply State.putTask_keeps; exact h

theorem State.haDecide_keeps {z s : State} {a1} (h : Keeps z s) : Keeps z (State.haDecide s a1) := by
  unfold State.haDecide; try dsimp only
  apply Keeps.ite; exact h; apply Keeps.ite; apply Keeps.ite; exact h; apply State.setStatus_keeps; exact h
  apply Keeps.ite; with_reducible apply Keeps.mk_; apply State.clearRegs_keeps; exact h; split
  apply State.setStatus_keeps; exact h; apply Keeps.ite; apply State.offer_keeps; apply State.clearRegs_keeps
  exact h; apply State.setStatus_keeps; apply State.clearRegs_keeps; exact h

theorem State.schMode_keeps {z s : State} {a1} (h : Keeps z s) : Keeps z (State.schMode s a1) := by
  unfold State.schMode; try dsimp only
  apply State.underLock_keeps; exact h; intros; apply Keeps.ite; apply State.setStatus_keeps; assumption
  apply State.set_keeps; assumption

theorem State.schWrite_keeps {z s : State} {a1 a2 a3} (h : Keeps z s) : Keeps z (State.schWrite s a1 a2 a3) := by
  unfold State.schWrite; try dsimp only
  apply Keeps.ite; apply State.schMode_keeps; exact h; apply Keeps.ite; apply State.cancel_keeps; exact h
  apply Keeps.ite; apply State.haDecide_keeps; exact h; apply State.plainWrite_keeps; exact h

theorem State.railsOff_keeps {z s : State} {a1} (h : Keeps z s) : Keeps z (State.railsOff s a1) := by
  unfold State.railsOff; try dsimp only
  apply State.setStatus_keeps; apply State.set_keeps; apply State.set_keeps; apply State.set_keeps
  apply State.setRails_keeps; with_reducible apply Keeps.mk_; apply State.setHostRst_keeps; exact h

theorem State.seqStart_keeps {z s : State} (h : Keeps z s) : Keeps z (State.seqStart s) := by
  unfold State.seqStart; try dsimp only
  apply Keeps.ite; exact h; apply Keeps.ite; exact h; apply State.seqFrom_keeps; apply State.set_keeps
  apply State.set_keeps; apply Keeps.ite; apply State.setReg_keeps; apply State.set_keeps; exact h; exact h

theorem State.seqWrite_keeps {z s : State} {a1 a2} (h : Keeps z s) : Keeps z (State.seqWrite s a1 a2) := by
  unfold State.seqWrite; try dsimp only
  apply Keeps.ite; apply Keeps.ite; with_reducible apply Keeps.mk_; apply State.setHostRst_keeps; apply Keeps.ite
  apply State.railsOff_keeps; apply Keeps.ite; apply State.seqStart_keeps; apply State.plainWrite_keeps; exact h
  apply State.plainWrite_keeps; exact h; apply Keeps.ite; apply State.seqStart_keeps; apply State.plainWrite_keeps
  exact h; apply State.plainWrite_keeps; exact h; apply Keeps.ite; apply State.railsOff_keeps; apply Keeps.ite
  apply State.seqStart_keeps; apply State.plainWrite_keeps; exact h; apply State.plainWrite_keeps; exact h
  apply Keeps.ite; apply State.seqStart_keeps; apply State.plainWrite_keeps; exact h; apply State.plainWrite_keeps
  exact h; apply Keeps.ite; apply State.manualOn_keeps; apply State.plainWrite_keeps; exact h
  apply State.plainWrite_keeps; exact h

theorem State.enumerate_keeps {z s : State} (h : Keeps z s) : Keeps z (State.enumerate s) := by
  unfold State.enumerate; try dsimp only
  apply Keeps.ite; apply State.setStatus_keeps; exact h; apply Keeps.ite; apply State.set_keeps; exact h; exact h

theorem State.spanSend_keeps {z s : State} {a1 a2} (h : Keeps z s) : Keeps z (State.spanSend s a1 a2) := by
  unfold State.spanSend; try dsimp only
  apply Keeps.ite; with_reducible apply Keeps.mk_; exact h; exact h

theorem State.strobeDown_keeps {z s : State} {a1 a2} (h : Keeps z s) : Keeps z (State.strobeDown s a1 a2) := by
  unfold State.strobeDown; try dsimp only
  apply Keeps.ite; apply State.setStatus_keeps; apply State.incSat_keeps; exact h; apply State.each_keeps
  with_reducible apply Keeps.mk_; exact h; intros; apply State.spanSend_keeps; assumption

theorem State.strobeTx_keeps {z s : State} {a1} (h : Keeps z s) : Keeps z (State.strobeTx s a1) := by
  unfold State.strobeTx; try dsimp only
  apply Keeps.ite; apply State.set_keeps; exact h; apply Keeps.ite; apply State.strobeDown_keeps
  apply State.set_keeps; exact h; apply State.spanSend_keeps; apply State.set_keeps; exact h

theorem State.snWrite_keeps {z s : State} {a1 a2} (h : Keeps z s) : Keeps z (State.snWrite s a1 a2) := by
  unfold State.snWrite; try dsimp only
  apply Keeps.ite; apply State.enumerate_keeps; apply State.plainWrite_keeps; exact h; apply Keeps.ite
  apply State.strobeTx_keeps; apply State.plainWrite_keeps; exact h; apply State.plainWrite_keeps; exact h

theorem State.laneCtrl_keeps {z s : State} {a1 a2 a3} (h : Keeps z s) : Keeps z (State.laneCtrl s a1 a2 a3) := by
  unfold State.laneCtrl; try dsimp only
  apply Keeps.ite; apply Keeps.ite; apply State.setStatus_keeps; apply State.plainWriteAs_keeps; exact h
  apply State.plainWriteAs_keeps; exact h; apply Keeps.ite; apply State.plainWriteAs_keeps; exact h
  apply State.setLane_keeps; apply State.setReg_keeps; apply State.plainWriteAs_keeps; exact h

theorem State.sqCfg_keeps {z s : State} {a1 a2} (h : Keeps z s) : Keeps z (State.sqCfg s a1 a2) := by
  unfold State.sqCfg; try dsimp only
  apply Keeps.ite; apply State.setStatus_keeps; apply State.underLock_keeps; exact h; intros; dsimp only [id]
  assumption; apply State.underLock_keeps; exact h; intros; apply Keeps.ite; assumption; apply State.set_keeps
  apply State.set_keeps; assumption

theorem State.sqWrite_keeps {z s : State} {a1 a2 a3} (h : Keeps z s) : Keeps z (State.sqWrite s a1 a2 a3) := by
  unfold State.sqWrite; try dsimp only
  apply Keeps.ite; apply State.sqCfg_keeps; exact h; split; apply State.laneCtrl_keeps; exact h
  apply State.plainWrite_keeps; exact h

theorem State.flush_keeps {z s : State} {a1} (h : Keeps z s) : Keeps z (State.flush s a1) := by
  unfold State.flush; try dsimp only
  apply State.servePort_keeps; apply State.closeBlock_keeps; exact h

theorem State.setRingEn_keeps {z s : State} {a1 a2} (h : Keeps z s) : Keeps z (State.setRingEn s a1 a2) := by
  unfold State.setRingEn; try dsimp only
  apply Keeps.ite; apply Keeps.ite; exact h; apply Keeps.ite; apply State.setStatus_keeps; exact h
  apply State.servePort_keeps; apply State.setRing_keeps; apply State.set_keeps; apply State.set_keeps
  apply State.set_keeps; exact h; apply State.set_keeps; apply State.closeBlock_keeps; exact h

theorem State.ringCfg_keeps {z s : State} {a1 a2} (h : Keeps z s) : Keeps z (State.ringCfg s a1 a2) := by
  unfold State.ringCfg; try dsimp only
  apply Keeps.ite; apply Keeps.ite; apply State.setRingEn_keeps; apply State.plainWrite_keeps; exact h
  apply State.setStatus_keeps; exact h; apply Keeps.ite; apply State.setStatus_keeps; apply Keeps.ite
  apply State.lockedWrite_keeps; exact h; exact h; apply State.setRingEn_keeps; apply State.plainWrite_keeps
  exact h

theorem State.writeRp_keeps {z s : State} {a1 a2} (h : Keeps z s) : Keeps z (State.writeRp s a1 a2) := by
  unfold State.writeRp; try dsimp only
  apply Keeps.ite; apply State.set_keeps; exact h; apply State.setStatus_keeps; exact h

theorem State.stWrite_keeps {z s : State} {a1 a2 a3} (h : Keeps z s) : Keeps z (State.stWrite s a1 a2 a3) := by
  unfold State.stWrite; try dsimp only
  apply Keeps.ite; apply State.plainWrite_keeps; exact h; split; apply State.ringCfg_keeps; exact h
  apply State.writeRp_keeps; exact h; apply Keeps.ite; apply State.flush_keeps; apply State.plainWrite_keeps
  exact h; apply State.plainWrite_keeps; exact h; apply State.ringField_keeps; exact h; intros
  apply State.plainWrite_keeps; assumption

theorem State.enterHoldover_keeps {z s : State} (h : Keeps z s) : Keeps z (State.enterHoldover s) := by
  unfold State.enterHoldover; try dsimp only
  apply State.setStatus_keeps; apply State.set_keeps; apply State.set_keeps; with_reducible apply Keeps.mk_
  exact h

theorem State.relock_keeps {z s : State} (h : Keeps z s) : Keeps z (State.relock s) := by
  unfold State.relock; try dsimp only
  apply Keeps.ite; apply State.enterHoldover_keeps; exact h; exact h

theorem State.startSlew_keeps {z s : State} {a1} (h : Keeps z s) : Keeps z (State.startSlew s a1) := by
  unfold State.startSlew; try dsimp only
  with_reducible apply Keeps.mk_; apply State.set_keeps; exact h

theorem State.slewAmount_keeps {z s : State} {a1} (h : Keeps z s) : Keeps z (State.slewAmount s a1) := by
  unfold State.slewAmount; try dsimp only
  apply State.timeWrite_keeps; exact h; intros; apply State.startSlew_keeps; assumption

theorem State.slewRate_keeps {z s : State} {a1} (h : Keeps z s) : Keeps z (State.slewRate s a1) := by
  unfold State.slewRate; try dsimp only
  apply Keeps.ite; apply State.set_keeps; exact h; with_reducible apply Keeps.mk_; apply State.set_keeps; exact h

theorem State.tbWrite_keeps {z s : State} {a1 a2} (h : Keeps z s) : Keeps z (State.tbWrite s a1 a2) := by
  unfold State.tbWrite; try dsimp only
  apply Keeps.ite; apply Keeps.ite; apply State.relock_keeps; apply State.plainWrite_keeps; exact h
  apply State.plainWrite_keeps; exact h; apply Keeps.ite; apply State.slewAmount_keeps; exact h; apply Keeps.ite
  apply State.slewRate_keeps; exact h; apply State.plainWrite_keeps; exact h

theorem State.timerCtrl_keeps {z s : State} {a1 a2} (h : Keeps z s) : Keeps z (State.timerCtrl s a1 a2) := by
  unfold State.timerCtrl; try dsimp only
  apply Keeps.ite; apply State.startTimer_keeps; apply State.toTick_keeps; apply State.setTimerEn_keeps
  apply Keeps.ite; apply State.lockedWrite_keeps; apply State.set_keeps; apply Keeps.ite; exact h
  apply State.set_keeps; apply State.set_keeps; apply State.set_keeps; exact h; apply State.set_keeps
  apply Keeps.ite; exact h; apply State.set_keeps; apply State.set_keeps; apply State.set_keeps; exact h
  apply State.setTimerEn_keeps; apply Keeps.ite; apply State.lockedWrite_keeps; apply State.set_keeps
  apply Keeps.ite; exact h; apply State.set_keeps; apply State.set_keeps; apply State.set_keeps; exact h
  apply State.set_keeps; apply Keeps.ite; exact h; apply State.set_keeps; apply State.set_keeps
  apply State.set_keeps; exact h

theorem State.tmWrite_keeps {z s : State} {a1 a2} (h : Keeps z s) : Keeps z (State.tmWrite s a1 a2) := by
  unfold State.tmWrite; try dsimp only
  split; apply State.timerCtrl_keeps; exact h; apply State.plainWrite_keeps; exact h

theorem State.keyedCommand_keeps {z s : State} {a1} (h : Keeps z s) : Keeps z (State.keyedCommand s a1) := by
  unfold State.keyedCommand; try dsimp only
  apply Keeps.ite; apply State.setStatus_keeps; exact h; split; apply State.startUp_keeps
  apply State.chipReset_keeps; apply State.setStatus_keeps; exact h; apply State.enterSafe_keeps
  apply State.setStatus_keeps; exact h; apply State.surrender_keeps; apply State.setStatus_keeps; exact h
  apply Keeps.ite; exact h; apply Keeps.ite; apply State.setStatus_keeps; exact h; apply State.setStatus_keeps
  with_reducible apply Keeps.mkIn; exact h

theorem State.tndKey_keeps {z s : State} {a1 a2} (h : Keeps z s) : Keeps z (State.tndKey s a1 a2) := by
  unfold State.tndKey; try dsimp only
  apply Keeps.ite; exact h; apply Keeps.ite; apply State.keyedCommand_keeps; apply State.keyWrite_keeps; exact h
  apply State.keyWrite_keeps; exact h

theorem State.trapClear_keeps {z s : State} (h : Keeps z s) : Keeps z (State.trapClear s) := by
  unfold State.trapClear; try dsimp only
  apply State.syncNmi_keeps; apply State.set_keeps; exact h

theorem State.tndWrite_keeps {z s : State} {a1 a2 a3} (h : Keeps z s) : Keeps z (State.tndWrite s a1 a2 a3) := by
  unfold State.tndWrite; try dsimp only
  apply Keeps.ite; apply State.tndKey_keeps; exact h; apply Keeps.ite; apply Keeps.ite
  apply State.trapClear_keeps; exact h; exact h; apply Keeps.ite; apply State.syncHealthy_keeps
  apply State.plainWrite_keeps; exact h; apply State.plainWrite_keeps; exact h

theorem State.openTxn_keeps {z s : State} {a1} (h : Keeps z s) : Keeps z (State.openTxn s a1) := by
  unfold State.openTxn; try dsimp only
  apply Keeps.ite; apply State.vtResult_keeps; exact h; apply State.vtResult_keeps; apply State.setTxn_keeps
  exact h

theorem State.vtWrite_keeps {z s : State} {a1 a2 a3} (h : Keeps z s) : Keeps z (State.vtWrite s a1 a2 a3) := by
  unfold State.vtWrite; try dsimp only
  apply Keeps.ite; split; apply State.vtBegin_keeps; apply State.plainWrite_keeps; exact h; intros
  apply State.openTxn_keeps; assumption; apply State.vtBegin_keeps; apply State.plainWrite_keeps; exact h; intros
  apply State.abandonTxn_keeps; assumption; apply State.plainWrite_keeps; exact h; apply State.plainWrite_keeps
  exact h

theorem State.pageWrite_keeps {z s : State} {a1 a2 a3 a4 a5 a6} (h : Keeps z s) : Keeps z (State.pageWrite s a1
    a2 a3 a4 a5 a6) := by
  unfold State.pageWrite; try dsimp only
  split; apply State.devWrite_keeps; exact h; apply State.tndWrite_keeps; exact h; apply State.pwrWrite_keeps
  exact h; apply State.pmbWrite_keeps; exact h; apply State.seqWrite_keeps; exact h; apply State.tbWrite_keeps
  exact h; apply State.tmWrite_keeps; exact h; apply State.cfgWrite_keeps; exact h; apply Keeps.ite
  apply State.keyProg_keeps; exact h; apply State.plainWrite_keeps; exact h; apply State.cchWrite_keeps; exact h
  apply Keeps.ite; apply Keeps.ite; apply State.passNow_keeps; exact h; exact h; apply State.plainWrite_keeps
  exact h; apply Keeps.ite; apply Keeps.ite; apply State.cntClr_keeps; exact h; exact h
  apply State.plainWrite_keeps; exact h; apply State.asWrite_keeps; exact h; refine Keeps.getD (fun _ e => ?_) ?_
  refine State.convWrite_keeps ?_ (by assumption); exact h; apply State.plainWrite_keeps; exact h
  apply State.fcWrite_keeps; exact h; apply State.cpPageWrite_keeps; exact h; apply State.daWrite_keeps; exact h
  apply State.lsWrite_keeps; exact h; apply State.schWrite_keeps; exact h; apply State.hqWrite_keeps; exact h
  apply State.rsWrite_keeps; exact h; apply State.vtWrite_keeps; exact h; apply State.capPageWrite_keeps; exact h
  apply State.prWrite_keeps; exact h; apply State.bfeWrite_keeps; exact h; apply State.snWrite_keeps; exact h
  apply State.gbWrite_keeps; exact h; apply State.sqWrite_keeps; exact h; apply State.stWrite_keeps; exact h
  apply State.plainWrite_keeps; exact h; apply State.plainWrite_keeps; exact h; apply State.plainWrite_keeps
  exact h; apply State.plainWrite_keeps; exact h

theorem State.flowWrite_keeps {z s : State} {a1 a2} (h : Keeps z s) : Keeps z (State.flowWrite s a1 a2) := by
  unfold State.flowWrite; try dsimp only
  apply State.underLock_keeps; exact h; intros; apply Keeps.ite; apply State.setStatus_keeps; assumption
  apply Keeps.ite; apply State.setStatus_keeps; assumption; with_reducible apply Keeps.mk_
  apply State.setReg_keeps; assumption

theorem State.msixWrite_keeps {z s : State} {a1 a2} (h : Keeps z s) : Keeps z (State.msixWrite s a1 a2) := by
  unfold State.msixWrite; try dsimp only
  apply Keeps.ite; exact h; apply Keeps.ite; with_reducible apply Keeps.mkIn; apply State.setVectorPending_keeps
  apply State.setReg_keeps; exact h; apply State.setReg_keeps; exact h

theorem State.windowWrite_keeps {z s : State} {a1 a2} (h : Keeps z s) : Keeps z (State.windowWrite s a1 a2) := by
  unfold State.windowWrite; try dsimp only
  apply Keeps.ite; apply Keeps.ite; apply State.flowWrite_keeps; exact h; exact h; apply Keeps.ite
  apply State.msixWrite_keeps; exact h; exact h

theorem State.wordWrite_keeps {z s : State} {a1 a2 a3} (h : Keeps z s) : Keeps z (State.wordWrite s a1 a2 a3) := by
  unfold State.wordWrite; try dsimp only
  split; apply State.windowWrite_keeps; exact h; apply Keeps.ite; apply State.windowWrite_keeps; exact h
  apply Keeps.ite; apply State.holdLow_keeps; exact h; apply Keeps.ite; apply State.highWrite_keeps; exact h
  apply Keeps.ite; apply State.hdrWrite_keeps; exact h; apply State.pageWrite_keeps; exact h

theorem State.writeReg_keeps {z s : State} {a1 a2 a3} (h : Keeps z s) : Keeps z (State.writeReg s a1 a2 a3) := by
  unfold State.writeReg; try dsimp only
  apply Keeps.ite; apply State.badAccess_keeps; exact h; apply State.gate_keeps; exact h; intros
  apply State.wordWrite_keeps; assumption

theorem execAbsentWrite_keeps {z s : State} {a0 a1 a2 a3} (h : Keeps z s) : Kept z (execAbsentWrite a0 a1 a2 a3
    s) := by
  unfold execAbsentWrite; try dsimp only
  apply Kept.ite; apply Kept.ite; exact Kept.fault; apply Kept.next; apply State.bar2Gate_keeps; exact h; intros
  apply State.bar2Write_keeps; assumption; apply Kept.ite; exact Kept.fault; apply Kept.next
  apply State.writeReg_keeps; exact h

theorem State.runTo_keeps {z s : State} {a0 a2} (h : Keeps z s) : Keeps z (State.runTo a0 s a2) := by
  induction a0 generalizing s a2 with
  | zero => exact h
  | succ k ih =>
    unfold State.runTo
    split
    · exact h
    · split
      · exact State.skipEdges_keeps h
      · exact ih (State.slewEdge_keeps (State.skipEdges_keeps h))

theorem State.reach_keeps {z s : State} {a1} (h : Keeps z s) : Keeps z (State.reach s a1) := by
  unfold State.reach; try dsimp only
  apply State.runTo_keeps; exact h

theorem State.edgeAt_keeps {z s : State} {a1} (h : Keeps z s) : Keeps z (State.edgeAt s a1).2 := by
  unfold State.edgeAt; try dsimp only
  apply Keeps.ite_snd; dsimp only; apply State.reach_keeps; exact h; dsimp only; exact h

theorem execAbsoluteStart_keeps {z s : State} {a0} (h : Keeps z s) : Kept z (execAbsoluteStart a0 s) := by
  unfold execAbsoluteStart; try dsimp only
  apply Kept.ite; apply Kept.next; apply State.startTimer_keeps; apply State.edgeAt_keeps; exact h
  apply Kept.next; exact h

theorem State.dispatchOne_keeps {z s : State} {a1} (h : Keeps z s) : Keeps z (State.dispatchOne s a1) := by
  unfold State.dispatchOne; try dsimp only
  split; exact h; apply State.offer_keeps; exact h

theorem execAffWaitExpiry_keeps {z s : State} {a0} (h : Keeps z s) : Kept z (execAffWaitExpiry a0 s) := by
  unfold execAffWaitExpiry; try dsimp only
  split; apply Kept.next; exact h; apply Kept.ite; apply Kept.next; apply State.reach_keeps; exact h
  apply Kept.next; apply State.each_keeps; apply State.reach_keeps; exact h; intros; apply State.dispatchOne_keeps
  assumption

theorem execAnalog_keeps {z s : State} {a0} (h : Keeps z s) : Kept z (execAnalog a0 s) := by
  unfold execAnalog; try dsimp only
  apply Kept.next; apply State.bootAfter_keeps; apply State.loadCmd_keeps; exact h

theorem execAppend_keeps {z s : State} {a0 a1} (h : Keeps z s) : Kept z (execAppend a0 a1 s) := by
  unfold execAppend; try dsimp only
  apply Kept.next; apply State.vtCmd_keeps; exact h; intros; split; apply State.vtResult_keeps; assumption
  with_reducible apply Keeps.mk_; assumption

theorem execBadAccess_keeps {z s : State} {a0 a1 a2} (h : Keeps z s) : Kept z (execBadAccess a0 a1 a2 s) := by
  unfold execBadAccess; try dsimp only
  apply Kept.ite; exact Kept.fault; apply Kept.next; apply State.badAccess_keeps; exact h

theorem State.bar2Read_keeps {z s : State} {a1 a2 a3} (h : Keeps z s) : Keeps z (State.bar2Read s a1 a2 a3) := by
  unfold State.bar2Read; try dsimp only
  apply Keeps.ite; with_reducible apply Keeps.mkIn; exact h; apply Keeps.ite; apply Keeps.ite
  apply State.raiseFault_keeps; with_reducible apply Keeps.mkIn; exact h; intros; dsimp only [id]; assumption
  apply State.memEnter_keeps; exact h; apply Keeps.ite; with_reducible apply Keeps.mkIn; exact h
  with_reducible apply Keeps.mkIn; exact h

theorem execBar2MemoryAccess_keeps {z s : State} {a0 a1 a2 a3 a4} (h : Keeps z s) : Kept z (execBar2MemoryAccess
    a0 a1 a2 a3 a4 s) := by
  unfold execBar2MemoryAccess; try dsimp only
  apply Kept.ite; exact Kept.fault; apply Kept.next; apply State.bar2Gate_keeps; exact h; intros; apply Keeps.ite
  apply State.bar2Write_keeps; assumption; apply State.bar2Read_keeps; assumption

theorem State.hdrCmd_keeps {z s : State} {a1 a2 a3 a4} (h : Keeps z s) : Keeps z (State.hdrCmd s a1 a2 a3 a4) := by
  unfold State.hdrCmd; try dsimp only
  apply State.gate_keeps; exact h; intros; split; assumption; apply State.hdrWrite_keeps; assumption

theorem execBlkReset_keeps {z s : State} {a0 a1} (h : Keeps z s) : Kept z (execBlkReset a0 a1 s) := by
  unfold execBlkReset; try dsimp only
  apply Kept.next; apply State.hdrCmd_keeps; exact h

theorem execBlockCommit_keeps {z s : State} {a0} (h : Keeps z s) : Kept z (execBlockCommit a0 s) := by
  unfold execBlockCommit; try dsimp only
  apply Kept.ite; apply Kept.next; exact h; apply Kept.next; apply State.commitBlock_keeps; exact h

theorem State.keyCmd_keeps {z s : State} {a1 a2 a3 a4} (h : Keeps z s) : Keeps z (State.keyCmd s a1 a2 a3 a4) := by
  unfold State.keyCmd; try dsimp only
  apply State.gateF_keeps; exact h; intros; apply State.keyProg_keeps; assumption

theorem execBlowSignFuse_keeps {z s : State} {a0 a1} (h : Keeps z s) : Kept z (execBlowSignFuse a0 a1 s) := by
  unfold execBlowSignFuse; try dsimp only
  apply Kept.next; apply State.keyCmd_keeps; exact h

theorem execBootUpdate_keeps {z s : State} {a0} (h : Keeps z s) : Kept z (execBootUpdate a0 s) := by
  unfold execBootUpdate; try dsimp only
  apply Kept.next; apply State.gateF_keeps; exact h; intros; apply State.startUpdate_keeps; assumption

theorem execBrokeTailWrite_keeps {z s : State} {a0 a1} (h : Keeps z s) : Kept z (execBrokeTailWrite a0 a1 s) := by
  unfold execBrokeTailWrite; try dsimp only
  apply Kept.next; apply State.gateF_keeps; exact h; intros; apply State.set_keeps; assumption

theorem State.rsResult_keeps {z s : State} {a1} (h : Keeps z s) : Keeps z (State.rsResult s a1) := by
  unfold State.rsResult; try dsimp only
  apply State.set_keeps; apply State.set_keeps; with_reducible apply Keeps.mk_; exact h

theorem State.rsEnd_keeps {z s : State} {a1} (h : Keeps z s) : Keeps z (State.rsEnd s a1) := by
  unfold State.rsEnd; try dsimp only
  apply State.setStatus_keeps; apply State.rsResult_keeps; exact h

theorem State.libFetch_keeps {z s : State} (h : Keeps z s) : Keeps z (State.libFetch s) := by
  unfold State.libFetch; try dsimp only
  split; apply Keeps.ite; exact h; split; apply State.rsEnd_keeps; exact h; apply Keeps.ite
  apply State.rsEnd_keeps; exact h; apply Keeps.ite; apply State.rsEnd_keeps; apply State.set_keeps; exact h
  apply Keeps.ite; apply State.haReq_keeps; apply State.rsBegin_keeps; apply State.set_keeps; exact h
  apply State.rsBegin_keeps; apply State.set_keeps; exact h; exact h

theorem State.sendPending_keeps {z s : State} (h : Keeps z s) : Keeps z (State.sendPending s) := by
  unfold State.sendPending; try dsimp only
  apply State.each_keeps; exact h; intros; apply Keeps.ite; with_reducible apply Keeps.mkIn
  apply State.setVectorPending_keeps; assumption; assumption

theorem State.dmaResume_keeps {z s : State} (h : Keeps z s) : Keeps z (State.dmaResume s) := by
  unfold State.dmaResume; try dsimp only
  apply State.bfeDma_keeps; apply State.libFetch_keeps; apply State.sendPending_keeps; exact h

theorem execBusMasterEnableChange_keeps {z s : State} {a0} (h : Keeps z s) : Kept z (execBusMasterEnableChange a0
    s) := by
  unfold execBusMasterEnableChange; try dsimp only
  apply Kept.next; apply Keeps.ite; exact h; apply State.dmaResume_keeps; apply State.set_keeps; exact h

theorem State.writeCq_keeps {z s : State} {a1 a2 a3 a4} (h : Keeps z s) : Keeps z (State.writeCq s a1 a2 a3 a4)
    := by
  unfold State.writeCq; try dsimp only
  apply Keeps.ite; apply State.sendVector_keeps; apply Keeps.ite; with_reducible apply Keeps.mk_
  apply State.set_keeps; apply State.toHost_keeps; exact h; apply State.set_keeps; apply State.toHost_keeps
  exact h; apply Keeps.ite; with_reducible apply Keeps.mk_; apply State.set_keeps; apply State.toHost_keeps
  exact h; apply State.set_keeps; apply State.toHost_keeps; exact h

theorem State.writeNotice_keeps {z s : State} {a1} (h : Keeps z s) : Keeps z (State.writeNotice s a1) := by
  unfold State.writeNotice; try dsimp only
  split; exact h; apply Keeps.ite; with_reducible apply Keeps.mk_; apply State.writeCq_keeps; exact h; exact h

theorem execCancelNotice_keeps {z s : State} {a0} (h : Keeps z s) : Kept z (execCancelNotice a0 s) := by
  unfold execCancelNotice; try dsimp only
  apply Kept.next; apply State.writeNotice_keeps; exact h

theorem State.captureTile_keeps {z s : State} {a1 a2 a3 a4 a5 a6} (h : Keeps z s) : Keeps z (State.captureTile s
    a1 a2 a3 a4 a5 a6).2 := by
  unfold State.captureTile; try dsimp only
  apply State.setFine_keeps; apply Keeps.ite; exact h; with_reducible apply Keeps.mk_; exact h

theorem State.issue_keeps {z s : State} {a1 a2} (h : Keeps z s) : Keeps z (State.issue s a1 a2) := by
  unfold State.issue; try dsimp only
  apply State.settle_keeps; apply State.flow_keeps; refine Keeps.foldl ?_ ?_; exact h; intros; split; assumption
  apply State.present'_keeps; assumption

theorem execCaptureEvent_keeps {z s : State} {a0 a1 a2 a3} (h : Keeps z s) : Kept z (execCaptureEvent a0 a1 a2 a3
    s) := by
  unfold execCaptureEvent; try dsimp only
  split; apply Kept.next; apply State.flow_keeps; exact h; apply Kept.ite; apply Kept.next
  apply State.issue_keeps; apply State.captureTile_keeps; apply State.flow_keeps; exact h; apply Kept.next
  apply State.flow_keeps; exact h

theorem State.captureChain_keeps {z s : State} {a1 a2 a3 a4} (h : Keeps z s) : Keeps z (State.captureChain s a1
    a2 a3 a4) := by
  induction a2 generalizing s a3 a4 with
  | nil => exact h
  | cons x r ih =>
    obtain ⟨t, x⟩ := x
    unfold State.captureChain
    dsimp only
    refine ih ?_
    split
    · exact State.captureTile_keeps h
    · exact State.setFine_keeps (State.captureTile_keeps h)

theorem execCarryChainCapture_keeps {z s : State} {a0 a1 a2} (h : Keeps z s) : Kept z (execCarryChainCapture a0
    a1 a2 s) := by
  unfold execCarryChainCapture; try dsimp only
  split; apply Kept.next; apply State.flow_keeps; exact h; apply Kept.ite; apply Kept.next
  apply State.issue_keeps; apply State.captureChain_keeps; apply State.flow_keeps; exact h; apply Kept.next
  apply State.flow_keeps; exact h

theorem execChainChange_keeps {z s : State} {a0 a1 a2 a3} (h : Keeps z s) : Kept z (execChainChange a0 a1 a2 a3
    s) := by
  unfold execChainChange; try dsimp only
  apply Kept.next; apply State.gate_keeps; exact h; intros; apply Keeps.ite; apply State.chainWrite_keeps
  assumption; assumption

theorem State.claimPads_keeps {z s : State} (h : Keeps z s) : Keeps z (State.claimPads s) := by
  unfold State.claimPads; try dsimp only
  apply Keeps.ite; exact h; with_reducible apply Keeps.mk_; apply State.each_keeps; exact h; intros
  apply Keeps.ite; assumption; apply State.setPad_keeps; assumption

theorem State.takeOver_keeps {z s : State} {a1} (h : Keeps z s) : Keeps z (State.takeOver s a1) := by
  unfold State.takeOver; try dsimp only
  apply State.setStatus_keeps; with_reducible apply Keeps.mk_; apply State.set_keeps; apply State.set64_keeps
  exact h

theorem execClaimStands_keeps {z s : State} {a0} (h : Keeps z s) : Kept z (execClaimStands a0 s) := by
  unfold execClaimStands; try dsimp only
  split; apply Kept.next; exact h; apply Kept.ite; apply Kept.next; exact h; apply Kept.next; apply Keeps.ite
  apply State.takeOver_keeps; apply State.setRole_keeps; apply State.claimPads_keeps
  with_reducible apply Keeps.mk_; apply State.reachClk_keeps; exact h; apply State.setRole_keeps
  apply State.claimPads_keeps; with_reducible apply Keeps.mk_; apply State.reachClk_keeps; exact h

theorem execClaimWaitExpiry_keeps {z s : State} (h : Keeps z s) : Kept z (execClaimWaitExpiry s) := by
  unfold execClaimWaitExpiry; try dsimp only
  apply Kept.ite; apply Kept.next; apply State.raiseClaim_keeps; exact h; apply Kept.next; exact h

theorem execClrAbsent_keeps {z s : State} {a0} (h : Keeps z s) : Kept z (execClrAbsent a0 s) := by
  unfold execClrAbsent; try dsimp only
  apply Kept.next; apply State.gateF_keeps; exact h; intros; apply State.set_keeps; assumption

theorem State.setLibValid_keeps {z s : State} {a1 a2} (h : Keeps z s) : Keeps z (State.setLibValid s a1 a2) := by
  unfold State.setLibValid; try dsimp only
  apply Keeps.ite; apply State.setMaskBit_keeps; exact h; apply State.setMaskBit_keeps; exact h

theorem State.emptySlot_keeps {z s : State} {a1} (h : Keeps z s) : Keeps z (State.emptySlot s a1) := by
  unfold State.emptySlot; try dsimp only
  apply State.setLibValid_keeps; with_reducible apply Keeps.mk_; exact h

theorem State.takeVault_keeps {z s : State} {a1 a2} (h : Keeps z s) : Keeps z (State.takeVault s a1 a2) := by
  unfold State.takeVault; try dsimp only
  apply State.set_keeps; apply State.set_keeps; apply State.set_keeps; apply State.draw_keeps
  apply State.set_keeps; with_reducible apply Keeps.mk_; exact h

theorem State.formatStore_keeps {z s : State} (h : Keeps z s) : Keeps z (State.formatStore s) := by
  unfold State.formatStore; try dsimp only
  apply Keeps.ite; apply State.setStatus_keeps; apply State.set_keeps; apply State.each_keeps
  apply State.set_keeps; apply State.set_keeps; apply State.setReg_keeps; apply State.set_keeps
  apply State.takeVault_keeps; apply State.setReg_keeps; apply State.set_keeps; apply State.set_keeps
  with_reducible apply Keeps.mk_; exact h; intros; apply State.set_keeps; apply State.set_keeps; assumption
  apply State.set_keeps; apply State.each_keeps; apply State.set_keeps; apply State.set_keeps
  apply State.setReg_keeps; apply State.set_keeps; apply State.takeVault_keeps; apply State.setReg_keeps
  apply State.set_keeps; apply State.set_keeps; with_reducible apply Keeps.mk_; exact h; intros
  apply State.set_keeps; apply State.set_keeps; assumption

theorem State.libDone_keeps {z s : State} {a1} (h : Keeps z s) : Keeps z (State.libDone s a1) := by
  unfold State.libDone; try dsimp only
  apply Keeps.ite; apply State.set_keeps; apply State.mirror_keeps; exact h; apply State.mirror_keeps; exact h

theorem State.putSlot_keeps {z s : State} {a1 a2} (h : Keeps z s) : Keeps z (State.putSlot s a1 a2) := by
  unfold State.putSlot; try dsimp only
  apply State.setLibValid_keeps; with_reducible apply Keeps.mk_; exact h

theorem State.setStartup_keeps {z s : State} {a1} (h : Keeps z s) : Keeps z (State.setStartup s a1) := by
  unfold State.setStartup; try dsimp only
  apply State.set_keeps; apply State.set_keeps; exact h

theorem execCmdDone_keeps {z s : State} {a0} (h : Keeps z s) : Kept z (execCmdDone a0 s) := by
  unfold execCmdDone; try dsimp only
  apply Kept.ite; apply Kept.next; exact h; split; apply Kept.next; apply State.rsEnd_keeps
  apply State.formatStore_keeps; exact h; apply Kept.ite; apply Kept.next; exact h; apply Kept.ite
  apply Kept.next; apply State.rsEnd_keeps; exact h; apply Kept.next; apply State.rsEnd_keeps
  apply State.libDone_keeps; apply State.putSlot_keeps; exact h; apply Kept.next; apply State.rsEnd_keeps
  apply State.libDone_keeps; apply State.emptySlot_keeps; exact h; apply Kept.next; apply State.rsEnd_keeps
  apply State.libDone_keeps; apply State.setStartup_keeps; exact h; apply Kept.next; apply State.rsEnd_keeps
  exact h; apply Kept.next; exact h

theorem execCntClr_keeps {z s : State} {a0 a1} (h : Keeps z s) : Kept z (execCntClr a0 a1 s) := by
  unfold execCntClr; try dsimp only
  apply Kept.next; apply State.gateF_keeps; exact h; intros; apply Keeps.ite; apply State.cntClr_keeps; assumption
  assumption

theorem execCommit_keeps {z s : State} {a0 a1 a2 a3} (h : Keeps z s) : Kept z (execCommit a0 a1 a2 a3 s) := by
  unfold execCommit; try dsimp only
  apply Kept.next; apply State.vtCmd_keeps; exact h; intros; split; apply State.vtResult_keeps; assumption
  apply Keeps.ite; apply State.vtResult_keeps; assumption; apply Keeps.ite; apply State.vtResult_keeps; assumption
  apply Keeps.ite; apply State.vtResult_keeps; assumption; apply Keeps.ite; apply State.vtResult_keeps; assumption
  apply Keeps.ite; apply State.vtResult_keeps; assumption; apply State.syncHoldOff_keeps
  apply State.vtResult_keeps; with_reducible apply Keeps.mk_; apply State.mirror_keeps; apply State.setTxn_keeps
  apply State.set_keeps; apply State.set_keeps; assumption

theorem execCommitDone_keeps {z s : State} (h : Keeps z s) : Kept z (execCommitDone s) := by
  unfold execCommitDone; try dsimp only
  apply Kept.ite; apply Kept.next; apply State.syncHoldOff_keeps; apply State.acknowledge_keeps; exact h
  apply Kept.next; exact h

end Sys2Proof.Machine
end

