-- ==== Sys2Proof/Laws/Keeps4.lean ====
section
/-!
SUPPORT. What every operation keeps (`Keeps`, Laws/Keeps.lean), part 4: one lemma per operation over the state, and per
meaning of a command one of its outcome, callees before callers.
-/
namespace Sys2Proof.Machine
open Sys2Proof

theorem State.countPress_keeps {z s : State} {a1 a2 a3} (h : Keeps z s) : Keeps z (State.countPress s a1 a2 a3)
    := by
  unfold State.countPress; try dsimp only
  apply Keeps.ite; with_reducible apply Keeps.mk_; exact h; apply Keeps.ite; with_reducible apply Keeps.mk_
  exact h; exact h

theorem State.cpPresentAt_keeps {z s : State} {a1 a2 a3 a4} (h : Keeps z s) : Keeps z (State.cpPresentAt s a1 a2
    a3 a4) := by
  unfold State.cpPresentAt; try dsimp only
  apply Keeps.ite; exact h; apply Keeps.ite; with_reducible apply Keeps.mk_; exact h
  with_reducible apply Keeps.mk_; exact h

theorem State.cpReport_keeps {z s : State} {a1 a2 a3} (h : Keeps z s) : Keeps z (State.cpReport s a1 a2 a3) := by
  unfold State.cpReport; try dsimp only
  apply Keeps.ite; apply State.raiseHw_keeps; with_reducible apply Keeps.mk_; exact h
  with_reducible apply Keeps.mk_; exact h

theorem State.decideTick_keeps {z s : State} {a1 a2 a3} (h : Keeps z s) : Keeps z (State.decideTick s a1 a2 a3)
    := by
  unfold State.decideTick; try dsimp only
  apply State.countPress_keeps; apply State.cpReport_keeps; apply State.cpPresentAt_keeps; apply Keeps.ite
  apply State.setStatus_keeps; apply State.setCp_keeps; apply Keeps.ite; with_reducible apply Keeps.mk_
  apply State.incWrap_keeps; apply State.setCp_keeps; apply State.setCp_keeps; apply State.setCp_keeps; exact h
  apply State.incWrap_keeps; apply State.setCp_keeps; apply State.setCp_keeps; apply State.setCp_keeps; exact h
  apply Keeps.ite; with_reducible apply Keeps.mk_; apply State.incWrap_keeps; apply State.setCp_keeps
  apply State.setCp_keeps; apply State.setCp_keeps; exact h; apply State.incWrap_keeps; apply State.setCp_keeps
  apply State.setCp_keeps; apply State.setCp_keeps; exact h

theorem execComparatorTick_keeps {z s : State} {a0 a1 a2} (h : Keeps z s) : Kept z (execComparatorTick a0 a1 a2
    s) := by
  unfold execComparatorTick; try dsimp only
  apply Kept.ite; apply Kept.next; exact h; apply Kept.ite; apply Kept.next; apply State.setCp_keeps
  with_reducible apply Keeps.mk_; apply State.setField_keeps; apply State.flow_keeps; apply State.reachClk_keeps
  exact h; apply Kept.next; apply State.decideTick_keeps; with_reducible apply Keeps.mk_
  apply State.setField_keeps; apply State.flow_keeps; apply State.reachClk_keeps; exact h

theorem execComply_keeps {z s : State} {a0} (h : Keeps z s) : Kept z (execComply a0 s) := by
  unfold execComply; try dsimp only
  apply Kept.ite; apply Kept.next; exact h; apply Kept.next; apply State.setStatus_keeps
  apply State.setMaskBit_keeps; exact h

theorem execCountClr_keeps {z s : State} {a0 a1} (h : Keeps z s) : Kept z (execCountClr a0 a1 s) := by
  unfold execCountClr; try dsimp only
  apply Kept.next; apply State.hdrCmd_keeps; exact h

theorem execCpCfgWrite_keeps {z s : State} {a0 a1 a2 a3} (h : Keeps z s) : Kept z (execCpCfgWrite a0 a1 a2 a3 s)
    := by
  unfold execCpCfgWrite; try dsimp only
  apply Kept.next; apply State.gate_keeps; exact h; intros; apply Keeps.ite; apply State.cpWrite_keeps; assumption
  assumption

theorem execCqHeadWrite_keeps {z s : State} {a0 a1 a2} (h : Keeps z s) : Kept z (execCqHeadWrite a0 a1 a2 s) := by
  unfold execCqHeadWrite; try dsimp only
  apply Kept.next; apply State.gateF_keeps; exact h; intros; apply Keeps.ite; apply State.cqHead_keeps; assumption
  assumption

theorem State.deliver_keeps {z s : State} {a1 a2} (h : Keeps z s) : Keeps z (State.deliver s a1 a2) := by
  unfold State.deliver; try dsimp only
  split; split; exact h; apply State.setFine_keeps; exact h; split; exact h; apply State.setWord_keeps; exact h
  split; exact h; with_reducible apply Keeps.mk_; exact h; with_reducible apply Keeps.mk_; exact h
  with_reducible apply Keeps.mk_; exact h; exact h; exact h; exact h; exact h; exact h; exact h

theorem State.forwardOne_keeps {z s : State} {a1 a2} (h : Keeps z s) : Keeps z (State.forwardOne s a1 a2) := by
  unfold State.forwardOne; try dsimp only
  apply Keeps.ite; apply Keeps.ite; apply State.clearJoined_keeps; refine Keeps.foldl ?_ ?_; exact h; intros
  apply State.present'_keeps; assumption; refine Keeps.foldl ?_ ?_; exact h; intros; apply State.present'_keeps
  assumption; exact h

theorem State.laneTake_keeps {z s : State} {a1 a2} (h : Keeps z s) : Keeps z (State.laneTake s a1 a2) := by
  unfold State.laneTake; try dsimp only
  apply Keeps.ite; with_reducible apply Keeps.mk_; apply State.setLane_keeps; exact h; exact h

theorem State.deliverAll_keeps {z s : State} {a1 a2 a3} (h : Keeps z s) : Keeps z (State.deliverAll s a1 a2 a3)
    := by
  unfold State.deliverAll; try dsimp only
  refine Keeps.foldl ?_ ?_; apply State.flow_keeps; refine Keeps.foldl ?_ ?_; with_reducible apply Keeps.mk_
  exact h; intros; apply State.deliver_keeps; assumption; intros; split; apply State.forwardOne_keeps; assumption
  apply State.laneTake_keeps; assumption; assumption

theorem execCrossbarTransfer_keeps {z s : State} {a0} (h : Keeps z s) : Kept z (execCrossbarTransfer a0 s) := by
  unfold execCrossbarTransfer; try dsimp only
  split; apply Kept.next; exact h; split; apply Kept.next; exact h; apply Kept.ite; apply Kept.next
  apply State.settle_keeps; apply State.deliverAll_keeps; exact h; apply Kept.next; exact h

theorem execDaCfgWrite_keeps {z s : State} {a0 a1 a2} (h : Keeps z s) : Kept z (execDaCfgWrite a0 a1 a2 s) := by
  unfold execDaCfgWrite; try dsimp only
  apply Kept.next; apply State.gate_keeps; exact h; intros; apply Keeps.ite; apply State.daCfg_keeps; assumption
  assumption

theorem execDaRestore_keeps {z s : State} {a0 a1 a2} (h : Keeps z s) : Kept z (execDaRestore a0 a1 a2 s) := by
  unfold execDaRestore; try dsimp only
  apply Kept.next; apply State.gateF_keeps; exact h; intros; apply Keeps.ite; apply State.each_keeps; assumption
  intros; apply State.restoreOut_keeps; assumption; assumption

theorem execDaTrip_keeps {z s : State} {a0} (h : Keeps z s) : Kept z (execDaTrip a0 s) := by
  unfold execDaTrip; try dsimp only
  apply Kept.ite; apply Kept.next; exact h; apply Kept.next; apply State.raiseOwn_keeps
  apply State.setStatus_keeps; apply State.setMaskBit_keeps; apply State.setDa_keeps; apply State.setOut_keeps
  exact h; intros; dsimp only [id]; assumption

theorem State.haRequest_keeps {z s : State} (h : Keeps z s) : Keeps z (State.haRequest s) := by
  unfold State.haRequest; try dsimp only
  apply Keeps.ite; exact h; split; exact h; apply State.setStatus_keeps; apply State.each_keeps
  apply State.set_keeps; apply State.set_keeps; apply State.set_keeps; exact h; intros; split
  apply State.setReg_keeps; assumption; apply State.set_keeps; apply State.set_keeps; apply State.set_keeps
  assumption

theorem execDispatch_keeps {z s : State} {a0} (h : Keeps z s) : Kept z (execDispatch a0 s) := by
  unfold execDispatch; try dsimp only
  apply Kept.next; apply Keeps.ite; exact h; apply Keeps.ite; apply State.haRequest_keeps; exact h
  apply State.dispatchOne_keeps; exact h

theorem execDomainOff_keeps {z s : State} {a0} (h : Keeps z s) : Kept z (execDomainOff a0 s) := by
  unfold execDomainOff; try dsimp only
  apply Kept.ite; apply Kept.next; exact h; apply Kept.next; apply Keeps.ite; with_reducible apply Keeps.mk_
  apply State.domDown_keeps; exact h; apply State.domDown_keeps; exact h

theorem State.bindWorkers_keeps {z s : State} {a1} (h : Keeps z s) : Keeps z (State.bindWorkers s a1) := by
  unfold State.bindWorkers; try dsimp only
  apply State.each_keeps; exact h; intros; apply State.set_keeps; assumption

theorem State.resetPage_keeps {z s : State} {a1} (h : Keeps z s) : Keeps z (State.resetPage s a1) := by
  unfold State.resetPage; try dsimp only
  apply Keeps.ite; apply State.set_keeps; apply State.set_keeps; apply Keeps.ite; apply State.setReg_keeps
  apply State.set_keeps; apply State.set_keeps; apply State.resetRegs_keeps; exact h; apply State.resetRegs_keeps
  exact h; apply Keeps.ite; apply State.setReg_keeps; apply State.set_keeps; apply State.set_keeps
  apply State.resetRegs_keeps; exact h; apply State.resetRegs_keeps; exact h

theorem State.domUp_keeps {z s : State} {a1} (h : Keeps z s) : Keeps z (State.domUp s a1) := by
  unfold State.domUp; try dsimp only
  apply Keeps.ite; exact h; apply State.dozeSync_keeps; apply Keeps.ite; refine Keeps.foldl ?_ ?_
  apply State.restoreBank_keeps; apply State.each_keeps; apply State.setDomOn_keeps; exact h; intros
  apply State.resetPage_keeps; assumption; intros; apply State.releasePad_keeps; assumption; apply Keeps.ite
  apply Keeps.ite; apply State.refreshShunts_keeps; apply State.markCellErr_keeps; apply State.muteRunning_keeps
  apply State.each_keeps; apply State.setDomOn_keeps; exact h; intros; apply State.resetPage_keeps; assumption
  apply State.each_keeps; apply State.setDomOn_keeps; exact h; intros; apply State.resetPage_keeps; assumption
  apply Keeps.ite; apply State.convOn_keeps; apply State.each_keeps; apply State.setDomOn_keeps; exact h; intros
  apply State.resetPage_keeps; assumption; apply Keeps.ite; apply State.each_keeps; apply State.each_keeps
  apply State.setDomOn_keeps; exact h; intros; apply State.resetPage_keeps; assumption; intros
  apply State.cpSyncPage_keeps; assumption; apply Keeps.ite; apply State.calCtrl_keeps; apply State.each_keeps
  apply State.setDomOn_keeps; exact h; intros; apply State.resetPage_keeps; assumption; apply Keeps.ite
  apply State.each_keeps; apply State.each_keeps; apply State.setDomOn_keeps; exact h; intros
  apply State.resetPage_keeps; assumption; intros; apply State.bindWorkers_keeps; assumption; apply Keeps.ite
  apply State.each_keeps; apply State.each_keeps; apply State.setDomOn_keeps; exact h; intros
  apply State.resetPage_keeps; assumption; intros; apply State.fcSync_keeps; assumption; apply State.each_keeps
  apply State.setDomOn_keeps; exact h; intros; apply State.resetPage_keeps; assumption

theorem execDomainOn_keeps {z s : State} {a0} (h : Keeps z s) : Kept z (execDomainOn a0 s) := by
  unfold execDomainOn; try dsimp only
  apply Kept.ite; apply Kept.next; exact h; apply Kept.next; apply State.bootPoll_keeps; apply Keeps.ite
  apply State.checkWords_keeps; apply State.admitRamps_keeps; apply State.domUp_keeps; apply State.admitRamps_keeps; exact h
  intros; apply State.resetChecked_keeps; assumption; apply State.admitRamps_keeps; apply State.domUp_keeps
  apply State.admitRamps_keeps; exact h

theorem execDomainOnTimeout_keeps {z s : State} {a0} (h : Keeps z s) : Kept z (execDomainOnTimeout a0 s) := by
  unfold execDomainOnTimeout; try dsimp only
  apply Kept.next; apply Keeps.ite; apply State.raiseOwn_keeps; exact h; intros; dsimp only [id]; assumption
  exact h

theorem execDozeWake_keeps {z s : State} {a0} (h : Keeps z s) : Kept z (execDozeWake a0 s) := by
  unfold execDozeWake; try dsimp only
  apply Kept.ite; apply Kept.next; apply State.setStatus_keeps; apply State.toRun_keeps; exact h; apply Kept.next
  exact h

theorem execEdge_keeps {z s : State} {a0 a1} (h : Keeps z s) : Kept z (execEdge a0 a1 s) := by
  unfold execEdge; try dsimp only
  apply Kept.ite; apply Kept.next; exact h; apply Kept.ite; apply Kept.next; apply State.flow_keeps
  apply State.setStatus_keeps; apply State.setMaskBit_keeps; apply State.mirrorPads_keeps
  apply State.setMaskBit_keeps; exact h; apply Kept.next; apply State.flow_keeps; apply State.mirrorPads_keeps
  apply State.setMaskBit_keeps; exact h

theorem execEndCmd_keeps {z s : State} {a0} (h : Keeps z s) : Kept z (execEndCmd a0 s) := by
  unfold execEndCmd; try dsimp only
  apply Kept.next; apply State.bootAfter_keeps; apply State.loadCmd_keeps; exact h

theorem State.putQuotient_keeps {z s : State} {a1 a2 a3} (h : Keeps z s) : Keeps z (State.putQuotient s a1 a2 a3)
    := by
  unfold State.putQuotient; try dsimp only
  apply State.set_keeps; apply State.quotient_keeps; exact h

theorem execEnergyMeasurement_keeps {z s : State} (h : Keeps z s) : Kept z (execEnergyMeasurement s) := by
  unfold execEnergyMeasurement; try dsimp only
  split; apply Kept.next; exact h; apply Kept.next; apply State.syncHoldOff_keeps; apply State.putQuotient_keeps
  apply State.putQuotient_keeps; apply State.putQuotient_keeps; apply State.set_keeps
  with_reducible apply Keeps.mk_; exact h

theorem execEnergyStale_keeps {z s : State} (h : Keeps z s) : Kept z (execEnergyStale s) := by
  unfold execEnergyStale; try dsimp only
  apply Kept.ite; apply Kept.next; exact h; apply Kept.next; apply Keeps.ite; apply State.raiseFault_keeps
  apply State.syncHoldOff_keeps; apply State.setStatus_keeps; apply State.set_keeps
  with_reducible apply Keeps.mk_; exact h; intros; dsimp only [id]; assumption; apply State.syncHoldOff_keeps
  apply State.setStatus_keeps; apply State.set_keeps; with_reducible apply Keeps.mk_; exact h

theorem execEnum_keeps {z s : State} {a0} (h : Keeps z s) : Kept z (execEnum a0 s) := by
  unfold execEnum; try dsimp only
  apply Kept.next; apply State.gateF_keeps; exact h; intros; apply State.enumerate_keeps; assumption

theorem State.setRange_keeps {z s : State} {a1 a2} (h : Keeps z s) : Keeps z (State.setRange s a1 a2) := by
  unfold State.setRange; try dsimp only
  split; apply State.set_keeps; apply State.set_keeps; apply State.set_keeps; exact h; apply State.set_keeps
  apply State.set_keeps; apply State.set_keeps; exact h

theorem execEnumDone_keeps {z s : State} {a0 a1 a2 a3 a4} (h : Keeps z s) : Kept z (execEnumDone a0 a1 a2 a3 a4
    s) := by
  unfold execEnumDone; try dsimp only
  apply Kept.ite; apply Kept.next; exact h; apply Kept.ite; split; apply Kept.next; apply State.raiseFault_keeps
  apply State.setStatus_keeps; apply State.set_keeps; apply State.set_keeps; apply State.each_keeps
  apply State.set_keeps; split; apply State.setStatus_keeps; apply State.set_keeps; apply State.set_keeps
  apply State.set_keeps; exact h; apply State.set_keeps; exact h; intros; apply State.setRange_keeps; assumption
  intros; dsimp only [id]; assumption; apply Kept.next; apply State.setStatus_keeps; apply State.set_keeps
  apply State.set_keeps; apply State.each_keeps; apply State.set_keeps; split; apply State.setStatus_keeps
  apply State.set_keeps; apply State.set_keeps; apply State.set_keeps; exact h; apply State.set_keeps; exact h
  intros; apply State.setRange_keeps; assumption; apply Kept.next; apply State.each_keeps; apply State.set_keeps
  split; apply State.setStatus_keeps; apply State.set_keeps; apply State.set_keeps; apply State.set_keeps; exact h
  apply State.set_keeps; exact h; intros; apply State.setRange_keeps; assumption

theorem execErrorPulseEnd_keeps {z s : State} (h : Keeps z s) : Kept z (execErrorPulseEnd s) := by
  unfold execErrorPulseEnd; try dsimp only
  apply Kept.next; apply State.errorRelease_keeps; with_reducible apply Keeps.mk_; exact h

theorem State.takePort_keeps {z s : State} {a1} (h : Keeps z s) : Keeps z (State.takePort s a1) := by
  unfold State.takePort; try dsimp only
  apply State.settle_keeps; with_reducible apply Keeps.mk_; exact h

theorem execFabricCompletion_keeps {z s : State} {a0} (h : Keeps z s) : Kept z (execFabricCompletion a0 s) := by
  unfold execFabricCompletion; try dsimp only
  apply Kept.ite; apply Kept.next; exact h; apply Kept.ite; apply Kept.next; apply State.incSat_keeps
  with_reducible apply Keeps.mk_; apply State.takePort_keeps; exact h; split; apply Kept.next
  apply State.flow_keeps; apply State.complete_keeps; apply State.takePort_keeps; exact h; apply Kept.next
  apply State.raiseFault_keeps; apply State.takePort_keeps; exact h; intros; dsimp only [id]; assumption

theorem execFabricStartLine_keeps {z s : State} {a0} (h : Keeps z s) : Kept z (execFabricStartLine a0 s) := by
  unfold execFabricStartLine; try dsimp only
  split; apply Kept.next; exact h; apply Kept.ite; apply Kept.next; apply State.startTimer_keeps
  apply State.edgeAt_keeps; refine State.takeTrig_keeps ?_ (by assumption); exact h; apply Kept.next
  refine State.takeTrig_keeps ?_ (by assumption); exact h

theorem State.refuseSub_keeps {z s : State} {a1 a2 a3} (h : Keeps z s) : Keeps z (State.refuseSub s a1 a2 a3) := by
  unfold State.refuseSub; try dsimp only
  apply State.raiseFault_keeps; apply State.returnHandle_keeps; apply State.setStatus_keeps
  apply State.incSat_keeps; exact h; intros; dsimp only [id]; assumption

theorem State.submit_keeps {z s : State} {a1 a2 a3 a4} (h : Keeps z s) : Keeps z (State.submit s a1 a2 a3 a4) := by
  unfold State.submit; try dsimp only
  apply Keeps.ite; apply State.refuseSub_keeps; exact h; apply Keeps.ite; with_reducible apply Keeps.mk_; exact h
  apply Keeps.ite; apply State.returnHandle_keeps; apply State.enqueue_keeps; exact h
  apply State.traceStall_keeps; with_reducible apply Keeps.mk_; exact h

theorem State.subWord_keeps {z s : State} {a1 a2 a3 a4} (h : Keeps z s) : Keeps z (State.subWord s a1 a2 a3 a4)
    := by
  unfold State.subWord; try dsimp only
  apply Keeps.ite; apply State.takePort_keeps; with_reducible apply Keeps.mk_; exact h; apply State.settle_keeps
  apply Keeps.ite; with_reducible apply Keeps.mk_; exact h; apply State.submit_keeps
  with_reducible apply Keeps.mk_; exact h

theorem execFabricSubmission_keeps {z s : State} {a0} (h : Keeps z s) : Kept z (execFabricSubmission a0 s) := by
  unfold execFabricSubmission; try dsimp only
  split; apply Kept.next; exact h; apply Kept.ite; apply Kept.next; exact h; split; apply Kept.next
  apply Keeps.ite; apply State.subWord_keeps; exact h; exact h; apply Kept.next; apply Keeps.ite
  apply State.subWord_keeps; exact h; exact h

theorem State.lastSpare_keeps {z s : State} {a1} (h : Keeps z s) : Keeps z (State.lastSpare s a1) := by
  unfold State.lastSpare; try dsimp only
  apply Keeps.ite; apply State.raiseFault_keeps; exact h; intros; apply State.setStatus_keeps
  apply State.set_keeps; assumption; exact h

theorem State.breakRecord_keeps {z s : State} {a1 a2} (h : Keeps z s) : Keeps z (State.breakRecord s a1 a2) := by
  unfold State.breakRecord; try dsimp only
  split; exact h; apply State.serveWaiting_keeps; apply State.syncTask_keeps; apply State.putTask_keeps
  apply State.stamp_keeps; apply State.brokeRecord_keeps; exact h

theorem State.discardBlock_keeps {z s : State} {a1 a2} (h : Keeps z s) : Keeps z (State.discardBlock s a1 a2) := by
  unfold State.discardBlock; try dsimp only
  split; split; exact h; apply State.addSat_keeps; apply State.setRing_keeps; exact h; apply State.addSat_keeps
  apply State.setRing_keeps; exact h

theorem State.bufferBad_keeps {z s : State} {a1 a2} (h : Keeps z s) : Keeps z (State.bufferBad s a1 a2) := by
  unfold State.bufferBad; try dsimp only
  split; exact h; apply State.discardBlock_keeps; exact h

theorem State.cvParity_keeps {z s : State} {a1 a2} (h : Keeps z s) : Keeps z (State.cvParity s a1 a2) := by
  unfold State.cvParity; try dsimp only
  apply Keeps.ite; apply State.sliceFails_keeps; exact h; apply Keeps.ite; apply State.modConv_keeps; exact h
  exact h

theorem State.mpRestart_keeps {z s : State} (h : Keeps z s) : Keeps z (State.mpRestart s) := by
  unfold State.mpRestart; try dsimp only
  apply State.setStatus_keeps; apply State.incWrap_keeps; with_reducible apply Keeps.mk_; exact h

theorem State.retireBlock_keeps {z s : State} {a1} (h : Keeps z s) : Keeps z (State.retireBlock s a1) := by
  unfold State.retireBlock; try dsimp only
  apply Keeps.ite; apply State.haReq_keeps; apply State.draw_keeps; exact h; apply State.set_keeps
  apply State.incSat_keeps; exact h

theorem State.localEffect_keeps {z s : State} {a1 a2 a3 a4 a5} (h : Keeps z s) : Keeps z (State.localEffect s a1
    a2 a3 a4 a5) := by
  unfold State.localEffect; try dsimp only
  split; apply Keeps.ite; exact State.dropReg_keeps (by assumption); exact h; apply State.mpRestart_keeps; exact h
  apply State.mpRestart_keeps; exact h; apply State.bootAfter_keeps; apply State.stopLoad_keeps; exact h
  apply State.bootAfter_keeps; apply State.stopLoad_keeps; exact h; apply Keeps.ite
  with_reducible apply Keeps.mk_; exact h; exact h; apply State.cvParity_keeps; exact h; apply Keeps.ite
  apply State.chainSync_keeps; apply State.setFc_keeps; exact h; exact h; apply State.changeChain_keeps; exact h
  apply Keeps.ite; apply Keeps.ite; exact h; apply State.cpSync_keeps; apply State.setCp_keeps; exact h; exact h
  apply Keeps.ite; apply State.when_keeps; apply State.daDisable_keeps; apply State.setDa_keeps; exact h; intros
  apply State.daWarm_keeps; assumption; exact h; apply Keeps.ite; apply State.set_keeps; exact h; exact h
  apply Keeps.ite; exact h; with_reducible apply Keeps.mk_; exact h; apply Keeps.ite; apply State.setLane_keeps
  apply State.setReg_keeps; apply State.set_keeps; exact h; apply State.each_keeps; exact h; intros
  apply State.setLane_keeps; apply State.setReg_keeps; apply State.set_keeps; assumption; apply State.set_keeps
  with_reducible apply Keeps.mk_; exact h; apply State.breakRecord_keeps; exact h; apply Keeps.ite; exact h
  with_reducible apply Keeps.mk_; exact h; apply Keeps.ite; apply State.set_keeps; exact h; apply State.set_keeps
  exact h; apply State.bufferBad_keeps; exact h; apply Keeps.ite; apply State.set_keeps
  apply State.discardRing_keeps; exact h; exact h; apply Keeps.ite; apply State.set_keeps
  apply State.discardRing_keeps; exact h; exact h; apply Keeps.ite; exact h; with_reducible apply Keeps.mk_
  exact h; apply State.retireBlock_keeps; exact h; with_reducible apply Keeps.mk_; exact h
  apply State.setStatus_keeps; apply State.set_keeps; exact h; exact h

theorem execFaultDetected_keeps {z s : State} {a0 a1 a2 a3 a4 a5} (h : Keeps z s) : Kept z (execFaultDetected a0
    a1 a2 a3 a4 a5 s) := by
  unfold execFaultDetected; try dsimp only
  split; apply Kept.next; exact h; apply Kept.ite; apply Kept.next; exact h; apply Kept.next; apply Keeps.ite
  apply State.lastSpare_keeps; apply State.raiseFault_keeps; apply Keeps.ite; apply State.spendInjection_keeps
  exact h; exact h; intros; apply State.localEffect_keeps; assumption; apply State.raiseFault_keeps
  apply Keeps.ite; apply State.spendInjection_keeps; exact h; exact h; intros; apply State.localEffect_keeps
  assumption

theorem execFaultRegisterParityCheck_keeps {z s : State} {a0 a1 a2} (h : Keeps z s) : Kept z
    (execFaultRegisterParityCheck a0 a1 a2 s) := by
  unfold execFaultRegisterParityCheck; try dsimp only
  apply Kept.ite; apply Kept.next; exact h; apply Kept.next; apply State.raiseOwn_keeps; apply Keeps.ite
  with_reducible apply Keeps.mkIn; exact h; exact h; intros; dsimp only [id]; assumption

theorem execFeRearm_keeps {z s : State} {a0 a1} (h : Keeps z s) : Kept z (execFeRearm a0 a1 s) := by
  unfold execFeRearm; try dsimp only
  apply Kept.next; apply State.hdrCmd_keeps; exact h

theorem State.thrEvent_keeps {z s : State} {a1 a2 a3 a4 a5} (h : Keeps z s) : Keeps z (State.thrEvent s a1 a2 a3
    a4 a5) := by
  unfold State.thrEvent; try dsimp only
  split; exact h; apply Keeps.ite; apply State.setFc_keeps; exact h; apply State.raiseHw_keeps
  apply State.setStatus_keeps; apply State.setMaskBit_keeps; apply State.setFc_keeps; exact h

theorem State.filterOutput_keeps {z s : State} {a1 a2 a3 a4 a5} (h : Keeps z s) : Keeps z (State.filterOutput s
    a1 a2 a3 a4 a5) := by
  unfold State.filterOutput; try dsimp only
  apply Keeps.ite; apply State.setStatus_keeps; apply State.incSat_keeps; apply State.offerItem_keeps
  apply State.thrEvent_keeps; apply State.thrEvent_keeps; apply State.incWrap_keeps; apply State.set64_keeps
  apply State.setFc_keeps; apply Keeps.ite; apply State.setStatus_keeps; apply State.setFc_keeps; exact h
  apply State.setFc_keeps; exact h; apply State.offerItem_keeps; apply State.thrEvent_keeps
  apply State.thrEvent_keeps; apply State.incWrap_keeps; apply State.set64_keeps; apply State.setFc_keeps
  apply Keeps.ite; apply State.setStatus_keeps; apply State.setFc_keeps; exact h; apply State.setFc_keeps; exact h

theorem State.filterAccept_keeps {z s : State} {a1 a2 a3 a4 a5} (h : Keeps z s) : Keeps z (State.filterAccept s
    a1 a2 a3 a4 a5) := by
  unfold State.filterAccept; try dsimp only
  apply Keeps.ite; apply State.setChain_keeps; exact h; apply State.filterOutput_keeps; apply State.setChain_keeps
  exact h

theorem State.takeStream_keeps {z s : State} {a1} (h : Keeps z s) : Keeps z (State.takeStream s a1) := by
  unfold State.takeStream; try dsimp only
  apply State.settle_keeps; apply Keeps.ite; apply State.offerPort_keeps; with_reducible apply Keeps.mk_; exact h
  with_reducible apply Keeps.mk_; exact h

theorem State.portInput_keeps {z s : State} {a1} (h : Keeps z s) : Keeps z (State.portInput s a1) := by
  unfold State.portInput; try dsimp only
  apply Keeps.ite; apply State.takeStream_keeps; exact h; exact h

theorem execFilterInput_keeps {z s : State} {a0} (h : Keeps z s) : Kept z (execFilterInput a0 s) := by
  unfold execFilterInput; try dsimp only
  split; apply Kept.next; apply State.portInput_keeps; exact h; apply Kept.next; apply Keeps.ite
  apply State.settle_keeps; apply Keeps.ite; apply State.filterAccept_keeps; with_reducible apply Keeps.mk_
  apply State.portInput_keeps; exact h; with_reducible apply Keeps.mk_; apply State.portInput_keeps; exact h
  apply Keeps.ite; apply State.filterAccept_keeps; with_reducible apply Keeps.mk_; apply State.portInput_keeps
  exact h; with_reducible apply Keeps.mk_; apply State.portInput_keeps; exact h

theorem execFirmwareRestartDone_keeps {z s : State} (h : Keeps z s) : Kept z (execFirmwareRestartDone s) := by
  unfold execFirmwareRestartDone; try dsimp only
  apply Kept.next; with_reducible apply Keeps.mk_; exact h

theorem execFirmwareUpdate_keeps {z s : State} {a0} (h : Keeps z s) : Kept z (execFirmwareUpdate a0 s) := by
  unfold execFirmwareUpdate; try dsimp only
  apply Kept.next; apply State.gateF_keeps; exact h; intros; apply State.startUpdate_keeps; assumption

theorem execFlowTableWrite_keeps {z s : State} {a0 a1 a2} (h : Keeps z s) : Kept z (execFlowTableWrite a0 a1 a2
    s) := by
  unfold execFlowTableWrite; try dsimp only
  apply Kept.next; apply State.gate_keeps; exact h; intros; apply Keeps.ite; apply State.flowWrite_keeps
  assumption; assumption

theorem execFlushNow_keeps {z s : State} {a0 a1} (h : Keeps z s) : Kept z (execFlushNow a0 a1 s) := by
  unfold execFlushNow; try dsimp only
  apply Kept.next; apply State.gateF_keeps; exact h; intros; apply Keeps.ite; apply State.flush_keeps; assumption
  assumption

theorem execFlushTimeout_keeps {z s : State} {a0} (h : Keeps z s) : Kept z (execFlushTimeout a0 s) := by
  unfold execFlushTimeout; try dsimp only
  apply Kept.ite; apply Kept.next; exact h; split; apply Kept.next; exact h; apply Kept.next
  apply State.flush_keeps; apply State.reach_keeps; exact h

theorem execFormat_keeps {z s : State} {a0 a1} (h : Keeps z s) : Kept z (execFormat a0 a1 s) := by
  unfold execFormat; try dsimp only
  apply Kept.next; apply State.gateF_keeps; exact h; intros; apply State.rsFormat_keeps; assumption

theorem execFrame_keeps {z s : State} {a0} (h : Keeps z s) : Kept z (execFrame a0 s) := by
  unfold execFrame; try dsimp only
  apply Kept.next; apply State.bootAfter_keeps; apply State.loadCmd_keeps; exact h

theorem execGbCfgWrite_keeps {z s : State} {a0 a1 a2} (h : Keeps z s) : Kept z (execGbCfgWrite a0 a1 a2 s) := by
  unfold execGbCfgWrite; try dsimp only
  apply Kept.next; apply State.gateF_keeps; exact h; intros; apply Keeps.ite; apply State.gbCfg_keeps; assumption
  assumption

theorem execGbDirWrite_keeps {z s : State} {a0 a1 a2} (h : Keeps z s) : Kept z (execGbDirWrite a0 a1 a2 s) := by
  unfold execGbDirWrite; try dsimp only
  apply Kept.next; apply State.gateF_keeps; exact h; intros; apply Keeps.ite; apply State.gbDir_keeps; assumption
  assumption

theorem execGbOutWrite_keeps {z s : State} {a0 a1 a2} (h : Keeps z s) : Kept z (execGbOutWrite a0 a1 a2 s) := by
  unfold execGbOutWrite; try dsimp only
  apply Kept.next; apply State.gateF_keeps; exact h; intros; apply Keeps.ite; apply State.gbOut_keeps; assumption
  assumption

theorem execGbPadlock_keeps {z s : State} {a0 a1 a2} (h : Keeps z s) : Kept z (execGbPadlock a0 a1 a2 s) := by
  unfold execGbPadlock; try dsimp only
  apply Kept.next; apply State.gateF_keeps; exact h; intros; apply Keeps.ite; apply State.padlock_keeps
  assumption; assumption

theorem execGetKey_keeps {z s : State} {a0 a1} (h : Keeps z s) : Kept z (execGetKey a0 a1 s) := by
  unfold execGetKey; try dsimp only
  apply Kept.next; apply State.gateF_keeps; exact h; intros; apply Keeps.ite; apply State.set_keeps; assumption
  apply Keeps.ite; apply State.vtResult_keeps; apply State.set_keeps; assumption; apply Keeps.ite
  apply State.vtResult_keeps; apply State.set_keeps; assumption; apply Keeps.ite; apply State.vtResult_keeps
  apply State.set_keeps; assumption; with_reducible apply Keeps.mk_; apply State.set_keeps; assumption

theorem execHaDecide_keeps {z s : State} {a0 a1} (h : Keeps z s) : Kept z (execHaDecide a0 a1 s) := by
  unfold execHaDecide; try dsimp only
  apply Kept.next; apply State.gateF_keeps; exact h; intros; apply State.haDecide_keeps; assumption

theorem execHeartbeatLost_keeps {z s : State} (h : Keeps z s) : Kept z (execHeartbeatLost s) := by
  unfold execHeartbeatLost; try dsimp only
  apply Kept.ite; apply Kept.next; apply State.lostHeartbeat_keeps; exact h; apply Kept.next; exact h

theorem execHeartbeatSend_keeps {z s : State} (h : Keeps z s) : Kept z (execHeartbeatSend s) := by
  unfold execHeartbeatSend; try dsimp only
  apply Kept.ite; apply Kept.next; apply State.mirror_keeps; apply State.twinSend_keeps; exact h; apply Kept.next
  exact h

theorem execHighWordWrite_keeps {z s : State} {a0 a1 a2} (h : Keeps z s) : Kept z (execHighWordWrite a0 a1 a2 s)
    := by
  unfold execHighWordWrite; try dsimp only
  apply Kept.ite; exact Kept.fault; apply Kept.next; apply State.writeReg_keeps; exact h

theorem execHoldPfailWake_keeps {z s : State} (h : Keeps z s) : Kept z (execHoldPfailWake s) := by
  unfold execHoldPfailWake; try dsimp only
  apply Kept.next; apply Keeps.ite; apply State.wakeHold_keeps; exact h; exact h

theorem execHoldVinWake_keeps {z s : State} {a0} (h : Keeps z s) : Kept z (execHoldVinWake a0 s) := by
  unfold execHoldVinWake; try dsimp only
  apply Kept.next; apply Keeps.ite; apply State.wakeHold_keeps; exact h; exact h

theorem State.refLoss_keeps {z s : State} (h : Keeps z s) : Keeps z (State.refLoss s) := by
  unfold State.refLoss; try dsimp only
  apply Keeps.ite; apply State.raiseOwn_keeps; apply State.incWrap_keeps; apply State.enterHoldover_keeps; exact h
  intros; dsimp only [id]; assumption; exact h

theorem execHoldover_keeps {z s : State} (h : Keeps z s) : Kept z (execHoldover s) := by
  unfold execHoldover; try dsimp only
  apply Kept.next; apply State.refLoss_keeps; exact h

theorem execHoldupTrip_keeps {z s : State} (h : Keeps z s) : Kept z (execHoldupTrip s) := by
  unfold execHoldupTrip; try dsimp only
  apply Kept.ite; apply Kept.next; apply State.pressStart_keeps; exact h; apply Kept.next; exact h

theorem execHostDelayExpiry_keeps {z s : State} (h : Keeps z s) : Kept z (execHostDelayExpiry s) := by
  unfold execHostDelayExpiry; try dsimp only
  apply Kept.next; apply Keeps.ite; apply State.setHostRst_keeps; with_reducible apply Keeps.mk_; exact h; exact h

theorem execHostPulse_keeps {z s : State} {a0} (h : Keeps z s) : Kept z (execHostPulse a0 s) := by
  unfold execHostPulse; try dsimp only
  apply Kept.next; apply State.gateF_keeps; exact h; intros; apply Keeps.ite; with_reducible apply Keeps.mk_
  apply State.setHostRst_keeps; assumption; assumption

theorem State.chainEventLost_keeps {z s : State} {a1} (h : Keeps z s) : Keeps z (State.chainEventLost s a1) := by
  unfold State.chainEventLost; try dsimp only
  apply State.setStatus_keeps; apply State.incSat_keeps; exact h

theorem State.discardHw_keeps {z s : State} {a1} (h : Keeps z s) : Keeps z (State.discardHw s a1) := by
  unfold State.discardHw; try dsimp only
  apply Keeps.ite; apply State.chainEventLost_keeps; exact h; apply State.setStatus_keeps; apply State.set_keeps
  apply State.incSat_keeps; exact h

theorem execHwSourceEvent_keeps {z s : State} {a0} (h : Keeps z s) : Kept z (execHwSourceEvent a0 s) := by
  unfold execHwSourceEvent; try dsimp only
  split; apply Kept.next; exact h; apply Kept.ite; apply Kept.next; apply State.discardHw_keeps
  with_reducible apply Keeps.mk_; exact h; apply Kept.ite; apply Kept.next; with_reducible apply Keeps.mk_
  exact h; apply Kept.ite; apply Kept.next; apply State.enqueue_keeps; with_reducible apply Keeps.mk_; exact h
  apply Kept.next; apply State.traceStall_keeps; with_reducible apply Keeps.mk_; exact h

theorem State.tndCmd_keeps {z s : State} {a1 a2} (h : Keeps z s) : Keeps z (State.tndCmd s a1 a2) := by
  unfold State.tndCmd; try dsimp only
  apply State.gateF_keeps; exact h; intros; apply State.tndKey_keeps; assumption

theorem execInjectFreg_keeps {z s : State} {a0 a1} (h : Keeps z s) : Kept z (execInjectFreg a0 a1 s) := by
  unfold execInjectFreg; try dsimp only
  apply Kept.next; apply State.tndCmd_keeps; exact h

theorem execKeyedChipReset_keeps {z s : State} {a0} (h : Keeps z s) : Kept z (execKeyedChipReset a0 s) := by
  unfold execKeyedChipReset; try dsimp only
  apply Kept.next; apply State.tndCmd_keeps; exact h

theorem execKeyedSafe_keeps {z s : State} {a0} (h : Keeps z s) : Kept z (execKeyedSafe a0 s) := by
  unfold execKeyedSafe; try dsimp only
  apply Kept.next; apply State.tndCmd_keeps; exact h

theorem execKeyedSurrender_keeps {z s : State} {a0} (h : Keeps z s) : Kept z (execKeyedSurrender a0 s) := by
  unfold execKeyedSurrender; try dsimp only
  apply Kept.next; apply State.tndCmd_keeps; exact h

theorem execLaneDown_keeps {z s : State} {a0} (h : Keeps z s) : Kept z (execLaneDown a0 s) := by
  unfold execLaneDown; try dsimp only
  apply Kept.ite; apply Kept.next; exact h; apply Kept.next; apply State.raiseFault_keeps; apply Keeps.ite
  apply State.set_keeps; apply State.set_keeps; apply State.setStatus_keeps; apply State.incWrap_keeps
  apply State.setMaskBit_keeps; exact h; apply State.setStatus_keeps; apply State.incWrap_keeps
  apply State.setMaskBit_keeps; exact h; intros; dsimp only [id]; assumption

theorem State.setAligned_keeps {z s : State} {a1 a2 a3} (h : Keeps z s) : Keeps z (State.setAligned s a1 a2 a3)
    := by
  unfold State.setAligned; try dsimp only
  apply Keeps.ite; exact h; apply State.setStatus_keeps; apply State.set_keeps; exact h

theorem execLaneReceive_keeps {z s : State} {a0 a1 a2 a3 a4 a5} (h : Keeps z s) : Kept z (execLaneReceive a0 a1
    a2 a3 a4 a5 s) := by
  unfold execLaneReceive; try dsimp only
  apply Kept.ite; apply Kept.next; apply Keeps.ite; apply State.lanePresent_keeps; exact h; exact h
  apply Kept.ite; apply Kept.next; apply State.addSat_keeps; apply State.set_keeps; apply Keeps.ite
  apply State.setAligned_keeps; apply State.set_keeps; apply State.set_keeps; apply Keeps.ite
  apply State.setLane_keeps; apply Keeps.ite; apply State.lanePresent_keeps; exact h; exact h; apply Keeps.ite
  apply State.lanePresent_keeps; exact h; exact h; apply State.addSat_keeps; apply State.setAligned_keeps
  apply State.set_keeps; apply State.set_keeps; apply Keeps.ite; apply State.setLane_keeps; apply Keeps.ite
  apply State.lanePresent_keeps; exact h; exact h; apply Keeps.ite; apply State.lanePresent_keeps; exact h
  exact h; apply Kept.ite; apply Kept.next; apply Keeps.ite; apply State.setAligned_keeps; apply State.set_keeps
  apply State.set_keeps; apply Keeps.ite; apply State.setLane_keeps; apply Keeps.ite
  apply State.lanePresent_keeps; exact h; exact h; apply Keeps.ite; apply State.lanePresent_keeps; exact h
  exact h; apply State.addSat_keeps; apply State.setAligned_keeps; apply State.set_keeps; apply State.set_keeps
  apply Keeps.ite; apply State.setLane_keeps; apply Keeps.ite; apply State.lanePresent_keeps; exact h; exact h
  apply Keeps.ite; apply State.lanePresent_keeps; exact h; exact h; apply Kept.ite; apply Kept.next
  apply State.setStatus_keeps; apply State.incSat_keeps; apply State.setLane_keeps; apply Keeps.ite
  apply State.setAligned_keeps; apply State.set_keeps; apply State.set_keeps; apply Keeps.ite
  apply State.setLane_keeps; apply Keeps.ite; apply State.lanePresent_keeps; exact h; exact h; apply Keeps.ite
  apply State.lanePresent_keeps; exact h; exact h; apply State.addSat_keeps; apply State.setAligned_keeps
  apply State.set_keeps; apply State.set_keeps; apply Keeps.ite; apply State.setLane_keeps; apply Keeps.ite
  apply State.lanePresent_keeps; exact h; exact h; apply Keeps.ite; apply State.lanePresent_keeps; exact h
  exact h; apply Kept.next; apply State.lanePresent_keeps; apply State.setLane_keeps; apply Keeps.ite
  apply State.setAligned_keeps; apply State.set_keeps; apply State.set_keeps; apply Keeps.ite
  apply State.setLane_keeps; apply Keeps.ite; apply State.lanePresent_keeps; exact h; exact h; apply Keeps.ite
  apply State.lanePresent_keeps; exact h; exact h; apply State.addSat_keeps; apply State.setAligned_keeps
  apply State.set_keeps; apply State.set_keeps; apply Keeps.ite; apply State.setLane_keeps; apply Keeps.ite
  apply State.lanePresent_keeps; exact h; exact h; apply Keeps.ite; apply State.lanePresent_keeps; exact h
  exact h

theorem execLaneTransmit_keeps {z s : State} {a0 a1} (h : Keeps z s) : Kept z (execLaneTransmit a0 a1 s) := by
  unfold execLaneTransmit; try dsimp only
  apply Kept.ite; apply Kept.next; exact h; apply Kept.ite; apply Kept.next; apply State.settle_keeps
  apply State.laneTake_keeps; exact h; split; apply Kept.next; apply State.settle_keeps
  apply State.laneTake_keeps; apply State.setLane_keeps; apply State.settle_keeps; apply State.laneTake_keeps
  exact h; apply Kept.next; apply State.incSat_keeps; apply State.setLane_keeps; apply State.settle_keeps
  apply State.laneTake_keeps; exact h

theorem execLibErase_keeps {z s : State} {a0 a1} (h : Keeps z s) : Kept z (execLibErase a0 a1 s) := by
  unfold execLibErase; try dsimp only
  apply Kept.next; apply State.gateF_keeps; exact h; intros; apply State.rsLibErase_keeps; assumption

theorem State.rsLibWrite_keeps {z s : State} {a1 a2} (h : Keeps z s) : Keeps z (State.rsLibWrite s a1 a2) := by
  unfold State.rsLibWrite; try dsimp only
  apply State.rsCmd_keeps; exact h; intros; apply State.libFetch_keeps; apply State.rsBegin_keeps; assumption

theorem execLibWrite_keeps {z s : State} {a0 a1 a2} (h : Keeps z s) : Kept z (execLibWrite a0 a1 a2 s) := by
  unfold execLibWrite; try dsimp only
  apply Kept.next; apply State.gateF_keeps; exact h; intros; apply State.rsLibWrite_keeps; assumption

theorem execLinkDown_keeps {z s : State} (h : Keeps z s) : Kept z (execLinkDown s) := by
  unfold execLinkDown; try dsimp only
  apply Kept.next; apply State.hostDown_keeps; exact h

theorem execLinkTrained_keeps {z s : State} {a0} (h : Keeps z s) : Kept z (execLinkTrained a0 s) := by
  unfold execLinkTrained; try dsimp only
  apply Kept.ite; apply Kept.next; apply State.setStatus_keeps; with_reducible apply Keeps.mk_
  apply State.set_keeps; apply State.set64_keeps; apply State.set_keeps; exact h; apply Kept.next; exact h

theorem execLinkUp_keeps {z s : State} {a0} (h : Keeps z s) : Kept z (execLinkUp a0 s) := by
  unfold execLinkUp; try dsimp only
  apply Kept.ite; apply Kept.next; exact h; apply Kept.next; apply State.setStatus_keeps; apply State.set_keeps
  apply State.set_keeps; exact h

theorem execLoadStart_keeps {z s : State} {a0 a1} (h : Keeps z s) : Kept z (execLoadStart a0 a1 s) := by
  unfold execLoadStart; try dsimp only
  apply Kept.next; apply State.gateF_keeps; exact h; intros; apply State.cfgLoad_keeps; assumption

theorem execLoadStrobe_keeps {z s : State} {a0} (h : Keeps z s) : Kept z (execLoadStrobe a0 s) := by
  unfold execLoadStrobe; try dsimp only
  split; apply Kept.next; exact h; apply Kept.next; apply Keeps.ite; apply State.strobe_keeps
  apply State.reachClk_keeps; refine State.takeTrig_keeps ?_ (by assumption); exact h
  refine State.takeTrig_keeps ?_ (by assumption); exact h

theorem execLongLineClash_keeps {z s : State} {a0 a1} (h : Keeps z s) : Kept z (execLongLineClash a0 a1 s) := by
  unfold execLongLineClash; try dsimp only
  apply Kept.ite; apply Kept.next; apply State.raiseFault_keeps; apply State.setStatus_keeps
  apply State.settle_keeps; with_reducible apply Keeps.mk_; apply Keeps.ite; apply State.setMaskBit_keeps
  apply State.setMaskBit_keeps; exact h; apply State.setMaskBit_keeps; apply State.setMaskBit_keeps; exact h
  intros; dsimp only [id]; assumption; apply Kept.next; exact h

theorem execLongLineNullRelease_keeps {z s : State} {a0 a1} (h : Keeps z s) : Kept z (execLongLineNullRelease a0
    a1 s) := by
  unfold execLongLineNullRelease; try dsimp only
  apply Kept.ite; apply Kept.next; apply Keeps.ite; apply State.setMaskBit_keeps; exact h
  apply State.setMaskBit_keeps; exact h; apply Kept.next; exact h

theorem execLongLineTransfer_keeps {z s : State} {a0 a1 a2} (h : Keeps z s) : Kept z (execLongLineTransfer a0 a1
    a2 s) := by
  unfold execLongLineTransfer; try dsimp only
  split; apply Kept.next; exact h; apply Kept.ite; apply Kept.next; apply State.settle_keeps
  apply State.emptyOut_keeps; apply State.present'_keeps; with_reducible apply Keeps.mk_; exact h; apply Kept.next
  exact h

theorem execLoopLoss_keeps {z s : State} {a0} (h : Keeps z s) : Kept z (execLoopLoss a0 s) := by
  unfold execLoopLoss; try dsimp only
  apply Kept.ite; apply Kept.next; apply State.raiseOwn_keeps; apply State.each_keeps; apply State.setStatus_keeps
  apply State.incWrap_keeps; apply State.set_keeps; exact h; intros; apply State.setAligned_keeps; assumption
  intros; dsimp only [id]; assumption; apply Kept.next; exact h

theorem State.readWord_keeps {z s : State} {a1 a2} (h : Keeps z s) : Keeps z (State.readWord s a1 a2).2 := by
  unfold State.readWord; try dsimp only
  apply Keeps.ite_snd; dsimp only; with_reducible apply Keeps.mkIn; exact h; apply Keeps.ite_snd; dsimp only
  exact h; dsimp only; exact h

theorem State.readReg_keeps {z s : State} {a1 a2} (h : Keeps z s) : Keeps z (State.readReg s a1 a2) := by
  unfold State.readReg; try dsimp only
  apply Keeps.ite; with_reducible apply Keeps.mkIn; exact h; apply Keeps.ite; apply State.setStatus_keeps
  with_reducible apply Keeps.mkIn; exact h; apply Keeps.ite; apply State.setStatus_keeps
  with_reducible apply Keeps.mkIn; exact h; with_reducible apply Keeps.mkIn; apply State.readWord_keeps; exact h

theorem execLowWordRead_keeps {z s : State} {a0 a1} (h : Keeps z s) : Kept z (execLowWordRead a0 a1 s) := by
  unfold execLowWordRead; try dsimp only
  apply Kept.ite; exact Kept.fault; apply Kept.next; apply State.readReg_keeps; exact h

theorem execLowWordWrite_keeps {z s : State} {a0 a1 a2} (h : Keeps z s) : Kept z (execLowWordWrite a0 a1 a2 s) := by
  unfold execLowWordWrite; try dsimp only
  apply Kept.ite; exact Kept.fault; apply Kept.next; apply State.writeReg_keeps; exact h

theorem execLsFire_keeps {z s : State} {a0 a1} (h : Keeps z s) : Kept z (execLsFire a0 a1 s) := by
  unfold execLsFire; try dsimp only
  apply Kept.next; apply State.gateF_keeps; exact h; intros; apply State.lsFire_keeps; assumption

theorem execManagementProcessorCompletion_keeps {z s : State} {a0 a1} (h : Keeps z s) : Kept z
    (execManagementProcessorCompletion a0 a1 s) := by
  unfold execManagementProcessorCompletion; try dsimp only
  split; apply Kept.next; exact h; apply Kept.next; apply State.complete_keeps; exact h

theorem State.upset_keeps {z s : State} {a1 a2 a3 a4} (h : Keeps z s) : Keeps z (State.upset s a1 a2 a3 a4) := by
  unfold State.upset; try dsimp only
  apply Keeps.ite; with_reducible apply Keeps.mk_; refine Keeps.foldl ?_ ?_; exact h; intros; apply Keeps.ite
  apply State.setByte_keeps; assumption; assumption; refine Keeps.foldl ?_ ?_; exact h; intros; apply Keeps.ite
  apply State.setByte_keeps; assumption; assumption

theorem State.upsets_keeps {z s : State} {a1 a2 a3 a4} (h : Keeps z s) : Keeps z (State.upsets s a1 a2 a3 a4) := by
  unfold State.upsets; try dsimp only
  refine Keeps.foldl ?_ ?_; exact h; intros; apply State.upset_keeps; assumption

theorem execMemoryAccess_keeps {z s : State} {a0 a1 a2 a3} (h : Keeps z s) : Kept z (execMemoryAccess a0 a1 a2 a3
    s) := by
  unfold execMemoryAccess; try dsimp only
  apply Kept.ite; apply Kept.ite; apply Kept.next; apply State.takePort_keeps; apply State.present'_keeps
  with_reducible apply Keeps.mkIn; apply State.localWrite_keeps; apply State.upsets_keeps; exact h
  apply Kept.next; apply State.takePort_keeps; apply State.present'_keeps; with_reducible apply Keeps.mkIn
  apply State.memRead_keeps; apply State.upsets_keeps; exact h; apply Kept.next; exact h

theorem execMemoryScrub_keeps {z s : State} {a0 a1} (h : Keeps z s) : Kept z (execMemoryScrub a0 a1 s) := by
  unfold execMemoryScrub; try dsimp only
  apply Kept.ite; split; apply Kept.next; with_reducible apply Keeps.mk_; split; apply Keeps.ite
  apply State.reachClk_keeps; exact h; exact h; apply State.eccWord_keeps; apply State.upset_keeps
  apply Keeps.ite; apply State.reachClk_keeps; exact h; exact h; apply Kept.next; apply State.setStatus_keeps
  apply State.incWrap_keeps; with_reducible apply Keeps.mk_; split; apply Keeps.ite; apply State.reachClk_keeps
  exact h; exact h; apply State.eccWord_keeps; apply State.upset_keeps; apply Keeps.ite
  apply State.reachClk_keeps; exact h; exact h; apply Kept.next; exact h

theorem execMgmtI2cRead_keeps {z s : State} {a0} (h : Keeps z s) : Kept z (execMgmtI2cRead a0 s) := by
  unfold execMgmtI2cRead; try dsimp only
  apply Kept.ite; apply Kept.next; exact h; apply Kept.next; with_reducible apply Keeps.mkIn
  apply State.readReg_keeps; exact h

theorem execMgmtI2cWrite_keeps {z s : State} {a0 a1 a2} (h : Keeps z s) : Kept z (execMgmtI2cWrite a0 a1 a2 s) := by
  unfold execMgmtI2cWrite; try dsimp only
  apply Kept.ite; apply Kept.next; exact h; apply Kept.ite; apply Kept.next; with_reducible apply Keeps.mkIn
  exact h; apply Kept.next; with_reducible apply Keeps.mkIn; apply State.writeReg_keeps; exact h

theorem execMgmtSpiLoader_keeps {z s : State} {a0} (h : Keeps z s) : Kept z (execMgmtSpiLoader a0 s) := by
  unfold execMgmtSpiLoader; try dsimp only
  apply Kept.ite; apply Kept.next; exact h; apply Kept.ite; apply Kept.next; apply Keeps.ite
  apply State.bootAfter_keeps; apply State.stopLoad_keeps; exact h; exact h; apply Kept.next
  with_reducible apply Keeps.mk_; apply Keeps.ite; apply State.startLoad_keeps; exact h; exact h

theorem State.frameRead_keeps {z s : State} {a1 a2 a3} (h : Keeps z s) : Keeps z (State.frameRead s a1 a2 a3) := by
  unfold State.frameRead; try dsimp only
  with_reducible apply Keeps.mkIn; apply State.readReg_keeps; exact h

theorem execMgmtSpiRead_keeps {z s : State} {a0 a1} (h : Keeps z s) : Kept z (execMgmtSpiRead a0 a1 s) := by
  unfold execMgmtSpiRead; try dsimp only
  apply Kept.next; apply Keeps.ite; with_reducible apply Keeps.mkIn; apply State.frameRead_keeps; exact h; exact h

theorem execMgmtSpiStatus_keeps {z s : State} (h : Keeps z s) : Kept z (execMgmtSpiStatus s) := by
  unfold execMgmtSpiStatus; try dsimp only
  apply Kept.next; apply Keeps.ite; with_reducible apply Keeps.mkIn; exact h; exact h

theorem State.frameWrite_keeps {z s : State} {a1 a2 a3 a4} (h : Keeps z s) : Keeps z (State.frameWrite s a1 a2 a3
    a4).2 := by
  unfold State.frameWrite; try dsimp only
  apply Keeps.ite_snd; dsimp only; apply State.writeReg_keeps; exact h; dsimp only; exact h

theorem execMgmtSpiWrite_keeps {z s : State} {a0 a1 a2} (h : Keeps z s) : Kept z (execMgmtSpiWrite a0 a1 a2 s) := by
  unfold execMgmtSpiWrite; try dsimp only
  apply Kept.next; apply Keeps.ite; with_reducible apply Keeps.mkIn; apply State.frameWrite_keeps; exact h
  exact h

theorem execMirrorRefresh_keeps {z s : State} (h : Keeps z s) : Kept z (execMirrorRefresh s) := by
  unfold execMirrorRefresh; try dsimp only
  apply Kept.next; refine Keeps.foldl ?_ ?_; exact h; intros; split; assumption; apply Keeps.ite
  apply State.mirror_keeps; assumption; assumption

theorem execMissedHeartbeat_keeps {z s : State} (h : Keeps z s) : Kept z (execMissedHeartbeat s) := by
  unfold execMissedHeartbeat; try dsimp only
  apply Kept.ite; apply Kept.next; apply State.set_keeps; apply State.incWrap_keeps; exact h; apply Kept.next
  exact h

theorem State.mountStore_keeps {z s : State} {a1 a2} (h : Keeps z s) : Keeps z (State.mountStore s a1 a2) := by
  unfold State.mountStore; try dsimp only
  apply State.syncHoldOff_keeps; apply State.setStatus_keeps; with_reducible apply Keeps.mk_
  apply State.set_keeps; apply State.set_keeps; apply State.takeVault_keeps; split; exact h; apply Keeps.ite
  apply State.takeVault_keeps; apply State.set_keeps; with_reducible apply Keeps.mk_; exact h
  apply State.set_keeps; apply State.set_keeps; with_reducible apply Keeps.mk_; exact h

theorem execMountDone_keeps {z s : State} {a0 a1 a2 a3 a4 a5 a6} (h : Keeps z s) : Kept z (execMountDone a0 a1 a2
    a3 a4 a5 a6 s) := by
  unfold execMountDone; try dsimp only
  apply Kept.ite; apply Kept.next; exact h; apply Kept.next; apply Keeps.ite; apply State.bootFive_keeps
  apply Keeps.ite; apply State.raiseFault_keeps; apply State.cpSyncPage_keeps; apply Keeps.ite
  apply State.mountStore_keeps; apply State.setReg_keeps; apply State.setReg_keeps; apply State.setReg_keeps
  apply State.set_keeps; exact h; apply State.setReg_keeps; apply State.setReg_keeps; apply State.setReg_keeps
  apply State.set_keeps; exact h; intros; dsimp only [id]; assumption; apply State.cpSyncPage_keeps
  apply Keeps.ite; apply State.mountStore_keeps; apply State.setReg_keeps; apply State.setReg_keeps
  apply State.setReg_keeps; apply State.set_keeps; exact h; apply State.setReg_keeps; apply State.setReg_keeps
  apply State.setReg_keeps; apply State.set_keeps; exact h; apply Keeps.ite; apply State.raiseFault_keeps
  apply State.cpSyncPage_keeps; apply Keeps.ite; apply State.mountStore_keeps; apply State.setReg_keeps
  apply State.setReg_keeps; apply State.setReg_keeps; apply State.set_keeps; exact h; apply State.setReg_keeps
  apply State.setReg_keeps; apply State.setReg_keeps; apply State.set_keeps; exact h; intros; dsimp only [id]
  assumption; apply State.cpSyncPage_keeps; apply Keeps.ite; apply State.mountStore_keeps
  apply State.setReg_keeps; apply State.setReg_keeps; apply State.setReg_keeps; apply State.set_keeps; exact h
  apply State.setReg_keeps; apply State.setReg_keeps; apply State.setReg_keeps; apply State.set_keeps; exact h

theorem execMpHeartbeat_keeps {z s : State} (h : Keeps z s) : Kept z (execMpHeartbeat s) := by
  unfold execMpHeartbeat; try dsimp only
  apply Kept.next; exact h

theorem execMpWatchExpiry_keeps {z s : State} (h : Keeps z s) : Kept z (execMpWatchExpiry s) := by
  unfold execMpWatchExpiry; try dsimp only
  apply Kept.ite; apply Kept.next; exact h; apply Kept.next; apply State.raiseOwn_keeps; exact h; intros
  apply State.mpRestart_keeps; assumption

theorem execNandNotResponding_keeps {z s : State} {a0} (h : Keeps z s) : Kept z (execNandNotResponding a0 s) := by
  unfold execNandNotResponding; try dsimp only
  apply Kept.ite; apply Kept.next; apply State.raiseFault_keeps; exact h; intros; dsimp only [id]; assumption
  apply Kept.next; exact h

theorem execNmiPulseEnd_keeps {z s : State} (h : Keeps z s) : Kept z (execNmiPulseEnd s) := by
  unfold execNmiPulseEnd; try dsimp only
  apply Kept.next; apply State.syncNmi_keeps; with_reducible apply Keeps.mk_; exact h

theorem execOffWrite_keeps {z s : State} {a0 a1 a2} (h : Keeps z s) : Kept z (execOffWrite a0 a1 a2 s) := by
  unfold execOffWrite; try dsimp only
  apply Kept.ite; exact Kept.fault; apply Kept.next; apply State.writeReg_keeps; exact h

theorem State.appendDone_keeps {z s : State} {a1 a2} (h : Keeps z s) : Keeps z (State.appendDone s a1 a2) := by
  unfold State.appendDone; try dsimp only
  split; apply State.vtResult_keeps; exact h; split; apply State.vtResult_keeps; apply State.setTxn_keeps; exact h
  apply Keeps.ite; apply State.vtResult_keeps; apply State.setTxn_keeps; exact h; split
  apply State.vtResult_keeps; apply State.setTxn_keeps; exact h; apply Keeps.ite; apply State.vtResult_keeps
  exact h; apply State.vtResult_keeps; apply State.setTxn_keeps; exact h

theorem State.getDone_keeps {z s : State} {a1 a2} (h : Keeps z s) : Keeps z (State.getDone s a1 a2) := by
  unfold State.getDone; try dsimp only
  split; apply State.vtResult_keeps; exact h; apply Keeps.ite; apply State.vtResult_keeps
  apply State.raiseFault_keeps; apply State.injectedCheck_keeps; exact h; intros; dsimp only [id]; assumption
  apply Keeps.ite; apply State.vtResult_keeps; apply State.injectedCheck_keeps; exact h
  apply State.vtResult_keeps; apply State.set_keeps; apply State.toHost_keeps; apply State.injectedCheck_keeps
  exact h

theorem execOpDone_keeps {z s : State} {a0} (h : Keeps z s) : Kept z (execOpDone a0 s) := by
  unfold execOpDone; try dsimp only
  split; apply Kept.next; exact h; apply Kept.ite; apply Kept.next; exact h; split; apply Kept.next
  apply State.appendDone_keeps; with_reducible apply Keeps.mk_; exact h; apply Kept.next
  apply State.getDone_keeps; with_reducible apply Keeps.mk_; exact h

theorem execOpenTxn_keeps {z s : State} {a0} (h : Keeps z s) : Kept z (execOpenTxn a0 s) := by
  unfold execOpenTxn; try dsimp only
  apply Kept.next; apply State.vtCmd_keeps; exact h; intros; apply State.openTxn_keeps; assumption

theorem State.monitor_keeps {z s : State} {a1 a2 a3} (h : Keeps z s) : Keeps z (State.monitor s a1 a2 a3) := by
  unfold State.monitor; try dsimp only
  apply Keeps.ite; apply State.modOut_keeps; exact h; apply State.setMaskBit_keeps; apply State.modOut_keeps
  exact h

theorem execOutputMonitorTick_keeps {z s : State} {a0 a1} (h : Keeps z s) : Kept z (execOutputMonitorTick a0 a1
    s) := by
  unfold execOutputMonitorTick; try dsimp only
  apply Kept.ite; apply Kept.next; apply State.each_keeps; with_reducible apply Keeps.mk_
  apply State.reachClk_keeps; exact h; intros; apply State.monitor_keeps; assumption; apply Kept.next; exact h

theorem execPaceLowRun_keeps {z s : State} {a0} (h : Keeps z s) : Kept z (execPaceLowRun a0 s) := by
  unfold execPaceLowRun; try dsimp only
  apply Kept.ite; apply Kept.next; apply State.raiseOwn_keeps; with_reducible apply Keeps.mk_; exact h; intros
  dsimp only [id]; assumption; apply Kept.next; exact h

theorem State.paceOf_keeps {z s : State} {a1 a2} (h : Keeps z s) : Keeps z (State.paceOf s a1 a2) := by
  unfold State.paceOf; try dsimp only
  apply Keeps.ite; with_reducible apply Keeps.mk_; apply Keeps.ite; apply State.set_keeps; apply State.each_keeps
  exact h; intros; apply Keeps.ite; apply State.set_keeps; assumption; assumption; apply Keeps.ite
  apply State.setMaskBit_keeps; apply State.each_keeps; exact h; intros; apply Keeps.ite; apply State.set_keeps
  assumption; assumption; apply State.setMaskBit_keeps; apply State.each_keeps; exact h; intros; apply Keeps.ite
  apply State.set_keeps; assumption; assumption; with_reducible apply Keeps.mk_; apply Keeps.ite
  apply State.set_keeps; apply State.each_keeps; exact h; intros; apply Keeps.ite; apply State.set_keeps
  assumption; assumption; apply Keeps.ite; apply State.setMaskBit_keeps; apply State.each_keeps; exact h; intros
  apply Keeps.ite; apply State.set_keeps; assumption; assumption; apply State.setMaskBit_keeps
  apply State.each_keeps; exact h; intros; apply Keeps.ite; apply State.set_keeps; assumption; assumption

theorem execPaceMeasurement_keeps {z s : State} {a0} (h : Keeps z s) : Kept z (execPaceMeasurement a0 s) := by
  unfold execPaceMeasurement; try dsimp only
  apply Kept.ite; apply Kept.next; exact h; apply Kept.next; apply Keeps.ite; apply State.setStatus_keeps
  refine Keeps.foldl ?_ ?_; with_reducible apply Keeps.mk_; apply State.set_keeps; apply State.set_keeps
  apply State.set_keeps; exact h; intros; apply State.paceOf_keeps; assumption; refine Keeps.foldl ?_ ?_
  with_reducible apply Keeps.mk_; apply State.set_keeps; apply State.set_keeps; apply State.set_keeps; exact h
  intros; apply State.paceOf_keeps; assumption

theorem execPadHoldExpiry_keeps {z s : State} (h : Keeps z s) : Kept z (execPadHoldExpiry s) := by
  unfold execPadHoldExpiry; try dsimp only
  apply Kept.ite; apply Kept.next; apply State.releaseAll_keeps; with_reducible apply Keeps.mk_; exact h
  apply Kept.next; exact h

theorem execPcieHotReset_keeps {z s : State} (h : Keeps z s) : Kept z (execPcieHotReset s) := by
  unfold execPcieHotReset; try dsimp only
  apply Kept.next; apply Keeps.ite; exact h; apply State.pciReset_keeps; exact h

theorem execPgCtrlEn_keeps {z s : State} {a0 a1 a2} (h : Keeps z s) : Kept z (execPgCtrlEn a0 a1 a2 s) := by
  unfold execPgCtrlEn; try dsimp only
  apply Kept.next; apply State.hdrCmd_keeps; exact h

theorem execPgFaultClear_keeps {z s : State} {a0 a1 a2} (h : Keeps z s) : Kept z (execPgFaultClear a0 a1 a2 s) := by
  unfold execPgFaultClear; try dsimp only
  apply Kept.next; apply State.hdrCmd_keeps; exact h

theorem execPgInject_keeps {z s : State} {a0 a1 a2} (h : Keeps z s) : Kept z (execPgInject a0 a1 a2 s) := by
  unfold execPgInject; try dsimp only
  apply Kept.next; apply State.hdrCmd_keeps; exact h

theorem execPgLock_keeps {z s : State} {a0 a1 a2} (h : Keeps z s) : Kept z (execPgLock a0 a1 a2 s) := by
  unfold execPgLock; try dsimp only
  apply Kept.next; apply State.hdrCmd_keeps; exact h

theorem State.failOff_keeps {z s : State} (h : Keeps z s) : Keeps z (State.failOff s) := by
  unfold State.failOff; try dsimp only
  split; with_reducible apply Keeps.mk_; exact h; split; with_reducible apply Keeps.mk_
  apply State.setRails_keeps; exact h; with_reducible apply Keeps.mk_; apply State.setRails_keeps; exact h

theorem State.seqFail_keeps {z s : State} {a1 a2} (h : Keeps z s) : Keeps z (State.seqFail s a1 a2) := by
  unfold State.seqFail; try dsimp only
  apply State.raiseOwn_keeps; exact h; intros; apply Keeps.ite; apply State.set_keeps; apply State.set_keeps
  assumption; apply Keeps.ite; apply State.setStatus_keeps; apply State.set_keeps; apply State.set_keeps
  apply State.set_keeps; apply State.set_keeps; assumption; apply Keeps.ite; apply State.failOff_keeps
  apply State.setHostRst_keeps; with_reducible apply Keeps.mk_; apply State.setStatus_keeps; apply State.set_keeps
  apply State.set_keeps; apply State.set_keeps; apply State.set_keeps; assumption; with_reducible apply Keeps.mk_
  apply State.setStatus_keeps; apply State.set_keeps; apply State.set_keeps; apply State.set_keeps
  apply State.set_keeps; assumption

theorem execPgLoss_keeps {z s : State} {a0} (h : Keeps z s) : Kept z (execPgLoss a0 s) := by
  unfold execPgLoss; try dsimp only
  apply Kept.ite; apply Kept.next; exact h; apply Kept.next; apply Keeps.ite; apply State.seqFail_keeps
  apply State.setMaskBit_keeps; exact h; apply State.setMaskBit_keeps; exact h

theorem execPgModeWrite_keeps {z s : State} {a0 a1 a2} (h : Keeps z s) : Kept z (execPgModeWrite a0 a1 a2 s) := by
  unfold execPgModeWrite; try dsimp only
  apply Kept.next; apply State.hdrCmd_keeps; exact h

theorem execPgStatusClear_keeps {z s : State} {a0 a1 a2} (h : Keeps z s) : Kept z (execPgStatusClear a0 a1 a2 s)
    := by
  unfold execPgStatusClear; try dsimp only
  apply Kept.next; apply State.hdrCmd_keeps; exact h

theorem execPgTimeout_keeps {z s : State} {a0} (h : Keeps z s) : Kept z (execPgTimeout a0 s) := by
  unfold execPgTimeout; try dsimp only
  split; apply Kept.next; apply Keeps.ite; apply State.seqFail_keeps; exact h; exact h; apply Kept.next; exact h

theorem execPmbAlert_keeps {z s : State} (h : Keeps z s) : Kept z (execPmbAlert s) := by
  unfold execPmbAlert; try dsimp only
  apply Kept.next; apply Keeps.ite; apply State.raiseOwn_keeps; exact h; intros; dsimp only [id]; assumption
  exact h

theorem State.pmbFail_keeps {z s : State} {a1 a2} (h : Keeps z s) : Keeps z (State.pmbFail s a1 a2) := by
  unfold State.pmbFail; try dsimp only
  apply Keeps.ite; apply State.addSat_keeps; exact h; apply State.raiseOwn_keeps; apply State.addSat_keeps
  exact h; intros; apply State.set_keeps; apply State.set_keeps; assumption

theorem execPmbusPoll_keeps {z s : State} {a0 a1 a2 a3 a4} (h : Keeps z s) : Kept z (execPmbusPoll a0 a1 a2 a3 a4
    s) := by
  unfold execPmbusPoll; try dsimp only
  apply Kept.ite; apply Kept.next; exact h; apply Kept.ite; apply Kept.next; apply State.pmbFail_keeps; exact h
  apply Kept.next; apply State.set_keeps; apply State.set_keeps; apply State.set_keeps; apply State.pmbFail_keeps
  exact h

theorem State.powerOn_keeps {z s : State} (h : Keeps z s) : Keeps z (State.powerOn s) := by
  unfold State.powerOn; try dsimp only
  apply Keeps.ite; apply State.startUp_keeps; apply State.set_keeps; apply State.loadPress_keeps
  with_reducible refine Keeps.mkRegs ?_ ?_; apply State.bareReset_keeps; exact h; apply State.resetRegs_keeps
  exact h; apply State.set_keeps; apply State.loadPress_keeps; with_reducible refine Keeps.mkRegs ?_ ?_
  apply State.bareReset_keeps; exact h; apply State.resetRegs_keeps; exact h

theorem execPowerOnReset_keeps {z s : State} (h : Keeps z s) : Kept z (execPowerOnReset s) := by
  unfold execPowerOnReset; try dsimp only
  apply Kept.next; apply State.powerOn_keeps; exact h

theorem execPressArmed_keeps {z s : State} (h : Keeps z s) : Kept z (execPressArmed s) := by
  unfold execPressArmed; try dsimp only
  apply Kept.ite; apply Kept.next; apply State.syncHoldOff_keeps; apply State.setStatus_keeps
  apply State.set_keeps; exact h; apply Kept.next; exact h

theorem State.enterHold_keeps {z s : State} (h : Keeps z s) : Keeps z (State.enterHold s) := by
  unfold State.enterHold; try dsimp only
  apply State.setStatus_keeps; apply State.syncHealthy_keeps; apply State.railsOff_keeps; apply State.set_keeps
  with_reducible apply Keeps.mk_; apply State.each_keeps; apply State.holdAll_keeps; exact h; intros
  apply State.domDown_keeps; assumption

theorem State.pressHold_keeps {z s : State} (h : Keeps z s) : Keeps z (State.pressHold s) := by
  unfold State.pressHold; try dsimp only
  apply State.enterHold_keeps; apply State.set_keeps; apply State.surrender_keeps; apply State.set_keeps; exact h

theorem State.pressResume_keeps {z s : State} {a1} (h : Keeps z s) : Keeps z (State.pressResume s a1) := by
  unfold State.pressResume; try dsimp only
  apply State.set_keeps; apply State.set_keeps; apply State.set_keeps; apply Keeps.ite; refine Keeps.foldl ?_ ?_
  refine Keeps.foldl ?_ ?_; with_reducible apply Keeps.mk_; exact h; intros; apply State.setReg_keeps; assumption
  intros; apply Keeps.ite; apply State.bankGates_keeps; assumption; assumption; apply State.set_keeps
  with_reducible apply Keeps.mk_; refine Keeps.foldl ?_ ?_; refine Keeps.foldl ?_ ?_
  with_reducible apply Keeps.mk_; exact h; intros; apply State.setReg_keeps; assumption; intros; apply Keeps.ite
  apply State.bankGates_keeps; assumption; assumption

theorem State.pressStep_keeps {z s : State} {a1} (h : Keeps z s) : Keeps z (State.pressStep s a1) := by
  unfold State.pressStep; try dsimp only
  split; exact h; apply Keeps.ite; apply State.set_keeps; apply State.pressDone_keeps; exact h; apply Keeps.ite
  apply State.setStatus_keeps; apply State.pressResume_keeps; apply State.pressDone_keeps; exact h
  apply State.pressHold_keeps; apply State.pressDone_keeps; exact h

theorem execPressStepDone_keeps {z s : State} {a0} (h : Keeps z s) : Kept z (execPressStepDone a0 s) := by
  unfold execPressStepDone; try dsimp only
  apply Kept.ite; apply Kept.next; apply State.pressStep_keeps; exact h; apply Kept.ite; apply Kept.next
  apply State.enterHold_keeps; apply State.surrender_keeps; exact h; apply Kept.next; exact h

theorem execPressTrig_keeps {z s : State} {a0} (h : Keeps z s) : Kept z (execPressTrig a0 s) := by
  unfold execPressTrig; try dsimp only
  apply Kept.next; apply State.gateF_keeps; exact h; intros; apply State.pressTrig_keeps; assumption

theorem State.setKeyData_keeps {z s : State} {a1} (h : Keeps z s) : Keeps z (State.setKeyData s a1) := by
  unfold State.setKeyData; try dsimp only
  apply State.each_keeps; exact h; intros; apply State.setReg_keeps; assumption

theorem State.keyRun_keeps {z s : State} {a1} (h : Keeps z s) : Keeps z (State.keyRun s a1).2 := by
  unfold State.keyRun; try dsimp only
  split; apply Keeps.ite_snd; dsimp only; apply State.set_keeps; with_reducible apply Keeps.mk_; exact h
  dsimp only; exact h; apply Keeps.ite_snd; dsimp only; exact h; dsimp only; apply State.set_keeps; exact h
  apply Keeps.ite_snd; dsimp only; apply State.setKeyData_keeps; exact h; dsimp only; apply State.set_keeps
  with_reducible apply Keeps.mk_; apply State.setKeyData_keeps; exact h; dsimp only; apply State.set_keeps
  exact h; dsimp only; apply State.setKeyData_keeps; exact h

theorem execProgDone_keeps {z s : State} (h : Keeps z s) : Kept z (execProgDone s) := by
  unfold execProgDone; try dsimp only
  split; apply Kept.next; exact h; apply Kept.next; apply State.setStatus_keeps; apply State.keyRun_keeps
  with_reducible apply Keeps.mk_; exact h

theorem execProgramSheetKey_keeps {z s : State} {a0 a1} (h : Keeps z s) : Kept z (execProgramSheetKey a0 a1 s) := by
  unfold execProgramSheetKey; try dsimp only
  apply Kept.next; apply State.keyCmd_keeps; exact h

theorem execProgramSlotHash_keeps {z s : State} {a0 a1 a2} (h : Keeps z s) : Kept z (execProgramSlotHash a0 a1 a2
    s) := by
  unfold execProgramSlotHash; try dsimp only
  apply Kept.next; apply State.keyCmd_keeps; exact h

theorem execPwrDoze_keeps {z s : State} {a0} (h : Keeps z s) : Kept z (execPwrDoze a0 s) := by
  unfold execPwrDoze; try dsimp only
  apply Kept.next; apply State.gateF_keeps; exact h; intros; apply State.toDoze_keeps; apply State.set_keeps
  assumption

theorem execPwrFail_keeps {z s : State} (h : Keeps z s) : Kept z (execPwrFail s) := by
  unfold execPwrFail; try dsimp only
  apply Kept.ite; apply Kept.next; apply State.pressStart_keeps; exact h; apply Kept.next; exact h

theorem execPwrHold_keeps {z s : State} {a0} (h : Keeps z s) : Kept z (execPwrHold a0 s) := by
  unfold execPwrHold; try dsimp only
  apply Kept.next; apply State.gateF_keeps; exact h; intros; apply State.toHold_keeps; apply State.set_keeps
  assumption

theorem execPwrReq_keeps {z s : State} {a0 a1 a2} (h : Keeps z s) : Kept z (execPwrReq a0 a1 a2 s) := by
  unfold execPwrReq; try dsimp only
  apply Kept.next; apply State.hdrCmd_keeps; exact h

theorem execPwrRun_keeps {z s : State} {a0} (h : Keeps z s) : Kept z (execPwrRun a0 s) := by
  unfold execPwrRun; try dsimp only
  apply Kept.next; apply State.gateF_keeps; exact h; intros; apply State.toRun_keeps; apply State.set_keeps
  assumption

theorem execPwrVcoreTarget_keeps {z s : State} {a0 a1} (h : Keeps z s) : Kept z (execPwrVcoreTarget a0 a1 s) := by
  unfold execPwrVcoreTarget; try dsimp only
  apply Kept.next; apply State.gateF_keeps; exact h; intros; apply State.vcoreTarget_keeps; assumption

theorem execQuadLoopLock_keeps {z s : State} {a0} (h : Keeps z s) : Kept z (execQuadLoopLock a0 s) := by
  unfold execQuadLoopLock; try dsimp only
  apply Kept.ite; apply Kept.next; apply State.set_keeps; exact h; apply Kept.next; exact h

theorem execQuiesce_keeps {z s : State} {a0 a1 a2} (h : Keeps z s) : Kept z (execQuiesce a0 a1 a2 s) := by
  unfold execQuiesce; try dsimp only
  apply Kept.next; apply State.hdrCmd_keeps; exact h

theorem execQuire_keeps {z s : State} {a0} (h : Keeps z s) : Kept z (execQuire a0 s) := by
  unfold execQuire; try dsimp only
  apply Kept.next; apply State.bootAfter_keeps; apply State.loadCmd_keeps; exact h

theorem execRailOffDelay_keeps {z s : State} (h : Keeps z s) : Kept z (execRailOffDelay s) := by
  unfold execRailOffDelay; try dsimp only
  split; apply Kept.next; apply State.failOff_keeps; exact h; apply Kept.next; exact h

theorem State.seqStepDone_keeps {z s : State} {a1} (h : Keeps z s) : Keeps z (State.seqStepDone s a1) := by
  unfold State.seqStepDone; try dsimp only
  apply State.seqFrom_keeps; apply State.seqHost_keeps; exact h

theorem execRailPg_keeps {z s : State} {a0} (h : Keeps z s) : Kept z (execRailPg a0 s) := by
  unfold execRailPg; try dsimp only
  apply Kept.ite; apply Kept.next; exact h; split; apply Kept.next; apply Keeps.ite; apply State.seqStepDone_keeps
  apply State.setMaskBit_keeps; exact h; with_reducible apply Keeps.mk_; apply State.setMaskBit_keeps; exact h
  apply Kept.next; apply State.setMaskBit_keeps; exact h

theorem execRailStepDelay_keeps {z s : State} (h : Keeps z s) : Kept z (execRailStepDelay s) := by
  unfold execRailStepDelay; try dsimp only
  split; apply Kept.next; apply Keeps.ite; apply State.seqStepDone_keeps; apply State.setRails_keeps; exact h
  with_reducible apply Keeps.mk_; apply State.setRails_keeps; exact h; apply Kept.next; exact h

theorem execRawDone_keeps {z s : State} {a0} (h : Keeps z s) : Kept z (execRawDone a0 s) := by
  unfold execRawDone; try dsimp only
  split; apply Kept.ite; apply Kept.next; exact h; apply Kept.next; apply State.setStatus_keeps
  apply State.set_keeps; apply State.rsResult_keeps; apply Keeps.ite; exact h; apply Keeps.ite
  apply State.toHost_keeps; exact h; with_reducible apply Keeps.mk_; exact h; apply Kept.next; exact h

theorem execRawEraseBlock_keeps {z s : State} {a0 a1} (h : Keeps z s) : Kept z (execRawEraseBlock a0 a1 s) := by
  unfold execRawEraseBlock; try dsimp only
  apply Kept.next; apply State.gateF_keeps; exact h; intros; apply State.rawCmd_keeps; assumption

theorem execRawProgramPage_keeps {z s : State} {a0 a1 a2} (h : Keeps z s) : Kept z (execRawProgramPage a0 a1 a2
    s) := by
  unfold execRawProgramPage; try dsimp only
  apply Kept.next; apply State.gateF_keeps; exact h; intros; apply State.rawCmd_keeps; assumption

theorem execRawReadPage_keeps {z s : State} {a0 a1 a2} (h : Keeps z s) : Kept z (execRawReadPage a0 a1 a2 s) := by
  unfold execRawReadPage; try dsimp only
  apply Kept.next; apply State.gateF_keeps; exact h; intros; apply State.rawCmd_keeps; assumption

theorem execReadSlotHash_keeps {z s : State} {a0 a1 a2} (h : Keeps z s) : Kept z (execReadSlotHash a0 a1 a2 s) := by
  unfold execReadSlotHash; try dsimp only
  apply Kept.next; apply State.keyCmd_keeps; exact h

theorem execRecoveryClassTransfer_keeps {z s : State} {a0} (h : Keeps z s) : Kept z (execRecoveryClassTransfer a0
    s) := by
  unfold execRecoveryClassTransfer; try dsimp only
  apply Kept.ite; apply Kept.next; exact h; split; apply Kept.next; with_reducible apply Keeps.mkIn
  apply State.frameRead_keeps; apply State.set_keeps; exact h; apply Kept.next; with_reducible apply Keeps.mkIn
  apply State.frameWrite_keeps; apply State.set_keeps; exact h; apply Kept.next; with_reducible apply Keeps.mkIn
  apply State.set_keeps; exact h

theorem execRefFrequencyError_keeps {z s : State} (h : Keeps z s) : Kept z (execRefFrequencyError s) := by
  unfold execRefFrequencyError; try dsimp only
  apply Kept.next; apply State.refLoss_keeps; exact h

theorem execRefValid_keeps {z s : State} {a0} (h : Keeps z s) : Kept z (execRefValid a0 s) := by
  unfold execRefValid; try dsimp only
  apply Kept.ite; apply Kept.next; exact h; apply Kept.next; apply Keeps.ite; apply State.setStatus_keeps
  apply State.setStatus_keeps; apply State.set_keeps; apply State.set_keeps; apply State.set_keeps
  with_reducible apply Keeps.mk_; exact h; apply State.setStatus_keeps; apply State.set_keeps
  apply State.set_keeps; apply State.set_keeps; with_reducible apply Keeps.mk_; exact h

theorem State.scheduleRefresh_keeps {z s : State} {a1 a2} (h : Keeps z s) : Keeps z (State.scheduleRefresh s a1
    a2) := by
  unfold State.scheduleRefresh; try dsimp only
  apply Keeps.ite; apply State.askRefresh_keeps; apply Keeps.ite; exact h; with_reducible apply Keeps.mk_; exact h
  apply Keeps.ite; exact h; with_reducible apply Keeps.mk_; exact h

theorem execRefreshRead_keeps {z s : State} {a0 a1 a2 a3 a4} (h : Keeps z s) : Kept z (execRefreshRead a0 a1 a2
    a3 a4 s) := by
  unfold execRefreshRead; try dsimp only
  apply Kept.ite; apply Kept.next; exact h; apply Kept.ite; apply Kept.next; apply State.raiseFault_keeps
  apply Keeps.ite; apply State.setStatus_keeps; apply State.incWrap_keeps; with_reducible apply Keeps.mk_
  apply Keeps.ite; apply State.scheduleRefresh_keeps; apply State.injectedCheck_keeps; exact h
  apply State.injectedCheck_keeps; exact h; apply Keeps.ite; apply State.scheduleRefresh_keeps
  apply State.injectedCheck_keeps; exact h; apply State.injectedCheck_keeps; exact h; intros; dsimp only [id]
  assumption; apply Kept.ite; apply Kept.next; apply State.raiseFault_keeps; apply Keeps.ite
  apply State.setStatus_keeps; apply State.incWrap_keeps; with_reducible apply Keeps.mk_; apply Keeps.ite
  apply State.scheduleRefresh_keeps; apply State.injectedCheck_keeps; exact h; apply State.injectedCheck_keeps
  exact h; apply Keeps.ite; apply State.scheduleRefresh_keeps; apply State.injectedCheck_keeps; exact h
  apply State.injectedCheck_keeps; exact h; intros; dsimp only [id]; assumption; apply Kept.next; apply Keeps.ite
  apply State.setStatus_keeps; apply State.incWrap_keeps; with_reducible apply Keeps.mk_; apply Keeps.ite
  apply State.scheduleRefresh_keeps; apply State.injectedCheck_keeps; exact h; apply State.injectedCheck_keeps
  exact h; apply Keeps.ite; apply State.scheduleRefresh_keeps; apply State.injectedCheck_keeps; exact h
  apply State.injectedCheck_keeps; exact h

theorem execRefreshSweepNow_keeps {z s : State} {a0} (h : Keeps z s) : Kept z (execRefreshSweepNow a0 s) := by
  unfold execRefreshSweepNow; try dsimp only
  apply Kept.next; apply State.gateF_keeps; exact h; intros; apply State.rsSweep_keeps; assumption

theorem execRegisterWrite_keeps {z s : State} {a0 a1 a2} (h : Keeps z s) : Kept z (execRegisterWrite a0 a1 a2 s)
    := by
  unfold execRegisterWrite; try dsimp only
  apply Kept.ite; exact Kept.fault; apply Kept.next; apply State.writeReg_keeps; exact h

theorem State.strobeRise_keeps {z s : State} {a1} (h : Keeps z s) : Keeps z (State.strobeRise s a1) := by
  unfold State.strobeRise; try dsimp only
  apply State.each_keeps; apply State.each_keeps; with_reducible apply Keeps.mk_; exact h; intros; apply Keeps.ite
  apply State.pushTrig_keeps; assumption; assumption; intros; apply Keeps.ite; apply State.pushTrig_keeps
  assumption; assumption

theorem Keeps.some_ite {z t : State} {c : Prop} [Decidable c] {a b : Option State} (h : a = some t → Keeps z t)
    (k : b = some t → Keeps z t) : (if c then a else b) = some t → Keeps z t := by
  split
  · exact h
  · exact k

theorem State.deliverRel_keeps {z s : State} {a1} {t} (h : Keeps z s) : (State.deliverRel s a1) = some t → Keeps
    z t := by
  have k : Keeps z { s with ckptSkip := adel s.ckptSkip a1.flow } := Keeps.mk_ h
  unfold State.deliverRel
  dsimp only
  refine Keeps.some_ite ?_ (Keeps.some_ite ?_ (Keeps.some_ite (Keeps.some_ite ?_ ?_) (Keeps.some_ite ?_
    (Keeps.some_ite ?_ ?_))))
  · intro e; cases e; exact State.incSat_keeps h
  · intro e; cases e; exact State.incSat_keeps h
  · intro e; cases e; exact State.writeCq_keeps (State.writeNotice_keeps k)
  · intro e; cases e
  · intro e; cases e; exact Keeps.mk_ k
  · intro e; cases e; exact State.strobeRise_keeps k
  · intro e; cases e; exact k

theorem State.dropTask_keeps {z s : State} {a1} (h : Keeps z s) : Keeps z (State.dropTask s a1) := by
  unfold State.dropTask; try dsimp only
  with_reducible apply Keeps.mk_; exact h

theorem State.openHeld_keeps {z s : State} {a1} (h : Keeps z s) : Keeps z (State.openHeld s a1) := by
  unfold State.openHeld; try dsimp only
  apply State.each_keeps; exact h; intros; apply Keeps.ite; assumption; split; assumption; apply Keeps.ite
  apply State.putTask_keeps; apply State.stamp_keeps; assumption; with_reducible apply Keeps.mk_
  apply State.putTask_keeps; apply State.stamp_keeps; assumption

theorem State.twinCheckpoint_keeps {z s : State} {a1 a2} (h : Keeps z s) : Keeps z (State.twinCheckpoint s a1 a2)
    := by
  unfold State.twinCheckpoint; try dsimp only
  apply State.mirror_keeps; exact h

theorem execRelease_keeps {z s : State} {a0} (h : Keeps z s) : Kept z (execRelease a0 s) := by
  unfold execRelease; try dsimp only
  split; apply Kept.next; exact h; split; apply Kept.next; exact h; apply Kept.next
  apply State.serveWaiting_keeps; apply State.twinCheckpoint_keeps; apply State.syncTask_keeps
  apply State.openHeld_keeps; apply State.dropTask_keeps; apply State.trace_keeps; apply State.flowSet_keeps
  refine State.deliverRel_keeps ?_ (by assumption); exact h

theorem execRelock_keeps {z s : State} {a0} (h : Keeps z s) : Kept z (execRelock a0 s) := by
  unfold execRelock; try dsimp only
  apply Kept.next; apply State.gateF_keeps; exact h; intros; apply State.relock_keeps; assumption

theorem execResetPin_keeps {z s : State} (h : Keeps z s) : Kept z (execResetPin s) := by
  unfold execResetPin; try dsimp only
  apply Kept.ite; apply Kept.next; exact h; apply Kept.ite; apply Kept.next; with_reducible apply Keeps.mk_
  apply State.wakeHold_keeps; exact h; apply Kept.next; with_reducible apply Keeps.mk_
  apply State.chipReset_keeps; exact h

theorem execResetPinRelease_keeps {z s : State} (h : Keeps z s) : Kept z (execResetPinRelease s) := by
  unfold execResetPinRelease; try dsimp only
  apply Kept.ite; apply Kept.next; exact h; apply Kept.next; apply Keeps.ite; with_reducible apply Keeps.mk_
  exact h; apply State.startUp_keeps; with_reducible apply Keeps.mk_; exact h

theorem State.copyBank_keeps {z s : State} {a1} (h : Keeps z s) : Keeps z (State.copyBank s a1) := by
  unfold State.copyBank; try dsimp only
  with_reducible apply Keeps.mk_; exact h

theorem State.copySector_keeps {z s : State} {a1} (h : Keeps z s) : Keeps z (State.copySector s a1) := by
  unfold State.copySector; try dsimp only
  with_reducible apply Keeps.mk_; exact h

theorem State.resyncOrigin_keeps {z s : State} {a1} (h : Keeps z s) : Keeps z (State.resyncOrigin s a1) := by
  unfold State.resyncOrigin; try dsimp only
  apply Keeps.ite; apply State.setOrigin_keeps; with_reducible apply Keeps.mk_; exact h
  with_reducible apply Keeps.mk_; exact h

theorem execResyncDone_keeps {z s : State} (h : Keeps z s) : Kept z (execResyncDone s) := by
  unfold execResyncDone; try dsimp only
  split; apply Kept.next; apply State.setStatus_keeps; apply State.set_keeps; with_reducible apply Keeps.mk_
  apply State.set_keeps; apply State.set_keeps; apply State.set_keeps; apply State.set_keeps
  with_reducible apply Keeps.mk_; apply State.each_keeps; apply State.each_keeps; apply State.each_keeps
  apply State.each_keeps; exact h; intros; apply State.copyBank_keeps; assumption; intros
  apply State.copySector_keeps; assumption; intros; apply Keeps.ite; apply State.setSetting_keeps; assumption
  assumption; intros; apply State.resyncOrigin_keeps; assumption; apply Kept.next; exact h

theorem execRetain_keeps {z s : State} {a0} (h : Keeps z s) : Kept z (execRetain a0 s) := by
  unfold execRetain; try dsimp only
  apply Kept.next; apply State.bootAfter_keeps; apply State.loadCmd_keeps; exact h

theorem execRevokeSlot_keeps {z s : State} {a0 a1 a2} (h : Keeps z s) : Kept z (execRevokeSlot a0 a1 a2 s) := by
  unfold execRevokeSlot; try dsimp only
  apply Kept.next; apply State.keyCmd_keeps; exact h

theorem execRingEnable_keeps {z s : State} {a0 a1 a2} (h : Keeps z s) : Kept z (execRingEnable a0 a1 a2 s) := by
  unfold execRingEnable; try dsimp only
  apply Kept.next; apply State.gateF_keeps; exact h; intros; apply Keeps.ite; apply State.setRingEn_keeps
  assumption; assumption

theorem execRoWrite_keeps {z s : State} {a0 a1 a2} (h : Keeps z s) : Kept z (execRoWrite a0 a1 a2 s) := by
  unfold execRoWrite; try dsimp only
  apply Kept.ite; exact Kept.fault; apply Kept.next; apply State.bar2Gate_keeps; exact h; intros
  apply State.bar2Write_keeps; assumption

theorem State.illegalCode_keeps {z s : State} {a1 a2 a3} (h : Keeps z s) : Keeps z (State.illegalCode s a1 a2 a3)
    := by
  unfold State.illegalCode; try dsimp only
  split; exact h; apply State.raiseFault_keeps; exact h; intros; dsimp only [id]; assumption

theorem execRouteTransfer_keeps {z s : State} {a0 a1} (h : Keeps z s) : Kept z (execRouteTransfer a0 a1 s) := by
  unfold execRouteTransfer; try dsimp only
  split; apply Kept.next; exact h; split; apply Kept.next; exact h; apply Kept.ite; split; apply Kept.next
  apply State.illegalCode_keeps; exact h; apply Kept.ite; apply Kept.next; apply State.settle_keeps
  apply State.present'_keeps; apply State.deliverAll_keeps; exact h; apply Kept.next; exact h; apply Kept.next
  exact h

theorem execRpWrite_keeps {z s : State} {a0 a1 a2} (h : Keeps z s) : Kept z (execRpWrite a0 a1 a2 s) := by
  unfold execRpWrite; try dsimp only
  apply Kept.next; apply State.gateF_keeps; exact h; intros; apply Keeps.ite; apply State.writeRp_keeps
  assumption; assumption

theorem execRsHaAns_keeps {z s : State} {a0 a1} (h : Keeps z s) : Kept z (execRsHaAns a0 a1 s) := by
  unfold execRsHaAns; try dsimp only
  apply Kept.next; apply State.gateF_keeps; exact h; intros; apply State.haAnswer_keeps; assumption

theorem State.setRegion_keeps {z s : State} {a1 a2} (h : Keeps z s) : Keeps z (State.setRegion s a1 a2) := by
  unfold State.setRegion; try dsimp only
  apply Keeps.ite; apply State.set_keeps; exact h; apply State.set_keeps; exact h

theorem State.updateFail_keeps {z s : State} {a1 a2 a3} (h : Keeps z s) : Keeps z (State.updateFail s a1 a2 a3)
    := by
  unfold State.updateFail; try dsimp only
  apply State.setStatus_keeps; apply State.set_keeps; apply State.setReg_keeps; apply State.set_keeps
  apply State.set_keeps; with_reducible apply Keeps.mk_; exact h

end Sys2Proof.Machine
end

