-- ==== Sys2Proof/Laws/Keeps5.lean ====
section
/-!
SUPPORT. What every operation keeps (`Keeps`, Laws/Keeps.lean), part 5: one lemma per operation over the state, and per
meaning of a command one of its outcome, callees before callers.
-/
namespace Sys2Proof.Machine
open Sys2Proof

theorem execRsUpdateStep_keeps {z s : State} {a0 a1} (h : Keeps z s) : Kept z (execRsUpdateStep a0 a1 s) := by
  unfold execRsUpdateStep; try dsimp only
  split; apply Kept.ite; apply Kept.next; with_reducible apply Keeps.mk_; exact h; apply Kept.next
  apply State.updateFail_keeps; exact h; apply Kept.ite; apply Kept.next; with_reducible apply Keeps.mk_; exact h
  apply Kept.next; apply State.updateFail_keeps; exact h; apply Kept.next; apply State.setRegion_keeps
  with_reducible apply Keeps.mk_; exact h; apply Kept.ite; apply Kept.next; apply State.updateFail_keeps
  apply State.clearBytes_keeps; exact h; apply Kept.ite; apply Kept.next; with_reducible apply Keeps.mk_
  apply State.setBytes_keeps; apply State.clearBytes_keeps; exact h; apply Kept.next; apply State.updateFail_keeps
  apply State.setBytes_keeps; apply State.clearBytes_keeps; exact h; apply Kept.ite; apply Kept.next
  apply State.setStatus_keeps; apply State.incWrap_keeps; apply State.setRegion_keeps; apply State.set_keeps
  with_reducible apply Keeps.mk_; exact h; apply Kept.next; apply State.updateFail_keeps; exact h; apply Kept.next
  exact h

theorem execSave_keeps {z s : State} {a0} (h : Keeps z s) : Kept z (execSave a0 s) := by
  unfold execSave; try dsimp only
  apply Kept.next; apply State.gateF_keeps; exact h; intros; apply State.pressSave_keeps; assumption

theorem execSchCancel_keeps {z s : State} {a0 a1} (h : Keeps z s) : Kept z (execSchCancel a0 a1 s) := by
  unfold execSchCancel; try dsimp only
  apply Kept.next; apply State.gateF_keeps; exact h; intros; apply State.flow_keeps; apply State.cancel_keeps
  assumption

theorem execSchCtrlMode_keeps {z s : State} {a0 a1} (h : Keeps z s) : Kept z (execSchCtrlMode a0 a1 s) := by
  unfold execSchCtrlMode; try dsimp only
  apply Kept.next; apply State.gateF_keeps; exact h; intros; apply State.schMode_keeps; assumption

theorem execSchHqDone_keeps {z s : State} {a0 a1 a2} (h : Keeps z s) : Kept z (execSchHqDone a0 a1 a2 s) := by
  unfold execSchHqDone; try dsimp only
  apply Kept.next; apply State.gateF_keeps; exact h; intros; apply Keeps.ite; apply State.hqDone_keeps; assumption
  assumption

theorem execSeqManual_keeps {z s : State} {a0 a1} (h : Keeps z s) : Kept z (execSeqManual a0 a1 s) := by
  unfold execSeqManual; try dsimp only
  apply Kept.next; apply State.gateF_keeps; exact h; intros; apply State.manualOn_keeps
  apply State.plainWrite_keeps; assumption

theorem execSeqOff_keeps {z s : State} {a0} (h : Keeps z s) : Kept z (execSeqOff a0 s) := by
  unfold execSeqOff; try dsimp only
  apply Kept.next; apply State.gateF_keeps; exact h; intros; apply Keeps.ite; apply State.railsOff_keeps
  assumption; assumption

theorem execSeqStart_keeps {z s : State} {a0} (h : Keeps z s) : Kept z (execSeqStart a0 s) := by
  unfold execSeqStart; try dsimp only
  apply Kept.next; apply State.gateF_keeps; exact h; intros; apply State.seqStart_keeps; assumption

theorem execSetStartup_keeps {z s : State} {a0 a1} (h : Keeps z s) : Kept z (execSetStartup a0 a1 s) := by
  unfold execSetStartup; try dsimp only
  apply Kept.next; apply State.gateF_keeps; exact h; intros; apply State.rsSetStartup_keeps; assumption

theorem execShadowResync_keeps {z s : State} {a0} (h : Keeps z s) : Kept z (execShadowResync a0 s) := by
  unfold execShadowResync; try dsimp only
  apply Kept.next; apply State.gateF_keeps; exact h; intros; apply State.startResync_keeps; assumption

theorem State.takeHeader_keeps {z s : State} {a1 a2 a3} (h : Keeps z s) : Keeps z (State.takeHeader s a1 a2 a3)
    := by
  unfold State.takeHeader; try dsimp only
  apply Keeps.ite; apply State.endLoad_keeps; exact h; apply Keeps.ite; apply State.acceptHeader_keeps; exact h
  apply State.endLoad_keeps; exact h

theorem execSheetHeader_keeps {z s : State} {a0 a1} (h : Keeps z s) : Kept z (execSheetHeader a0 a1 s) := by
  unfold execSheetHeader; try dsimp only
  split; apply Kept.ite; apply Kept.next; exact h; apply Kept.ite; apply Kept.next; apply State.loaderTake_keeps
  exact h; apply Kept.next; apply State.bootAfter_keeps; apply State.takeHeader_keeps
  apply State.loaderDrop_keeps; exact h; apply Kept.next; exact h

theorem execSlewTick_keeps {z s : State} (h : Keeps z s) : Kept z (execSlewTick s) := by
  unfold execSlewTick; try dsimp only
  apply Kept.next; apply Keeps.ite; apply State.nextTick_keeps; apply State.advance_keeps; exact h; exact h

theorem State.takeSnapshot_keeps {z s : State} {a1} (h : Keeps z s) : Keeps z (State.takeSnapshot s a1) := by
  unfold State.takeSnapshot; try dsimp only
  apply Keeps.ite; exact h; apply Keeps.ite; apply State.setStatus_keeps; apply State.incSat_keeps
  apply State.offerItem_keeps; with_reducible apply Keeps.mk_; exact h; apply State.offerItem_keeps
  with_reducible apply Keeps.mk_; exact h

theorem execSnapshot_keeps {z s : State} {a0} (h : Keeps z s) : Kept z (execSnapshot a0 s) := by
  unfold execSnapshot; try dsimp only
  apply Kept.ite; split; apply Kept.next; exact h; apply Kept.next; apply Keeps.ite
  apply State.takeSnapshot_keeps; apply State.reachClk_keeps; refine State.takeTrig_keeps ?_ (by assumption)
  exact h; refine State.takeTrig_keeps ?_ (by assumption); exact h; apply Kept.ite; apply Kept.next; exact h
  apply Kept.next; apply Keeps.ite; apply State.takeSnapshot_keeps; with_reducible apply Keeps.mk_
  apply State.reachClk_keeps; exact h; with_reducible apply Keeps.mk_; apply State.reachClk_keeps; exact h

theorem execSpanDisconnect_keeps {z s : State} {a0} (h : Keeps z s) : Kept z (execSpanDisconnect a0 s) := by
  unfold execSpanDisconnect; try dsimp only
  apply Kept.ite; apply Kept.next; apply State.modOut_keeps; exact h; apply Kept.next; exact h

theorem execSpanLaneUp_keeps {z s : State} {a0} (h : Keeps z s) : Kept z (execSpanLaneUp a0 s) := by
  unfold execSpanLaneUp; try dsimp only
  apply Kept.ite; apply Kept.next; exact h; apply Kept.next; apply Keeps.ite; apply State.set_keeps
  apply State.setStatus_keeps; apply State.setMaskBit_keeps; exact h; apply State.setStatus_keeps
  apply State.setMaskBit_keeps; exact h

theorem State.route_keeps {z s : State} {a1 a2 a3} (h : Keeps z s) : Keeps z (State.route s a1 a2 a3) := by
  unfold State.route; try dsimp only
  apply Keeps.ite; apply State.submit_keeps; exact h; split; apply Keeps.ite; apply State.spanSend_keeps; exact h
  apply State.setStatus_keeps; apply State.incSat_keeps; exact h; apply Keeps.ite; apply State.spanSend_keeps
  exact h; apply State.setStatus_keeps; apply State.incSat_keeps; exact h

theorem State.spanCheck_keeps {z s : State} {a1 a2 a3} (h : Keeps z s) (h3 : ∀ u, Keeps z u → Keeps z (a3 u)) :
    Keeps z (State.spanCheck s a1 a2 a3) := by
  unfold State.spanCheck; try dsimp only
  apply Keeps.ite; apply State.raiseFault_keeps; apply State.incSat_keeps; apply State.injectedCheck_keeps
  exact h; intros; dsimp only [id]; assumption; apply h3; apply State.injectedCheck_keeps; exact h

theorem execSpanPacket_keeps {z s : State} {a0 a1 a2 a3} (h : Keeps z s) : Kept z (execSpanPacket a0 a1 a2 a3 s)
    := by
  unfold execSpanPacket; try dsimp only
  apply Kept.ite; apply Kept.next; exact h; split; apply Kept.ite; apply Kept.next; exact h; apply Kept.next
  apply State.spanCheck_keeps; exact h; intros; apply State.route_keeps; assumption; split; apply Kept.next
  exact h; apply Kept.ite; apply Kept.next; apply State.settle_keeps; apply State.route_keeps
  with_reducible apply Keeps.mk_; exact h; apply Kept.next; exact h

theorem execSpanSwitch_keeps {z s : State} {a0} (h : Keeps z s) : Kept z (execSpanSwitch a0 s) := by
  unfold execSpanSwitch; try dsimp only
  apply Kept.ite; apply Kept.next; apply State.when_keeps; apply Keeps.ite; apply State.daDisable_keeps
  apply State.setStatus_keeps; apply State.setDa_keeps; apply State.outToSafe_keeps; apply State.setDa_keeps
  apply State.setOut_keeps; apply State.reachClk_keeps; exact h; apply State.setStatus_keeps
  apply State.setDa_keeps; apply State.outToSafe_keeps; apply State.setDa_keeps; apply State.setOut_keeps
  apply State.reachClk_keeps; exact h; intros; apply State.daWarm_keeps; assumption; apply Kept.next; exact h

theorem execSpanTimeExchange_keeps {z s : State} (h : Keeps z s) : Kept z (execSpanTimeExchange s) := by
  unfold execSpanTimeExchange; try dsimp only
  apply Kept.ite; apply Kept.next; apply State.each_keeps; exact h; intros; apply State.spanSend_keeps; assumption
  apply Kept.next; exact h

theorem execSqCfgWrite_keeps {z s : State} {a0 a1 a2} (h : Keeps z s) : Kept z (execSqCfgWrite a0 a1 a2 s) := by
  unfold execSqCfgWrite; try dsimp only
  apply Kept.next; apply State.gateF_keeps; exact h; intros; apply Keeps.ite; apply State.sqCfg_keeps; assumption
  assumption

theorem execSqFetch_keeps {z s : State} {a0 a1} (h : Keeps z s) : Kept z (execSqFetch a0 a1 s) := by
  unfold execSqFetch; try dsimp only
  apply Kept.ite; apply Kept.next; exact h; apply Kept.ite; apply Kept.ite; apply Kept.next; apply State.set_keeps
  apply State.setStatus_keeps; apply State.writeCq_keeps; apply State.setStatus_keeps; apply State.incSat_keeps
  apply State.writeNotice_keeps; exact h; apply Kept.next; apply State.writeNotice_keeps; exact h; apply Kept.next
  apply State.set_keeps; apply State.toHost_keeps; apply State.enqueue_keeps; exact h

theorem execSqTailWrite_keeps {z s : State} {a0 a1 a2} (h : Keeps z s) : Kept z (execSqTailWrite a0 a1 a2 s) := by
  unfold execSqTailWrite; try dsimp only
  apply Kept.next; apply State.gateF_keeps; exact h; intros; apply Keeps.ite; apply State.sqTail_keeps; assumption
  assumption

theorem execStreamDmaError_keeps {z s : State} {a0} (h : Keeps z s) : Kept z (execStreamDmaError a0 s) := by
  unfold execStreamDmaError; try dsimp only
  apply Kept.ite; apply Kept.next; exact h; apply Kept.next; apply State.raiseFault_keeps; exact h; intros
  apply State.set_keeps; apply State.discardRing_keeps; assumption

theorem State.producerLost_keeps {z s : State} {a1} (h : Keeps z s) : Keeps z (State.producerLost s a1) := by
  unfold State.producerLost; try dsimp only
  apply Keeps.ite; apply State.setStatus_keeps; apply State.incSat_keeps; exact h; apply Keeps.ite
  apply State.setStatus_keeps; apply State.incSat_keeps; exact h; apply Keeps.ite; apply State.setStatus_keeps
  apply State.incSat_keeps; exact h; apply Keeps.ite; apply State.setStatus_keeps; apply State.incSat_keeps
  exact h; apply State.setStatus_keeps; apply State.incSat_keeps; exact h

theorem execStreamItem_keeps {z s : State} {a0 a1 a2 a3} (h : Keeps z s) : Kept z (execStreamItem a0 a1 a2 a3 s)
    := by
  unfold execStreamItem; try dsimp only
  apply Kept.ite; apply Kept.next; exact h; apply Kept.ite; apply Kept.next; apply Keeps.ite
  apply State.takeStream_keeps; exact h; exact h; apply Kept.ite; apply Kept.next; exact h; apply Kept.next
  apply Keeps.ite; apply State.producerLost_keeps; apply State.offerItem_keeps; exact h
  apply State.offerItem_keeps; exact h

theorem execStrobePacket_keeps {z s : State} {a0 a1 a2} (h : Keeps z s) : Kept z (execStrobePacket a0 a1 a2 s) := by
  unfold execStrobePacket; try dsimp only
  apply Kept.ite; apply Kept.next; exact h; apply Kept.next; apply State.spanCheck_keeps; exact h; intros
  apply Keeps.ite; apply State.strobeDown_keeps; assumption; apply State.spanSend_keeps; assumption

theorem execStrobeTx_keeps {z s : State} {a0 a1} (h : Keeps z s) : Kept z (execStrobeTx a0 a1 s) := by
  unfold execStrobeTx; try dsimp only
  apply Kept.next; apply State.gateF_keeps; exact h; intros; apply State.strobeTx_keeps; assumption

theorem State.aonFall_keeps {z s : State} (h : Keeps z s) : Keeps z (State.aonFall s) := by
  unfold State.aonFall; try dsimp only
  apply State.set_keeps; with_reducible refine Keeps.mkRegs ?_ ?_; apply State.bareReset_keeps; exact h
  apply State.resetRegs_keeps; exact h

theorem State.supplyReset_keeps {z s : State} (h : Keeps z s) : Keeps z (State.supplyReset s) := by
  unfold State.supplyReset; try dsimp only
  apply State.syncHealthy_keeps; apply State.loadPress_keeps; apply State.set_keeps; apply State.each_keeps
  apply State.set_keeps; apply State.set_keeps; with_reducible refine Keeps.mkRegs ?_ ?_
  apply State.bareReset_keeps; apply State.set_keeps; apply State.set_keeps; apply State.writeCause_keeps
  apply State.hostDown_keeps; apply Keeps.ite; exact h; apply State.surrender_keeps; exact h
  apply State.resetRegs_keeps; apply State.set_keeps; apply State.set_keeps; apply State.writeCause_keeps
  apply State.hostDown_keeps; apply Keeps.ite; exact h; apply State.surrender_keeps; exact h; intros
  apply State.set_keeps; assumption

theorem State.loseSupply_keeps {z s : State} {a1} (h : Keeps z s) : Keeps z (State.loseSupply s a1) := by
  unfold State.loseSupply; try dsimp only
  apply Keeps.ite; exact h; apply Keeps.ite; apply Keeps.ite; exact h; apply State.aonFall_keeps; exact h
  apply Keeps.ite; apply State.setMaskBit_keeps; exact h; apply State.setStatus_keeps
  apply State.supplyReset_keeps; apply State.setMaskBit_keeps; apply State.setMaskBit_keeps; exact h

theorem execSupplyLost_keeps {z s : State} {a0} (h : Keeps z s) : Kept z (execSupplyLost a0 s) := by
  unfold execSupplyLost; try dsimp only
  apply Kept.next; apply Keeps.ite; apply State.loseSupply_keeps; exact h; exact h

theorem State.supplyUp_keeps {z s : State} {a1} (h : Keeps z s) : Keeps z (State.supplyUp s a1) := by
  unfold State.supplyUp; try dsimp only
  apply Keeps.ite; exact h; apply Keeps.ite; apply State.setMaskBit_keeps; exact h; split
  apply State.startUp_keeps; apply State.chipReset_keeps; apply State.setMaskBit_keeps; exact h; apply Keeps.ite
  apply State.setMaskBit_keeps; exact h; apply State.startUp_keeps; apply State.setMaskBit_keeps; exact h

theorem execSupplyValid_keeps {z s : State} {a0} (h : Keeps z s) : Kept z (execSupplyValid a0 s) := by
  unfold execSupplyValid; try dsimp only
  apply Kept.next; apply State.supplyUp_keeps; exact h

theorem State.copyAll_keeps {z s : State} (h : Keeps z s) : Keeps z (State.copyAll s) := by
  unfold State.copyAll; try dsimp only
  apply State.each_keeps; apply State.each_keeps; refine Keeps.foldl ?_ ?_; apply State.each_keeps; exact h
  intros; apply State.each_keeps; assumption; intros; apply State.mirror_keeps; assumption; intros; split
  apply Keeps.ite; apply State.mirror_keeps; assumption; assumption; assumption; intros
  apply State.mirrorOut_keeps; assumption; intros; apply State.mirrorPads_keeps; assumption

theorem State.followVault_keeps {z s : State} {a1 a2} (h : Keeps z s) : Keeps z (State.followVault s a1 a2) := by
  unfold State.followVault; try dsimp only
  apply Keeps.ite; apply State.raiseFault_keeps; apply State.addSat_keeps; apply State.takeVault_keeps; exact h
  intros; dsimp only [id]; assumption; apply State.takeVault_keeps; exact h

theorem execSynced_keeps {z s : State} {a0 a1 a2} (h : Keeps z s) : Kept z (execSynced a0 a1 a2 s) := by
  unfold execSynced; try dsimp only
  apply Kept.ite; apply Kept.next; exact h; split; apply Kept.next; apply State.setStatus_keeps
  apply State.set_keeps; apply State.copyAll_keeps; exact h; apply Kept.next; apply Keeps.ite
  apply State.followVault_keeps; apply State.setStatus_keeps; apply State.set_keeps; exact h
  apply State.setStatus_keeps; apply State.set_keeps; exact h; apply Kept.next; apply State.set_keeps; exact h
  apply Kept.next; exact h

theorem State.systemStrobe_keeps {z s : State} {a1 a2} (h : Keeps z s) : Keeps z (State.systemStrobe s a1 a2) := by
  unfold State.systemStrobe; try dsimp only
  apply State.each_keeps; exact h; intros; apply Keeps.ite; apply State.pushTrig_keeps; assumption; assumption

theorem execSystemStrobe_keeps {z s : State} {a0} (h : Keeps z s) : Kept z (execSystemStrobe a0 s) := by
  unfold execSystemStrobe; try dsimp only
  split; apply Kept.ite; apply Kept.next; apply State.systemStrobe_keeps; apply State.incWrap_keeps
  with_reducible apply Keeps.mk_; apply State.reach_keeps; exact h; apply Kept.next; exact h; apply Kept.next
  exact h

theorem State.accept_keeps {z s : State} {a1} (h : Keeps z s) : Keeps z (State.accept s a1) := by
  unfold State.accept; try dsimp only
  apply State.putTask_keeps; exact h

theorem State.takeTask_keeps {z s : State} {a1} (h : Keeps z s) : Keeps z (State.takeTask s a1) := by
  unfold State.takeTask; try dsimp only
  apply Keeps.ite; with_reducible apply Keeps.mk_; apply State.nextWord_keeps; exact h; apply State.nextWord_keeps
  exact h

theorem execTaskAccept_keeps {z s : State} {a0} (h : Keeps z s) : Kept z (execTaskAccept a0 s) := by
  unfold execTaskAccept; try dsimp only
  split; apply Kept.next; exact h; split; apply Kept.next; apply Keeps.ite; apply State.takeTask_keeps
  apply State.accept_keeps; exact h; exact h; apply Kept.ite; apply Kept.next; apply State.accept_keeps
  apply State.writeCq_keeps; exact h; apply Kept.next; exact h; apply Kept.next; apply State.accept_keeps; exact h

theorem State.pointed_keeps {z s : State} {a0 a2 a3 a4 a5} (h : Keeps z s) : Keeps z (State.pointed a0 s a2 a3 a4
    a5).2 := by
  induction a0 generalizing s a3 a4 a5 with
  | zero => exact h
  | succ k ih =>
    unfold State.pointed
    split
    · exact h
    · dsimp only
      split
      · exact State.bar2Read_keeps h
      · exact ih (State.bar2Read_keeps h)

theorem State.pointedData_keeps {z s : State} {a1 a2} (h : Keeps z s) : Keeps z (State.pointedData s a1 a2).2 := by
  unfold State.pointedData; try dsimp only
  with_reducible apply Keeps.mkIn; apply State.pointed_keeps; exact h

theorem execTaskEntry_keeps {z s : State} {a0 a1} (h : Keeps z s) : Kept z (execTaskEntry a0 a1 s) := by
  unfold execTaskEntry; try dsimp only
  split; apply Kept.next; exact h; split; apply Kept.next; apply State.complete_keeps; exact h; apply Kept.ite
  apply Kept.next; apply State.complete_keeps; exact h; apply Kept.ite; apply Kept.next; exact h; split
  apply Kept.next; apply State.complete_keeps; apply Keeps.ite_snd; dsimp only; exact h; apply Keeps.ite_snd
  apply State.pointedData_keeps; exact h; dsimp only; exact h; split; apply Kept.next; apply State.complete_keeps
  refine State.placeItem_keeps ?_ (by assumption); apply Keeps.ite_snd; dsimp only; exact h; apply Keeps.ite_snd
  apply State.pointedData_keeps; exact h; dsimp only; exact h; apply Kept.next; apply State.closeFull_keeps
  exact h

theorem execTbSlewAmount_keeps {z s : State} {a0 a1} (h : Keeps z s) : Kept z (execTbSlewAmount a0 a1 s) := by
  unfold execTbSlewAmount; try dsimp only
  apply Kept.next; apply State.gateF_keeps; exact h; intros; apply State.slewAmount_keeps; assumption

theorem execTbSlewRate_keeps {z s : State} {a0 a1} (h : Keeps z s) : Kept z (execTbSlewRate a0 a1 s) := by
  unfold execTbSlewRate; try dsimp only
  apply Kept.next; apply State.gateF_keeps; exact h; intros; apply State.slewRate_keeps; assumption

theorem State.dieTemp_keeps {z s : State} {a1 a2} (h : Keeps z s) : Keeps z (State.dieTemp s a1 a2) := by
  unfold State.dieTemp; try dsimp only
  apply Keeps.ite; apply State.raiseOwn_keeps; apply Keeps.ite; apply State.raiseOwn_keeps; apply Keeps.ite
  apply State.setStatus_keeps; with_reducible apply Keeps.mk_; exact h; with_reducible apply Keeps.mk_; exact h
  intros; dsimp only [id]; assumption; apply Keeps.ite; apply State.setStatus_keeps
  with_reducible apply Keeps.mk_; exact h; with_reducible apply Keeps.mk_; exact h; intros; dsimp only [id]
  assumption; apply Keeps.ite; apply State.raiseOwn_keeps; apply Keeps.ite; apply State.setStatus_keeps
  with_reducible apply Keeps.mk_; exact h; with_reducible apply Keeps.mk_; exact h; intros; dsimp only [id]
  assumption; apply Keeps.ite; apply State.setStatus_keeps; with_reducible apply Keeps.mk_; exact h
  with_reducible apply Keeps.mk_; exact h

theorem execTempSample_keeps {z s : State} {a0 a1} (h : Keeps z s) : Kept z (execTempSample a0 a1 s) := by
  unfold execTempSample; try dsimp only
  apply Kept.ite; apply Kept.next; exact h; apply Kept.next; apply State.dieTemp_keeps; apply State.dieTemp_keeps
  apply State.set_keeps; apply State.set_keeps; exact h

theorem State.loseVote_keeps {z s : State} (h : Keeps z s) : Keeps z (State.loseVote s) := by
  unfold State.loseVote; try dsimp only
  apply State.syncHealthy_keeps; apply State.surrender_keeps; apply State.enterSafe_keeps; apply State.set_keeps
  exact h

theorem execTenderVote_keeps {z s : State} {a0 a1 a2} (h : Keeps z s) : Kept z (execTenderVote a0 a1 a2 s) := by
  unfold execTenderVote; try dsimp only
  apply Kept.ite; apply Kept.next; exact h; apply Kept.ite; apply Kept.next; apply State.loseVote_keeps; exact h
  apply Kept.next; apply State.setStatus_keeps; apply State.raiseOwn_keeps; exact h; intros
  apply State.incSat_keeps; assumption

theorem State.followTime_keeps {z s : State} {a1} (h : Keeps z s) : Keeps z (State.followTime s a1) := by
  unfold State.followTime; try dsimp only
  apply Keeps.ite; apply State.loadAt_keeps; apply State.nextTick_keeps; exact h; apply State.startSlew_keeps
  exact h

theorem execTimePacket_keeps {z s : State} {a0 a1} (h : Keeps z s) : Kept z (execTimePacket a0 a1 s) := by
  unfold execTimePacket; try dsimp only
  apply Kept.ite; apply Kept.next; exact h; apply Kept.ite; apply Kept.next; apply State.set_keeps
  apply State.set_keeps; exact h; apply Kept.ite; apply Kept.next; apply Keeps.ite; apply State.raiseFault_keeps
  apply State.setStatus_keeps; apply State.followTime_keeps; apply State.set_keeps; apply State.set_keeps; exact h
  intros; dsimp only [id]; assumption; apply State.setStatus_keeps; apply State.followTime_keeps
  apply State.set_keeps; apply State.set_keeps; exact h; apply Kept.ite; apply Kept.next
  apply State.setStatus_keeps; apply State.set_keeps; apply State.followTime_keeps; apply State.set_keeps
  apply State.set_keeps; exact h; apply Kept.next; apply State.followTime_keeps; apply State.set_keeps
  apply State.set_keeps; exact h

theorem execTimeSet_keeps {z s : State} {a0 a1} (h : Keeps z s) : Kept z (execTimeSet a0 a1 s) := by
  unfold execTimeSet; try dsimp only
  apply Kept.next; apply State.gate_keeps; exact h; intros; apply State.timeSet_keeps; assumption

theorem execTimebaseLock_keeps {z s : State} {a0} (h : Keeps z s) : Kept z (execTimebaseLock a0 s) := by
  unfold execTimebaseLock; try dsimp only
  apply Kept.ite; apply Kept.next; exact h; apply Kept.next; apply State.bootLocked_keeps
  apply State.setStatus_keeps; apply State.set_keeps; apply State.set_keeps; apply State.set_keeps
  apply State.set_keeps; with_reducible apply Keeps.mk_; exact h

theorem execTimerEnable_keeps {z s : State} {a0 a1} (h : Keeps z s) : Kept z (execTimerEnable a0 a1 s) := by
  unfold execTimerEnable; try dsimp only
  apply Kept.next; apply State.gateF_keeps; exact h; intros; apply Keeps.ite; apply State.setTimerEn_keeps
  assumption; assumption

theorem execTimerEvent_keeps {z s : State} {a0} (h : Keeps z s) : Kept z (execTimerEvent a0 s) := by
  unfold execTimerEvent; try dsimp only
  split; apply Kept.next; exact h; apply Kept.ite; apply Kept.next; apply State.flow_keeps
  apply State.timerDue_keeps; apply State.edgeAt_keeps; exact h; apply Kept.next; exact h

theorem execTimerPulseFall_keeps {z s : State} {a0} (h : Keeps z s) : Kept z (execTimerPulseFall a0 s) := by
  unfold execTimerPulseFall; try dsimp only
  split; apply Kept.next; exact h; apply Kept.ite; apply Kept.next; apply State.flow_keeps; apply Keeps.ite
  apply State.set_keeps; apply State.timerFall_keeps; apply State.edgeAt_keeps; exact h
  apply State.timerFall_keeps; apply State.edgeAt_keeps; exact h; apply Kept.next; exact h

theorem execTimerStart_keeps {z s : State} {a0 a1} (h : Keeps z s) : Kept z (execTimerStart a0 a1 s) := by
  unfold execTimerStart; try dsimp only
  apply Kept.next; apply State.gateF_keeps; exact h; intros; apply Keeps.ite; apply State.startTimer_keeps
  apply State.toTick_keeps; assumption; assumption

theorem execTimerStop_keeps {z s : State} {a0 a1} (h : Keeps z s) : Kept z (execTimerStop a0 a1 s) := by
  unfold execTimerStop; try dsimp only
  apply Kept.next; apply State.gateF_keeps; exact h; intros; apply Keeps.ite; apply State.setTimerEn_keeps
  assumption; assumption

theorem execTmStartTimeWrite_keeps {z s : State} {a0 a1 a2} (h : Keeps z s) : Kept z (execTmStartTimeWrite a0 a1
    a2 s) := by
  unfold execTmStartTimeWrite; try dsimp only
  apply Kept.next; apply State.gate_keeps; exact h; intros; apply Keeps.ite; apply State.startTimeWrite_keeps
  assumption; assumption

theorem execTndTrapClear_keeps {z s : State} {a0} (h : Keeps z s) : Kept z (execTndTrapClear a0 s) := by
  unfold execTndTrapClear; try dsimp only
  apply Kept.next; apply State.gateF_keeps; exact h; intros; apply State.trapClear_keeps; assumption

theorem State.withdraw_keeps {z s : State} (h : Keeps z s) : Keeps z (State.withdraw s) := by
  unfold State.withdraw; try dsimp only
  apply State.setStatus_keeps; apply State.setRole_keeps; apply State.releaseAll_keeps
  with_reducible apply Keeps.mk_; exact h

theorem State.heartbeat_keeps {z s : State} {a1} (h : Keeps z s) : Keeps z (State.heartbeat s a1) := by
  unfold State.heartbeat; try dsimp only
  apply Keeps.ite; apply State.tryTakeOver_keeps; apply State.set_keeps; with_reducible apply Keeps.mk_; exact h
  apply Keeps.ite; apply Keeps.ite; apply State.withdraw_keeps; apply State.set_keeps
  with_reducible apply Keeps.mk_; exact h; apply State.set_keeps; with_reducible apply Keeps.mk_; exact h
  apply Keeps.ite; apply State.raiseFault_keeps; apply State.setStatus_keeps; with_reducible apply Keeps.mk_
  apply State.set_keeps; with_reducible apply Keeps.mk_; exact h; intros; dsimp only [id]; assumption
  apply State.set_keeps; with_reducible apply Keeps.mk_; exact h

theorem State.mirrored_keeps {z s : State} {a1} (h : Keeps z s) : Keeps z (State.mirrored s a1) := by
  unfold State.mirrored; try dsimp only
  split; apply Keeps.ite; apply State.memEnter_keeps; exact h; exact h; split; apply State.writeTagged_keeps
  exact h; exact h; apply Keeps.ite; apply State.modOut_keeps; apply State.setDa_keeps; apply State.setDa_keeps
  apply State.setDa_keeps; apply State.setDa_keeps; exact h; exact h; apply Keeps.ite; apply State.each_keeps
  apply State.set_keeps; exact h; intros; apply State.setPad_keeps; assumption; exact h
  with_reducible apply Keeps.mk_; exact h; apply Keeps.ite; apply State.takeVault_keeps; exact h; exact h
  apply Keeps.ite; apply State.putSlot_keeps; exact h; exact h; apply Keeps.ite; apply State.emptySlot_keeps
  exact h; exact h; apply Keeps.ite; apply State.setStartup_keeps; exact h; exact h; apply Keeps.ite
  apply State.followTime_keeps; exact h; exact h; apply Keeps.ite; apply State.startCouch_keeps; exact h; exact h
  exact h

theorem State.noteLag_keeps {z s : State} {a1} (h : Keeps z s) : Keeps z (State.noteLag s a1) := by
  unfold State.noteLag; try dsimp only
  apply State.set_keeps; apply State.set_keeps; exact h

theorem State.takeFrame_keeps {z s : State} {a1 a2} (h : Keeps z s) : Keeps z (State.takeFrame s a1 a2) := by
  unfold State.takeFrame; try dsimp only
  split; apply State.heartbeat_keeps; exact h; apply State.tryTakeOver_keeps; with_reducible apply Keeps.mk_
  exact h; apply Keeps.ite; apply State.mirrored_keeps; apply Keeps.ite; apply State.noteLag_keeps; exact h
  exact h; exact h

theorem execTwinFrame_keeps {z s : State} {a0 a1 a2} (h : Keeps z s) : Kept z (execTwinFrame a0 a1 a2 s) := by
  unfold execTwinFrame; try dsimp only
  apply Kept.ite; apply Kept.next; exact h; split; apply Kept.next; apply State.raiseFault_keeps
  apply State.incSat_keeps; apply State.injectedCheck_keeps; exact h; intros; dsimp only [id]; assumption
  apply Kept.next; apply State.takeFrame_keeps; apply State.injectedCheck_keeps; exact h

theorem execTwinLinkTimeout_keeps {z s : State} (h : Keeps z s) : Kept z (execTwinLinkTimeout s) := by
  unfold execTwinLinkTimeout; try dsimp only
  apply Kept.ite; apply Kept.next; apply State.raiseFault_keeps; apply State.takeLinkDown_keeps; exact h; intros
  dsimp only [id]; assumption; apply Kept.next; exact h

theorem execTwinPeerChange_keeps {z s : State} {a0} (h : Keeps z s) : Kept z (execTwinPeerChange a0 s) := by
  unfold execTwinPeerChange; try dsimp only
  apply Kept.ite; apply Kept.next; exact h; apply Kept.ite; apply Kept.next; apply State.withdraw_keeps
  with_reducible apply Keeps.mk_; apply State.set_keeps; exact h; apply Kept.next; apply Keeps.ite
  apply State.tryTakeOver_keeps; apply State.listen_keeps; with_reducible apply Keeps.mk_; apply State.set_keeps
  exact h; apply State.listen_keeps; with_reducible apply Keeps.mk_; apply State.set_keeps; exact h

theorem execUnpublish_keeps {z s : State} {a0} (h : Keeps z s) : Kept z (execUnpublish a0 s) := by
  unfold execUnpublish; try dsimp only
  apply Kept.ite; apply Kept.next; apply State.setDa_keeps; apply State.setDa_keeps; apply State.setOut_keeps
  apply State.reachClk_keeps; exact h; apply Kept.next; exact h

theorem execUnreachable_keeps {z s : State} {a0 a1 a2} (h : Keeps z s) : Kept z (execUnreachable a0 a1 a2 s) := by
  unfold execUnreachable; try dsimp only
  apply Kept.next; apply Keeps.ite; apply State.writeReg_keeps; exact h; apply State.readReg_keeps; exact h

theorem execVcoreStep_keeps {z s : State} {a0} (h : Keeps z s) : Kept z (execVcoreStep a0 s) := by
  unfold execVcoreStep; try dsimp only
  apply Kept.ite; apply Kept.next; exact h; apply Kept.ite; apply Kept.next; apply State.pmbFail_keeps; exact h
  apply Kept.next; apply Keeps.ite; apply State.setStatus_keeps; apply State.syncVcore_keeps
  apply State.set_keeps; exact h; apply State.syncVcore_keeps; apply State.set_keeps; exact h

theorem execVddAonFall_keeps {z s : State} (h : Keeps z s) : Kept z (execVddAonFall s) := by
  unfold execVddAonFall; try dsimp only
  apply Kept.next; apply State.aonFall_keeps; exact h

theorem execVinFall_keeps {z s : State} (h : Keeps z s) : Kept z (execVinFall s) := by
  unfold execVinFall; try dsimp only
  apply Kept.ite; apply Kept.next; apply State.pressStart_keeps; exact h; apply Kept.next; exact h

theorem execVioLow_keeps {z s : State} {a0} (h : Keeps z s) : Kept z (execVioLow a0 s) := by
  unfold execVioLow; try dsimp only
  apply Kept.ite; apply Kept.next; apply State.raiseOwn_keeps; apply State.setStatus_keeps; apply State.set_keeps
  apply State.set_keeps; apply State.draw_keeps; exact h; intros; dsimp only [id]; assumption; apply Kept.next
  exact h

theorem execVioOk_keeps {z s : State} {a0} (h : Keeps z s) : Kept z (execVioOk a0 s) := by
  unfold execVioOk; try dsimp only
  apply Kept.ite; apply Kept.next; apply State.setStatus_keeps; apply State.set_keeps; exact h; apply Kept.next
  exact h

theorem execVoutMismatch_keeps {z s : State} (h : Keeps z s) : Kept z (execVoutMismatch s) := by
  unfold execVoutMismatch; try dsimp only
  apply Kept.next; apply Keeps.ite; apply State.raiseOwn_keeps; exact h; intros; dsimp only [id]; assumption
  exact h

theorem execWake_keeps {z s : State} {a0} (h : Keeps z s) : Kept z (execWake a0 s) := by
  unfold execWake; try dsimp only
  apply Kept.next; apply State.gateF_keeps; exact h; intros; apply Keeps.ite; apply State.wakeHold_keeps
  assumption; assumption

theorem State.progWord_keeps {z s : State} {a1 a2} (h : Keeps z s) : Keeps z (State.progWord s a1 a2) := by
  unfold State.progWord; try dsimp only
  with_reducible apply Keeps.mk_; apply State.set_keeps; exact h

theorem State.wordTrap_keeps {z s : State} {a1 a2 a3 a4 a5} (h : Keeps z s) : Keeps z (State.wordTrap s a1 a2 a3
    a4 a5) := by
  unfold State.wordTrap; try dsimp only
  apply State.raiseFault_keeps; apply State.setStatus_keeps; apply Keeps.ite; apply State.setMaskBit_keeps
  apply State.setWord_keeps; exact h; apply State.setMaskBit_keeps; apply State.setWord_keeps; exact h; intros
  dsimp only [id]; assumption

theorem execWordTileInstruction_keeps {z s : State} {a0 a1} (h : Keeps z s) : Kept z (execWordTileInstruction a0
    a1 s) := by
  unfold execWordTileInstruction; try dsimp only
  split; apply Kept.next; exact h; apply Kept.ite; apply Kept.next; exact h; split; apply Kept.next
  apply State.wordTrap_keeps; exact h; apply Kept.ite; apply Kept.next; exact h; apply Kept.next
  apply State.settle_keeps; split; refine Keeps.foldl ?_ ?_; apply State.setWord_keeps; exact h; intros; split
  apply State.present'_keeps; assumption; assumption; apply Keeps.ite; apply State.progWord_keeps
  refine Keeps.foldl ?_ ?_; apply State.setWord_keeps; exact h; intros; split; apply State.present'_keeps
  assumption; assumption; refine Keeps.foldl ?_ ?_; apply State.setWord_keeps; exact h; intros; split
  apply State.present'_keeps; assumption; assumption

theorem execXframeDone_keeps {z s : State} {a0} (h : Keeps z s) : Kept z (execXframeDone a0 s) := by
  unfold execXframeDone; try dsimp only
  apply Kept.next; apply State.gateF_keeps; exact h; intros; apply State.bootAfter_keeps
  apply State.xframeDone_keeps; assumption

theorem execZero_keeps {z s : State} {a0} (h : Keeps z s) : Kept z (execZero a0 s) := by
  unfold execZero; try dsimp only
  apply Kept.next; apply State.bootAfter_keeps; apply State.loadCmd_keeps; exact h

theorem State.setStatuses_keeps {z s : State} {a1 a2} (h : Keeps z s) : Keeps z (State.setStatuses s a1 a2) := by
  unfold State.setStatuses; try dsimp only
  apply State.each_keeps; exact h; intros; apply State.setStatus_keeps; assumption

end Sys2Proof.Machine
end

