-- ==== Sys2Proof/Laws/State.lean ====
section
/-!
SUPPORT. What the updates of the state leave as it was: one lemma per field and update.
-/
namespace Sys2Proof.Machine

-- A register written

@[simp] theorem State.setReg_mem (s : State) (o : Nat) (w : Word) : (s.setReg o w).mem = s.mem := rfl
@[simp] theorem State.setReg_host (s : State) (o : Nat) (w : Word) : (s.setReg o w).host = s.host := rfl
@[simp] theorem State.setReg_msix (s : State) (o : Nat) (w : Word) : (s.setReg o w).msix = s.msix := rfl
@[simp] theorem State.setReg_resp (s : State) (o : Nat) (w : Word) : (s.setReg o w).resp = s.resp := rfl
@[simp] theorem State.setReg_respErr (s : State) (o : Nat) (w : Word) : (s.setReg o w).respErr = s.respErr := rfl
@[simp] theorem State.setReg_latch (s : State) (o : Nat) (w : Word) : (s.setReg o w).latch = s.latch := rfl
@[simp] theorem State.setReg_lowHold (s : State) (o : Nat) (w : Word) : (s.setReg o w).lowHold = s.lowHold := rfl
@[simp] theorem State.setReg_keys (s : State) (o : Nat) (w : Word) : (s.setReg o w).keys = s.keys := rfl
@[simp] theorem State.setReg_faultIrq (s : State) (o : Nat) (w : Word) : (s.setReg o w).faultIrq = s.faultIrq := rfl
@[simp] theorem State.setReg_injLeft (s : State) (o : Nat) (w : Word) : (s.setReg o w).injLeft = s.injLeft := rfl
@[simp] theorem State.setReg_logLost (s : State) (o : Nat) (w : Word) : (s.setReg o w).logLost = s.logLost := rfl
@[simp] theorem State.setReg_fregBad (s : State) (o : Nat) (w : Word) : (s.setReg o w).fregBad = s.fregBad := rfl
@[simp] theorem State.setReg_heldReset (s : State) (o : Nat) (w : Word) : (s.setReg o w).heldReset = s.heldReset := rfl
@[simp] theorem State.setReg_spiStatus (s : State) (o : Nat) (w : Word) : (s.setReg o w).spiStatus = s.spiStatus := rfl
@[simp] theorem State.setReg_recStatus (s : State) (o : Nat) (w : Word) : (s.setReg o w).recStatus = s.recStatus := rfl
@[simp] theorem State.setReg_ts (s : State) (o : Nat) (w : Word) : (s.setReg o w).ts = s.ts := rfl
@[simp] theorem State.setReg_tbRun (s : State) (o : Nat) (w : Word) : (s.setReg o w).tbRun = s.tbRun := rfl
@[simp] theorem State.setReg_refOk (s : State) (o : Nat) (w : Word) : (s.setReg o w).refOk = s.refOk := rfl
@[simp] theorem State.setReg_clk (s : State) (o : Nat) (w : Word) : (s.setReg o w).clk = s.clk := rfl
@[simp] theorem State.setReg_slewLeft (s : State) (o : Nat) (w : Word) : (s.setReg o w).slewLeft = s.slewLeft := rfl
@[simp] theorem State.setReg_paceRun (s : State) (o : Nat) (w : Word) : (s.setReg o w).paceRun = s.paceRun := rfl
@[simp] theorem State.setReg_timers (s : State) (o : Nat) (w : Word) : (s.setReg o w).timers = s.timers := rfl
@[simp] theorem State.setReg_trig (s : State) (o : Nat) (w : Word) : (s.setReg o w).trig = s.trig := rfl
@[simp] theorem State.setReg_errPin (s : State) (o : Nat) (w : Word) : (s.setReg o w).errPin = s.errPin := rfl
@[simp] theorem State.setReg_errPulse (s : State) (o : Nat) (w : Word) : (s.setReg o w).errPulse = s.errPulse := rfl
@[simp] theorem State.setReg_nmiHeld (s : State) (o : Nat) (w : Word) : (s.setReg o w).nmiHeld = s.nmiHeld := rfl
@[simp] theorem State.setReg_step3Done (s : State) (o : Nat) (w : Word) : (s.setReg o w).step3Done = s.step3Done := rfl
@[simp] theorem State.setReg_bootDue (s : State) (o : Nat) (w : Word) : (s.setReg o w).bootDue = s.bootDue := rfl
@[simp] theorem State.setReg_bootPhase (s : State) (o : Nat) (w : Word) : (s.setReg o w).bootPhase = s.bootPhase := rfl
@[simp] theorem State.setReg_resetLow (s : State) (o : Nat) (w : Word) : (s.setReg o w).resetLow = s.resetLow := rfl
@[simp] theorem State.setReg_mpDown (s : State) (o : Nat) (w : Word) : (s.setReg o w).mpDown = s.mpDown := rfl
@[simp] theorem State.setReg_unpowered (s : State) (o : Nat) (w : Word) : (s.setReg o w).unpowered = s.unpowered := rfl
@[simp] theorem State.setReg_fine (s : State) (o : Nat) (w : Word) : (s.setReg o w).fine = s.fine := rfl
@[simp] theorem State.setReg_word (s : State) (o : Nat) (w : Word) : (s.setReg o w).word = s.word := rfl
@[simp] theorem State.setReg_nets (s : State) (o : Nat) (w : Word) : (s.setReg o w).nets = s.nets := rfl
@[simp] theorem State.setReg_taps (s : State) (o : Nat) (w : Word) : (s.setReg o w).taps = s.taps := rfl
@[simp] theorem State.setReg_tapIn (s : State) (o : Nat) (w : Word) : (s.setReg o w).tapIn = s.tapIn := rfl
@[simp] theorem State.setReg_portIn (s : State) (o : Nat) (w : Word) : (s.setReg o w).portIn = s.portIn := rfl
@[simp] theorem State.setReg_eventPay (s : State) (o : Nat) (w : Word) : (s.setReg o w).eventPay = s.eventPay := rfl
@[simp] theorem State.setReg_handleOut (s : State) (o : Nat) (w : Word) : (s.setReg o w).handleOut = s.handleOut := rfl
@[simp] theorem State.setReg_scrubs (s : State) (o : Nat) (w : Word) : (s.setReg o w).scrubs = s.scrubs := rfl
@[simp] theorem State.setReg_wrHeld (s : State) (o : Nat) (w : Word) : (s.setReg o w).wrHeld = s.wrHeld := rfl
@[simp] theorem State.setReg_memWait (s : State) (o : Nat) (w : Word) : (s.setReg o w).memWait = s.memWait := rfl
@[simp] theorem State.setReg_aspect (s : State) (o : Nat) (w : Word) : (s.setReg o w).aspect = s.aspect := rfl
@[simp] theorem State.setReg_flips (s : State) (o : Nat) (w : Word) : (s.setReg o w).flips = s.flips := rfl
@[simp] theorem State.setReg_gatesClosed (s : State) (o : Nat) (w : Word) : (s.setReg o w).gatesClosed = s.gatesClosed := rfl
@[simp] theorem State.setReg_held (s : State) (o : Nat) (w : Word) : (s.setReg o w).held = s.held := rfl
@[simp] theorem State.setReg_frames (s : State) (o : Nat) (w : Word) : (s.setReg o w).frames = s.frames := rfl
@[simp] theorem State.setReg_frameChk (s : State) (o : Nat) (w : Word) : (s.setReg o w).frameChk = s.frameChk := rfl
@[simp] theorem State.setReg_setw (s : State) (o : Nat) (w : Word) : (s.setReg o w).setw = s.setw := rfl
@[simp] theorem State.setReg_retA (s : State) (o : Nat) (w : Word) : (s.setReg o w).retA = s.retA := rfl
@[simp] theorem State.setReg_retS (s : State) (o : Nat) (w : Word) : (s.setReg o w).retS = s.retS := rfl
@[simp] theorem State.setReg_cfgOp (s : State) (o : Nat) (w : Word) : (s.setReg o w).cfgOp = s.cfgOp := rfl
@[simp] theorem State.setReg_loaderBuf (s : State) (o : Nat) (w : Word) : (s.setReg o w).loaderBuf = s.loaderBuf := rfl
@[simp] theorem State.setReg_keyHash (s : State) (o : Nat) (w : Word) : (s.setReg o w).keyHash = s.keyHash := rfl
@[simp] theorem State.setReg_sheetKey (s : State) (o : Nat) (w : Word) : (s.setReg o w).sheetKey = s.sheetKey := rfl
@[simp] theorem State.setReg_keyBad (s : State) (o : Nat) (w : Word) : (s.setReg o w).keyBad = s.keyBad := rfl
@[simp] theorem State.setReg_keyOp (s : State) (o : Nat) (w : Word) : (s.setReg o w).keyOp = s.keyOp := rfl
@[simp] theorem State.setReg_bootCopy (s : State) (o : Nat) (w : Word) : (s.setReg o w).bootCopy = s.bootCopy := rfl
@[simp] theorem State.setReg_couch (s : State) (o : Nat) (w : Word) : (s.setReg o w).couch = s.couch := rfl
@[simp] theorem State.setReg_shadowSrc (s : State) (o : Nat) (w : Word) : (s.setReg o w).shadowSrc = s.shadowSrc := rfl
@[simp] theorem State.setReg_activeSrc (s : State) (o : Nat) (w : Word) : (s.setReg o w).activeSrc = s.activeSrc := rfl
@[simp] theorem State.setReg_badFrames (s : State) (o : Nat) (w : Word) : (s.setReg o w).badFrames = s.badFrames := rfl
@[simp] theorem State.setReg_badWords (s : State) (o : Nat) (w : Word) : (s.setReg o w).badWords = s.badWords := rfl
@[simp] theorem State.setReg_heldStale (s : State) (o : Nat) (w : Word) : (s.setReg o w).heldStale = s.heldStale := rfl
@[simp] theorem State.setReg_repair (s : State) (o : Nat) (w : Word) : (s.setReg o w).repair = s.repair := rfl
@[simp] theorem State.setReg_repairDue (s : State) (o : Nat) (w : Word) : (s.setReg o w).repairDue = s.repairDue := rfl
@[simp] theorem State.setReg_passStart (s : State) (o : Nat) (w : Word) : (s.setReg o w).passStart = s.passStart := rfl
@[simp] theorem State.setReg_passSeen (s : State) (o : Nat) (w : Word) : (s.setReg o w).passSeen = s.passSeen := rfl
@[simp] theorem State.setReg_passDue (s : State) (o : Nat) (w : Word) : (s.setReg o w).passDue = s.passDue := rfl
@[simp] theorem State.setReg_pathMute (s : State) (o : Nat) (w : Word) : (s.setReg o w).pathMute = s.pathMute := rfl
@[simp] theorem State.setReg_muteAt (s : State) (o : Nat) (w : Word) : (s.setReg o w).muteAt = s.muteAt := rfl
@[simp] theorem State.setReg_pinTripAt (s : State) (o : Nat) (w : Word) : (s.setReg o w).pinTripAt = s.pinTripAt := rfl
@[simp] theorem State.setReg_loopAt (s : State) (o : Nat) (w : Word) : (s.setReg o w).loopAt = s.loopAt := rfl
@[simp] theorem State.setReg_pinV (s : State) (o : Nat) (w : Word) : (s.setReg o w).pinV = s.pinV := rfl
@[simp] theorem State.setReg_cellI (s : State) (o : Nat) (w : Word) : (s.setReg o w).cellI = s.cellI := rfl
@[simp] theorem State.setReg_cellH (s : State) (o : Nat) (w : Word) : (s.setReg o w).cellH = s.cellH := rfl
@[simp] theorem State.setReg_intV (s : State) (o : Nat) (w : Word) : (s.setReg o w).intV = s.intV := rfl
@[simp] theorem State.setReg_heldV (s : State) (o : Nat) (w : Word) : (s.setReg o w).heldV = s.heldV := rfl
@[simp] theorem State.setReg_pinRun (s : State) (o : Nat) (w : Word) : (s.setReg o w).pinRun = s.pinRun := rfl
@[simp] theorem State.setReg_rings (s : State) (o : Nat) (w : Word) : (s.setReg o w).rings = s.rings := rfl
@[simp] theorem State.setReg_portWait (s : State) (o : Nat) (w : Word) : (s.setReg o w).portWait = s.portWait := rfl
@[simp] theorem State.setReg_tasks (s : State) (o : Nat) (w : Word) : (s.setReg o w).tasks = s.tasks := rfl
@[simp] theorem State.setReg_gens (s : State) (o : Nat) (w : Word) : (s.setReg o w).gens = s.gens := rfl
@[simp] theorem State.setReg_schSeq (s : State) (o : Nat) (w : Word) : (s.setReg o w).schSeq = s.schSeq := rfl
@[simp] theorem State.setReg_hwDue (s : State) (o : Nat) (w : Word) : (s.setReg o w).hwDue = s.hwDue := rfl
@[simp] theorem State.setReg_hwSlot (s : State) (o : Nat) (w : Word) : (s.setReg o w).hwSlot = s.hwSlot := rfl
@[simp] theorem State.setReg_subWait (s : State) (o : Nat) (w : Word) : (s.setReg o w).subWait = s.subWait := rfl
@[simp] theorem State.setReg_subIn (s : State) (o : Nat) (w : Word) : (s.setReg o w).subIn = s.subIn := rfl
@[simp] theorem State.setReg_spanPorts (s : State) (o : Nat) (w : Word) : (s.setReg o w).spanPorts = s.spanPorts := rfl
@[simp] theorem State.setReg_spanWait (s : State) (o : Nat) (w : Word) : (s.setReg o w).spanWait = s.spanWait := rfl
@[simp] theorem State.setReg_rotate (s : State) (o : Nat) (w : Word) : (s.setReg o w).rotate = s.rotate := rfl
@[simp] theorem State.setReg_compLevel (s : State) (o : Nat) (w : Word) : (s.setReg o w).compLevel = s.compLevel := rfl
@[simp] theorem State.setReg_lateMark (s : State) (o : Nat) (w : Word) : (s.setReg o w).lateMark = s.lateMark := rfl
@[simp] theorem State.setReg_wkrMask (s : State) (o : Nat) (w : Word) : (s.setReg o w).wkrMask = s.wkrMask := rfl
@[simp] theorem State.setReg_dispOut (s : State) (o : Nat) (w : Word) : (s.setReg o w).dispOut = s.dispOut := rfl
@[simp] theorem State.setReg_handleRet (s : State) (o : Nat) (w : Word) : (s.setReg o w).handleRet = s.handleRet := rfl
@[simp] theorem State.setReg_notices (s : State) (o : Nat) (w : Word) : (s.setReg o w).notices = s.notices := rfl
@[simp] theorem State.setReg_cqPhase (s : State) (o : Nat) (w : Word) : (s.setReg o w).cqPhase = s.cqPhase := rfl
@[simp] theorem State.setReg_mpRel (s : State) (o : Nat) (w : Word) : (s.setReg o w).mpRel = s.mpRel := rfl
@[simp] theorem State.setReg_strobeOut (s : State) (o : Nat) (w : Word) : (s.setReg o w).strobeOut = s.strobeOut := rfl
@[simp] theorem State.setReg_hqStatus (s : State) (o : Nat) (w : Word) : (s.setReg o w).hqStatus = s.hqStatus := rfl
@[simp] theorem State.setReg_cancelRes (s : State) (o : Nat) (w : Word) : (s.setReg o w).cancelRes = s.cancelRes := rfl
@[simp] theorem State.setReg_haSkip (s : State) (o : Nat) (w : Word) : (s.setReg o w).haSkip = s.haSkip := rfl
@[simp] theorem State.setReg_haSeen (s : State) (o : Nat) (w : Word) : (s.setReg o w).haSeen = s.haSeen := rfl
@[simp] theorem State.setReg_flowBad (s : State) (o : Nat) (w : Word) : (s.setReg o w).flowBad = s.flowBad := rfl
@[simp] theorem State.setReg_ckptSkip (s : State) (o : Nat) (w : Word) : (s.setReg o w).ckptSkip = s.ckptSkip := rfl
@[simp] theorem State.setReg_lib (s : State) (o : Nat) (w : Word) : (s.setReg o w).lib = s.lib := rfl
@[simp] theorem State.setReg_vault (s : State) (o : Nat) (w : Word) : (s.setReg o w).vault = s.vault := rfl
@[simp] theorem State.setReg_txn (s : State) (o : Nat) (w : Word) : (s.setReg o w).txn = s.txn := rfl
@[simp] theorem State.setReg_vtCommit (s : State) (o : Nat) (w : Word) : (s.setReg o w).vtCommit = s.vtCommit := rfl
@[simp] theorem State.setReg_vtOp (s : State) (o : Nat) (w : Word) : (s.setReg o w).vtOp = s.vtOp := rfl
@[simp] theorem State.setReg_rsOp (s : State) (o : Nat) (w : Word) : (s.setReg o w).rsOp = s.rsOp := rfl
@[simp] theorem State.setReg_refresh (s : State) (o : Nat) (w : Word) : (s.setReg o w).refresh = s.refresh := rfl
@[simp] theorem State.setReg_nandOut (s : State) (o : Nat) (w : Word) : (s.setReg o w).nandOut = s.nandOut := rfl
@[simp] theorem State.setReg_caps (s : State) (o : Nat) (w : Word) : (s.setReg o w).caps = s.caps := rfl
@[simp] theorem State.setReg_capRead (s : State) (o : Nat) (w : Word) : (s.setReg o w).capRead = s.capRead := rfl
@[simp] theorem State.setReg_prSaved (s : State) (o : Nat) (w : Word) : (s.setReg o w).prSaved = s.prSaved := rfl
@[simp] theorem State.setReg_energyAt (s : State) (o : Nat) (w : Word) : (s.setReg o w).energyAt = s.energyAt := rfl
@[simp] theorem State.setReg_energyNext (s : State) (o : Nat) (w : Word) : (s.setReg o w).energyNext = s.energyNext := rfl
@[simp] theorem State.setReg_energySample (s : State) (o : Nat) (w : Word) : (s.setReg o w).energySample = s.energySample := rfl
@[simp] theorem State.setReg_energyUv (s : State) (o : Nat) (w : Word) : (s.setReg o w).energyUv = s.energyUv := rfl
@[simp] theorem State.setReg_press (s : State) (o : Nat) (w : Word) : (s.setReg o w).press = s.press := rfl
@[simp] theorem State.setReg_prPlan (s : State) (o : Nat) (w : Word) : (s.setReg o w).prPlan = s.prPlan := rfl
@[simp] theorem State.setReg_vtRebuild (s : State) (o : Nat) (w : Word) : (s.setReg o w).vtRebuild = s.vtRebuild := rfl
@[simp] theorem State.setReg_vtFmt (s : State) (o : Nat) (w : Word) : (s.setReg o w).vtFmt = s.vtFmt := rfl
@[simp] theorem State.setReg_energyTold (s : State) (o : Nat) (w : Word) : (s.setReg o w).energyTold = s.energyTold := rfl
@[simp] theorem State.setReg_pressRuns (s : State) (o : Nat) (w : Word) : (s.setReg o w).pressRuns = s.pressRuns := rfl
@[simp] theorem State.setReg_bfeImg (s : State) (o : Nat) (w : Word) : (s.setReg o w).bfeImg = s.bfeImg := rfl
@[simp] theorem State.setReg_bfeSize (s : State) (o : Nat) (w : Word) : (s.setReg o w).bfeSize = s.bfeSize := rfl
@[simp] theorem State.setReg_bfePort (s : State) (o : Nat) (w : Word) : (s.setReg o w).bfePort = s.bfePort := rfl
@[simp] theorem State.setReg_bfeUpd (s : State) (o : Nat) (w : Word) : (s.setReg o w).bfeUpd = s.bfeUpd := rfl
@[simp] theorem State.setReg_bfeFetch (s : State) (o : Nat) (w : Word) : (s.setReg o w).bfeFetch = s.bfeFetch := rfl
@[simp] theorem State.setReg_hostRst (s : State) (o : Nat) (w : Word) : (s.setReg o w).hostRst = s.hostRst := rfl
@[simp] theorem State.setReg_hostRstDue (s : State) (o : Nat) (w : Word) : (s.setReg o w).hostRstDue = s.hostRstDue := rfl
@[simp] theorem State.setReg_convs (s : State) (o : Nat) (w : Word) : (s.setReg o w).convs = s.convs := rfl
@[simp] theorem State.setReg_chainIn (s : State) (o : Nat) (w : Word) : (s.setReg o w).chainIn = s.chainIn := rfl
@[simp] theorem State.setReg_chains (s : State) (o : Nat) (w : Word) : (s.setReg o w).chains = s.chains := rfl
@[simp] theorem State.setReg_cpRun (s : State) (o : Nat) (w : Word) : (s.setReg o w).cpRun = s.cpRun := rfl
@[simp] theorem State.setReg_cpSettle (s : State) (o : Nat) (w : Word) : (s.setReg o w).cpSettle = s.cpSettle := rfl
@[simp] theorem State.setReg_cpChanged (s : State) (o : Nat) (w : Word) : (s.setReg o w).cpChanged = s.cpChanged := rfl
@[simp] theorem State.setReg_cpNext (s : State) (o : Nat) (w : Word) : (s.setReg o w).cpNext = s.cpNext := rfl
@[simp] theorem State.setReg_cpDue (s : State) (o : Nat) (w : Word) : (s.setReg o w).cpDue = s.cpDue := rfl
@[simp] theorem State.setReg_snapLast (s : State) (o : Nat) (w : Word) : (s.setReg o w).snapLast = s.snapLast := rfl
@[simp] theorem State.setReg_outCh (s : State) (o : Nat) (w : Word) : (s.setReg o w).outCh = s.outCh := rfl
@[simp] theorem State.setReg_daTick (s : State) (o : Nat) (w : Word) : (s.setReg o w).daTick = s.daTick := rfl
@[simp] theorem State.setReg_lsLast (s : State) (o : Nat) (w : Word) : (s.setReg o w).lsLast = s.lsLast := rfl
@[simp] theorem State.setReg_pads (s : State) (o : Nat) (w : Word) : (s.setReg o w).pads = s.pads := rfl
@[simp] theorem State.setReg_padLocks (s : State) (o : Nat) (w : Word) : (s.setReg o w).padLocks = s.padLocks := rfl
@[simp] theorem State.setReg_gbBad (s : State) (o : Nat) (w : Word) : (s.setReg o w).gbBad = s.gbBad := rfl
@[simp] theorem State.setReg_lanes (s : State) (o : Nat) (w : Word) : (s.setReg o w).lanes = s.lanes := rfl
@[simp] theorem State.setReg_twin (s : State) (o : Nat) (w : Word) : (s.setReg o w).twin = s.twin := rfl
@[simp] theorem State.setReg_snOut (s : State) (o : Nat) (w : Word) : (s.setReg o w).snOut = s.snOut := rfl
@[simp] theorem State.setReg_strobes (s : State) (o : Nat) (w : Word) : (s.setReg o w).strobes = s.strobes := rfl
@[simp] theorem State.setReg_seqPhase (s : State) (o : Nat) (w : Word) : (s.setReg o w).seqPhase = s.seqPhase := rfl
@[simp] theorem State.setReg_hostDelay (s : State) (o : Nat) (w : Word) : (s.setReg o w).hostDelay = s.hostDelay := rfl
@[simp] theorem State.setReg_ramps (s : State) (o : Nat) (w : Word) : (s.setReg o w).ramps = s.ramps := rfl
@[simp] theorem State.setReg_dozeOff (s : State) (o : Nat) (w : Word) : (s.setReg o w).dozeOff = s.dozeOff := rfl
@[simp] theorem State.setReg_leaveHold (s : State) (o : Nat) (w : Word) : (s.setReg o w).leaveHold = s.leaveHold := rfl
@[simp] theorem State.setReg_pressOff (s : State) (o : Nat) (w : Word) : (s.setReg o w).pressOff = s.pressOff := rfl
@[simp] theorem State.setReg_pmbHeld (s : State) (o : Nat) (w : Word) : (s.setReg o w).pmbHeld = s.pmbHeld := rfl
@[simp] theorem State.setReg_vcoreGoal (s : State) (o : Nat) (w : Word) : (s.setReg o w).vcoreGoal = s.vcoreGoal := rfl
@[simp] theorem State.setReg_tempRun (s : State) (o : Nat) (w : Word) : (s.setReg o w).tempRun = s.tempRun := rfl
@[simp] theorem State.setReg_holdEntry (s : State) (o : Nat) (w : Word) : (s.setReg o w).holdEntry = s.holdEntry := rfl
@[simp] theorem State.setReg_part (s : State) (o : Nat) (w : Word) : (s.setReg o w).part = s.part := rfl
@[simp] theorem State.setReg_pending (s : State) (o : Nat) (w : Word) : (s.setReg o w).pending = s.pending := rfl
@[simp] theorem State.setReg_free (s : State) (o : Nat) (w : Word) : (s.setReg o w).free = s.free := rfl
@[simp] theorem State.setReg_toTimebaseState (s : State) (o : Nat) (w : Word) :
    (s.setReg o w).toTimebaseState = s.toTimebaseState := rfl
@[simp] theorem State.setReg_toTenderState (s : State) (o : Nat) (w : Word) :
    (s.setReg o w).toTenderState = s.toTenderState := rfl
@[simp] theorem State.setReg_toFabricState (s : State) (o : Nat) (w : Word) :
    (s.setReg o w).toFabricState = s.toFabricState := rfl
@[simp] theorem State.setReg_toConfigurationState (s : State) (o : Nat) (w : Word) :
    (s.setReg o w).toConfigurationState = s.toConfigurationState := rfl
@[simp] theorem State.setReg_toAnalogArrayState (s : State) (o : Nat) (w : Word) :
    (s.setReg o w).toAnalogArrayState = s.toAnalogArrayState := rfl
@[simp] theorem State.setReg_toStreamsState (s : State) (o : Nat) (w : Word) :
    (s.setReg o w).toStreamsState = s.toStreamsState := rfl
@[simp] theorem State.setReg_toSchedulerState (s : State) (o : Nat) (w : Word) :
    (s.setReg o w).toSchedulerState = s.toSchedulerState := rfl
@[simp] theorem State.setReg_toReamStoreState (s : State) (o : Nat) (w : Word) :
    (s.setReg o w).toReamStoreState = s.toReamStoreState := rfl
@[simp] theorem State.setReg_toConversionState (s : State) (o : Nat) (w : Word) :
    (s.setReg o w).toConversionState = s.toConversionState := rfl
@[simp] theorem State.setReg_toFiltersState (s : State) (o : Nat) (w : Word) :
    (s.setReg o w).toFiltersState = s.toFiltersState := rfl
@[simp] theorem State.setReg_toOutputsState (s : State) (o : Nat) (w : Word) :
    (s.setReg o w).toOutputsState = s.toOutputsState := rfl
@[simp] theorem State.setReg_toPinsState (s : State) (o : Nat) (w : Word) :
    (s.setReg o w).toPinsState = s.toPinsState := rfl
@[simp] theorem State.setReg_toLinksState (s : State) (o : Nat) (w : Word) :
    (s.setReg o w).toLinksState = s.toLinksState := rfl
@[simp] theorem State.setReg_toPowerState (s : State) (o : Nat) (w : Word) :
    (s.setReg o w).toPowerState = s.toPowerState := rfl

-- A field written

@[simp] theorem State.set_mem (s : State) (pg : Nat) (f : Fld) (v i k : Nat) : (s.set pg f v i k).mem = s.mem := rfl
@[simp] theorem State.set_host (s : State) (pg : Nat) (f : Fld) (v i k : Nat) : (s.set pg f v i k).host = s.host := rfl
@[simp] theorem State.set_msix (s : State) (pg : Nat) (f : Fld) (v i k : Nat) : (s.set pg f v i k).msix = s.msix := rfl
@[simp] theorem State.set_resp (s : State) (pg : Nat) (f : Fld) (v i k : Nat) : (s.set pg f v i k).resp = s.resp := rfl
@[simp] theorem State.set_respErr (s : State) (pg : Nat) (f : Fld) (v i k : Nat) : (s.set pg f v i k).respErr = s.respErr := rfl
@[simp] theorem State.set_latch (s : State) (pg : Nat) (f : Fld) (v i k : Nat) : (s.set pg f v i k).latch = s.latch := rfl
@[simp] theorem State.set_lowHold (s : State) (pg : Nat) (f : Fld) (v i k : Nat) : (s.set pg f v i k).lowHold = s.lowHold := rfl
@[simp] theorem State.set_keys (s : State) (pg : Nat) (f : Fld) (v i k : Nat) : (s.set pg f v i k).keys = s.keys := rfl
@[simp] theorem State.set_faultIrq (s : State) (pg : Nat) (f : Fld) (v i k : Nat) : (s.set pg f v i k).faultIrq = s.faultIrq := rfl
@[simp] theorem State.set_injLeft (s : State) (pg : Nat) (f : Fld) (v i k : Nat) : (s.set pg f v i k).injLeft = s.injLeft := rfl
@[simp] theorem State.set_logLost (s : State) (pg : Nat) (f : Fld) (v i k : Nat) : (s.set pg f v i k).logLost = s.logLost := rfl
@[simp] theorem State.set_fregBad (s : State) (pg : Nat) (f : Fld) (v i k : Nat) : (s.set pg f v i k).fregBad = s.fregBad := rfl
@[simp] theorem State.set_heldReset (s : State) (pg : Nat) (f : Fld) (v i k : Nat) : (s.set pg f v i k).heldReset = s.heldReset := rfl
@[simp] theorem State.set_spiStatus (s : State) (pg : Nat) (f : Fld) (v i k : Nat) : (s.set pg f v i k).spiStatus = s.spiStatus := rfl
@[simp] theorem State.set_recStatus (s : State) (pg : Nat) (f : Fld) (v i k : Nat) : (s.set pg f v i k).recStatus = s.recStatus := rfl
@[simp] theorem State.set_ts (s : State) (pg : Nat) (f : Fld) (v i k : Nat) : (s.set pg f v i k).ts = s.ts := rfl
@[simp] theorem State.set_tbRun (s : State) (pg : Nat) (f : Fld) (v i k : Nat) : (s.set pg f v i k).tbRun = s.tbRun := rfl
@[simp] theorem State.set_refOk (s : State) (pg : Nat) (f : Fld) (v i k : Nat) : (s.set pg f v i k).refOk = s.refOk := rfl
@[simp] theorem State.set_clk (s : State) (pg : Nat) (f : Fld) (v i k : Nat) : (s.set pg f v i k).clk = s.clk := rfl
@[simp] theorem State.set_slewLeft (s : State) (pg : Nat) (f : Fld) (v i k : Nat) : (s.set pg f v i k).slewLeft = s.slewLeft := rfl
@[simp] theorem State.set_paceRun (s : State) (pg : Nat) (f : Fld) (v i k : Nat) : (s.set pg f v i k).paceRun = s.paceRun := rfl
@[simp] theorem State.set_timers (s : State) (pg : Nat) (f : Fld) (v i k : Nat) : (s.set pg f v i k).timers = s.timers := rfl
@[simp] theorem State.set_trig (s : State) (pg : Nat) (f : Fld) (v i k : Nat) : (s.set pg f v i k).trig = s.trig := rfl
@[simp] theorem State.set_errPin (s : State) (pg : Nat) (f : Fld) (v i k : Nat) : (s.set pg f v i k).errPin = s.errPin := rfl
@[simp] theorem State.set_errPulse (s : State) (pg : Nat) (f : Fld) (v i k : Nat) : (s.set pg f v i k).errPulse = s.errPulse := rfl
@[simp] theorem State.set_nmiHeld (s : State) (pg : Nat) (f : Fld) (v i k : Nat) : (s.set pg f v i k).nmiHeld = s.nmiHeld := rfl
@[simp] theorem State.set_step3Done (s : State) (pg : Nat) (f : Fld) (v i k : Nat) : (s.set pg f v i k).step3Done = s.step3Done := rfl
@[simp] theorem State.set_bootDue (s : State) (pg : Nat) (f : Fld) (v i k : Nat) : (s.set pg f v i k).bootDue = s.bootDue := rfl
@[simp] theorem State.set_bootPhase (s : State) (pg : Nat) (f : Fld) (v i k : Nat) : (s.set pg f v i k).bootPhase = s.bootPhase := rfl
@[simp] theorem State.set_resetLow (s : State) (pg : Nat) (f : Fld) (v i k : Nat) : (s.set pg f v i k).resetLow = s.resetLow := rfl
@[simp] theorem State.set_mpDown (s : State) (pg : Nat) (f : Fld) (v i k : Nat) : (s.set pg f v i k).mpDown = s.mpDown := rfl
@[simp] theorem State.set_unpowered (s : State) (pg : Nat) (f : Fld) (v i k : Nat) : (s.set pg f v i k).unpowered = s.unpowered := rfl
@[simp] theorem State.set_fine (s : State) (pg : Nat) (f : Fld) (v i k : Nat) : (s.set pg f v i k).fine = s.fine := rfl
@[simp] theorem State.set_word (s : State) (pg : Nat) (f : Fld) (v i k : Nat) : (s.set pg f v i k).word = s.word := rfl
@[simp] theorem State.set_nets (s : State) (pg : Nat) (f : Fld) (v i k : Nat) : (s.set pg f v i k).nets = s.nets := rfl
@[simp] theorem State.set_taps (s : State) (pg : Nat) (f : Fld) (v i k : Nat) : (s.set pg f v i k).taps = s.taps := rfl
@[simp] theorem State.set_tapIn (s : State) (pg : Nat) (f : Fld) (v i k : Nat) : (s.set pg f v i k).tapIn = s.tapIn := rfl
@[simp] theorem State.set_portIn (s : State) (pg : Nat) (f : Fld) (v i k : Nat) : (s.set pg f v i k).portIn = s.portIn := rfl
@[simp] theorem State.set_eventPay (s : State) (pg : Nat) (f : Fld) (v i k : Nat) : (s.set pg f v i k).eventPay = s.eventPay := rfl
@[simp] theorem State.set_handleOut (s : State) (pg : Nat) (f : Fld) (v i k : Nat) : (s.set pg f v i k).handleOut = s.handleOut := rfl
@[simp] theorem State.set_scrubs (s : State) (pg : Nat) (f : Fld) (v i k : Nat) : (s.set pg f v i k).scrubs = s.scrubs := rfl
@[simp] theorem State.set_wrHeld (s : State) (pg : Nat) (f : Fld) (v i k : Nat) : (s.set pg f v i k).wrHeld = s.wrHeld := rfl
@[simp] theorem State.set_memWait (s : State) (pg : Nat) (f : Fld) (v i k : Nat) : (s.set pg f v i k).memWait = s.memWait := rfl
@[simp] theorem State.set_aspect (s : State) (pg : Nat) (f : Fld) (v i k : Nat) : (s.set pg f v i k).aspect = s.aspect := rfl
@[simp] theorem State.set_flips (s : State) (pg : Nat) (f : Fld) (v i k : Nat) : (s.set pg f v i k).flips = s.flips := rfl
@[simp] theorem State.set_gatesClosed (s : State) (pg : Nat) (f : Fld) (v i k : Nat) : (s.set pg f v i k).gatesClosed = s.gatesClosed := rfl
@[simp] theorem State.set_held (s : State) (pg : Nat) (f : Fld) (v i k : Nat) : (s.set pg f v i k).held = s.held := rfl
@[simp] theorem State.set_frames (s : State) (pg : Nat) (f : Fld) (v i k : Nat) : (s.set pg f v i k).frames = s.frames := rfl
@[simp] theorem State.set_frameChk (s : State) (pg : Nat) (f : Fld) (v i k : Nat) : (s.set pg f v i k).frameChk = s.frameChk := rfl
@[simp] theorem State.set_setw (s : State) (pg : Nat) (f : Fld) (v i k : Nat) : (s.set pg f v i k).setw = s.setw := rfl
@[simp] theorem State.set_retA (s : State) (pg : Nat) (f : Fld) (v i k : Nat) : (s.set pg f v i k).retA = s.retA := rfl
@[simp] theorem State.set_retS (s : State) (pg : Nat) (f : Fld) (v i k : Nat) : (s.set pg f v i k).retS = s.retS := rfl
@[simp] theorem State.set_cfgOp (s : State) (pg : Nat) (f : Fld) (v i k : Nat) : (s.set pg f v i k).cfgOp = s.cfgOp := rfl
@[simp] theorem State.set_loaderBuf (s : State) (pg : Nat) (f : Fld) (v i k : Nat) : (s.set pg f v i k).loaderBuf = s.loaderBuf := rfl
@[simp] theorem State.set_keyHash (s : State) (pg : Nat) (f : Fld) (v i k : Nat) : (s.set pg f v i k).keyHash = s.keyHash := rfl
@[simp] theorem State.set_sheetKey (s : State) (pg : Nat) (f : Fld) (v i k : Nat) : (s.set pg f v i k).sheetKey = s.sheetKey := rfl
@[simp] theorem State.set_keyBad (s : State) (pg : Nat) (f : Fld) (v i k : Nat) : (s.set pg f v i k).keyBad = s.keyBad := rfl
@[simp] theorem State.set_keyOp (s : State) (pg : Nat) (f : Fld) (v i k : Nat) : (s.set pg f v i k).keyOp = s.keyOp := rfl
@[simp] theorem State.set_bootCopy (s : State) (pg : Nat) (f : Fld) (v i k : Nat) : (s.set pg f v i k).bootCopy = s.bootCopy := rfl
@[simp] theorem State.set_couch (s : State) (pg : Nat) (f : Fld) (v i k : Nat) : (s.set pg f v i k).couch = s.couch := rfl
@[simp] theorem State.set_shadowSrc (s : State) (pg : Nat) (f : Fld) (v i k : Nat) : (s.set pg f v i k).shadowSrc = s.shadowSrc := rfl
@[simp] theorem State.set_activeSrc (s : State) (pg : Nat) (f : Fld) (v i k : Nat) : (s.set pg f v i k).activeSrc = s.activeSrc := rfl
@[simp] theorem State.set_badFrames (s : State) (pg : Nat) (f : Fld) (v i k : Nat) : (s.set pg f v i k).badFrames = s.badFrames := rfl
@[simp] theorem State.set_badWords (s : State) (pg : Nat) (f : Fld) (v i k : Nat) : (s.set pg f v i k).badWords = s.badWords := rfl
@[simp] theorem State.set_heldStale (s : State) (pg : Nat) (f : Fld) (v i k : Nat) : (s.set pg f v i k).heldStale = s.heldStale := rfl
@[simp] theorem State.set_repair (s : State) (pg : Nat) (f : Fld) (v i k : Nat) : (s.set pg f v i k).repair = s.repair := rfl
@[simp] theorem State.set_repairDue (s : State) (pg : Nat) (f : Fld) (v i k : Nat) : (s.set pg f v i k).repairDue = s.repairDue := rfl
@[simp] theorem State.set_passStart (s : State) (pg : Nat) (f : Fld) (v i k : Nat) : (s.set pg f v i k).passStart = s.passStart := rfl
@[simp] theorem State.set_passSeen (s : State) (pg : Nat) (f : Fld) (v i k : Nat) : (s.set pg f v i k).passSeen = s.passSeen := rfl
@[simp] theorem State.set_passDue (s : State) (pg : Nat) (f : Fld) (v i k : Nat) : (s.set pg f v i k).passDue = s.passDue := rfl
@[simp] theorem State.set_pathMute (s : State) (pg : Nat) (f : Fld) (v i k : Nat) : (s.set pg f v i k).pathMute = s.pathMute := rfl
@[simp] theorem State.set_muteAt (s : State) (pg : Nat) (f : Fld) (v i k : Nat) : (s.set pg f v i k).muteAt = s.muteAt := rfl
@[simp] theorem State.set_pinTripAt (s : State) (pg : Nat) (f : Fld) (v i k : Nat) : (s.set pg f v i k).pinTripAt = s.pinTripAt := rfl
@[simp] theorem State.set_loopAt (s : State) (pg : Nat) (f : Fld) (v i k : Nat) : (s.set pg f v i k).loopAt = s.loopAt := rfl
@[simp] theorem State.set_pinV (s : State) (pg : Nat) (f : Fld) (v i k : Nat) : (s.set pg f v i k).pinV = s.pinV := rfl
@[simp] theorem State.set_cellI (s : State) (pg : Nat) (f : Fld) (v i k : Nat) : (s.set pg f v i k).cellI = s.cellI := rfl
@[simp] theorem State.set_cellH (s : State) (pg : Nat) (f : Fld) (v i k : Nat) : (s.set pg f v i k).cellH = s.cellH := rfl
@[simp] theorem State.set_intV (s : State) (pg : Nat) (f : Fld) (v i k : Nat) : (s.set pg f v i k).intV = s.intV := rfl
@[simp] theorem State.set_heldV (s : State) (pg : Nat) (f : Fld) (v i k : Nat) : (s.set pg f v i k).heldV = s.heldV := rfl
@[simp] theorem State.set_pinRun (s : State) (pg : Nat) (f : Fld) (v i k : Nat) : (s.set pg f v i k).pinRun = s.pinRun := rfl
@[simp] theorem State.set_rings (s : State) (pg : Nat) (f : Fld) (v i k : Nat) : (s.set pg f v i k).rings = s.rings := rfl
@[simp] theorem State.set_portWait (s : State) (pg : Nat) (f : Fld) (v i k : Nat) : (s.set pg f v i k).portWait = s.portWait := rfl
@[simp] theorem State.set_tasks (s : State) (pg : Nat) (f : Fld) (v i k : Nat) : (s.set pg f v i k).tasks = s.tasks := rfl
@[simp] theorem State.set_gens (s : State) (pg : Nat) (f : Fld) (v i k : Nat) : (s.set pg f v i k).gens = s.gens := rfl
@[simp] theorem State.set_schSeq (s : State) (pg : Nat) (f : Fld) (v i k : Nat) : (s.set pg f v i k).schSeq = s.schSeq := rfl
@[simp] theorem State.set_hwDue (s : State) (pg : Nat) (f : Fld) (v i k : Nat) : (s.set pg f v i k).hwDue = s.hwDue := rfl
@[simp] theorem State.set_hwSlot (s : State) (pg : Nat) (f : Fld) (v i k : Nat) : (s.set pg f v i k).hwSlot = s.hwSlot := rfl
@[simp] theorem State.set_subWait (s : State) (pg : Nat) (f : Fld) (v i k : Nat) : (s.set pg f v i k).subWait = s.subWait := rfl
@[simp] theorem State.set_subIn (s : State) (pg : Nat) (f : Fld) (v i k : Nat) : (s.set pg f v i k).subIn = s.subIn := rfl
@[simp] theorem State.set_spanPorts (s : State) (pg : Nat) (f : Fld) (v i k : Nat) : (s.set pg f v i k).spanPorts = s.spanPorts := rfl
@[simp] theorem State.set_spanWait (s : State) (pg : Nat) (f : Fld) (v i k : Nat) : (s.set pg f v i k).spanWait = s.spanWait := rfl
@[simp] theorem State.set_rotate (s : State) (pg : Nat) (f : Fld) (v i k : Nat) : (s.set pg f v i k).rotate = s.rotate := rfl
@[simp] theorem State.set_compLevel (s : State) (pg : Nat) (f : Fld) (v i k : Nat) : (s.set pg f v i k).compLevel = s.compLevel := rfl
@[simp] theorem State.set_lateMark (s : State) (pg : Nat) (f : Fld) (v i k : Nat) : (s.set pg f v i k).lateMark = s.lateMark := rfl
@[simp] theorem State.set_wkrMask (s : State) (pg : Nat) (f : Fld) (v i k : Nat) : (s.set pg f v i k).wkrMask = s.wkrMask := rfl
@[simp] theorem State.set_dispOut (s : State) (pg : Nat) (f : Fld) (v i k : Nat) : (s.set pg f v i k).dispOut = s.dispOut := rfl
@[simp] theorem State.set_handleRet (s : State) (pg : Nat) (f : Fld) (v i k : Nat) : (s.set pg f v i k).handleRet = s.handleRet := rfl
@[simp] theorem State.set_notices (s : State) (pg : Nat) (f : Fld) (v i k : Nat) : (s.set pg f v i k).notices = s.notices := rfl
@[simp] theorem State.set_cqPhase (s : State) (pg : Nat) (f : Fld) (v i k : Nat) : (s.set pg f v i k).cqPhase = s.cqPhase := rfl
@[simp] theorem State.set_mpRel (s : State) (pg : Nat) (f : Fld) (v i k : Nat) : (s.set pg f v i k).mpRel = s.mpRel := rfl
@[simp] theorem State.set_strobeOut (s : State) (pg : Nat) (f : Fld) (v i k : Nat) : (s.set pg f v i k).strobeOut = s.strobeOut := rfl
@[simp] theorem State.set_hqStatus (s : State) (pg : Nat) (f : Fld) (v i k : Nat) : (s.set pg f v i k).hqStatus = s.hqStatus := rfl
@[simp] theorem State.set_cancelRes (s : State) (pg : Nat) (f : Fld) (v i k : Nat) : (s.set pg f v i k).cancelRes = s.cancelRes := rfl
@[simp] theorem State.set_haSkip (s : State) (pg : Nat) (f : Fld) (v i k : Nat) : (s.set pg f v i k).haSkip = s.haSkip := rfl
@[simp] theorem State.set_haSeen (s : State) (pg : Nat) (f : Fld) (v i k : Nat) : (s.set pg f v i k).haSeen = s.haSeen := rfl
@[simp] theorem State.set_flowBad (s : State) (pg : Nat) (f : Fld) (v i k : Nat) : (s.set pg f v i k).flowBad = s.flowBad := rfl
@[simp] theorem State.set_ckptSkip (s : State) (pg : Nat) (f : Fld) (v i k : Nat) : (s.set pg f v i k).ckptSkip = s.ckptSkip := rfl
@[simp] theorem State.set_lib (s : State) (pg : Nat) (f : Fld) (v i k : Nat) : (s.set pg f v i k).lib = s.lib := rfl
@[simp] theorem State.set_vault (s : State) (pg : Nat) (f : Fld) (v i k : Nat) : (s.set pg f v i k).vault = s.vault := rfl
@[simp] theorem State.set_txn (s : State) (pg : Nat) (f : Fld) (v i k : Nat) : (s.set pg f v i k).txn = s.txn := rfl
@[simp] theorem State.set_vtCommit (s : State) (pg : Nat) (f : Fld) (v i k : Nat) : (s.set pg f v i k).vtCommit = s.vtCommit := rfl
@[simp] theorem State.set_vtOp (s : State) (pg : Nat) (f : Fld) (v i k : Nat) : (s.set pg f v i k).vtOp = s.vtOp := rfl
@[simp] theorem State.set_rsOp (s : State) (pg : Nat) (f : Fld) (v i k : Nat) : (s.set pg f v i k).rsOp = s.rsOp := rfl
@[simp] theorem State.set_refresh (s : State) (pg : Nat) (f : Fld) (v i k : Nat) : (s.set pg f v i k).refresh = s.refresh := rfl
@[simp] theorem State.set_nandOut (s : State) (pg : Nat) (f : Fld) (v i k : Nat) : (s.set pg f v i k).nandOut = s.nandOut := rfl
@[simp] theorem State.set_caps (s : State) (pg : Nat) (f : Fld) (v i k : Nat) : (s.set pg f v i k).caps = s.caps := rfl
@[simp] theorem State.set_capRead (s : State) (pg : Nat) (f : Fld) (v i k : Nat) : (s.set pg f v i k).capRead = s.capRead := rfl
@[simp] theorem State.set_prSaved (s : State) (pg : Nat) (f : Fld) (v i k : Nat) : (s.set pg f v i k).prSaved = s.prSaved := rfl
@[simp] theorem State.set_energyAt (s : State) (pg : Nat) (f : Fld) (v i k : Nat) : (s.set pg f v i k).energyAt = s.energyAt := rfl
@[simp] theorem State.set_energyNext (s : State) (pg : Nat) (f : Fld) (v i k : Nat) : (s.set pg f v i k).energyNext = s.energyNext := rfl
@[simp] theorem State.set_energySample (s : State) (pg : Nat) (f : Fld) (v i k : Nat) : (s.set pg f v i k).energySample = s.energySample := rfl
@[simp] theorem State.set_energyUv (s : State) (pg : Nat) (f : Fld) (v i k : Nat) : (s.set pg f v i k).energyUv = s.energyUv := rfl
@[simp] theorem State.set_press (s : State) (pg : Nat) (f : Fld) (v i k : Nat) : (s.set pg f v i k).press = s.press := rfl
@[simp] theorem State.set_prPlan (s : State) (pg : Nat) (f : Fld) (v i k : Nat) : (s.set pg f v i k).prPlan = s.prPlan := rfl
@[simp] theorem State.set_vtRebuild (s : State) (pg : Nat) (f : Fld) (v i k : Nat) : (s.set pg f v i k).vtRebuild = s.vtRebuild := rfl
@[simp] theorem State.set_vtFmt (s : State) (pg : Nat) (f : Fld) (v i k : Nat) : (s.set pg f v i k).vtFmt = s.vtFmt := rfl
@[simp] theorem State.set_energyTold (s : State) (pg : Nat) (f : Fld) (v i k : Nat) : (s.set pg f v i k).energyTold = s.energyTold := rfl
@[simp] theorem State.set_pressRuns (s : State) (pg : Nat) (f : Fld) (v i k : Nat) : (s.set pg f v i k).pressRuns = s.pressRuns := rfl
@[simp] theorem State.set_bfeImg (s : State) (pg : Nat) (f : Fld) (v i k : Nat) : (s.set pg f v i k).bfeImg = s.bfeImg := rfl
@[simp] theorem State.set_bfeSize (s : State) (pg : Nat) (f : Fld) (v i k : Nat) : (s.set pg f v i k).bfeSize = s.bfeSize := rfl
@[simp] theorem State.set_bfePort (s : State) (pg : Nat) (f : Fld) (v i k : Nat) : (s.set pg f v i k).bfePort = s.bfePort := rfl
@[simp] theorem State.set_bfeUpd (s : State) (pg : Nat) (f : Fld) (v i k : Nat) : (s.set pg f v i k).bfeUpd = s.bfeUpd := rfl
@[simp] theorem State.set_bfeFetch (s : State) (pg : Nat) (f : Fld) (v i k : Nat) : (s.set pg f v i k).bfeFetch = s.bfeFetch := rfl
@[simp] theorem State.set_hostRst (s : State) (pg : Nat) (f : Fld) (v i k : Nat) : (s.set pg f v i k).hostRst = s.hostRst := rfl
@[simp] theorem State.set_hostRstDue (s : State) (pg : Nat) (f : Fld) (v i k : Nat) : (s.set pg f v i k).hostRstDue = s.hostRstDue := rfl
@[simp] theorem State.set_convs (s : State) (pg : Nat) (f : Fld) (v i k : Nat) : (s.set pg f v i k).convs = s.convs := rfl
@[simp] theorem State.set_chainIn (s : State) (pg : Nat) (f : Fld) (v i k : Nat) : (s.set pg f v i k).chainIn = s.chainIn := rfl
@[simp] theorem State.set_chains (s : State) (pg : Nat) (f : Fld) (v i k : Nat) : (s.set pg f v i k).chains = s.chains := rfl
@[simp] theorem State.set_cpRun (s : State) (pg : Nat) (f : Fld) (v i k : Nat) : (s.set pg f v i k).cpRun = s.cpRun := rfl
@[simp] theorem State.set_cpSettle (s : State) (pg : Nat) (f : Fld) (v i k : Nat) : (s.set pg f v i k).cpSettle = s.cpSettle := rfl
@[simp] theorem State.set_cpChanged (s : State) (pg : Nat) (f : Fld) (v i k : Nat) : (s.set pg f v i k).cpChanged = s.cpChanged := rfl
@[simp] theorem State.set_cpNext (s : State) (pg : Nat) (f : Fld) (v i k : Nat) : (s.set pg f v i k).cpNext = s.cpNext := rfl
@[simp] theorem State.set_cpDue (s : State) (pg : Nat) (f : Fld) (v i k : Nat) : (s.set pg f v i k).cpDue = s.cpDue := rfl
@[simp] theorem State.set_snapLast (s : State) (pg : Nat) (f : Fld) (v i k : Nat) : (s.set pg f v i k).snapLast = s.snapLast := rfl
@[simp] theorem State.set_outCh (s : State) (pg : Nat) (f : Fld) (v i k : Nat) : (s.set pg f v i k).outCh = s.outCh := rfl
@[simp] theorem State.set_daTick (s : State) (pg : Nat) (f : Fld) (v i k : Nat) : (s.set pg f v i k).daTick = s.daTick := rfl
@[simp] theorem State.set_lsLast (s : State) (pg : Nat) (f : Fld) (v i k : Nat) : (s.set pg f v i k).lsLast = s.lsLast := rfl
@[simp] theorem State.set_pads (s : State) (pg : Nat) (f : Fld) (v i k : Nat) : (s.set pg f v i k).pads = s.pads := rfl
@[simp] theorem State.set_padLocks (s : State) (pg : Nat) (f : Fld) (v i k : Nat) : (s.set pg f v i k).padLocks = s.padLocks := rfl
@[simp] theorem State.set_gbBad (s : State) (pg : Nat) (f : Fld) (v i k : Nat) : (s.set pg f v i k).gbBad = s.gbBad := rfl
@[simp] theorem State.set_lanes (s : State) (pg : Nat) (f : Fld) (v i k : Nat) : (s.set pg f v i k).lanes = s.lanes := rfl
@[simp] theorem State.set_twin (s : State) (pg : Nat) (f : Fld) (v i k : Nat) : (s.set pg f v i k).twin = s.twin := rfl
@[simp] theorem State.set_snOut (s : State) (pg : Nat) (f : Fld) (v i k : Nat) : (s.set pg f v i k).snOut = s.snOut := rfl
@[simp] theorem State.set_strobes (s : State) (pg : Nat) (f : Fld) (v i k : Nat) : (s.set pg f v i k).strobes = s.strobes := rfl
@[simp] theorem State.set_seqPhase (s : State) (pg : Nat) (f : Fld) (v i k : Nat) : (s.set pg f v i k).seqPhase = s.seqPhase := rfl
@[simp] theorem State.set_hostDelay (s : State) (pg : Nat) (f : Fld) (v i k : Nat) : (s.set pg f v i k).hostDelay = s.hostDelay := rfl
@[simp] theorem State.set_ramps (s : State) (pg : Nat) (f : Fld) (v i k : Nat) : (s.set pg f v i k).ramps = s.ramps := rfl
@[simp] theorem State.set_dozeOff (s : State) (pg : Nat) (f : Fld) (v i k : Nat) : (s.set pg f v i k).dozeOff = s.dozeOff := rfl
@[simp] theorem State.set_leaveHold (s : State) (pg : Nat) (f : Fld) (v i k : Nat) : (s.set pg f v i k).leaveHold = s.leaveHold := rfl
@[simp] theorem State.set_pressOff (s : State) (pg : Nat) (f : Fld) (v i k : Nat) : (s.set pg f v i k).pressOff = s.pressOff := rfl
@[simp] theorem State.set_pmbHeld (s : State) (pg : Nat) (f : Fld) (v i k : Nat) : (s.set pg f v i k).pmbHeld = s.pmbHeld := rfl
@[simp] theorem State.set_vcoreGoal (s : State) (pg : Nat) (f : Fld) (v i k : Nat) : (s.set pg f v i k).vcoreGoal = s.vcoreGoal := rfl
@[simp] theorem State.set_tempRun (s : State) (pg : Nat) (f : Fld) (v i k : Nat) : (s.set pg f v i k).tempRun = s.tempRun := rfl
@[simp] theorem State.set_holdEntry (s : State) (pg : Nat) (f : Fld) (v i k : Nat) : (s.set pg f v i k).holdEntry = s.holdEntry := rfl
@[simp] theorem State.set_part (s : State) (pg : Nat) (f : Fld) (v i k : Nat) : (s.set pg f v i k).part = s.part := rfl
@[simp] theorem State.set_pending (s : State) (pg : Nat) (f : Fld) (v i k : Nat) : (s.set pg f v i k).pending = s.pending := rfl
@[simp] theorem State.set_free (s : State) (pg : Nat) (f : Fld) (v i k : Nat) : (s.set pg f v i k).free = s.free := rfl
@[simp] theorem State.set_toTimebaseState (s : State) (pg : Nat) (f : Fld) (v i k : Nat) :
    (s.set pg f v i k).toTimebaseState = s.toTimebaseState := rfl
@[simp] theorem State.set_toTenderState (s : State) (pg : Nat) (f : Fld) (v i k : Nat) :
    (s.set pg f v i k).toTenderState = s.toTenderState := rfl
@[simp] theorem State.set_toFabricState (s : State) (pg : Nat) (f : Fld) (v i k : Nat) :
    (s.set pg f v i k).toFabricState = s.toFabricState := rfl
@[simp] theorem State.set_toConfigurationState (s : State) (pg : Nat) (f : Fld) (v i k : Nat) :
    (s.set pg f v i k).toConfigurationState = s.toConfigurationState := rfl
@[simp] theorem State.set_toAnalogArrayState (s : State) (pg : Nat) (f : Fld) (v i k : Nat) :
    (s.set pg f v i k).toAnalogArrayState = s.toAnalogArrayState := rfl
@[simp] theorem State.set_toStreamsState (s : State) (pg : Nat) (f : Fld) (v i k : Nat) :
    (s.set pg f v i k).toStreamsState = s.toStreamsState := rfl
@[simp] theorem State.set_toSchedulerState (s : State) (pg : Nat) (f : Fld) (v i k : Nat) :
    (s.set pg f v i k).toSchedulerState = s.toSchedulerState := rfl
@[simp] theorem State.set_toReamStoreState (s : State) (pg : Nat) (f : Fld) (v i k : Nat) :
    (s.set pg f v i k).toReamStoreState = s.toReamStoreState := rfl
@[simp] theorem State.set_toConversionState (s : State) (pg : Nat) (f : Fld) (v i k : Nat) :
    (s.set pg f v i k).toConversionState = s.toConversionState := rfl
@[simp] theorem State.set_toFiltersState (s : State) (pg : Nat) (f : Fld) (v i k : Nat) :
    (s.set pg f v i k).toFiltersState = s.toFiltersState := rfl
@[simp] theorem State.set_toOutputsState (s : State) (pg : Nat) (f : Fld) (v i k : Nat) :
    (s.set pg f v i k).toOutputsState = s.toOutputsState := rfl
@[simp] theorem State.set_toPinsState (s : State) (pg : Nat) (f : Fld) (v i k : Nat) :
    (s.set pg f v i k).toPinsState = s.toPinsState := rfl
@[simp] theorem State.set_toLinksState (s : State) (pg : Nat) (f : Fld) (v i k : Nat) :
    (s.set pg f v i k).toLinksState = s.toLinksState := rfl
@[simp] theorem State.set_toPowerState (s : State) (pg : Nat) (f : Fld) (v i k : Nat) :
    (s.set pg f v i k).toPowerState = s.toPowerState := rfl

-- A byte of memory written

@[simp] theorem State.setByte_regs (s : State) (o : Nat) (b : Byte) : (s.setByte o b).regs = s.regs := rfl
@[simp] theorem State.setByte_host (s : State) (o : Nat) (b : Byte) : (s.setByte o b).host = s.host := rfl
@[simp] theorem State.setByte_msix (s : State) (o : Nat) (b : Byte) : (s.setByte o b).msix = s.msix := rfl
@[simp] theorem State.setByte_resp (s : State) (o : Nat) (b : Byte) : (s.setByte o b).resp = s.resp := rfl
@[simp] theorem State.setByte_respErr (s : State) (o : Nat) (b : Byte) : (s.setByte o b).respErr = s.respErr := rfl
@[simp] theorem State.setByte_latch (s : State) (o : Nat) (b : Byte) : (s.setByte o b).latch = s.latch := rfl
@[simp] theorem State.setByte_lowHold (s : State) (o : Nat) (b : Byte) : (s.setByte o b).lowHold = s.lowHold := rfl
@[simp] theorem State.setByte_keys (s : State) (o : Nat) (b : Byte) : (s.setByte o b).keys = s.keys := rfl
@[simp] theorem State.setByte_faultIrq (s : State) (o : Nat) (b : Byte) : (s.setByte o b).faultIrq = s.faultIrq := rfl
@[simp] theorem State.setByte_injLeft (s : State) (o : Nat) (b : Byte) : (s.setByte o b).injLeft = s.injLeft := rfl
@[simp] theorem State.setByte_logLost (s : State) (o : Nat) (b : Byte) : (s.setByte o b).logLost = s.logLost := rfl
@[simp] theorem State.setByte_fregBad (s : State) (o : Nat) (b : Byte) : (s.setByte o b).fregBad = s.fregBad := rfl
@[simp] theorem State.setByte_heldReset (s : State) (o : Nat) (b : Byte) : (s.setByte o b).heldReset = s.heldReset := rfl
@[simp] theorem State.setByte_spiStatus (s : State) (o : Nat) (b : Byte) : (s.setByte o b).spiStatus = s.spiStatus := rfl
@[simp] theorem State.setByte_recStatus (s : State) (o : Nat) (b : Byte) : (s.setByte o b).recStatus = s.recStatus := rfl
@[simp] theorem State.setByte_ts (s : State) (o : Nat) (b : Byte) : (s.setByte o b).ts = s.ts := rfl
@[simp] theorem State.setByte_tbRun (s : State) (o : Nat) (b : Byte) : (s.setByte o b).tbRun = s.tbRun := rfl
@[simp] theorem State.setByte_refOk (s : State) (o : Nat) (b : Byte) : (s.setByte o b).refOk = s.refOk := rfl
@[simp] theorem State.setByte_clk (s : State) (o : Nat) (b : Byte) : (s.setByte o b).clk = s.clk := rfl
@[simp] theorem State.setByte_slewLeft (s : State) (o : Nat) (b : Byte) : (s.setByte o b).slewLeft = s.slewLeft := rfl
@[simp] theorem State.setByte_paceRun (s : State) (o : Nat) (b : Byte) : (s.setByte o b).paceRun = s.paceRun := rfl
@[simp] theorem State.setByte_timers (s : State) (o : Nat) (b : Byte) : (s.setByte o b).timers = s.timers := rfl
@[simp] theorem State.setByte_trig (s : State) (o : Nat) (b : Byte) : (s.setByte o b).trig = s.trig := rfl
@[simp] theorem State.setByte_errPin (s : State) (o : Nat) (b : Byte) : (s.setByte o b).errPin = s.errPin := rfl
@[simp] theorem State.setByte_errPulse (s : State) (o : Nat) (b : Byte) : (s.setByte o b).errPulse = s.errPulse := rfl
@[simp] theorem State.setByte_nmiHeld (s : State) (o : Nat) (b : Byte) : (s.setByte o b).nmiHeld = s.nmiHeld := rfl
@[simp] theorem State.setByte_step3Done (s : State) (o : Nat) (b : Byte) : (s.setByte o b).step3Done = s.step3Done := rfl
@[simp] theorem State.setByte_bootDue (s : State) (o : Nat) (b : Byte) : (s.setByte o b).bootDue = s.bootDue := rfl
@[simp] theorem State.setByte_bootPhase (s : State) (o : Nat) (b : Byte) : (s.setByte o b).bootPhase = s.bootPhase := rfl
@[simp] theorem State.setByte_resetLow (s : State) (o : Nat) (b : Byte) : (s.setByte o b).resetLow = s.resetLow := rfl
@[simp] theorem State.setByte_mpDown (s : State) (o : Nat) (b : Byte) : (s.setByte o b).mpDown = s.mpDown := rfl
@[simp] theorem State.setByte_unpowered (s : State) (o : Nat) (b : Byte) : (s.setByte o b).unpowered = s.unpowered := rfl
@[simp] theorem State.setByte_fine (s : State) (o : Nat) (b : Byte) : (s.setByte o b).fine = s.fine := rfl
@[simp] theorem State.setByte_word (s : State) (o : Nat) (b : Byte) : (s.setByte o b).word = s.word := rfl
@[simp] theorem State.setByte_nets (s : State) (o : Nat) (b : Byte) : (s.setByte o b).nets = s.nets := rfl
@[simp] theorem State.setByte_taps (s : State) (o : Nat) (b : Byte) : (s.setByte o b).taps = s.taps := rfl
@[simp] theorem State.setByte_tapIn (s : State) (o : Nat) (b : Byte) : (s.setByte o b).tapIn = s.tapIn := rfl
@[simp] theorem State.setByte_portIn (s : State) (o : Nat) (b : Byte) : (s.setByte o b).portIn = s.portIn := rfl
@[simp] theorem State.setByte_eventPay (s : State) (o : Nat) (b : Byte) : (s.setByte o b).eventPay = s.eventPay := rfl
@[simp] theorem State.setByte_handleOut (s : State) (o : Nat) (b : Byte) : (s.setByte o b).handleOut = s.handleOut := rfl
@[simp] theorem State.setByte_scrubs (s : State) (o : Nat) (b : Byte) : (s.setByte o b).scrubs = s.scrubs := rfl
@[simp] theorem State.setByte_wrHeld (s : State) (o : Nat) (b : Byte) : (s.setByte o b).wrHeld = s.wrHeld := rfl
@[simp] theorem State.setByte_memWait (s : State) (o : Nat) (b : Byte) : (s.setByte o b).memWait = s.memWait := rfl
@[simp] theorem State.setByte_aspect (s : State) (o : Nat) (b : Byte) : (s.setByte o b).aspect = s.aspect := rfl
@[simp] theorem State.setByte_flips (s : State) (o : Nat) (b : Byte) : (s.setByte o b).flips = s.flips := rfl
@[simp] theorem State.setByte_gatesClosed (s : State) (o : Nat) (b : Byte) : (s.setByte o b).gatesClosed = s.gatesClosed := rfl
@[simp] theorem State.setByte_held (s : State) (o : Nat) (b : Byte) : (s.setByte o b).held = s.held := rfl
@[simp] theorem State.setByte_frames (s : State) (o : Nat) (b : Byte) : (s.setByte o b).frames = s.frames := rfl
@[simp] theorem State.setByte_frameChk (s : State) (o : Nat) (b : Byte) : (s.setByte o b).frameChk = s.frameChk := rfl
@[simp] theorem State.setByte_setw (s : State) (o : Nat) (b : Byte) : (s.setByte o b).setw = s.setw := rfl
@[simp] theorem State.setByte_retA (s : State) (o : Nat) (b : Byte) : (s.setByte o b).retA = s.retA := rfl
@[simp] theorem State.setByte_retS (s : State) (o : Nat) (b : Byte) : (s.setByte o b).retS = s.retS := rfl
@[simp] theorem State.setByte_cfgOp (s : State) (o : Nat) (b : Byte) : (s.setByte o b).cfgOp = s.cfgOp := rfl
@[simp] theorem State.setByte_loaderBuf (s : State) (o : Nat) (b : Byte) : (s.setByte o b).loaderBuf = s.loaderBuf := rfl
@[simp] theorem State.setByte_keyHash (s : State) (o : Nat) (b : Byte) : (s.setByte o b).keyHash = s.keyHash := rfl
@[simp] theorem State.setByte_sheetKey (s : State) (o : Nat) (b : Byte) : (s.setByte o b).sheetKey = s.sheetKey := rfl
@[simp] theorem State.setByte_keyBad (s : State) (o : Nat) (b : Byte) : (s.setByte o b).keyBad = s.keyBad := rfl
@[simp] theorem State.setByte_keyOp (s : State) (o : Nat) (b : Byte) : (s.setByte o b).keyOp = s.keyOp := rfl
@[simp] theorem State.setByte_bootCopy (s : State) (o : Nat) (b : Byte) : (s.setByte o b).bootCopy = s.bootCopy := rfl
@[simp] theorem State.setByte_couch (s : State) (o : Nat) (b : Byte) : (s.setByte o b).couch = s.couch := rfl
@[simp] theorem State.setByte_shadowSrc (s : State) (o : Nat) (b : Byte) : (s.setByte o b).shadowSrc = s.shadowSrc := rfl
@[simp] theorem State.setByte_activeSrc (s : State) (o : Nat) (b : Byte) : (s.setByte o b).activeSrc = s.activeSrc := rfl
@[simp] theorem State.setByte_badFrames (s : State) (o : Nat) (b : Byte) : (s.setByte o b).badFrames = s.badFrames := rfl
@[simp] theorem State.setByte_badWords (s : State) (o : Nat) (b : Byte) : (s.setByte o b).badWords = s.badWords := rfl
@[simp] theorem State.setByte_heldStale (s : State) (o : Nat) (b : Byte) : (s.setByte o b).heldStale = s.heldStale := rfl
@[simp] theorem State.setByte_repair (s : State) (o : Nat) (b : Byte) : (s.setByte o b).repair = s.repair := rfl
@[simp] theorem State.setByte_repairDue (s : State) (o : Nat) (b : Byte) : (s.setByte o b).repairDue = s.repairDue := rfl
@[simp] theorem State.setByte_passStart (s : State) (o : Nat) (b : Byte) : (s.setByte o b).passStart = s.passStart := rfl
@[simp] theorem State.setByte_passSeen (s : State) (o : Nat) (b : Byte) : (s.setByte o b).passSeen = s.passSeen := rfl
@[simp] theorem State.setByte_passDue (s : State) (o : Nat) (b : Byte) : (s.setByte o b).passDue = s.passDue := rfl
@[simp] theorem State.setByte_pathMute (s : State) (o : Nat) (b : Byte) : (s.setByte o b).pathMute = s.pathMute := rfl
@[simp] theorem State.setByte_muteAt (s : State) (o : Nat) (b : Byte) : (s.setByte o b).muteAt = s.muteAt := rfl
@[simp] theorem State.setByte_pinTripAt (s : State) (o : Nat) (b : Byte) : (s.setByte o b).pinTripAt = s.pinTripAt := rfl
@[simp] theorem State.setByte_loopAt (s : State) (o : Nat) (b : Byte) : (s.setByte o b).loopAt = s.loopAt := rfl
@[simp] theorem State.setByte_pinV (s : State) (o : Nat) (b : Byte) : (s.setByte o b).pinV = s.pinV := rfl
@[simp] theorem State.setByte_cellI (s : State) (o : Nat) (b : Byte) : (s.setByte o b).cellI = s.cellI := rfl
@[simp] theorem State.setByte_cellH (s : State) (o : Nat) (b : Byte) : (s.setByte o b).cellH = s.cellH := rfl
@[simp] theorem State.setByte_intV (s : State) (o : Nat) (b : Byte) : (s.setByte o b).intV = s.intV := rfl
@[simp] theorem State.setByte_heldV (s : State) (o : Nat) (b : Byte) : (s.setByte o b).heldV = s.heldV := rfl
@[simp] theorem State.setByte_pinRun (s : State) (o : Nat) (b : Byte) : (s.setByte o b).pinRun = s.pinRun := rfl
@[simp] theorem State.setByte_rings (s : State) (o : Nat) (b : Byte) : (s.setByte o b).rings = s.rings := rfl
@[simp] theorem State.setByte_portWait (s : State) (o : Nat) (b : Byte) : (s.setByte o b).portWait = s.portWait := rfl
@[simp] theorem State.setByte_tasks (s : State) (o : Nat) (b : Byte) : (s.setByte o b).tasks = s.tasks := rfl
@[simp] theorem State.setByte_gens (s : State) (o : Nat) (b : Byte) : (s.setByte o b).gens = s.gens := rfl
@[simp] theorem State.setByte_schSeq (s : State) (o : Nat) (b : Byte) : (s.setByte o b).schSeq = s.schSeq := rfl
@[simp] theorem State.setByte_hwDue (s : State) (o : Nat) (b : Byte) : (s.setByte o b).hwDue = s.hwDue := rfl
@[simp] theorem State.setByte_hwSlot (s : State) (o : Nat) (b : Byte) : (s.setByte o b).hwSlot = s.hwSlot := rfl
@[simp] theorem State.setByte_subWait (s : State) (o : Nat) (b : Byte) : (s.setByte o b).subWait = s.subWait := rfl
@[simp] theorem State.setByte_subIn (s : State) (o : Nat) (b : Byte) : (s.setByte o b).subIn = s.subIn := rfl
@[simp] theorem State.setByte_spanPorts (s : State) (o : Nat) (b : Byte) : (s.setByte o b).spanPorts = s.spanPorts := rfl
@[simp] theorem State.setByte_spanWait (s : State) (o : Nat) (b : Byte) : (s.setByte o b).spanWait = s.spanWait := rfl
@[simp] theorem State.setByte_rotate (s : State) (o : Nat) (b : Byte) : (s.setByte o b).rotate = s.rotate := rfl
@[simp] theorem State.setByte_compLevel (s : State) (o : Nat) (b : Byte) : (s.setByte o b).compLevel = s.compLevel := rfl
@[simp] theorem State.setByte_lateMark (s : State) (o : Nat) (b : Byte) : (s.setByte o b).lateMark = s.lateMark := rfl
@[simp] theorem State.setByte_wkrMask (s : State) (o : Nat) (b : Byte) : (s.setByte o b).wkrMask = s.wkrMask := rfl
@[simp] theorem State.setByte_dispOut (s : State) (o : Nat) (b : Byte) : (s.setByte o b).dispOut = s.dispOut := rfl
@[simp] theorem State.setByte_handleRet (s : State) (o : Nat) (b : Byte) : (s.setByte o b).handleRet = s.handleRet := rfl
@[simp] theorem State.setByte_notices (s : State) (o : Nat) (b : Byte) : (s.setByte o b).notices = s.notices := rfl
@[simp] theorem State.setByte_cqPhase (s : State) (o : Nat) (b : Byte) : (s.setByte o b).cqPhase = s.cqPhase := rfl
@[simp] theorem State.setByte_mpRel (s : State) (o : Nat) (b : Byte) : (s.setByte o b).mpRel = s.mpRel := rfl
@[simp] theorem State.setByte_strobeOut (s : State) (o : Nat) (b : Byte) : (s.setByte o b).strobeOut = s.strobeOut := rfl
@[simp] theorem State.setByte_hqStatus (s : State) (o : Nat) (b : Byte) : (s.setByte o b).hqStatus = s.hqStatus := rfl
@[simp] theorem State.setByte_cancelRes (s : State) (o : Nat) (b : Byte) : (s.setByte o b).cancelRes = s.cancelRes := rfl
@[simp] theorem State.setByte_haSkip (s : State) (o : Nat) (b : Byte) : (s.setByte o b).haSkip = s.haSkip := rfl
@[simp] theorem State.setByte_haSeen (s : State) (o : Nat) (b : Byte) : (s.setByte o b).haSeen = s.haSeen := rfl
@[simp] theorem State.setByte_flowBad (s : State) (o : Nat) (b : Byte) : (s.setByte o b).flowBad = s.flowBad := rfl
@[simp] theorem State.setByte_ckptSkip (s : State) (o : Nat) (b : Byte) : (s.setByte o b).ckptSkip = s.ckptSkip := rfl
@[simp] theorem State.setByte_lib (s : State) (o : Nat) (b : Byte) : (s.setByte o b).lib = s.lib := rfl
@[simp] theorem State.setByte_vault (s : State) (o : Nat) (b : Byte) : (s.setByte o b).vault = s.vault := rfl
@[simp] theorem State.setByte_txn (s : State) (o : Nat) (b : Byte) : (s.setByte o b).txn = s.txn := rfl
@[simp] theorem State.setByte_vtCommit (s : State) (o : Nat) (b : Byte) : (s.setByte o b).vtCommit = s.vtCommit := rfl
@[simp] theorem State.setByte_vtOp (s : State) (o : Nat) (b : Byte) : (s.setByte o b).vtOp = s.vtOp := rfl
@[simp] theorem State.setByte_rsOp (s : State) (o : Nat) (b : Byte) : (s.setByte o b).rsOp = s.rsOp := rfl
@[simp] theorem State.setByte_refresh (s : State) (o : Nat) (b : Byte) : (s.setByte o b).refresh = s.refresh := rfl
@[simp] theorem State.setByte_nandOut (s : State) (o : Nat) (b : Byte) : (s.setByte o b).nandOut = s.nandOut := rfl
@[simp] theorem State.setByte_caps (s : State) (o : Nat) (b : Byte) : (s.setByte o b).caps = s.caps := rfl
@[simp] theorem State.setByte_capRead (s : State) (o : Nat) (b : Byte) : (s.setByte o b).capRead = s.capRead := rfl
@[simp] theorem State.setByte_prSaved (s : State) (o : Nat) (b : Byte) : (s.setByte o b).prSaved = s.prSaved := rfl
@[simp] theorem State.setByte_energyAt (s : State) (o : Nat) (b : Byte) : (s.setByte o b).energyAt = s.energyAt := rfl
@[simp] theorem State.setByte_energyNext (s : State) (o : Nat) (b : Byte) : (s.setByte o b).energyNext = s.energyNext := rfl
@[simp] theorem State.setByte_energySample (s : State) (o : Nat) (b : Byte) : (s.setByte o b).energySample = s.energySample := rfl
@[simp] theorem State.setByte_energyUv (s : State) (o : Nat) (b : Byte) : (s.setByte o b).energyUv = s.energyUv := rfl
@[simp] theorem State.setByte_press (s : State) (o : Nat) (b : Byte) : (s.setByte o b).press = s.press := rfl
@[simp] theorem State.setByte_prPlan (s : State) (o : Nat) (b : Byte) : (s.setByte o b).prPlan = s.prPlan := rfl
@[simp] theorem State.setByte_vtRebuild (s : State) (o : Nat) (b : Byte) : (s.setByte o b).vtRebuild = s.vtRebuild := rfl
@[simp] theorem State.setByte_vtFmt (s : State) (o : Nat) (b : Byte) : (s.setByte o b).vtFmt = s.vtFmt := rfl
@[simp] theorem State.setByte_energyTold (s : State) (o : Nat) (b : Byte) : (s.setByte o b).energyTold = s.energyTold := rfl
@[simp] theorem State.setByte_pressRuns (s : State) (o : Nat) (b : Byte) : (s.setByte o b).pressRuns = s.pressRuns := rfl
@[simp] theorem State.setByte_bfeImg (s : State) (o : Nat) (b : Byte) : (s.setByte o b).bfeImg = s.bfeImg := rfl
@[simp] theorem State.setByte_bfeSize (s : State) (o : Nat) (b : Byte) : (s.setByte o b).bfeSize = s.bfeSize := rfl
@[simp] theorem State.setByte_bfePort (s : State) (o : Nat) (b : Byte) : (s.setByte o b).bfePort = s.bfePort := rfl
@[simp] theorem State.setByte_bfeUpd (s : State) (o : Nat) (b : Byte) : (s.setByte o b).bfeUpd = s.bfeUpd := rfl
@[simp] theorem State.setByte_bfeFetch (s : State) (o : Nat) (b : Byte) : (s.setByte o b).bfeFetch = s.bfeFetch := rfl
@[simp] theorem State.setByte_hostRst (s : State) (o : Nat) (b : Byte) : (s.setByte o b).hostRst = s.hostRst := rfl
@[simp] theorem State.setByte_hostRstDue (s : State) (o : Nat) (b : Byte) : (s.setByte o b).hostRstDue = s.hostRstDue := rfl
@[simp] theorem State.setByte_convs (s : State) (o : Nat) (b : Byte) : (s.setByte o b).convs = s.convs := rfl
@[simp] theorem State.setByte_chainIn (s : State) (o : Nat) (b : Byte) : (s.setByte o b).chainIn = s.chainIn := rfl
@[simp] theorem State.setByte_chains (s : State) (o : Nat) (b : Byte) : (s.setByte o b).chains = s.chains := rfl
@[simp] theorem State.setByte_cpRun (s : State) (o : Nat) (b : Byte) : (s.setByte o b).cpRun = s.cpRun := rfl
@[simp] theorem State.setByte_cpSettle (s : State) (o : Nat) (b : Byte) : (s.setByte o b).cpSettle = s.cpSettle := rfl
@[simp] theorem State.setByte_cpChanged (s : State) (o : Nat) (b : Byte) : (s.setByte o b).cpChanged = s.cpChanged := rfl
@[simp] theorem State.setByte_cpNext (s : State) (o : Nat) (b : Byte) : (s.setByte o b).cpNext = s.cpNext := rfl
@[simp] theorem State.setByte_cpDue (s : State) (o : Nat) (b : Byte) : (s.setByte o b).cpDue = s.cpDue := rfl
@[simp] theorem State.setByte_snapLast (s : State) (o : Nat) (b : Byte) : (s.setByte o b).snapLast = s.snapLast := rfl
@[simp] theorem State.setByte_outCh (s : State) (o : Nat) (b : Byte) : (s.setByte o b).outCh = s.outCh := rfl
@[simp] theorem State.setByte_daTick (s : State) (o : Nat) (b : Byte) : (s.setByte o b).daTick = s.daTick := rfl
@[simp] theorem State.setByte_lsLast (s : State) (o : Nat) (b : Byte) : (s.setByte o b).lsLast = s.lsLast := rfl
@[simp] theorem State.setByte_pads (s : State) (o : Nat) (b : Byte) : (s.setByte o b).pads = s.pads := rfl
@[simp] theorem State.setByte_padLocks (s : State) (o : Nat) (b : Byte) : (s.setByte o b).padLocks = s.padLocks := rfl
@[simp] theorem State.setByte_gbBad (s : State) (o : Nat) (b : Byte) : (s.setByte o b).gbBad = s.gbBad := rfl
@[simp] theorem State.setByte_lanes (s : State) (o : Nat) (b : Byte) : (s.setByte o b).lanes = s.lanes := rfl
@[simp] theorem State.setByte_twin (s : State) (o : Nat) (b : Byte) : (s.setByte o b).twin = s.twin := rfl
@[simp] theorem State.setByte_snOut (s : State) (o : Nat) (b : Byte) : (s.setByte o b).snOut = s.snOut := rfl
@[simp] theorem State.setByte_strobes (s : State) (o : Nat) (b : Byte) : (s.setByte o b).strobes = s.strobes := rfl
@[simp] theorem State.setByte_seqPhase (s : State) (o : Nat) (b : Byte) : (s.setByte o b).seqPhase = s.seqPhase := rfl
@[simp] theorem State.setByte_hostDelay (s : State) (o : Nat) (b : Byte) : (s.setByte o b).hostDelay = s.hostDelay := rfl
@[simp] theorem State.setByte_ramps (s : State) (o : Nat) (b : Byte) : (s.setByte o b).ramps = s.ramps := rfl
@[simp] theorem State.setByte_dozeOff (s : State) (o : Nat) (b : Byte) : (s.setByte o b).dozeOff = s.dozeOff := rfl
@[simp] theorem State.setByte_leaveHold (s : State) (o : Nat) (b : Byte) : (s.setByte o b).leaveHold = s.leaveHold := rfl
@[simp] theorem State.setByte_pressOff (s : State) (o : Nat) (b : Byte) : (s.setByte o b).pressOff = s.pressOff := rfl
@[simp] theorem State.setByte_pmbHeld (s : State) (o : Nat) (b : Byte) : (s.setByte o b).pmbHeld = s.pmbHeld := rfl
@[simp] theorem State.setByte_vcoreGoal (s : State) (o : Nat) (b : Byte) : (s.setByte o b).vcoreGoal = s.vcoreGoal := rfl
@[simp] theorem State.setByte_tempRun (s : State) (o : Nat) (b : Byte) : (s.setByte o b).tempRun = s.tempRun := rfl
@[simp] theorem State.setByte_holdEntry (s : State) (o : Nat) (b : Byte) : (s.setByte o b).holdEntry = s.holdEntry := rfl
@[simp] theorem State.setByte_part (s : State) (o : Nat) (b : Byte) : (s.setByte o b).part = s.part := rfl
@[simp] theorem State.setByte_pending (s : State) (o : Nat) (b : Byte) : (s.setByte o b).pending = s.pending := rfl
@[simp] theorem State.setByte_free (s : State) (o : Nat) (b : Byte) : (s.setByte o b).free = s.free := rfl
@[simp] theorem State.setByte_toTimebaseState (s : State) (o : Nat) (b : Byte) :
    (s.setByte o b).toTimebaseState = s.toTimebaseState := rfl
@[simp] theorem State.setByte_toTenderState (s : State) (o : Nat) (b : Byte) :
    (s.setByte o b).toTenderState = s.toTenderState := rfl
@[simp] theorem State.setByte_toFabricState (s : State) (o : Nat) (b : Byte) :
    (s.setByte o b).toFabricState = s.toFabricState := rfl
@[simp] theorem State.setByte_toConfigurationState (s : State) (o : Nat) (b : Byte) :
    (s.setByte o b).toConfigurationState = s.toConfigurationState := rfl
@[simp] theorem State.setByte_toAnalogArrayState (s : State) (o : Nat) (b : Byte) :
    (s.setByte o b).toAnalogArrayState = s.toAnalogArrayState := rfl
@[simp] theorem State.setByte_toStreamsState (s : State) (o : Nat) (b : Byte) :
    (s.setByte o b).toStreamsState = s.toStreamsState := rfl
@[simp] theorem State.setByte_toSchedulerState (s : State) (o : Nat) (b : Byte) :
    (s.setByte o b).toSchedulerState = s.toSchedulerState := rfl
@[simp] theorem State.setByte_toReamStoreState (s : State) (o : Nat) (b : Byte) :
    (s.setByte o b).toReamStoreState = s.toReamStoreState := rfl
@[simp] theorem State.setByte_toConversionState (s : State) (o : Nat) (b : Byte) :
    (s.setByte o b).toConversionState = s.toConversionState := rfl
@[simp] theorem State.setByte_toFiltersState (s : State) (o : Nat) (b : Byte) :
    (s.setByte o b).toFiltersState = s.toFiltersState := rfl
@[simp] theorem State.setByte_toOutputsState (s : State) (o : Nat) (b : Byte) :
    (s.setByte o b).toOutputsState = s.toOutputsState := rfl
@[simp] theorem State.setByte_toPinsState (s : State) (o : Nat) (b : Byte) :
    (s.setByte o b).toPinsState = s.toPinsState := rfl
@[simp] theorem State.setByte_toLinksState (s : State) (o : Nat) (b : Byte) :
    (s.setByte o b).toLinksState = s.toLinksState := rfl
@[simp] theorem State.setByte_toPowerState (s : State) (o : Nat) (b : Byte) :
    (s.setByte o b).toPowerState = s.toPowerState := rfl

end Sys2Proof.Machine
end

