-- ==== Sys2Proof/Laws/Status.lean ====
section
/-!
SUPPORT. Laws of the status bits and interrupts (R51, R52): a set bit reads 1, and what a hardware set leaves as it was.
-/
namespace Sys2Proof.Machine
open Sys2Proof F

/-- The BAR0 offset of PG_SET_COUNT. -/
theorem addr_setCount (pg : Nat) : PG_SET_COUNT.addr pg 0 = pg * 0x1000 + 0x03C := by
  simp [Fld.addr, PG_SET_COUNT]

/-- Sending a vector touches no register below the MSI-X window. -/
theorem sendPage_reg (s : State) (pg : Nat) {o : Nat} (h : o < msixBase) : (s.sendPage pg).reg o = s.reg o := by
  unfold State.sendPage
  split
  · rfl
  · split
    · unfold State.sendVector
      split
      · exact reg_setReg_of_ne _ _ (by omega)
      · rfl
    · rfl

theorem irqRise_reg (s : State) (pg : Nat) (t : State) {o : Nat} (h : o < msixBase) :
    (s.irqRise pg t).reg o = t.reg o := by
  unfold State.irqRise; split
  · exact sendPage_reg _ _ h
  · rfl

theorem irqAfterWrite_reg (s : State) (pg : Nat) {o : Nat} (h : o < msixBase) :
    (s.irqAfterWrite pg).reg o = s.reg o := by
  unfold State.irqAfterWrite; split
  · exact sendPage_reg _ _ h
  · rfl

/-- A hardware set leaves every register but PG_STATUS and PG_SET_COUNT of its page, and the MSI-X window. -/
theorem setStatus_reg_of_ne (s : State) (pg n : Nat) {o : Nat} (h : o < msixBase) (h1 : o ≠ pg * 0x1000 + 0x010)
    (h2 : o ≠ PG_SET_COUNT.addr pg 0) : (s.setStatus pg n).reg o = s.reg o := by
  unfold State.setStatus
  rw [irqRise_reg _ _ _ h]
  unfold State.incWrap State.set
  rw [reg_setReg_of_ne _ _ h2, reg_setReg_of_ne _ _ h1]

theorem setStatus_get_of_ne (s : State) (pg n : Nat) {pg' : Nat} {f : Fld} {i k : Nat} (h : f.addr pg' i < msixBase)
    (h1 : f.addr pg' i ≠ pg * 0x1000 + 0x010) (h2 : f.addr pg' i ≠ PG_SET_COUNT.addr pg 0) :
    (s.setStatus pg n).get pg' f i k = s.get pg' f i k := by
  unfold State.get; rw [setStatus_reg_of_ne _ _ _ h h1 h2]

/-- The bit that a hardware set sets reads 1 (R51). -/
theorem setStatus_bit (s : State) {pg n : Nat} (hp : pg < 0xC0) (hn : n < 32) :
    bits ((s.setStatus pg n).hdr pg 0x010).toNat n 1 = 1 := by
  have ha := addr_setCount pg
  unfold State.hdr State.setStatus
  rw [irqRise_reg _ _ _ (by unfold msixBase; omega)]
  unfold State.incWrap State.set
  rw [reg_setReg_of_ne _ _ (by rw [ha]; omega), reg_setReg_self, bits_setBits_self _ _ (by omega)]; rfl

/-- PG_SET_COUNT counts every hardware set of its page (R51). -/
theorem setStatus_count (s : State) {pg n : Nat} (hp : pg < 0xC0) :
    (s.setStatus pg n).get pg PG_SET_COUNT = wrapInc 16 (s.get pg PG_SET_COUNT) := by
  have ha := addr_setCount pg
  unfold State.get State.setStatus
  rw [irqRise_reg _ _ _ (by rw [ha]; unfold msixBase; omega)]
  unfold State.incWrap State.set
  rw [reg_setReg_self, bits_setBits_self _ _ (by decide)]
  unfold State.get
  rw [reg_setReg_of_ne _ _ (by rw [ha]; omega)]
  show wrapInc 16 _ % 2 ^ 16 = _
  exact Nat.mod_eq_of_lt (Nat.mod_lt _ (by decide))

end Sys2Proof.Machine
end

