-- ==== Sys2Proof/WellFormed.lean ====
section
/-!
DEFINITION. Which commands are well formed: unit, register and lane numbers within the ranges that the spec gives them
(R3, R35, R37, R57, R62 and the owning chapters).
-/
namespace Sys2Proof

/-- A master of R57 with a unit number that exists. -/
def Master.wf : Master → Bool
  | .stream n => decide (n < 16)
  | .fabric b => decide (b < 32)
  | .host | .recovery | .mgmtSpi | .mgmtI2c | .mp | .scheduler | .configuration | .calender | .reamStore | .twin
  | .span => true

/-- A frame of a recovery-class transfer has a 24-bit offset (R62). -/
def SpiFrame.wf : SpiFrame → Bool
  | .read off _ => decide (off < 2 ^ 24)
  | .write off _ _ => decide (off < 2 ^ 24)
  | .status => true

/-- Where a span-port packet comes from: one of four lanes, or a fabric port of a bank. -/
def SpanFrom.wf : SpanFrom → Bool
  | .lane n => decide (n < 4)
  | .port p => decide (p < 256)

/-- A command is well formed. -/
def Instr.wf : Instr → Bool
  | .registerWrite m off _ => m.wf && decide (off < 0x40_0000)
  | .lowWordRead m off => m.wf && decide (off < 0x40_0000)
  | .lowWordWrite m off _ => m.wf && decide (off < 0x40_0000)
  | .highWordWrite m off _ => m.wf && decide (off < 0x40_0000)
  | .absentWrite m bar2 off _ => m.wf && decide (off < (if bar2 then 0x400_0000 else 0x40_0000))
  | .badAccess m off _ => m.wf && decide (off < 0x40_0000)
  | .offWrite m off _ => m.wf && decide (off < 0x40_0000)
  | .roWrite m off _ => m.wf && decide (off < 0x400_0000)
  | .unreachable _ off _ => decide (off < 2 ^ 24)
  | .bar2MemoryAccess m off _ _ _ => m.wf && decide (off < 0x400_0000)
  | .pwrReq m pg _ => m.wf && decide (pg < 0xC0)
  | .pgCtrlEn m pg _ => m.wf && decide (pg < 0xC0)
  | .quiesce m pg _ => m.wf && decide (pg < 0xC0)
  | .blkReset m pg => m.wf && decide (pg < 0xC0)
  | .pgModeWrite m pg _ => m.wf && decide (pg < 0xC0)
  | .pgStatusClear m pg _ => m.wf && decide (pg < 0xC0)
  | .pgFaultClear m pg _ => m.wf && decide (pg < 0xC0)
  | .countClr m pg => m.wf && decide (pg < 0xC0)
  | .feRearm m pg => m.wf && decide (pg < 0xC0)
  | .pgLock m pg _ => m.wf && decide (pg < 0xC0)
  | .pgInject m pg _ => m.wf && decide (pg < 0xC0)
  | .clrAbsent m => m.wf
  | .linkUp rate => decide (1 ≤ rate ∧ rate ≤ 4)
  | .linkDown => true
  | .pcieHotReset => true
  | .busMasterEnableChange _ => true
  | .mgmtSpiRead off _ => decide (off < 2 ^ 24)
  | .mgmtSpiWrite off _ _ => decide (off < 2 ^ 24)
  | .mgmtSpiStatus => true
  | .mgmtSpiLoader _ => true
  | .mgmtI2cWrite off _ _ => decide (off < 2 ^ 24)
  | .mgmtI2cRead off => decide (off < 2 ^ 24)
  | .recoveryClassTransfer f => f.wf
  | .timebaseLock freq => decide (freq < 4)
  | .holdover => true
  | .refFrequencyError => true
  | .refValid freq => decide (freq < 4)
  | .relock m => m.wf
  | .paceMeasurement _ => true
  | .paceLowRun dom => decide (dom ≤ 64)
  | .vcoreStep _ => true
  | .pwrVcoreTarget m _ => m.wf
  | .slewTick => true
  | .tbSlewAmount m _ => m.wf
  | .tbSlewRate m _ => m.wf
  | .timeSet m _ => m.wf
  | .timerEvent n => decide (n < 32)
  | .timerPulseFall n => decide (n < 32)
  | .timerStart m n => m.wf && decide (n < 32)
  | .absoluteStart n => decide (n < 32)
  | .fabricStartLine n => decide (n < 32)
  | .timerEnable m n => m.wf && decide (n < 32)
  | .timerStop m n => m.wf && decide (n < 32)
  | .tmStartTimeWrite m n _ => m.wf && decide (n < 32)
  | .faultDetected pg src _ acc mas _ => decide (pg < 0xC0) && decide (src < 8) && decide (acc < 8) && decide (mas < 0x60)
  | .errorPulseEnd => true
  | .nmiPulseEnd => true
  | .faultRegisterParityCheck pg off _ => decide (pg < 0xC0) && decide (off < 0x40)
  | .tenderVote _ _ _ => true
  | .mpWatchExpiry => true
  | .mpHeartbeat => true
  | .keyedChipReset m => m.wf
  | .keyedSafe m => m.wf
  | .keyedSurrender m => m.wf
  | .injectFreg m pg => m.wf && decide (pg < 0xC0)
  | .tndTrapClear m => m.wf
  | .resetPin => true
  | .resetPinRelease => true
  | .powerOnReset => true
  | .firmwareRestartDone => true
  | .captureEvent b t _ _ => decide (b < 32) && decide (t < 512)
  | .carryChainCapture b t _ => decide (b < 32) && decide (t < 512)
  | .wordTileInstruction b w => decide (b < 32) && decide (w < 64)
  | .crossbarTransfer _ => true
  | .routeTransfer _ _ => true
  | .longLineTransfer b line tap => decide (b < 32) && decide (line < 64) && decide (tap < 128)
  | .longLineClash b line => decide (b < 32) && decide (line < 64)
  | .longLineNullRelease b line => decide (b < 32) && decide (line < 64)
  | .memoryAccess b k _ _ => decide (b < 32) && decide (k < 24)
  | .memoryScrub b _ => decide (b < 32)
  | .cntClr m b => m.wf && decide (b < 32)
  | .loadStart m _ => m.wf
  | .sheetHeader _ _ => true
  | .frame _ => true
  | .quire _ => true
  | .zero _ => true
  | .analog _ => true
  | .retain _ => true
  | .endCmd _ => true
  | .abort m => m.wf
  | .xframeDone m => m.wf
  | .shadowResync m => m.wf
  | .resyncDone => true
  | .bootUpdate m => m.wf
  | .firmwareUpdate m => m.wf
  | .rsUpdateStep _ _ => true
  | .programSlotHash m slot _ => m.wf && decide (slot < 4)
  | .revokeSlot m slot _ => m.wf && decide (slot < 4)
  | .programSheetKey m _ => m.wf
  | .blowSignFuse m _ => m.wf
  | .readSlotHash m slot _ => m.wf && decide (slot < 4)
  | .progDone => true
  | .couchRequest m _ _ => m.wf
  | .drainComplete => true
  | .drainLimitExpiry => true
  | .lockWaitEnd _ _ => true
  | .releaseStep _ => true
  | .bootStepDone _ => true
  | .calenderPass _ => true
  | .passNow m => m.wf
  | .calenderRead _ plane num finding _ => decide (plane < 2) && decide (num < 0x1_0000) && decide (finding < 3)
  | .repairDone _ result => decide (result < 8)
  | .calenderWatchExpiry => true
  | .loopMonitorTick sec _ _ _ => decide (sec < 8)
  | .shuntTrip pin => decide (pin < 128)
  | .voutTrip pin => decide (pin < 128)
  | .asPinRestore m sec _ => m.wf && decide (sec < 8)
  | .asGainOvr m sec r _ => m.wf && decide (sec < 8) && decide (r < 8)
  | .muteEnd sec _ n => decide (sec < 8) && decide (n < 32)
  | .roundStart n => decide (n < 4)
  | .slotConversion n _ _ => decide (n < 4)
  | .resultOut n => decide (n < 4)
  | .scanStart m n => m.wf && decide (n < 4)
  | .scanTrigger n => decide (n < 4)
  | .injectedRequest n k => decide (n < 4) && decide (k < 4)
  | .cvInjSw m n chan => m.wf && decide (n < 4) && decide (chan < 32)
  | .bgCalInterval n => decide (n < 4)
  | .bgCalDone n _ => decide (n < 4)
  | .bgEn m n _ => m.wf && decide (n < 4)
  | .fgStart m n => m.wf && decide (n < 4)
  | .fgCalDone n _ _ => decide (n < 4)
  | .cvCalCommit m n slice => m.wf && decide (n < 4) && decide (slice < 16)
  | .cvCorrApply m n => m.wf && decide (n < 4)
  | .diagGo m n chan mode dac => m.wf && decide (n < 4) && decide (chan < 32) && decide (mode < 2) && decide (dac < 4096)
  | .diagDone n => decide (n < 4)
  | .filterInput c => decide (c < 64)
  | .chainChange m c reg _ => m.wf && decide (c < 64) && decide (reg < 3)
  | .comparatorTick c _ _ => decide (c < 128)
  | .cpCfgWrite m c _ _ => m.wf && decide (c < 128)
  | .snapshot _ => true
  | .loadStrobe g => decide (g < 8)
  | .lsFire m mask => m.wf && decide (mask < 256)
  | .daCfgWrite m c _ => m.wf && decide (c < 64)
  | .spanDisconnect c => decide (c < 64)
  | .spanSwitch c => decide (c < 64)
  | .unpublish c => decide (c < 64)
  | .outputMonitorTick _ _ => true
  | .daTrip c => decide (c < 64)
  | .comply c => decide (c < 64)
  | .daRestore m pg mask => m.wf && decide (pg < 4) && decide (mask < 0x1_0000)
  | .hwSourceEvent src => decide (src < 0x100)
  | .fabricSubmission port => decide (port < 256)
  | .sqFetch q desc => decide (q < 14) && decide (desc.length = 32)
  | .sqTailWrite m q _ => m.wf && decide (q < 14)
  | .dispatch g => decide (g < 64)
  | .affWaitExpiry h => decide (h < 2 ^ 24)
  | .taskAccept w => decide (w < 256)
  | .fabricCompletion w => decide (w < 256)
  | .schHqDone m q _ => m.wf && decide (q < 14)
  | .release f => decide (f < 4096)
  | .schCancel m _ => m.wf
  | .cancelNotice q => decide (q < 14)
  | .haDecide m _ => m.wf
  | .cqHeadWrite m q _ => m.wf && decide (q < 14)
  | .brokeTailWrite m _ => m.wf
  | .flowTableWrite m f _ => m.wf && decide (f < 4096)
  | .schCtrlMode m _ => m.wf
  | .managementProcessorCompletion h _ => decide (h < 2 ^ 24)
  | .streamItem src _ _ _ => decide (src < 256)
  | .flushTimeout r => decide (r < 64)
  | .flushNow m r => m.wf && decide (r < 64)
  | .blockCommit r => decide (r < 64)
  | .rpWrite m r _ => m.wf && decide (r < 64)
  | .ringEnable m r _ => m.wf && decide (r < 64)
  | .taskEntry e _ => decide (e < 16)
  | .streamDmaError r => decide (r < 64)
  | .mountDone outcome _ _ _ _ _ _ => decide (2 ≤ outcome ∧ outcome ≤ 4)
  | .format m _ => m.wf
  | .libWrite m slot _ => m.wf && decide (slot < 64)
  | .libErase m slot => m.wf && decide (slot < 64)
  | .setStartup m slot => m.wf && decide (slot < 64)
  | .refreshSweepNow m => m.wf
  | .cmdDone _ => true
  | .refreshRead _ _ _ _ _ => true
  | .rsHaAns m _ => m.wf
  | .rawReadPage m _ _ => m.wf
  | .rawProgramPage m _ _ => m.wf
  | .rawEraseBlock m _ => m.wf
  | .rawDone _ => true
  | .openTxn m => m.wf
  | .append m _ => m.wf
  | .commit m _ _ _ => m.wf
  | .abandon m => m.wf
  | .getKey m _ => m.wf
  | .commitDone => true
  | .opDone _ => true
  | .captureEnable m n _ => m.wf && decide (n < 16)
  | .captureTrigger m n _ => m.wf && decide (n < 16)
  | .rearm m n => m.wf && decide (n < 16)
  | .capRd m => m.wf
  | .readDone _ => true
  | .pressArmed => true
  | .vinFall => true
  | .pwrFail => true
  | .holdupTrip => true
  | .pressTrig m => m.wf
  | .pressStepDone _ => true
  | .energyMeasurement => true
  | .energyStale => true
  | .save m => m.wf
  | .readId _ => true
  | .readSfdp addr _ => decide (addr < 2 ^ 24)
  | .readStatus => true
  | .writeEnable => true
  | .writeDisable => true
  | .writeVolatileConfiguration addr _ => decide (addr < 2 ^ 32)
  | .read addr _ => decide (addr < 2 ^ 32)
  | .fastRead addr _ => decide (addr < 2 ^ 32)
  | .octalDdrRead addr _ => decide (addr < 2 ^ 32)
  | .pageProgram addr _ => decide (addr < 2 ^ 32)
  | .erase4k addr => decide (addr < 2 ^ 32)
  | .erase64k addr => decide (addr < 2 ^ 32)
  | .chipErase => true
  | .resetEnable => true
  | .resetPort => true
  | .wipClear => true
  | .bfeRst => true
  | .hostResetAssert => true
  | .hostResetRelease => true
  | .bootOk m => m.wf
  | .bfeCommit m => m.wf
  | .bfeDiscard m => m.wf
  | .bfeUpd m _ => m.wf
  | .updDone => true
  | .nandNotResponding _ => true
  | .twinFrame lanes _ _ => decide (lanes < 16)
  | .twinLinkTimeout => true
  | .linkTrained uid => decide (uid < 2 ^ 64)
  | .heartbeatSend => true
  | .missedHeartbeat => true
  | .heartbeatLost => true
  | .twinPeerChange line => decide (line < 3)
  | .claimStands _ => true
  | .claimWaitExpiry => true
  | .padHoldExpiry => true
  | .synced step _ _ => decide (2 ≤ step ∧ step ≤ 4)
  | .enum m => m.wf
  | .enumDone _ _ _ _ _ => true
  | .timePacket _ _ => true
  | .spanPacket from' _ dest _ => from'.wf && decide (dest < 2 ^ 14)
  | .strobeTx m _ => m.wf
  | .strobePacket lane k _ => decide (lane < 4) && decide (k < 8)
  | .systemStrobe k => decide (k < 8)
  | .laneDown lane => decide (lane < 4)
  | .spanLaneUp lane => decide (lane < 4)
  | .spanTimeExchange => true
  | .gbOutWrite m b _ => m.wf && decide (b < 8)
  | .gbDirWrite m b _ => m.wf && decide (b < 8)
  | .gbCfgWrite m p _ => m.wf && decide (p < 256)
  | .gbPadlock m b _ => m.wf && decide (b < 8)
  | .edge p _ => decide (p < 256)
  | .vioLow b => decide (b < 8)
  | .vioOk b => decide (b < 8)
  | .quadLoopLock q => decide (q < 8)
  | .loopLoss q => decide (q < 8)
  | .sqCfgWrite m q _ => m.wf && decide (q < 8)
  | .laneTransmit q l => decide (q < 8) && decide (l < 4)
  | .laneReceive q l _ x _ _ => decide (q < 8) && decide (l < 4) && decide (x.length = 5)
  | .domainOn d => decide (d < 64)
  | .domainOff d => decide (d < 64)
  | .pwrRun m => m.wf
  | .pwrDoze m => m.wf
  | .pwrHold m => m.wf
  | .dozeWake src => decide (src < 4)
  | .wake m => m.wf
  | .holdPfailWake => true
  | .holdVinWake _ => true
  | .supplyLost n => decide (n < 11)
  | .pmbusPoll _ _ _ _ _ => true
  | .voutMismatch => true
  | .pmbAlert => true
  | .seqStart m => m.wf
  | .railStepDelay => true
  | .railPg r => decide (r < 16)
  | .pgTimeout r => decide (r < 16)
  | .pgLoss r => decide (r < 16)
  | .hostDelayExpiry => true
  | .seqOff m => m.wf
  | .hostPulse m => m.wf
  | .seqManual m _ => m.wf
  | .tempSample _ _ => true
  | .domainOnTimeout d => decide (d < 64)
  | .supplyValid n => decide (n < 11)
  | .vddAonFall => true
  | .railOffDelay => true
  | .mirrorRefresh => true

end Sys2Proof
end

