-- ==== Sys2Proof/Tests/Slice0.lean ====
section
/-!
SUPPORT. The model's own tests: small checks of single steps, one ill-formed command for each check of WellFormed, and for
every statement with hypotheses one theorem (`wit_…`) with concrete states and operands that meet them, clause by clause.
-/
namespace Sys2Proof.Tests
open Sys2Proof Machine Machine.F

-- One test at a time: the stacks of many threads together would not fit the checker's memory limit.
set_option Elab.async false

-- States ---------------------------------------------------------------------------------------------------------------

/-- A device whose supplies are valid, whose domains are all on and whose loop has locked. -/
def up : State :=
  let s := { State.reset with tbRun := true, refOk := true, held := [], gatesClosed := [], step3Done := true, ts := 50000 }
  (((({ s with hostRst := false } : State).set pgPWR PWR_ON_LO 0xFFFFFFFF).set pgPWR PWR_ON_HI 0xFFFFFFFF).set pgPWR
    PWR_SUPPLY.VALID (validSupplies .l))

/-- The same with pages enabled. -/
def on (pgs : List Nat) : State := pgs.foldl (fun s p => s.set p PG_CTRL.EN 1) up

/-- The outcome of a command as a state, for tests; reset where it stops. -/
def after (c : Instr) (s : State) : State := match exec c s with | .next t => t | _ => State.reset


-- The step and register access ----------------------------------------------------------------------------------------------

theorem wit_StepRunsFront : ({ up with pending := [.countClr .host 0, .linkDown] } : State).pending =
    [.countClr .host 0] ++ [.linkDown] := by decide

theorem wit_IdleStepTicks : State.reset.pending = [] ∧ State.reset.tbRun = false ∧ up.pending = [] ∧ up.tbRun = true ∧
    up.slewLeft ≠ 1 := by decide +kernel

theorem wit_EveryStepKeepsForms : (step { up with pending := [.countClr .host 0] } =
    .next (after (.countClr .host 0) up)) ∧ Memory.wf up.mem = true ∧ up.regsWf = true := by
  refine ⟨?_, ?_, ?_⟩
  · rfl
  · decide +kernel
  · decide +kernel

theorem wit_RegisterWriteAppliesWord : up.opens .host (DEV_SCRATCH.addr pgDEV 0) = true ∧
    up.opens .mgmtSpi (DEV_SCRATCH.addr pgDEV 3) = true := by decide +kernel

/-- DEV's first-error time and the last timer's start time. -/
theorem wit_LowWordReadLoadsLatch : up.unpowered = false ∧ up.resetLow = false ∧ up.isPairLow 0x28 = true ∧
    up.isPairLow (TM_START_TIME_LO.addr pgTM 31) = true ∧ TM_START_TIME_LO.addr pgTM 31 < 0x40_0000 ∧
    aget ({ up with latch := [(pairKey .host 0x28, 7)] } : State).latch (pairKey .host 0x28) = some 7 ∧
    aget up.latch (pairKey .mgmtSpi 0x28) = none ∧ Master.mgmtSpi.id ≠ Master.host.id := by decide +kernel

theorem wit_PairWritesTogether :
    let lo := RS_SRC_ADDR_LO.addr pgRS 0
    up.opens .host lo = true ∧ up.opens .host (lo + 4) = true ∧ aget up.lowHold (pairKey .host lo) = none ∧
    aget ({ up with lowHold := [(pairKey .host lo, 5)] } : State).lowHold (pairKey .host lo) = some 5 := by decide +kernel

/-- Boundaries of the ranges: the last word of BAR0, the words about the recovery store, the last page of a port's reach. -/
theorem wit_DroppedAccessesAreFlagged : up.unpowered = false ∧ up.resetLow = false ∧
    (0x3F_FFFC % 4 = 0 ∧ up.absentAt 0x3F_FFFC = true) ∧ (0x140_0000 ≤ 0x140_0000 ∧ 0x3FF_FFFF < 0x400_0000) ∧
    (State.reset.absentAt (pgRS * 0x1000 + 0x40) = false ∧ State.reset.offAt (pgRS * 0x1000 + 0x40) = true) ∧
    (0x100_0000 ≤ 0x13F_FFFF ∧ 0x13F_FFFF < 0x140_0000) ∧ (0x4FFF < 0x5000 ∧ 0x5000 % 4 = 0) := by decide +kernel

/-- The last byte of the last block memory, and the first. -/
theorem wit_Bar2AccessesMemory :
    let s := (up.set (pgFB 31) FB_MEM_HV (2 ^ 23)).set (pgFB 0) FB_MEM_HV 1
    s.unpowered = false ∧ s.resetLow = false ∧ Master.host.isPort = false ∧ 0xBF_FFFF < 0xC0_0000 ∧
    (∀ off ∈ [0, 0xBF_FFFF], s.present (pgFB (off / 0x4000 / 24)) = true ∧
      s.maskBit (pgFB (off / 0x4000 / 24)) FB_MEM_HV (off / 0x4000 % 24) = true ∧
      s.memEcc (off / 0x4000 / 24) (off / 0x4000 % 24) = false ∧
      s.memMirrored (off / 0x4000 / 24) (off / 0x4000 % 24) = false) ∧ s.flips = [] := by decide +kernel

-- The page header ----------------------------------------------------------------------------------------------------------

/-- KEY, whose chapter gives nothing for the bit, and RS page 0. -/
theorem wit_ControlBitsTakeValues : ∃ k j, pageAt pgKEY = some (.key, k) ∧ pageAt pgRS = some (.rs0, j) ∧
    (∀ pg ∈ [pgKEY, pgRS], up.opens .host (pg * 0x1000 + 0x008) = true ∧ up.locked pg 0 = false ∧
      up.flag pg PG_CTRL.EN ≠ true ∧ up.flag pg PG_CTRL.QUIESCE ≠ true) ∧
    isAon pgRS = false ∧
    (((up.restartKeys .host (pgRS * 0x1000 + 0x008)).set pgRS PG_CTRL.PWR_REQ 0).set pgRS PG_CTRL.QUIESCE 0 |>.enWrite .rs0 j pgRS
      true).flag pgRS PG_CTRL.EN = true := ⟨0, 0, by decide +kernel⟩

theorem wit_ModeWritesOnlyWhileIdle : pageAt pgRS = some (.rs0, 0) ∧ enFixed .rs0 = false ∧
    (∀ s ∈ [up, on [pgRS]], s.opens .host (pgRS * 0x1000 + 0x00C) = true ∧ s.locked pgRS 1 = false) ∧
    (up.flag pgRS PG_CTRL.EN = false ∧ up.pageIdle pgRS = true) ∧ (on [pgRS]).flag pgRS PG_CTRL.EN = true := by
  decide +kernel

theorem wit_HeaderFlagsClear : pageAt pgDEV = some (.dev, 0) ∧ (pageAt (pgGB 7)).isSome = true ∧
    ∀ o ∈ [0x010, 0x018, 0x024], up.opens .host (pgDEV * 0x1000 + o) = true ∧ up.opens .host ((pgGB 7) * 0x1000 + o) = true := by
  decide +kernel

theorem wit_LockSequence : pageAt pgPWR = some (.pwr0, 0) ∧ up.opens .mgmtSpi (pgPWR * 0x1000 + 0x030) = true ∧
    up.keyStage .mgmtSpi (pgPWR * 0x1000 + 0x030) = 0 ∧ 0x3F_FFFF ≠ pgPWR * 0x1000 + 0x030 ∧ 0x3F_FFFF % 4 ≠ 0 := by
  decide +kernel

theorem wit_InjectArms : pageAt (pgFB 0) = some (.fb, 0) ∧ up.opens .host (pgFB 0 * 0x1000 + 0x034) = true ∧
    up.locked (pgFB 0) 4 = false ∧ bit 0x1FF00 16 = true ∧ bits 0x1FF00 8 8 = 255 ∧ hasChecker .fb (bits 0x1FF00 0 4) = true := by
  decide +kernel

theorem wit_BlockResetKeepsHeader :
    pageAt pgCCH = some (.cch, 0) ∧ pageAt pgBFE = some (.bfe, 0) ∧
    (State.reset.pageOn pgBFE = false ∧ State.reset.opens .host (pgBFE * 0x1000 + 0x008) = true ∧
      State.reset.locked pgBFE 0 = false) ∧
    (up.set pgCCH CCH_STATE.STEP 2).pageOn pgCCH = true ∧ (up.set pgCCH CCH_STATE.STEP 2).get pgCCH CCH_STATE.STEP ≠ 0 ∧
    up.opens .host (pgCCH * 0x1000 + 0x008) = true ∧ up.locked pgCCH 0 = false ∧
    (up.pageOn pgBFE = true ∧ up.present pgBFE = true ∧ up.couch = none) := by decide +kernel

-- The host link and the management ports ------------------------------------------------------------------------------------

theorem wit_HostLinkChanges : up.domOn 55 = true ∧ up.unpowered = false ∧ up.resetLow = false ∧
    (up.set pgDEV DEV_HOSTLINK.RATE 4).get pgDEV DEV_HOSTLINK.RATE ≠ 0 ∧ up.opensF .host pgDEV DEV_CTRL.CLR_ABSENT = true := by
  decide +kernel

theorem wit_SpiFramesAreServed : up.spiOn = true ∧ (0 : Byte) ≠ frameCrc 0x5000 7 := by decide +kernel

theorem wit_LoaderTakesFrames :
    let s := up.set pgCFG CFG_LOAD.SRC 3
    s.loaderOn = true ∧ s.loaderBuf = [] ∧ (List.replicate 4096 (0 : Byte)).length ≤ 4096 ∧ s.bootWaits = false ∧
    ({ s with loaderBuf := [1] } : State).loaderOn = true := by decide +kernel

theorem wit_I2cAndRecoveryAreServed : up.i2cOn = true ∧ (0 : Byte) ≠ up.i2cWritePec 0x4FFC 7 ∧ up.awake = true ∧
    up.domOn 55 = true := by decide +kernel

-- The timebase and timers -----------------------------------------------------------------------------------------------------

theorem wit_LoopFollowsReference :
    ((up.tbRun = true ∧ up.refOk = true ∧ up.opensF .host pgTB TB_CTRL.RELOCK = true) ∧
    ({ up with refOk := false } : State).flag pgTB TB_CTRL.FORCE = false) ∧
    (({ up with tbRun := false } : State).unpowered = false ∧ up.resetLow = false ∧ up.domOn 62 = true ∧ up.bootStep ≠ 2) := by
  decide +kernel

theorem wit_SlewMovesTimestamp : up.tbRun = true ∧ 0 < (up.set pgTB TB_SLEW_AMOUNT 1).getS pgTB TB_SLEW_AMOUNT ∧
    (up.set pgTB TB_SLEW_AMOUNT 0xFFFFFFFF).getS pgTB TB_SLEW_AMOUNT < 0 ∧ up.spanFollows = false ∧ up.twinFollows = false ∧
    up.opensF .host pgTB TB_SLEW_AMOUNT = true ∧ up.opensF .host pgTB TB_SLEW_RATE = true ∧
    up.opens .host (TB_TIME_SET_LO.addr pgTB 0 + 4) = true ∧
    (let k := pairKey .host (TB_TIME_SET_LO.addr pgTB 0)
     aget ({ up with lowHold := [(k, 5)] } : State).lowHold k = some 5) := by decide +kernel

theorem wit_PaceRunRaisesFault : up.tbRun = true ∧ aget up.paceRun 64 = none ∧
    aget ({ up with paceRun := [(64, 7)] } : State).paceRun 64 = some 7 ∧
    aget ({ up with paceRun := [(64, 8)] } : State).paceRun 64 = some 8 ∧ (559 : Nat) < 560 := by decide +kernel

/-- Timer 31, one-shot and periodic, running and not. -/
def timed (mode src en : Nat) : State :=
  (((on [pgTM]).set pgTM TM_CTRL.MODE mode 31).set pgTM TM_CTRL.START_SRC src 31).set pgTM TM_CTRL.EN en 31 |>.set pgTM
    TM_DELAY 10 31

theorem wit_TimersRunAndStop :
    (∀ mode ∈ [0, 1, 3], let s := (timed mode 0 1).setTimer 31 { due := some 60000, fall := none, started := true }
      s.tbRun = true ∧ (s.timer 31).due = some 60000 ∧ s.chainedTo 31 = [] ∧ s.ts.toNat < 60000 ∧
      s.get pgTM TM_CTRL.SCH_EDGE 31 = 0) ∧
    (∀ s ∈ [timed 0 0 1, timed 0 3 1, timed 0 0 0, (timed 0 1 1).set64 pgTM TM_START_TIME_LO 60000 31], s.timersOpen = true ∧
      s.get pgTM TM_CTRL.MODE 31 = 0 ∧ s.get pgTM TM_CTRL.RUNNING 31 = 0 ∧ s.get pgTM TM_DELAY 31 ≠ 0 ∧
      s.opensF .host pgTM TM_CTRL.START 31 = true ∧ s.opensF .host pgTM TM_CTRL.EN 31 = true ∧
      (s.timer 31).due = none ∧ (s.timer 31).fall = none ∧ (s.timer 31).started = false ∧
      s.opens .host (TM_START_TIME_LO.addr pgTM 31 + 4) = true ∧ s.locked pgTM 8 = false) ∧
    (timed 0 0 1).get pgTM TM_CTRL.START_SRC 31 = 0 ∧ (timed 0 0 1).get pgTM TM_CTRL.EN 31 = 1 ∧
    (timed 0 3 1).get pgTM TM_CTRL.START_SRC 31 = 3 ∧ (timed 0 0 0).get pgTM TM_CTRL.EN 31 = 0 ∧
    ((timed 0 1 1).set64 pgTM TM_START_TIME_LO 60000 31).ts.toNat <
      ((timed 0 1 1).set64 pgTM TM_START_TIME_LO 60000 31).get64 pgTM TM_START_TIME_LO 31 ∧
    (((timed 0 0 1).setTimer 31 { due := none, fall := some 50004, started := true }).timer 31).fall = some 50004 := by
  decide +kernel


-- The fabric -----------------------------------------------------------------------------------------------------------------

/-- An 8-bit adder: term 1 of each group generates, terms 2 and 3 give the sum; X(2j) and X(2j+1) are the operands' bits. -/
def adder : FineCfg :=
  let term (p n : Nat) : Term := ⟨true, p, n⟩
  let off : Term := ⟨false, 0, 0⟩
  { terms := ((List.range 8).map fun j => let a := 2 ^ (2 * j); let b := 2 ^ (2 * j + 1)
      [off, term (a + b) 0, term a b, term b a, off, off, off, off]).flatten,
    mac := List.replicate 8 ⟨.own, false, true, false, .hreg, true, false⟩,
    join := 3, chain := 0, inChain := false, carryIn := .zero }

/-- Macrocells 0 to 7: HREG, TOG, LATCH without and with a control term, COMB; the control term is X0. -/
def mixed : FineCfg :=
  { adder with mac := [⟨.own, false, false, false, .hreg, false, false⟩, ⟨.own, false, false, false, .tog, false, false⟩, ⟨.own, false, false, false, .latch, false, false⟩, ⟨.own, true, false, false, .latch, false, false⟩, ⟨.own, false, false, false, .comb, false, false⟩], terms := (List.range 64).map fun i => ⟨i == 24, 1, 0⟩ }

/-- A mode of each kind, a carry cell and a cell that passes the carry, and 171 + 85 + 1 through the adder. -/
theorem wit_FineTilesFollowTheirModes :
    (7 < 8 ∧ (mixed.macAt 0).mode = .hreg ∧ (mixed.macAt 1).mode = .tog ∧ (mixed.macAt 2).mode = .latch ∧
      (mixed.ctl 2 0).getD true = true ∧ (mixed.ctl 3 (signals 1 0)).getD true = true ∧
      (mixed.ctl 3 (signals 0 0)).getD true = false ∧ (mixed.macAt 4).mode ≠ .latch ∧ (adder.macAt 7).carry = true ∧
      (mixed.macAt 7).carry = false) ∧
    let sg := ((List.range 8).map fun j => b2n (bit 171 j) * 2 ^ (2 * j) + b2n (bit 85 j) * 2 ^ (2 * j + 1)).sum
    ∀ j < 8, (adder.macAt j).carry = true ∧ (adder.macAt j).generate = true ∧ (adder.macAt j).pol = false ∧
      adder.term (8 * j + 1) sg = (bit 171 j && bit 85 j) ∧ adder.sum j sg = xor (bit 171 j) (bit 85 j) := by
  decide +kernel

/-- Tile 511 of bank 0 alone; tiles 30 and 31 as a chain of two. -/
theorem wit_TilesCapture :
    let x : FineTile := ⟨adder, 0, 5, 3, false⟩
    let base : FineTile := { x with cfg := { adder with chain := 2, inChain := true } }
    let s := State.flow { up with fine := [(fineKey 0 511, x)] }
    let u := State.flow { up with fine := [(fineKey 0 30, base), (fineKey 0 31, base)] }
    (s.bankRuns 0 = true ∧ aget s.fine (fineKey 0 511) = some x ∧ x.cfg.registered = true ∧ x.cfg.inChain = false ∧
      x.cfg.join ≠ 0 ∧ x.joined = true ∧ s.srcFree (.fine 0 511) = true) ∧
    (u.bankRuns 0 = true ∧ aget u.fine (fineKey 0 30) = some base ∧ 30 % 32 + base.cfg.chain ≤ 32 ∧ 0 < base.cfg.chain ∧
      (u.chainTiles 0 30).length = base.cfg.chain ∧
      ((u.chainTiles 0 30).any fun (e : Nat × FineTile) => e.2.cfg.registered) = true ∧
      ((u.chainTiles 0 30).any fun (e : Nat × FineTile) => e.2.cfg.join != 0) = true ∧
      ∀ e ∈ u.chainTiles 0 30, e.2.joined = true ∧ u.srcFree (.fine 0 e.1) = true) := by decide +kernel

/-- A word tile whose sixteen slots hold `i`. -/
def tileOf (i : Word) : WordTile := { slots := List.replicate 16 i, endSlot := 15, bound := none, linit := [] : WordCfg }.initial

/-- Tile 63 of bank 0 with ADD L0, L1 into L2; the same with input channel 0 as a source, empty; and the undefined opcode
0x3F. -/
theorem wit_WordTilesIssue (i : Word) : let s : State := { up with word := [(wordKey 0 63, tileOf i)] }
    aget s.word (wordKey 0 63) = some (tileOf i) ∧ (tileOf i).halted = false ∧ (tileOf i).cfg.bound = none ∧
      s.bankRuns 0 = true ∧ s.secondary = false :=
  ⟨rfl, rfl, rfl, (by decide +kernel : up.bankRuns 0 = true), (by decide +kernel : up.secondary = false)⟩

theorem wit_WordTilesIssue_ready :
    ((tileOf 0x04801000).trap 0x04801000 = none ∧ (tileOf 0x04801000).ready 0x04801000 = true ∧
      ((tileOf 0x04801000).execute 0x04801000).outs = (tileOf 0x04801000).outs) ∧
    ((tileOf 0x04941000).trap 0x04941000 = none ∧ (tileOf 0x04941000).ready 0x04941000 = false) ∧
    (tileOf 0xFC000000).trap 0xFC000000 = some 1 := by decide +kernel

/-- A bundle of each kind that carries 3 from tile 0 to an input of tile 1. -/
def bundle (k : NetKind) : Net :=
  { kind := k, src := .fine 0 0, lo := 0, width := 8, pairs := 0, home := 0, dsts := [.x 0 1 0 0], recv := [(0, 0, 0)],
    gates := [1], val := some 3, delivered := false }

theorem wit_BundlesTransfer : ∀ k ∈ [NetKind.crossbar, .route, .wordLane],
    let s : State := { up with nets := [(1, bundle k)] }
    aget s.nets 1 = some (bundle k) ∧ (bundle k).dsts.all s.dstRuns = true ∧ (bundle k).dsts.all s.dstFree = true ∧
      s.gatesClosed.contains 1 = false ∧ s.couch = none ∧ s.srcFree (.net 1) = true := by decide +kernel

/-- Lines 31 and 32, the two sides of the null registers' boundary, with one driver, with two, and at null with none. -/
theorem wit_LongLines : ∀ line ∈ [31, 32],
    let s : State := { up with taps := [(line, [⟨1, true⟩, ⟨127, true⟩])], tapIn := [(1, (true, false))] }
    let w : State := { s with tapIn := [(1, (true, true)), (127, (false, true))] }
    let u : State := { s with taps := [(line, [⟨1, false⟩])] }
    let u := if line < 32 then u.setMaskBit (pgFB 0) FB_LL_NULL_LO line true
      else u.setMaskBit (pgFB 0) FB_LL_NULL_HI (line - 32) true
    (s.bankRuns 0 = true ∧ s.lineNull 0 line = false ∧ aget s.tapIn 1 = some (true, false) ∧
      s.lineDrivers 0 line = [1] ∧ s.lineFree 0 line = true) ∧
    (w.bankRuns 0 = true ∧ w.lineNull 0 line = false ∧ 2 ≤ (w.lineDrivers 0 line).length ∧ w.nets = []) ∧
    u.lineNull 0 line = true ∧ ∀ t ∈ u.lineTaps 0 line, u.tapEnabled 0 t = false := by decide +kernel

/-- Port B of memory 23 of bank 0 at its last word, 1 and 16 bytes wide, with a read and with a write on its channel. -/
theorem wit_MemoryPortsAccess : ∀ a ∈ [0, 4], ∀ c ∈ [0x3FFF, 0x17FFF],
    let p := FabPort.mem 0 23 true
    let s : State := { up.set (pgFB 0) FB_STATE.SHEET 1 with aspect := [(23, a)], portIn := [(p.key, ⟨c, []⟩)] }
    s.memRuns 0 = true ∧ s.portFull p = true ∧ s.srcFree (.port p) = true ∧ s.memMirrored 0 23 = false ∧
      s.memEcc 0 23 = false ∧ s.flips = [] ∧ s.memWidth 0 23 = 2 ^ a ∧
      memWr (s.portGot p).val = decide (0x4000 ≤ c) := by decide +kernel

/-- A protected memory's last word, its last stored data bit, and its scrubber between words and after the last; an armed
injection; a primary with one mirrored value. -/
theorem wit_EccScrubAndMirror :
    (let s : State := { up.set (pgFB 0) FB_MEM_ECC (2 ^ 23) with aspect := [(23, 3)] }
     s.memEcc 0 23 = true ∧ 63 < 64 ∧ aget s.flips (memBase 0 23 + 8 * 2047) = none ∧
       s.flag (pgFB 0) PG_INJECT.ARM = false) ∧
    (let s := up.set (pgFB 0) PG_INJECT.ARM 1
     s.flag (pgFB 0) PG_INJECT.ARM = true ∧ s.get (pgFB 0) PG_INJECT.CHECKER = 0) ∧
    (let s : State := { (up.set (pgFB 0) FB_MEM_ECC (2 ^ 23)).set (pgFB 0) FB_SCRUB.EN 1 with aspect := [(23, 3)] }
     let z : State := { s with scrubs := [(0, ⟨2048 * 24 - 1, 3⟩)] }
     (s.bankRuns 0 = true ∧ s.flag (pgFB 0) FB_SCRUB.EN = true ∧ s.tbRun = true ∧ s.flag (pgFB 0) PG_INJECT.ARM = false ∧
       s.flips = [] ∧ aget s.scrubs 0 = none ∧ s.nextProtected 0 (s.scrub 0).pos = some (2048 * 23) ∧
       s.nextProtected 0 (2048 * 23 + 1) = some (2048 * 23 + 1)) ∧
     ((z.scrub 0).pos ≠ 0 ∧ z.nextProtected 0 (z.scrub 0).pos = some (2048 * 24 - 1) ∧
       z.nextProtected 0 (2048 * 24) = none)) ∧
    up.opensF .host (pgFB 0) FB_CTRL.CNT_CLR = true ∧ up.role ≠ 3 ∧
    (let e : RetEntry := ⟨1, 0, 0, 0, 0, true⟩
     let s : State := { (up.set pgTW TW_STATUS.ROLE 3).set pgTW TW_STATUS.LINK_UP 1 with
       retA := [e], fine := [(fineKey 0 0, ⟨adder, 9, 0, 0, false⟩)] }
     s.role = 3 ∧ s.retA = [e] ∧ e.mirror = true ∧ s.mirrorPaused e.bank = false ∧ (s.taggedVal e).isSome = true) := by
  decide +kernel

-- Sheets -----------------------------------------------------------------------------------------------------------------------

/-- A sound header for sector 0 and the banks given, with a body of `n` bytes and the watermark `mark`. -/
def headerOf (banks n : Nat) (mark : List Byte) : List Byte :=
  [0x47, 0x58, 0x53, 0x48, 1, 0, 1, 0] ++ leBytes 4 (1536 * popCount banks 32) ++ leBytes 4 banks ++ [1, 0, 0, 0] ++
    leBytes 4 n ++ List.replicate 8 0 ++ mark ++ List.replicate 192 0

/-- A load of source 2 of such a sheet, its header taken. -/
def loading (n : Nat) : Load := { newLoad 2 0 with header := headerOf 1 n (List.replicate 32 0) }

/-- The device while that load runs. -/
def loadOf (l : Load) : State :=
  { ((up.set pgCFG CFG_SRC_LEN 100000).set pgCFG CFG_SRC_EN 0x1F) with cfgOp := .load l }

/-- The sheet of source 2 in clear: what the commands take from the operand. -/
theorem wit_LoadsStartAndEnd :
    (up.opensF .host pgCFG CFG_LOAD.START = true ∧ (on [pgCFG]).cfgFree = true ∧ (loadOf (newLoad 2 0)).cfgFree = false) ∧
    (let s := loadOf (newLoad 2 0)
     let h := s.loadInput (newLoad 2 0) (headerOf 1 8 (List.replicate 32 0)) 0 256
     s.cfgOp = .load (newLoad 2 0) ∧ (newLoad 2 0).header = [] ∧ s.loaderWaits (newLoad 2 0) 256 = false ∧
      bit (s.get pgCFG CFG_SRC_EN) 2 = true ∧ bit ((up.set pgCFG CFG_SRC_EN 0).get pgCFG CFG_SRC_EN) 2 = false ∧
      (s.bodyState (newLoad 2 0) 256).headerCode h = 0 ∧ (s.bodyState (newLoad 2 0) 256).headerCode [] ≠ 0) ∧
    (let s := loadOf (newLoad 2 0)
     s.opensF .host pgCFG CFG_LOAD.ABORT = true ∧ s.bootStep ≠ 3 ∧ s.bootStep ≠ 6 ∧ s.couch = none) := by
  decide +kernel

/-- FRAME 1535, the last of bank 0; QUIRE and ZERO of frames 1534 and 1535; ANALOG of words 1022 and 1023 of sector 0 and of
the last pad; one RETAIN entry; END. -/
theorem wit_CommandsBuildTheSheet : ∀ c ∈ [((0x01 : Nat), (520 : Nat), [1, 1, 2, 0, 0xFF, 5, 0, 0] ++ List.replicate 512 (7 : Byte)),
      (0x02, 8, [2, 1, 2, 0, 0xFE, 5, 2, 0]), (0x03, 8, [3, 0, 0, 0, 0xFE, 5, 2, 0]),
      (0x04, 16, [4, 0, 0, 0, 0xFE, 3, 2, 0] ++ List.replicate 8 0), (0x04, 12, [4, 1, 0, 0, 255, 0, 1, 0] ++ List.replicate 4 0),
      (0x05, 16, [5, 0, 0, 0, 1, 0, 0, 0, 1, 0, 0x10, 0, 0, 0, 0, 0]), (0x0F, 8, [0x0F, 0, 0, 0, 0, 0, 0, 0])],
    let l := loading c.2.1
    let s := loadOf l
    s.cfgOp = .load l ∧ l.header ≠ [] ∧ l.waiting = none ∧ s.commandBytes l c.2.2 c.2.1 = c.2.2 ∧ cmdLen (c.2.2.take 8) = some c.2.1 ∧
      s.clearText l c.2.1 c.2.2 = c.2.2 ∧ leAt c.2.2 0 1 = c.1 ∧ l.body.length + c.2.1 ≤ hdrBody l.header ∧
      (c.1 = 0x0F → hdrBody l.header = l.body.length + 8) := by decide +kernel

theorem wit_CommandsBuildTheSheet_targets :
    (let l := loading 520
     let s := loadOf l
     targetStop l [1535] = none ∧ targetStop l (quireTargets [2, 1, 2, 0, 0xFE, 5, 2, 0]) = none ∧
      quirePad [2, 1, 2, 0, 0xFE, 5, 2, 0] = true ∧ s.hostAssisted pgCFG = false ∧
      (s.set pgCFG PG_MODE.FUNC 1).hostAssisted pgCFG = true ∧
      (aget ({ l with dictCrc := [(2, 5)] } : Load).dictCrc 2).isSome = true ∧
      aget ({ l with dict := [(2, zeroFrame)] } : Load).dict 2 = some zeroFrame ∧
      (∀ a ∈ [1022, 1023], s.settingStop l 0 a 0 = none) ∧ s.settingStop l 1 255 0 = none ∧
      (retAll l s.retS 0 [0x00100001]).1 = none ∧ hasWords s.variant = true) ∧
    hasWords ({ up with part := { up.part with variant := .s } } : State).variant = false := by decide +kernel

/-- The one command of a sheet of no bank. -/
def lastCommand : List Byte := [0x0F, 0, 0, 0, 0, 0, 0, 0]
/-- A load that stands before its END. -/
def ending (mark : List Byte) : Load := { newLoad 2 0 with header := headerOf 0 8 mark, body := lastCommand }

/-- END of a sheet of no bank with the watermark of its body and with another. -/
theorem wit_CommandsBuildTheSheet_end : up.endStop (ending (sha256 lastCommand)) lastCommand = none ∧
    up.endStop (ending (List.replicate 32 0)) lastCommand = some (ldWATERMARK, none) := by decide +kernel

/-- A load whose targets wait for slot 2, whose data have the CRC-32 `c`. -/
def slotLoad (c : Word) : Load :=
  { loading 520 with dictCrc := [(2, c)], waiting := some { slot := 2, targets := [1535], offset := 0 } }

/-- Slot data that match (`c` their CRC-32), and that do not. -/
theorem wit_CommandsBuildTheSheet_slot : (∀ f ∈ [1535], f < 0xC000) ∧
    (let s := loadOf (slotLoad 0)
     s.opensF .host pgCFG CFG_XFRAME_DONE.GO = true ∧ (s.met .host pgCFG CFG_XFRAME_DONE.GO).xframe = zeroFrame) ∧
    ∀ c, (loadOf (slotLoad c)).cfgOp = .load (slotLoad c) ∧ aget (slotLoad c).dictCrc 2 = some c ∧
      (slotLoad c).waiting = some { slot := 2, targets := [1535], offset := 0 } ∧
      crc32 zeroFrame + 1 ≠ crc32 zeroFrame :=
  ⟨by decide, by decide +kernel, fun _ => ⟨rfl, rfl, rfl, by generalize crc32 zeroFrame = x; bv_omega⟩⟩

/-- An image of a boot sheet of no bank and sector 0. -/
def bootImage : List Byte :=
  (headerOf 0 8 (sha256 lastCommand)).set 7 4 ++ lastCommand

theorem wit_ResyncAndUpdates :
    (let s := ((on [pgCFG]).set pgCFG CFG_RESYNC_BANKS 0xFFFFFFFF).set pgCFG CFG_RESYNC_SECTORS 0xFF
     s.opensF .host pgCFG CFG_CMD.OP = true ∧ s.cfgFree = true ∧ s.get pgCFG CFG_RESYNC_BANKS < 2 ^ nBanks s.variant ∧
      s.get pgCFG CFG_RESYNC_SECTORS < 2 ^ nSectors s.variant ∧ ({ s with cfgOp := .resync 1 1 } : State).cfgFree = false) ∧
    (let s : State := { up with cfgOp := .resync 0x80000001 0x81, frames := [(0, zeroFrame.set 0 1)] }
     asorted s.frames = true ∧ asorted s.setw = true ∧ 31 < 32 ∧ 0x5FF < 0x600 ∧ 8191 < 8192 ∧ 255 < 256) ∧
    markOk bootImage = true ∧ bootImage.length - 1 < (imageOf bootImage).length := by decide +kernel

theorem wit_ResyncAndUpdates_check :
    let s : State := { (up.set pgCFG CFG_SRC_LEN 264).set pgCFG CFG_SRC_EN 0x1F with cfgOp := .update false 2 }
    (s.updateCheck false bootImage).1 = 0 ∧ (s.updateCheck true bootImage).1 ≠ 0 := by decide +kernel

theorem wit_ResyncAndUpdates_region :
    let s : State := { up with
      cfgOp := .update false 6, mem := ((List.range 264).filter fun i => bootImage.getD i 0 != 0).map fun i => (regionBase false + i, bootImage.getD i 0) }
    markOk (s.regionImage false) = true := by decide +kernel

/-- Slot 3, unprogrammed and programmed, with and without an operation in hand. -/
theorem wit_SheetKeysAreProgrammed :
    let p := up.set pgKEY KEY_SLOTS.SLOT 1 0 3
    let k (op : Nat) : State := { p with keyOp := some { op := op, slot := 3, data := List.replicate 32 9 } }
    up.opensF .host pgKEY KEY_PROG.OP = true ∧ up.keyOp = none ∧ up.locked pgKEY 9 = false ∧ (k 5).keyOp ≠ none ∧
      (0 : Byte) ≠ 0xA5 ∧ 3 < 4 ∧ up.get pgKEY KEY_SLOTS.SLOT 0 3 = 0 ∧ p.get pgKEY KEY_SLOTS.SLOT 0 3 ≠ 0 ∧
      p.lastKey 3 = false ∧ ∀ h, aget ({ p with keyHash := [(3, List.replicate 32 9)] } : State).keyHash 3 = some h →
        h.length = 32 := by
  refine ⟨?_, ?_, ?_, ?_, ?_, ?_, ?_, ?_, ?_, ?_⟩
  iterate 9 decide +kernel
  · rintro h ⟨rfl⟩; rfl

-- Couching, start-up and the calender --------------------------------------------------------------------------------------------

/-- CCH with a mask of bank 0 and sector 0 whose shadows are sound. -/
def couchable : State :=
  (((((on [pgCCH, pgTB]).set pgTW TW_CTRL.COUCH_SYNC 0).set pgCCH CCH_MASK_BANKS 1).set pgCCH CCH_MASK_SECTORS 1).set pgCCH CCH_SHADOW_OK_BANKS 1).set pgCCH
    CCH_SHADOW_OK_SECTORS 1

/-- A couch of bank 0 and sector 0, in hand at a step. -/
def couchAt (step : Nat) : State :=
  { couchable.set pgCCH CCH_STATE.STEP step with couch := some ⟨1, 1, 50000, [], []⟩ }

theorem wit_CouchesExchangePlanes :
    (let w := ((couchable.met .host pgCCH CCH_CTRL.START).set pgCCH CCH_CTRL.FULL 0).set pgCCH CCH_CTRL.FORCE 0
     couchable.opensF .host pgCCH CCH_CTRL.START = true ∧ couchable.couch = none ∧ couchable.flag pgTW TW_CTRL.COUCH_SYNC = false ∧
      w.couchCheck w.couchMask.1 w.couchMask.2 (w.peerAllows true) = none ∧
      (w.set pgCCH CCH_SHADOW_OK_BANKS 0).couchCheck 1 1 true ≠ none) ∧
    (couchAt 2).couch ≠ none ∧ (8191 < 8192 ∧ 31 < 32) ∧
    ((couchAt 2).get pgCCH CCH_STATE.STEP = 2 ∧ (couchAt 2).drained ⟨1, 1, 50000, [], []⟩ = true ∧
      ({ couchAt 2 with nets := [(1, { bundle .route with gates := [0], delivered := true })] } : State).drained ⟨1, 1, 50000, [], []⟩ = false ∧
      (couchAt 2).flag pgCCH CCH_CTRL.FORCE = false ∧ ((couchAt 2).set pgCCH CCH_CTRL.FORCE 1).flag pgCCH CCH_CTRL.FORCE = true) ∧
    ((couchAt 7).get pgCCH CCH_STATE.STEP = 7 ∧ ((List.range 8).foldl (fun s q => s.set (pgSQ q) SQ_STATUS.LOCKED 1) ((couchAt 7).set pgTB TB_STATUS.LOCKED 1)).unlocked true = []) ∧
    (∀ step ∈ [9, 10], ∀ order ∈ [0, 1], let s := (couchAt step).set pgCCH CCH_RELEASE.ORDER order
      s.get pgCCH CCH_STATE.STEP = step ∧ s.get pgCCH CCH_RELEASE.ORDER = order) := by decide +kernel

/-- The device at a step of start-up, and after that step's couch. -/
def booting (step : Nat) : State := { up.set pgTND TND_STATUS.STEP step with bootPhase := .couched }

theorem wit_StartUpFollowsItsTimeline :
    (∀ n ∈ [1, 2, 3, 4, 6, 7], let s := booting n
      s.unpowered = false ∧ s.resetLow = false ∧ s.power ≠ powerHOLD ∧ s.suppliesOk = true ∧ s.cfgOp = .idle ∧ s.couch = none ∧
        s.bootDue = false ∧ s.bootStep = n ∧ s.bootPhase = .couched ∧ s.safe = false ∧ s.mountOver = false ∧
        s.calPending = false ∧ s.tbRun = true ∧ ({ s with tbRun := false } : State).tbRun = false ∧
        ({ s with bootPhase := .noCouch } : State).bootPhase = .noCouch) ∧
    2 ≤ ({ up.part with bootSrc := 2 } : Part).bootSrc := by decide +kernel

theorem wit_StartUpFollowsItsTimeline_wait :
    ((booting 6).set (pgCV 0) CV_STATUS.FG_RUNNING 1).calPending = true ∧
    ((booting 6).set (pgCV 0) CV_STATUS.FG_RUNNING 1).suppliesOk = true := by decide +kernel

/-- CAL between passes, and in one. -/
def calm : State := on [pgCAL]
def passing : State := calm.set pgCAL CAL_STATUS.RUNNING 1

/-- Frames and words at the ends of the part, in both planes and copies. -/
theorem wit_CalenderReadsAndRepairs :
    passing.calOn = true ∧ passing.flag pgCAL CAL_STATUS.RUNNING = true ∧ passing.flag pgCAL CAL_STATUS.PAUSED = false ∧
    calm.calOn = true ∧ calm.flag pgCAL CAL_STATUS.RUNNING = false ∧
    calm.opensF .host pgCAL CAL_CTRL.PASS_NOW = true ∧ passing.repair = none ∧ passing.passSeen = [] ∧
    passing.flag pgCAL PG_INJECT.ARM = false ∧ passing.passDue = false ∧
    (∀ c ∈ [(false, 0, 0), (false, 1, 0xBFFF), (true, 0, 8191), (true, 1, padIdx 255)],
      passing.calHas c.1 c.2.1 c.2.2 = true ∧ passing.calSkips c.1 c.2.1 c.2.2 = false) ∧
    passing.runs pgCAL = true ∧ passing.unpowered = false := by decide +kernel

/-- The last read of a pass is still to come. -/
theorem wit_CalenderReadsAndRepairs_last :
    let s : State := { passing with passSeen := List.replicate (passing.passSize - 1) 0 }
    s.passSeen.length + 1 = s.passSize ∧ s.passSeen.contains 1 = false := by
  have h : 0 < passing.passSize := by decide +kernel
  refine ⟨?_, ?_⟩
  · show (List.replicate (passing.passSize - 1) 0).length + 1 = passing.passSize
    rw [List.length_replicate]; omega
  · show (List.replicate (passing.passSize - 1) 0).contains 1 = false
    rw [List.contains_eq_mem, decide_eq_false_iff_not, List.mem_replicate]; omega

/-- A repair of a word with its shadow copy, of one without a source, and of a bank with a source. -/
theorem wit_CalenderReadsAndRepairs_repair :
    (let s : State := { up.setOrigin 32 ⟨3, 0, []⟩ with repair := some (.word 5), badWords := [5], setw := [(16384 + 5, 77)] }
     let x := ({ s with repair := none } : State).repairList (.word 5) []
     s.safe = false ∧ s.repairDue = [] ∧ (s.repairOrigin (.word 5)).kind = 3 ∧ x.2.repairCode x.1 = 0) ∧
    (let x := ({ up with repair := none, badWords := [5] } : State).repairList (.word 5) []
     x.2.repairCode x.1 ≠ 0 ∧ (x.2.repairOrigin x.1).kind = 0) := by decide +kernel

-- The analogue array, the filter chains and the comparators ----------------------------------------------------------------------

/-- AS0 with its last pin's mode. -/
def pinned (mode : Nat) : State :=
  { (on [pgAS 0]).set (pgAS 0) AS_PMODE_HI (mode * 2 ^ 28) with pinRun := [(15, 100)] }

/-- The last pin of AS0 in each watched mode; a cell with bit 17 set beside ones without; codes 40 and 41; every path muted. -/
theorem wit_AnaloguePinsAreWatched :
    (0 < nSectors up.variant ∧ 15 < 16 ∧ 7 < 8 ∧ 3 < 4) ∧
    (∀ mode ∈ [1, 3], let s := pinned mode
      s.present (pgAS 0) = true ∧ s.pageOn (pgAS 0) = true ∧ s.tbRun = true ∧ s.pmode 0 15 = mode ∧
        aget s.pinRun (16 * 0 + 15) = some 100 ∧ s.opensF .host (pgAS 0) AS_PIN_RESTORE = true ∧
        s.opensF .host (pgAS 0) AS_GAIN_OVR.OVR 7 = true ∧ s.locked (pgAS 0) 8 = false) ∧
    (let s : State := { up with setw := [(4 * 28, 0x20000)] }
     bit (s.asWord 0 0 (4 * (4 * 7 + 0))) 17 = true ∧ bit (s.asWord 0 0 (4 * (4 * 7 + 3))) 17 = false ∧
      s.sectorCouching 0 = false ∧ ¬ 40 < bits 0xA9A8 0 6 ∧ 40 < bits 0xA9A8 8 6) ∧
    ∀ k ∈ [MuteKind.cell, .pin, .chan, .cmp], (up.mute 0 k 15).pathMuted 0 k 15 = true := by decide +kernel

/-- Chain 63 with a sample in line, and with a fabric port as its source. -/
def chained (kind : Nat) (run : Bool) : State :=
  { ((on [fcPage 63]).set (fcPage 63) FC_SRC.KIND kind 15).setChain 63 { up.chain 63 with running := run } with
    chainIn := [(0, 1, 1), (63, 0xC0000001, 50000)] }

theorem wit_FilterChainsAccumulate :
    (63 < 64 ∧ 2 < 3 ∧ (∀ d ∈ [[2 ^ 72 - 1], []], d.headD 0 < 2 ^ 72)) ∧
    (∀ kind ∈ [0, 1], ∀ run ∈ [true, false], let s := chained kind run
      ((s.portInput 63).chainIn.find? fun e => e.1 == 63) = some (63, 0xC0000001, 50000) ∧
        (s.portInput 63).fc 63 FC_SRC.KIND = kind ∧ ((s.portInput 63).chain 63).running = run) ∧
    (({ up with chainIn := [] } : State).chainIn.find? fun e => e.1 == 63) = none := by decide +kernel

/-- A word at the chain's own port; the words that are written and refused. -/
theorem wit_FilterChainsAccumulate_port :
    (let s : State := { chained 1 true with chainIn := [], portIn := [((FabPort.stream 0).key, ⟨5, []⟩)] }
     (s.chainIn.find? fun e => e.1 == 63) = none ∧ s.fc 63 FC_SRC.KIND = 1 ∧ (s.chain 63).running = true ∧
      s.streamReady (s.fc 63 FC_SRC.NUM) = true) ∧
    (let s := chained 0 true
     s.opens .host (FC_CTL.EN.addr (fcPage 63) (63 % 16) + 4 * 2) = true ∧ s.locked (fcPage 63) 8 = false ∧
      s.chainRefused 0 (4 * 8192 + 5 * 65536 + 4096) = false ∧ s.chainRefused 0 (4 * 8192 + 6 * 65536 + 4096) = true) := by decide +kernel

/-- Comparator 127, running; what its tick decides on; a write of thresholds in each order; a snapshot that is due. -/
def comparing : State :=
  { (on [pgCP 0, cpPage 127]).set (cpPage 127) CP_CFG.EN 1 31 with cpRun := [127], cpNext := [(127, up.clk + 500)] }

theorem wit_ComparatorsDecide :
    (let s := comparing
     (s.set pgPR RS_PR_CTRL.EN 1).cpPress 127 = true ∧ s.cpPress 0 = false ∧ 127 ∈ s.cpRun ∧ s.tbRun = true ∧
      (let k := (aget s.cpNext 127).getD (s.cpAfter 127 s.clk)
       let y := (s.reachClk k).flow.setField ⟨[], [], []⟩
       ({ y with cpNext := aput y.cpNext 127 (y.cpAfter 127 k) } : State).tickSkipped 127 = false ∧
        (({ y with cpRun := [0], cpNext := [] } : State).mute 0 .cmp 0).tickSkipped 0 = true) ∧
      s.opens .host (CP_CFG.EN.addr (cpPage 127) (127 % 32) + 4) = true ∧ s.locked (cpPage 127) 8 = false ∧
      sext 10 (bits 1 16 10) < sext 10 (bits 1 0 10) ∧ sext 10 (bits 0x200 16 10) ≤ sext 10 (bits 0x10000 16 10)) ∧
    (let s : State := { comparing.set (pgCP 0) CP_SNAP.EN 1 with trig := [⟨.snap, 1000, 60000⟩] }
     s.pageOn (pgCP 0) = true ∧ s.flag (pgCP 0) CP_SNAP.EN = true ∧ s.tbRun = true ∧ (s.takeTrig (· == .snap)).isSome = true ∧
      ({ s with snapLast := some (tickOf 1000) } : State).snapLast = some (tickOf 1000)) ∧
    (let s := (comparing.set (pgCP 0) CP_SNAP.EN 1).set (pgCP 0) CP_SNAP.ON_CHANGE 1
     let x := s.reachClk (s.beat none 0 1000)
     x.cpChanged = false ∧ x.flag (pgCP 0) CP_SNAP.ON_CHANGE = true ∧
      ({ x with cpChanged := true } : State).cpChanged = true) := by decide +kernel

-- The converters and the outputs ---------------------------------------------------------------------------------------------------

/-- CV3 with its first input register's trigger mode and the converter state `g` gives. -/
def converting (mode : Nat) (g : Conv → Conv) : State :=
  ((((on [pgCV 3]).set (pgCV 3) CV_TRIG.MODE mode).set (pgCV 3) CV_SCAN_MASK 0x80000001).modConv 3 g)

/-- A result of channel 31. -/
def result (inj : Bool) : Sample :=
  { raw := 40000, slice := 8, soff := 0, sgain := 0x20000, coff := 0, cgain := 0x10000, seq := 63, chan := 31, inj := inj, clip := false, valid := true, time := 0, last := false }

/-- A round that may start, with a commit that waits; the last slot of a round in each of its four uses. -/
theorem wit_RoundsConvert : 3 < 4 ∧
    (let s := converting 0 fun c => { c with slot := 8, commits := [(8, ⟨1, 2, 3⟩)] }
     s.present (pgCV 3) = true ∧ s.pageOn (pgCV 3) = true ∧ s.tbRun = true ∧ 8 ≤ (s.conv 3).slot ∧
      (aget (s.conv 3).commits 8).isSome = true ∧ asorted (s.conv 3).commits = true) ∧
    (∀ u ∈ [some (SlotUse.inj 31), some .energy, some .diag, none],
      let s := converting 0 fun c => { c with round := some 100, slot := 7, uses := (List.replicate 7 (.inj 0)) ++ u.toList, scan := [31], diag := some ⟨0, 0, 0, 0, 0, 0, none⟩ }
      s.pageOn (pgCV 3) = true ∧ (s.conv 3).round = some 100 ∧ (s.conv 3).slot = 7 ∧ (s.conv 3).starts = [] ∧
        (s.conv 3).uses[(s.conv 3).slot]? = u ∧ (s.conv 3).scan = [31] ∧
        (s.conv 3).diag = some ⟨0, 0, 0, 0, 0, 0, none⟩) ∧
    (∀ inj ∈ [true, false], ((converting 0 fun c => { c with out := [result inj] }).conv 3).out = [result inj]) := by
  decide +kernel

/-- A scan trigger in each mode, the rise and the fall of a gate, an injected request, and the command of software with three
and with four requests in line. -/
theorem wit_RoundsConvert_triggers :
    (∀ mode ∈ [0, 1, 2, 3, 4], ∀ lv ∈ [true, false], ∀ l ∈ [true, false],
      let e : TrigAt := ⟨.scan 3 lv, 60000, 1000⟩
      let s : State := { converting mode fun c => { c with level := l } with trig := [e] }
      s.accepts (pgCV 3) = true ∧ s.get (pgCV 3) CV_SCAN_MASK ≠ 0 ∧ s.opensF .host (pgCV 3) CV_SCAN.START = true ∧
        s.get (pgCV 3) CV_TRIG.MODE = mode ∧ s.present (pgCV 3) = true ∧ s.tbRun = true ∧ (s.conv 3).level = l ∧
        (s.trig.find? fun e => e.what == .scan 3 true || e.what == .scan 3 false) = some e) ∧
    (let e : TrigAt := ⟨.inj 3 3, 60000, 1000⟩
     (({ converting 0 id with trig := [e] } : State).trig.find? fun e => e.what == .inj 3 3) = some e) ∧
    (∀ n ∈ [3, 4], let s := converting 0 fun c => { c with injQ := (List.range n).map fun i => (i, (i, 0)) }
      s.opensF .host (pgCV 3) CV_INJ_SW.GO = true ∧ (s.conv 3).waiting = n) := by decide +kernel

/-- Measurements within the limits and beyond them. -/
def measured (soff : Int) : CalMeas := ⟨soff, 0x20000, 0, 0, 0, 0, 0⟩

theorem wit_ConvertersCalibrate :
    (let s := (converting 0 fun c => { c with bgRun := true }).set (pgCV 3) CV_CAL_CTRL.BG_EN 1
     s.present (pgCV 3) = true ∧ s.pageOn (pgCV 3) = true ∧ s.tbRun = true ∧ (s.conv 3).bgRun = true ∧ (s.conv 3).bg = .idle ∧
      s.flag (pgCV 3) CV_CAL_CTRL.BG_EN = true ∧ s.flag (pgCV 3) CV_STATUS.CAL_DEGRADED = false ∧
      s.flag (pgCV 3) CV_STATUS.FG_RUNNING = false ∧ s.opensF .host (pgCV 3) CV_CAL_CTRL.BG_EN = true ∧
      s.locked (pgCV 3) 8 = false ∧ (s.conv 3).fgReq = false ∧ s.opensF .host (pgCV 3) CV_CAL_COMMIT.GO = true ∧
      s.opensF .host (pgCV 3) CV_CORR_APPLY.GO = true ∧ s.opensF .host (pgCV 3) CV_DIAG_CTRL.GO = true ∧ 8 < 9) ∧
    (∀ c ∈ [(BgPhase.s8, 8), (BgPhase.out, 7)], let s := converting 0 fun x => { x with bg := c.1, bgPos := 7 }
      (s.conv 3).bg = c.1 ∧ (s.conv 3).bgPos = 7 ∧ s.hostAssisted (pgCV 3) = false ∧
        (s.set (pgCV 3) PG_MODE.FUNC 1).hostAssisted (pgCV 3) = true ∧ s.overLimit 3 c.2 (measured 0) = false ∧
        s.overLimit 3 c.2 (measured 40000) = true) ∧
    (let s := (converting 0 id).set (pgCV 3) CV_STATUS.FG_RUNNING 1
     s.flag (pgCV 3) CV_STATUS.FG_RUNNING = true ∧ s.hostAssisted (pgCV 3) = false ∧
      (∀ x ∈ List.replicate 9 (measured 0), outOfBounds x = false) ∧
      (List.replicate 9 (measured 0))[8]? = some (measured 0) ∧ s.retired 3 8 = false) := by decide +kernel

/-- A diagnosis of a channel with a path, and one that has both of its means. -/
theorem wit_ConvertersCalibrate_diag :
    (∀ mode ∈ [0, 1], let d : Diag := ⟨0, mode, 16, 160, 16, 320, none⟩
      ((converting 0 fun c => { c with diag := some d }).conv 3).diag = some d ∧ 16 ≤ d.nForced ∧ d.sumOpen % 16 = 0 ∧
        d.sumForced % 16 = 0) ∧
    (let s : State := { (on [pgCV 0, pgAS 0]) with setw := [(0xA0, 1)] }
     (s.conv 0).diag = none ∧ s.flag (pgCV 0) CV_STATUS.FG_RUNNING = false ∧
      (s.chanNode 0 (s.get (pgCV 0) CV_DIAG_CTRL.CHAN)).isSome = true) := by decide +kernel

/-- Output 63 in group 7, in each state of a span change and with the runs of the monitor complete. -/
def driven (g : OutCh → OutCh) : State :=
  let s := ((on [pgLS, pgDA 3]).set (daPage 63) DA_CFG.GROUP 7 15).set (daPage 63) DA_CFG.EN 1 15
  s.setOut 63 (g (s.out 63))

theorem wit_OutputsPublishTogether : (63 < 64 ∧ 7 < 8 ∧ 3 = 63 / 16 ∧ bit 0x8000 (63 % 16) = true) ∧
    (let e : TrigAt := ⟨.strobe 7, 60000, 1000⟩
     let s : State := { driven id with trig := [e] }
     s.tbRun = true ∧ (s.trig.find? fun e => e.what == .strobe 7) = some e) ∧
    (∀ edge ∈ [900, 999, 1000], let s : State := { driven id with lsLast := [(7, 900)] }
      s.accepts pgLS = true ∧ aget s.lsLast 7 = some 900 ∧ 900 ≤ edge ∧ (edge < 900 + 100 ↔ edge ≠ 1000)) ∧
    ((driven id).takesStrobe 63 7 = true ∧ (driven id).takesStrobe 63 6 = false ∧ (driven id).opensF .host pgLS LS_FIRE = true ∧
      (driven id).opens .host (DA_CFG.EN.addr (daPage 63) (63 % 16)) = true ∧ (driven id).locked (daPage 63) 8 = false ∧
      (driven id).opensF .host (daPage 63) DA_RESTORE = true) := by decide +kernel

/-- A write of another span, of a reserved one, and a secondary's. -/
theorem wit_OutputsPublishTogether_span :
    (let off := DA_CFG.EN.addr (daPage 63) (63 % 16)
     let w := ((driven id).restartKeys .host off).serveStrobes (driven id).clk
     w.spanBusy 63 = false ∧ w.secondary = false ∧ spanOf (bit 2 30) (bits 2 0 3) = true ∧ spanOf (bit 7 30) (bits 7 0 3) = false ∧
      bits 2 0 3 ≠ w.da 63 DA_CFG.SPAN ∧ bits 1 0 3 = w.da 63 DA_CFG.SPAN ∧ bit (w.reg off).toNat 30 = false ∧
      (w.setDa 63 DA_STATUS.PUBLISHED 1).published 63 = true ∧ (w.set pgTW TW_STATUS.ROLE 4).secondary = true) ∧
    (∀ step ∈ [2, 4], let s := (driven fun o => { o with step := step }).setDa 63 DA_STATUS.SPAN_BUSY 1
      s.spanBusy 63 = true ∧ (s.out 63).step = step ∧ s.listening = false ∧ s.tripped 63 = false ∧
        ((s.set pgTW TW_STATUS.ROLE 4).setDa 63 DA_STATUS.TRIP 1).tripped 63 = true) ∧
    ((driven fun o => { o with disabling := true }).out 63).disabling = true ∧
    (let s := driven fun o => { o with lim := 100, gate := 10, stage := .driving }
     s.outHere 63 = true ∧ s.pageOn (daPage 63) = true ∧ (s.out 63).stage = .driving ∧ 100 ≤ (s.out 63).lim ∧
      s.tripped 63 = false ∧ 10 ≤ (s.out 63).gate ∧ s.maskBit (daPage 63) DA_COMPLY (63 % 16) = false ∧
      (s.setDa 63 DA_STATUS.TRIP 1).tripped 63 = true ∧ (s.out 63).tripAt ≠ some (tickOf s.clk)) := by decide +kernel

-- The scheduler and the streams ---------------------------------------------------------------------------------------------------

/-- The task in record `r` of flow 4095, group 63. -/
def taskAt (r : Nat) (st : TaskState) (w : Option Nat) : Task :=
  { rec? := some r, handle := mkHandle 1 r, w0 := mkW0 4095 63 1 0, time := 0, payload := [0, 0, 8, 0], src := 0x200, st := st, readySeq := r, readyAt := 0, compSeq := r, dispAt := 5, worker := w, prog := false, flag := false, withdrawn := false, kind := 0, status := 0 }

/-- The scheduler with the tasks `l`, and with workers 0 and 0xF2 in their group. -/
def scheduling (l : List Task) : State :=
  let s := [0, 0xF2].foldl (fun (s : State) w => ((s.set pgWKR SCH_WKR.GROUP (taskAt 0 .ready none).group w).set pgWKR
    SCH_WKR.EN 1 w).set pgWKR SCH_WKR.BOUND 1 w) (on [pgSCH, pgWKR, pgHQ, pgFB 0])
  { s with tasks := l, gens := l.map fun t => (t.rec?.getD 0, 1) }

/-- A ready task that dispatch gives to worker 0 in either mode; none, and one without a worker. -/
theorem wit_TasksRunInOrder :
    let t := taskAt 0 .ready none
    let s := scheduling [t]
    s.dispatchOn = true ∧ s.hostAssisted pgSCH = false ∧ s.get pgSCH SCH_CTRL.MODE = 0 ∧ (s.wkrsOf t.group).head? = some 0 ∧
      (s.readyOf t.group).head? = some t ∧ (scheduling []).readyOf t.group = [] ∧ t ∈ s.tasks ∧
      (s.set pgSCH SCH_CTRL.MODE 1).get pgSCH SCH_CTRL.MODE = 1 ∧
      (s.tasks.find? fun x => x.handle == t.handle && x.st == .ready) = some t := by decide +kernel

/-- Tasks offered to a port of bank 0, to the management processor and to the host's first queue. -/
theorem wit_TasksRunInOrder_accept :
    (∀ w ∈ [0, 0xE1, 0xF2], (scheduling [taskAt 0 .dispatched (some w)]).oldestOffered w = some (taskAt 0 .dispatched (some w))) ∧
    (let s := ((((scheduling []).set pgDEV DEV_HOSTLINK.RATE 4).set pgDEV DEV_HOSTLINK.BME 1).set pgHQ SCH_CQ_CFG.EN 1 0).set pgHQ SCH_CQ_CFG.SIZE 1 0
     s.workerOpen 0 = true ∧ s.srcFree (.port (.worker 0 0)) = true ∧ s.cqOn 0 = true ∧ s.cqUsed 0 + 1 < s.cqSize 0) := by
  decide +kernel

theorem wit_TasksRunInOrder_kinds : wkrKind 0 = .port 0 0 ∧ wkrKind 0xE1 = .mp 1 ∧ wkrKind 0xF2 = .host 0 := ⟨rfl, rfl, rfl⟩

/-- A word that the last port of bank 0 completes its task with, that is early, and that is late. -/
theorem wit_TasksRunInOrder_complete :
    (let t := taskAt 0 .running (some 6)
     ∀ l ∈ [[t], []], ∀ marks ∈ [[], [(6, 1)]],
      let s : State := { scheduling l with portIn := [((FabPort.worker 0 6).key, ⟨7, []⟩)], lateMark := marks }
      let y := s.takePort (.worker 0 6)
      6 < 0xE0 ∧ wkrPresent s.variant 6 = true ∧ s.pageOn pgSCH = true ∧ s.bankRuns (6 / 7) = true ∧
        s.portFull (.worker (6 / 7) (6 % 7)) = true ∧ aget y.lateMark 6 = aget marks 6 ∧ y.tasks.find? (·.inHand 6) = l.head?) ∧
    (let t := taskAt 0 .running (some 0xE1)
     ((scheduling [t]).tasks.find? fun x => x.handle == t.handle && (x.inHand 0xE0 || x.inHand 0xE1) && x.st != .dispatched) =
      some t) ∧
    (let t := taskAt 0 .running (some 0xFF)
     let s := scheduling [t]
     13 < 14 ∧ s.opensF .host pgHQ SCH_HQ_DONE 13 = true ∧
      (s.tasks.find? fun x => x.handle == 0x4000 % 2 ^ 24 && x.inHand (0xF2 + 13)) = some t ∧
      (s.tasks.find? fun x => x.handle == 0 % 2 ^ 24 && x.inHand (0xF2 + 13)) = none) := by decide +kernel

/-- A release that nothing holds back and one that waits for its target; decisions of the host. -/
theorem wit_TasksRunInOrder_release :
    (let t := taskAt 0 .complete (some 0)
     let s := (scheduling [t]).flowSet 4095 FLOW.ORDERED 1
     s.turn 4095 = some t ∧ s.flowRelease 4095 = 0 ∧ aget s.ckptSkip 4095 = none ∧ (s.deliverRel t).isSome = true ∧
      (s.flowSet 4095 FLOW.RELEASE 0x0E).deliverRel t = none) ∧
    (let t := taskAt 0 .ready none
     let s := ((((scheduling [t]).set pgSCH PG_MODE.FUNC 1).set pgSCH SCH_HA_REQ.PENDING 1).set pgSCH SCH_HA_REQ.GROUP
        t.group).set pgSCH SCH_HA_REQ.WORKER 0
     s.opensF .host pgSCH SCH_HA_DECIDE.HANDLE = true ∧ s.hostAssisted pgSCH = true ∧
      s.flag pgSCH SCH_HA_REQ.PENDING = true ∧ s.wkrAvailable (s.get pgSCH SCH_HA_REQ.WORKER) = true ∧ s.dispatchOn = true ∧
      s.get pgWKR SCH_WKR.GROUP 0 = s.get pgSCH SCH_HA_REQ.GROUP ∧
      ((s.readyOf (s.get pgSCH SCH_HA_REQ.GROUP)).find? fun x => x.handle == 0x4000 % 2 ^ 24) = some t ∧
      ((s.readyOf (s.get pgSCH SCH_HA_REQ.GROUP)).find? fun x => x.handle == 1 % 2 ^ 24) = none) := by decide +kernel

/-- An event that is due, with its slot free and taken, with the scheduler on and off. -/
theorem wit_SourcesEnqueueTasks :
    (let e : HwEvent := ⟨1, 7, 8, 9⟩
     ∀ slot ∈ [[], [(0x81, e)]],
      let s : State := { scheduling [] with hwDue := [(0x81, e)], hwSlot := slot }
      s.freeRecs ≠ [] ∧ (s.hwDue.find? fun x => x.1 == 0x81) = some (0x81, e) ∧ aget s.hwSlot 0x81 = aget slot 0x81 ∧
        s.schAccepts = true ∧ (s.set pgSCH PG_CTRL.EN 0).schAccepts = false ∧ s.recFree (dPrio (s.hwDesc 0x81 e).1) = true ∧
        ({ s with tasks := (List.range (nRecords s.variant)).map fun r => taskAt r .ready none } : State).recFree
          (dPrio (s.hwDesc 0x81 e).1) = false) ∧
    (∀ l ∈ [[], [(255, ((5 : Time), [(0 : Word)]))]],
      let p := FabPort.event 31 7
      let s : State := { on [pgSCH, pgFB 31] with eventPay := [(255, 1)], portIn := [(p.key, ⟨7, []⟩)], subIn := l }
      255 < 256 ∧ aget s.eventPay 255 = some 1 ∧ s.pageOn pgSCH = true ∧ s.portBusy p = false ∧ s.portFull p = true ∧
        aget s.subIn 255 = aget l 255 ∧ s.portOpen 31 = true ∧ s.schAccepts = true ∧ s.srcFree (.port p) = true ∧
        s.bankRuns 31 = true ∧ aget s.spanPorts 255 = none) ∧
    subRefused 1 [] = true ∧ subRefused 0 [] = false := by decide +kernel

/-- The last queue with a descriptor to fetch, with a record free and without. -/
theorem wit_SourcesEnqueueTasks_fetch :
    (let s := ((scheduling []).set pgDEV DEV_HOSTLINK.RATE 4).set pgDEV DEV_HOSTLINK.BME 1
     let s := ((s.set pgHQ SCH_SQ_CFG.EN 1 13).set pgHQ SCH_SQ_CFG.CREDIT 1 13).set pgHQ SCH_SQ_TAIL 1 13
     13 < 14 ∧ (List.replicate 32 (0 : Byte)).length = 32 ∧ s.runs pgHQ = true ∧ s.get pgHQ SCH_SQ_CFG.EN 13 = 1 ∧ s.dmaOk = true ∧
      s.shadowed = false ∧ s.get pgHQ SCH_SQ_HEAD 13 ≠ s.get pgHQ SCH_SQ_TAIL 13 ∧ s.schAccepts = true ∧
      s.sqRecords 13 < s.get pgHQ SCH_SQ_CFG.CREDIT 13 ∧
      subRefused (payWord (leWords (List.replicate 32 0)) 0) ((leWords (List.replicate 32 0)).drop 4) = false ∧
      s.recFree 0 = true) ∧
    (let s := scheduling [taskAt 0 .ready none]
     s.opensF .host pgSCH SCH_CANCEL = true ∧ handleGen 0x4000 ≠ 0 ∧
      (aget s.gens (handleRec 0x4000)).getD 0 = handleGen 0x4000 ∧ handleGen 1 = 0 ∧
      (s.tasks.find? fun t => t.rec? == some (handleRec 0x4000)) = some (taskAt 0 .ready none)) ∧
    (let s := ((scheduling []).set pgDEV DEV_HOSTLINK.RATE 4).set pgDEV DEV_HOSTLINK.BME 1
     let s : State := { (s.set pgHQ SCH_CQ_CFG.EN 1 13).set pgHQ SCH_CQ_CFG.SIZE 1 13 with notices := [(13, 0x4000)] }
     (s.notices.find? fun n => n.1 == 13) = some (13, 0x4000) ∧ s.cqRoom 13 = true) := by decide +kernel

/-- Tails and heads at the end of their queue and behind it; flow 4095 empty and in use; the mode with and without a record. -/
theorem wit_SchedulerRegistersGuard :
    (let s := ((scheduling []).set pgHQ SCH_SQ_CFG.SIZE 0 13).set pgHQ SCH_CQ_TAIL 3 13
     13 < 14 ∧ 4095 < 4096 ∧ s.opensF .host pgHQ SCH_SQ_TAIL 13 = true ∧ ¬ 2 ^ (s.get pgHQ SCH_SQ_CFG.SIZE 13 + 4) ≤ 15 ∧
      2 ^ (s.get pgHQ SCH_SQ_CFG.SIZE 13 + 4) ≤ 16 ∧ 15 ≠ s.get pgHQ SCH_SQ_HEAD 13 ∧ s.opensF .host pgHQ SCH_CQ_HEAD 13 = true ∧
      (∀ t ∈ [0, 3], t < s.cqSize 13 ∧ (t + s.cqSize 13 - s.get pgHQ SCH_CQ_HEAD 13) % s.cqSize 13 ≤ s.cqUsed 13) ∧
      s.cqUsed 13 < (4 + s.cqSize 13 - s.get pgHQ SCH_CQ_HEAD 13) % s.cqSize 13 ∧
      (s.set pgHQ SCH_CQ_TAIL 0 13).cqUsed 13 = 0 ∧ s.opensF .host pgSCH SCH_BROKE_TAIL = true) ∧
    (let s := scheduling []
     s.opens .host (flowBase + 16 * 4095) = true ∧ s.locked pgSCH 9 = false ∧ s.flowGet 4095 FLOW.OPEN = 0 ∧
      s.flowGet 4095 FLOW.HELD = 0 ∧ (s.flowSet 4095 FLOW.HELD 1).flowGet 4095 FLOW.HELD ≠ 0 ∧ relTarget (15 % 256) = false ∧
      relTarget (14 % 256) = true ∧ s.opensF .host pgSCH SCH_CTRL.MODE = true ∧ s.locked pgSCH 8 = false ∧
      s.flag pgSCH PG_CTRL.EN = true ∧ (up.flag pgSCH PG_CTRL.EN = false ∧ up.recHeld = 0)) := by decide +kernel

/-- Ring 63 with a block in progress and one that is closed. -/
def blockOf (n : Nat) : Block :=
  { data := List.replicate n 0, count := n / 4, time := 0, lost := 0, gap := false, invalid := false, torn := false, start := true }
def ringing : State :=
  let s := [ST_RING_CFG.EN, ST_RING_FLUSH.TIMEOUT].foldl (fun (s : State) f => s.set (ringPage 63) f 1 3) (on [ringPage 63])
  let s := (s.set pgDEV DEV_HOSTLINK.RATE 4).set pgDEV DEV_HOSTLINK.BME 1
  s.setRing 63 ⟨some (blockOf 4), [blockOf 8], 0, false, true⟩

theorem wit_RingsKeepTheirOrder :
    let s := ringing
    let k := s.rget 63 ST_RING_CFG.SRC
    63 < 64 ∧ 15 < 16 ∧ s.ringAccepts 63 = true ∧ (s.ring 63).cur = some (blockOf 4) ∧
      (blockOf 4).data.length + (List.replicate (formatSize (srcFormat k)) (0 : Byte)).length ≤ s.ringB 63 - 32 ∧
      (s.placeItem 63 (List.replicate (formatSize (srcFormat k)) 0) 0 false).isSome = true ∧ srcPresent s.variant k = true ∧
      k < 0x80 ∧ s.ringOf k = some 63 ∧ up.ringOf k = none ∧
      srcPresent s.variant 0x80 = true ∧ srcPresent s.variant 0x9F = true ∧ s.rget 63 ST_RING_FLUSH.TIMEOUT ≠ 0 ∧
      s.opensF .host (ringPage 63) ST_RING_FLUSH.NOW (63 % 4) = true ∧ s.pageOn (ringPage 63) = true ∧
      (s.ring 63).closed ≠ [] ∧ s.ringRoom 63 = true ∧ (s.set pgDEV DEV_HOSTLINK.BME 0).ringRoom 63 = false ∧
      s.opensF .host (ringPage 63) ST_RING_RP (63 % 4) = true ∧ s.opensF .host (ringPage 63) ST_RING_CFG.EN (63 % 4) = true ∧
      s.ringEn 63 = true ∧ up.ringEn 63 = false ∧ ((up.set (ringPage 63) ST_RING_CFG.SIZE 4 3).set64 (ringPage 63) ST_RING_BASE_LO 4096 3).ringBad 63 = false ∧ (up.set (ringPage 63) ST_RING_CFG.SRC 0x7F 3).ringBad 63 = true := by
  decide +kernel

/-- Engine 15's task, its entry with data beside the descriptor, with data in host memory and in the block memories. -/
theorem wit_RingsKeepTheirOrder_tasks :
    ∀ c ∈ [((0 : Nat), (0 : Nat)), (1, 0), (1, 0x80000000)],
      let t : Task := { taskAt 0 .running (some 0xF1) with
        w0 := mkW0 0 0 0 0 ||| BitVec.ofNat 32 c.1, payload := [0, BitVec.ofNat 32 c.2, 8, 0] }
      let s : State := { ringing.set (ringPage 63) ST_RING_CFG.TASKS 1 3 with tasks := [t] }
      s.oldestHeld (0xE2 + 15) = some t ∧ s.taskRing 15 = some 63 ∧ ringing.taskRing 15 = none ∧
        32 + (8 + 3) / 4 * 4 ≤ s.ringB 63 - 32 ∧ s.pointerWaits t = false ∧ bit (dFlags t.w0) 0 = decide (c.1 ≠ 0) ∧
        t.pointsIn = decide (c.2 ≠ 0) := by decide +kernel

-- The ream store and the boot-flash port ---------------------------------------------------------------------------------------------

/-- The store and its pages, mounted, with host memory in reach. -/
def stored : State :=
  let s := ((on [pgRS, pgVT, pgCAP, pgPR, pgBFE]).set pgDEV DEV_HOSTLINK.RATE 4).set pgDEV DEV_HOSTLINK.BME 1
  s.set pgRS RS_STATE.STATE 2

theorem wit_TheStoreCarriesOutCommands : 63 < 64 ∧
    (let s := stored.set pgRS RS_STATE.STATE 1
     s.get pgRS RS_STATE.STATE = 1 ∧ s.pageOn pgRS = true ∧ s.bootStep ≠ 5 ∧ s.mounted = false) ∧
    (stored.opensF .host pgRS RS_CMD.OP = true ∧ stored.accepts pgRS = true ∧ stored.rsOp = none ∧ stored.pressOn = false ∧
      stored.mounted = true ∧ stored.readOnly = false ∧ stored.secondary = false ∧ stored.dmaOk = true ∧
      (stored.set pgDEV DEV_HOSTLINK.BME 0).dmaOk = false ∧ stored.hostAssisted pgRS = false ∧
      ({ stored with press := some ⟨1, true, 0, [], []⟩ } : State).pressOn = true) ∧
    (∀ o ∈ [RsOp.libErase 63, .setStartup 63, .sweep, .format, .libWrite 63 [1], .raw 1 0 0 [2], .raw 3 0 0 []],
      let s : State := { stored with rsOp := some o }
      s.pageOn pgRS = true ∧ s.rsOp = some o ∧ s.flashWaits = false ∧
        (s.flag pgRS RS_HA_REQ.PENDING && s.hostAssisted pgRS) = false) ∧
    (stored.runs pgRS = true ∧ stored.flag pgRS PG_INJECT.ARM = false ∧ stored.get pgRS RS_REFRESH.THRESH ≤ 100 ∧
      (stored.set pgRS RS_REFRESH.THRESH 99).get pgRS RS_REFRESH.THRESH < 100) ∧
    (let s := ((stored.set pgRS PG_MODE.FUNC 1).set pgRS RS_HA_REQ.PENDING 1)
     s.opensF .host pgRS RS_HA_ANS.GO = true ∧ s.flag pgRS RS_HA_REQ.PENDING = true ∧ s.hostAssisted pgRS = true ∧
      bit 0x80000000 31 = true ∧ s.opensF .host pgRS RS_RAW.OP = true ∧ 2 ≤ s.get pgRS RS_STATE.STATE ∧
      s.present pgRS = true ∧ s.get pgRS RS_STATE.STATE ≠ 0) := by decide +kernel

/-- A sheet that passes its check, one that does not, and data longer than a slot. -/
theorem wit_TheStoreCarriesOutCommands_sheet :
    (let w := (((stored.met .host pgRS RS_CMD.OP).set pgRS RS_CMD.OP 2).set pgRS RS_CMD.SLOT 63).rsBegin (.libFetch 63 (some bootImage))
     let w := w.set pgCFG CFG_SRC_EN 0x1F
     bootImage.length ≤ 32 * 2 ^ 20 ∧ (w.checkSheet bootImage).1 = 0 ∧ (w.checkSheet []).1 ≠ 0) ∧
    32 * 2 ^ 20 < (List.replicate (32 * 2 ^ 20 + 1) (0 : Byte)).length :=
  ⟨by decide +kernel, by rw [List.length_replicate]; omega⟩

/-- The transaction of a master with one record; a measurement that leaves the vault out of HOLD_OFF. -/
def txnOf (m : Nat) : Txn := ⟨m, [⟨1, some [5]⟩], 24, 0, false⟩
def charged : State :=
  { (((((stored.set pgPR RS_PR_DIV 65535).set pgPR RS_PR_VMIN.EFF 80).set pgPR RS_PR_CAP 0xFFFF).set pgPR RS_PR_STATE.ARMED 1).set pgRS RS_GEOM.CHANNELS 4).set
      pgRS RS_RESERVE.ERASED 100 with energyAt := some up.clk, energyUv := 40000000, vault := [(1, [2])] }

theorem wit_VaultAndCaptureKeepData : 15 < 16 ∧
    (let s := charged
     s.opensF .host pgVT RS_VT_CMD.OP = true ∧ s.accepts pgVT = true ∧ s.vtOp = none ∧ s.pressOn = false ∧ s.mounted = true ∧
      s.readOnly = false ∧ s.txn = none ∧ s.vtCommit = none ∧ s.vtRebuild = false ∧ s.get pgTW TW_STATUS.ROLE = 0 ∧
      s.flag pgTW TW_STATUS.LINK_UP = false ∧ s.holdOff (min 24 (txnOf 0).bytes) = false ∧
      stored.holdOff (min 24 (txnOf 0).bytes) = true ∧ (txnOf Master.host.id).owner = Master.host.id ∧
      (txnOf Master.mgmtSpi.id).owner ≠ Master.host.id ∧ (applyRecs s.vault (txnOf 0).recs).length ≤ 262144 ∧ s.dmaOk = true) ∧
    (let d := leBytes 8 77 ++ leBytes 4 4 ++ leBytes 4 (crc32 [1, 2, 3, 4]).toNat ++ [1, 2, 3, 4, 0, 0, 0, 0]
     (parseEntries (d.length / 16 + 1) d).isSome = true ∧ (txnOf 0).bytes + d.length ≤ 2 ^ 20 ∧
      (txnOf 0).recs.length + ((parseEntries (d.length / 16 + 1) d).getD []).length ≤ 1024 ∧
      aget charged.vault ((charged.set64 pgVT RS_VT_KEY_LO 9).get64 pgVT RS_VT_KEY_LO) = none) ∧
    (∀ hw ∈ [true, false], let s : State := { stored.set pgCAP RS_CAP_STATE 1 15 with
        trig := if hw then [⟨.cap 15, 60000, up.clk⟩] else [] }
      s.get pgCAP RS_CAP_STATE 15 = 1 ∧ s.opensF .host pgCAP RS_CAP_CFG.TRIGGER 15 = true ∧
        s.opensF .host pgCAP RS_CAP_CFG.EN 15 = true ∧ s.get pgCAP RS_CAP_CFG.EN 15 = 0 ∧
        (s.takeTrig (· == .cap 15)).isSome = hw) ∧
    (let s := (stored.set pgCAP RS_CAP_STATE 3 15).set pgCAP RS_CAP_CFG.EN 1 15
     s.get pgCAP RS_CAP_STATE 15 = 3 ∧ s.get pgCAP RS_CAP_CFG.EN 15 = 1 ∧ s.opensF .host pgCAP RS_CAP_RD.GO = true ∧
      s.capRead = none ∧ s.accepts pgCAP = true) := by decide +kernel

/-- A press at each step, with power back and gone; each trigger's run complete. -/
def pressing (step : Nat) (hold : Bool) : State :=
  { stored.set pgPR RS_PR_STATE.STEP step with press := some ⟨1, hold, 0, [], []⟩, pressRuns := ⟨1000, 2, 1000, 2⟩ }

theorem wit_ThePressRuns :
    (let s : State := { ((stored.set pgPR RS_PR_CTRL.EN 1).set pgPR RS_PR_CTRL.PWR_FAIL_EN 1).set pgPR RS_PR_CTRL.HU_TRIP_EN 1 with
        pressRuns := ⟨1000, 2, 0, 2⟩ }
     s.flag pgPR RS_PR_CTRL.EN = true ∧ s.flag pgPR RS_PR_STATE.ARMED = false ∧ 1000 ≤ s.pressRuns.lo ∧ 2 ≤ s.pressRuns.loOff ∧
      s.flag pgPR RS_PR_CTRL.PWR_FAIL_EN = true ∧ s.flag pgPR RS_PR_CTRL.HU_TRIP_EN = true ∧ 2 ≤ s.pressRuns.huOff ∧
      s.tbRun = true ∧ s.opensF .host pgPR RS_PR_CTRL.TRIG = true ∧ s.pressReady = false ∧
      (s.set pgPR RS_PR_STATE.ARMED 1).pressReady = true) ∧
    (∀ step ∈ [1, 5, 6], ∀ hold ∈ [true, false], let s := pressing step hold
      s.press = some ⟨1, hold, 0, [], []⟩ ∧ s.get pgPR RS_PR_STATE.STEP = step ∧ s.powerBack true = true ∧
        (s.set pgPR RS_PR_CTRL.PWR_FAIL_EN 1).powerBack false = false) ∧
    (let s : State := { stored with holdEntry := true, energySample := some (50000, 12000) }
     s.press = none ∧ s.holdEntry = true ∧ s.energySample = some (50000, 12000)) ∧
    (let s : State := { stored with energyTold := false, energyAt := none, clk := 11000001 }
     s.energyTold = false ∧ s.tbRun = true ∧ s.energyAt.getD 0 + 11000000 < s.clk) ∧
    stored.opensF .host pgPR RS_PR_CTRL.SAVE = true := by decide +kernel

/-- The port in each mode, with WEL, with an operation in hand and without; the last bytes of the image. -/
theorem wit_TheBootFlashPortAnswers :
    (∀ octal ∈ [true, false], ∀ en ∈ [true, false],
      let s : State := { stored with bfePort := ⟨octal, 20, en, none, en⟩ }
      s.bfeOn = true ∧ s.bfePort.wip = none ∧ s.bfePort.octal = octal ∧ s.bfePort.wel = en ∧ s.bfePort.rstEn = en ∧
        s.flag pgBFE PG_INJECT.ARM = false ∧ s.bfeBytes - 1 + 1 ≤ s.bfeBytes ∧ s.bfeBytes - 1 < s.bfeBytes ∧
        (List.replicate 256 (0 : Byte)).length ≤ 256 ∧ s.bfeWritable = true ∧
        (s.set pgRS RS_STATE.READ_ONLY 1).bfeWritable = false) := by
  decide +kernel

/-- An erase in hand, and the numbers of dummy cycles at the ends of their range. -/
theorem wit_TheBootFlashPortAnswers_busy :
    (let s : State := { stored with bfePort := ⟨false, 20, false, some ⟨0xF000, 0x1000, none⟩, false⟩ }
     s.bfeOn = true ∧ s.bfePort.wip = some ⟨0xF000, 0x1000, none⟩ ∧ 0xF000 < 2 ^ 32) ∧
    (∀ d ∈ [(8 : Byte), 20], 8 ≤ d.toNat ∧ d.toNat ≤ 20) ∧ ¬ 8 ≤ (7 : Byte).toNat ∧ ¬ (21 : Byte).toNat ≤ 20 := by
  decide +kernel

theorem wit_BootImagesSwitch :
    (∀ tries ∈ [2, 3], let s : State := { (((stored.set pgBFE BFE_BOOT.MAX_TRIES 3).set pgBFE BFE_BOOT.TRIES tries).set pgBFE
        BFE_IMAGE.B_VALID 1).set pgBFE BFE_IMAGE.UPDATING 1 with hostRstDue := some true }
      s.hostRstDue = some true ∧ s.flag pgBFE BFE_IMAGE.COMMIT_PENDING = false ∧
        (s.set pgBFE BFE_IMAGE.COMMIT_PENDING 1).flag pgBFE BFE_IMAGE.COMMIT_PENDING = true ∧ s.imgValid s.bfeOther = true ∧
        (s.get pgBFE BFE_BOOT.TRIES < s.get pgBFE BFE_BOOT.MAX_TRIES ↔ tries = 2) ∧
        s.opensF .host pgBFE BFE_BOOT.BOOT_OK = true ∧ s.opensF .host pgBFE BFE_CTRL.COMMIT = true ∧ s.locked pgBFE 9 = false ∧
        s.pressOn = false ∧ s.flag pgBFE BFE_IMAGE.UPDATING = true ∧ s.opensF .host pgBFE BFE_CTRL.DISCARD = true ∧
        s.opensF .host pgBFE BFE_UPD.GO = true ∧ s.bfeWritable = true ∧ s.accepts pgBFE = true ∧ s.bfeUpd = none ∧
        s.bfeFetch = none ∧ s.bfePort.wip = none ∧ s.dmaOk = true) ∧
    ({ stored with hostRstDue := some false, bfeUpd := some ⟨0, 0x1000, none⟩ } : State).hostRstDue = some false := by
  decide +kernel

-- Faults and recovery, the twin and the span links -------------------------------------------------------------------------------------

/-- CAL with its two classes of source, with the first-error capture free and full, and with an injection armed. -/
theorem wit_FaultsReactInOrder : ∀ c ∈ [(0, 1), (1, 2)], ∀ full ∈ [0, 1],
    let s := (on [pgCAL]).set pgCAL PG_FE_SRC.VALID full
    pageAt pgCAL = some (.cal, 0) ∧ srcClass pgCAL c.1 = c.2 ∧ s.checksOf pgCAL = true ∧ s.flag pgCAL PG_INJECT.ARM = false ∧
      s.flag pgCAL PG_MODE.FAULT = false ∧ pgCAL ∉ s.fregBad ∧ (s.ringOf srcFaultLog).isNone = true ∧
      (s.set pgCAL PG_FAULT_REACT.SRC 0 0 c.1).get pgCAL PG_FAULT_REACT.SRC 0 c.1 = 0 ∧ s.flag pgCAL PG_FE_SRC.VALID = decide (full = 1) ∧
      s.get64 pgCAL PG_FE_TIME_LO ≠ s.now ∧ ({ s with unpowered := true } : State).checksOf pgCAL = false := by decide +kernel

theorem wit_FaultsReactInOrder_local (x : State) : x.localEffect .cal 0 0 0 0 = x ∧ x.localEffect .cal 0 1 0 0 = x := ⟨rfl, rfl⟩

/-- The reactions, the injection, and the tender's own checks. -/
theorem wit_FaultsReactInOrder_act :
    (∀ r ∈ [1, 2, 3, 4, 5], ((on [pgCAL]).set pgCAL PG_FAULT_REACT.SRC r 0 1).get pgCAL PG_FAULT_REACT.SRC 0 1 % 8 = r) ∧
    ((on [pgCAL]).safe = false ∧ ((on [pgCAL]).set pgTND TND_STATUS.SAFE 1).safe = true) ∧
    (let s := ((on [pgCAL]).set pgCAL PG_INJECT.ARM 1).set pgCAL PG_INJECT.CHECKER 2
     s.flag pgCAL PG_INJECT.ARM = true ∧ (srcCheckers .cal 1).contains (s.get pgCAL PG_INJECT.CHECKER) = true ∧
      (srcCheckers .cal 5).contains (s.get pgCAL PG_INJECT.CHECKER) = false) ∧
    (up.present pgTND = true ∧ up.unpowered = false ∧ up.present pgCAL = true ∧ 0x01C ∈ parityRegs ∧ 0x030 ∉ parityRegs ∧
      pgCAL ∈ ({ up with fregBad := [pgCAL] } : State).fregBad ∧ up.mpDown = false ∧
      (up.set pgTND TND_WATCH.MP_EN 1).flag pgTND TND_WATCH.MP_EN = true ∧
      (up.set pgTND TND_WATCH.MP_EN 0).flag pgTND TND_WATCH.MP_EN = false) := by decide +kernel

/-- The keys of TND_CMD given, half given and not; a vote lost; RESET# low in HOLD and elsewhere. -/
theorem wit_TheTenderActs :
    (let off := TND_CMD.addr pgTND 0
     let s := up.setKey .host off 2
     s.opensF .host pgTND TND_CMD = true ∧ s.keyStage .host off = 2 ∧ up.keyStage .host off = 0 ∧
      s.flag pgTND TND_STATUS.VOTE_LOST = false ∧ (s.set pgTND TND_STATUS.VOTE_LOST 1).flag pgTND TND_STATUS.VOTE_LOST = true ∧
      s.locked pgTND 9 = false ∧ (s.setReg (pgTND * 0x1000 + 0x030) 0x200).locked pgTND 9 = true ∧
      pageAt pgCAL = some (.cal, 0) ∧ s.present pgCAL = true ∧ 255 < 256 ∧ pageAt 255 = none ∧
      s.opensF .host pgTND TND_TRAP.PENDING = true ∧ s.unpowered = false ∧ s.resetLow = false ∧ s.power ≠ powerHOLD) ∧
    (let s : State := { up.set pgPWR PWR_STATE.CURRENT powerHOLD with resetLow := true }
     s.resetLow = true ∧ s.power = powerHOLD ∧ up.safe = false ∧ (up.set pgTND TND_STATUS.SAFE 1).safe = true) := by
  decide +kernel

/-- The twin link up in a role, on a side. -/
def paired (role side : Nat) : State :=
  (((on [pgTW, pgLS]).set pgTW TW_STATUS.LINK_UP 1).set pgTW TW_STATUS.ROLE role).set pgTW TW_STATUS.SIDE side

theorem wit_TwinsTakeOver :
    (∀ role ∈ [1, 2, 3, 4], ∀ side ∈ [0, 1], let s := paired role side
      s.twinRuns = true ∧ s.flag pgTW TW_STATUS.LINK_UP = true ∧ s.flag pgTW PG_INJECT.ARM = false ∧ s.role = role ∧
        s.sideB = decide (side = 1) ∧ s.peer ≠ 2 ∧ s.twin.raised = none ∧ s.secondary = decide (role = 2 ∨ role = 4) ∧
        s.tbRun = true ∧ s.present pgTW = true ∧ s.unpowered = false ∧ (1 = s.peer ∨ 1 ≠ s.peer) ∧ s.twin.waiting = false ∧
        s.twin.padHold = false) ∧ 7 < 8 ∧
    (let s := (paired 3 0).set pgTW TW_STATUS.LINK_UP 0
     (s.twinRuns && s.flag pgTW TW_STATUS.LINK_UP) = false ∧ 2 ^ 64 - 1 < 2 ^ 64) ∧
    (let s := ((paired 3 0).set pgTW PG_INJECT.ARM 1).set pgTW PG_INJECT.CHECKER 3
     s.flag pgTW PG_INJECT.ARM = true ∧ s.get pgTW PG_INJECT.CHECKER = 3) ∧
    ((paired 2 0).set pgTW TW_STATUS.PEER_LINE 2).peer = 2 := by decide +kernel

/-- Eight heartbeats missed; a line that changes; a claim raised on each side; the waits that end. -/
theorem wit_TwinsTakeOver_claims :
    (∀ lost ∈ [true, false], let s : State := { (paired 1 0).set pgTW TW_HB.RUN 8 with twin := { up.twin with hbLost := lost } }
      s.get pgTW TW_HB.RUN = 8 ∧ s.twin.hbLost = lost ∧ (paired 1 0).get pgTW TW_HB.RUN ≠ 8) ∧
    (∀ role ∈ [1, 2], ∀ line ∈ [0, 1, 2], let s : State := { ((paired role 1).set pgTW TW_STATUS.PEER_LINE ((line + 1) % 3)) with
        twin := { up.twin with hbLost := false } }
      line ≤ 2 ∧ line ≠ s.peer ∧ s.role = role ∧ s.twin.raised = none ∧ s.twin.hbLost = false) ∧
    (∀ side ∈ [0, 1], let s : State := { paired 1 side with twin := { up.twin with raised := some 100, seen := true } }
      s.twin.raised = some 100 ∧ s.sideB = decide (side = 1) ∧ s.twin.seen = true) ∧
    (let s : State := { paired 1 1 with twin := { up.twin with waiting := true, padHold := true } }
     s.twin.waiting = true ∧ s.role = 1 ∧ s.peer ≠ 2 ∧ s.twin.padHold = true) := by decide +kernel

/-- The root and a device with address 2; lanes up and down. -/
def spanned (root lanes : Nat) : State :=
  let s := ((on [pgSN, pgLS]).set pgSN SN_CTRL.ROOT root).set pgSN SN_STATUS.LANE_UP lanes
  ((s.set pgSN SN_STATUS.ADDR_VALID 1).set pgSN SN_STATUS.ADDR 2).set pgSN SN_RANGE.LAST 9 1 |>.set pgSN SN_RANGE.FIRST 3 1 |>.set
    pgSN SN_RANGE.VALID 1 1

theorem wit_SpanLanesCarryPackets :
    (∀ root ∈ [0, 1], ∀ lanes ∈ [0, 15], let s := spanned root lanes
      s.opensF .host pgSN SN_CTRL.ENUM = true ∧ s.root = decide (root = 1) ∧ s.accepts pgSN = true ∧
        s.opensF .host pgSN SN_STROBE_TX.GO = true ∧ s.spanRuns = true ∧ s.laneUp 0 = decide (lanes = 15) ∧
        s.laneUp 3 = decide (lanes = 15) ∧ s.tbRun = true ∧ s.flag pgSN PG_INJECT.ARM = false ∧
        (aget s.subWait 0x210).isNone = true ∧ s.flag pgSN SN_STATUS.ADDR_VALID = true ∧ s.get pgSN SN_STATUS.ADDR = 2 ∧
        s.laneFor 3 = some 2 ∧ s.laneFor 9 = some 2 ∧ s.laneFor 10 = none ∧
        s.flag pgSN SN_CTRL.TIME_FOLLOW = true ∧ (s.set pgSN SN_CTRL.TIME_FOLLOW 0).flag pgSN SN_CTRL.TIME_FOLLOW = false ∧
        (s.set pgSN SN_STATUS.TIME_LOCKED 1).flag pgSN SN_STATUS.TIME_LOCKED = true ∧
        s.flag pgSN SN_STATUS.TIME_LOCKED = false ∧ s.get pgSN SN_STATUS.DEPTH = 0 ∧
        (s.set pgSN SN_STATUS.ENUM_BUSY 1).flag pgSN SN_STATUS.ENUM_BUSY = true) ∧
    (up.accepts pgSN = false ∧ up.spanRuns = false ∧ bit 0x80000007 31 = true ∧ bit 7 31 = false ∧ 15 < 16 ∧
      2 ^ 14 - 1 < 2 ^ 14 ∧ (2 ^ 14 - 2 + 1) / 2 * 2 < 2 ^ 14 ∧ 2 ^ 15 - 1 < 2 ^ 15) := by decide +kernel

/-- A port's descriptor that waits, and strobes before, at and after the present tick. -/
theorem wit_SpanLanesCarryPackets_strobes :
    (let s : State := { (spanned 1 15).set pgSN SN_SP.EN 1 63 with spanPorts := [(255, 63)], spanWait := [(255, [1, 2])] }
     (s.spanWait.find? fun (e : Nat × List Word) => aget s.spanPorts e.1 == some 63) = some (255, [1, 2]) ∧
      s.get pgSN SN_SP.EN 63 = 1) ∧
    (let s : State := { (on [pgSN, pgLS]).set pgLS LS_CFG.SRC 4 7 with strobes := [(0, 49999), (0, 50000)] }
     (49999 : Time).toNat < s.now ∧ s.now ≤ (50000 : Time).toNat ∧
      s.strobes.find? (fun e => e.1 == 0 && decide (s.now ≤ e.2.toNat)) = some (0, 50000) ∧
      s.strobes.find? (fun e => e.1 == 7 && decide (s.now ≤ e.2.toNat)) = none ∧ s.slewLeft = 0 ∧ s.accepts pgLS = true ∧
      s.get pgLS LS_CFG.SRC 7 = 4 ∧ s.get pgLS LS_CFG.SEL 7 = 0) := by decide +kernel

-- Pads, serialisers and power ----------------------------------------------------------------------------------------------------------

/-- GB7 and its last pad: owned, locked and free; its key sequence given; the pins in each role. -/
theorem wit_PadsAndLanesFollow : 7 < 8 ∧ 255 < 256 ∧ 31 < 32 ∧
    (let s := up.set pgTW TW_STATUS.ROLE 0
     s.opensF .host (pgGB 7) GB_OUT = true ∧ s.listening = false ∧ (s.set pgTW TW_STATUS.ROLE 1).listening = true ∧
      s.opensF .host (pgGB 7) GB_DIR = true ∧ s.opensF .host (pgGB 7) GB_CFG 31 = true ∧ s.padOwned 255 = false ∧
      ({ s with setw := [(padIdx 255, 0x80000000)] } : State).padOwned 255 = true ∧ s.padLocked 7 31 = false ∧
      (s.setMaskBit (pgGB 7) GB_PADLOCK 31 true).padLocked 7 31 = true ∧ s.opensF .host (pgGB 7) GB_PADLOCK = true ∧
      s.keyStage .host (GB_PADLOCK.addr (pgGB 7) 0) = 0 ∧
      (s.setKey .host (GB_PADLOCK.addr (pgGB 7) 0) 2).keyStage .host (GB_PADLOCK.addr (pgGB 7) 0) = 2) ∧
    (∀ v ∈ [0, 1], let s := up.set (pgGB 7) GB_STATUS.VIO_OK v
      s.flag (pgGB 7) GB_STATUS.VIO_OK = decide (v = 1)) ∧
    (∀ e ∈ [0, 1], let s := (up.set (pgGB 7) GB_RISE_EN (2 ^ 31 * e)).set pgTW TW_STATUS.ROLE 0
      s.tbRun = true ∧ s.padLevel 255 = false ∧ s.padSees 255 true = true ∧ s.maskBit (pgGB 7) GB_RISE_EN 31 = decide (e = 1)) := by
  decide +kernel

/-- A quad with its loop locked, its first lane in each of its modes. -/
def lane0 (prbs loop check coding : Nat) (x : Lane) : State :=
  let s := (((on [pgSQ 0]).set (pgSQ 0) SQ_STATUS.LOCKED 1).set (pgSQ 0) SQ_LANE_CTRL.EN 1 0).set (pgSQ 0) SQ_LANE_CTRL.PRBS prbs 0
  (((s.set (pgSQ 0) SQ_LANE_CTRL.LOOP loop 0).set (pgSQ 0) SQ_LANE_CTRL.PRBS_CHECK check 0).set (pgSQ 0) SQ_LANE_CTRL.CODING coding
    0).setLane 0 0 x

def word5 : List Word := [1, 2, 3, 4, 5]

theorem wit_PadsAndLanesFollow_lanes :
    (∀ loop ∈ [0, 1, 2], ∀ check ∈ [0, 1], ∀ coding ∈ [0, 3],
      let s := lane0 0 loop check coding { tx := [word5], rx := [], gap := false, line := word5 }
      s.laneOn 0 0 = true ∧ (s.lane 0 0).tx = [word5] ∧ (s.lane 0 0).rx.length < 64 ∧ s.get (pgSQ 0) SQ_LANE_CTRL.PRBS 0 = 0 ∧
        s.get (pgSQ 0) SQ_LANE_CTRL.LOOP 0 = loop ∧ s.get (pgSQ 0) SQ_LANE_CTRL.PRBS_CHECK 0 = check ∧
        s.get (pgSQ 0) SQ_LANE_CTRL.CODING 0 = coding ∧ s.nets = []) ∧
    word5.length = 5 ∧ (List.replicate 64 word5).length = 64 ∧
    (let s : State := { lane0 1 0 0 0 { tx := [], rx := [], gap := false, line := [] } with
        portIn := [((FabPort.lane 0 0).key, ⟨7, []⟩)] }
     s.portFull (.lane 0 0) = true ∧ (s.lane 0 0).tx.length < 64 ∧ s.get (pgSQ 0) SQ_LANE_CTRL.PRBS 0 ≠ 0) := by
  decide +kernel

/-- SQ5, whose rate can be written, with its page on and off, and locked; SQ6, whose rate cannot. -/
theorem wit_PadsAndLanesFollow_quads :
    (∀ q ∈ [5, 6], let s := up.set (pgSQ q) SQ_CFG.RATE 1
      q < 8 ∧ s.opensF .host (pgSQ q) SQ_CFG.RATE = true ∧ s.flag (pgSQ q) PG_CTRL.EN = false ∧ s.locked (pgSQ q) 8 = false ∧
        (s.setReg (pgSQ q * 0x1000 + 0x030) 0x100).locked (pgSQ q) 8 = true ∧ s.get (pgSQ q) SQ_CFG.RATE = 1 ∧
        State.reset.pageOn (pgSQ q) = false) ∧ (8 < 9 ∧ 9 ≤ (9 : Word).toNat % 16) ∧
    (∀ lock ∈ [0, 1], let s := (on [pgSQ 5]).set (pgSQ 5) SQ_STATUS.LOCKED lock
      s.present (pgSQ 5) = true ∧ s.pageOn (pgSQ 5) = true ∧ s.flag (pgSQ 5) SQ_STATUS.LOCKED = decide (lock = 1)) := by
  decide +kernel

/-- Domain 32 off while its page asks for it, admitted; on and not wanted, idle. -/
theorem wit_PowerStatesFollow_domains :
    (let s := (on [pgAS 0]).setDomOn 32 false
     s.domWanted 32 = true ∧ s.domOn 32 = false ∧ (on [pgAS 0]).domOn 32 = true ∧
      s.admitRamps.ramps.contains 32 = true ∧
      ((List.range 8).foldl (fun (x : State) b => (x.set (pgFB b) PG_CTRL.EN 1).setDomOn b false) s).admitRamps.ramps.contains 32 = false ∧
      ((s.admitRamps.domUp 32).admitRamps).flag (pgAS 0) PG_CTRL.EN = true) ∧
    (63 < 64 ∧ up.domOn 32 = true ∧ up.domWanted 32 = false ∧ (∀ pg ∈ domPages 32, up.present pg = true → up.pageIdle pg = true) ∧
      up.power ≠ powerDOZE) ∧
    (let s := ((on [pgAS 0]).set pgPWR PWR_DOZE_MASK_HI 1).set pgPWR PWR_STATE.CURRENT powerDOZE
     s.domOn 32 = true ∧ s.domWanted 32 = false ∧ s.power = powerDOZE ∧ s.dozeMasked 32 = true ∧ s.domAsked 32 = true) := by
  decide +kernel

/-- The power states and what forbids their change; the wakes. -/
theorem wit_PowerStatesFollow :
    (∀ st ∈ [powerRUN, powerDOZE, powerHOLD], let s := up.set pgPWR PWR_STATE.CURRENT st
      s.opensF .host pgPWR PWR_STATE.GO = true ∧ s.power = st ∧ s.couch = none ∧ s.press = none ∧ s.safe = false ∧
        s.holdEntry = false ∧ s.dozeOff = [] ∧ s.opensF .mgmtSpi pgPWR PWR_STATE.WAKE = true ∧ s.suppliesOk = true ∧
        s.flag pgPR RS_PR_CTRL.EN = false ∧ s.unpowered = false) ∧
    ({ up with dozeOff := [32] } : State).dozeOff ≠ [] ∧ (up.set pgPR RS_PR_CTRL.EN 1).flag pgPR RS_PR_CTRL.EN = true ∧
    (let s := (((up.set pgPWR PWR_WAKE.DOZE 8).set pgPWR PWR_WAKE.HOLD_PFAIL 1).set pgPWR PWR_WAKE.HOLD_VIN 1).set pgPWR PWR_HOLD_VIN 9
     bit (s.get pgPWR PWR_WAKE.DOZE) 3 = true ∧ 3 < 4 ∧ s.flag pgPWR PWR_WAKE.HOLD_PFAIL = true ∧
      s.flag pgPWR PWR_WAKE.HOLD_VIN = true ∧ s.get pgPWR PWR_HOLD_VIN < 10 ∧ 9 ≤ s.get pgPWR PWR_HOLD_VIN) ∧
    (bit (up.get pgPWR PWR_WAKE.DOZE) 3 = false ∨ up.power ≠ powerDOZE) := by decide +kernel

/-- A counted supply beside VDD_AON that is valid, that is the last to come, and that is not; the die's temperatures. -/
theorem wit_PowerStatesFollow_supplies :
    (bit (validSupplies up.variant) 0 = true ∧ 0 < 11 ∧ (0 : Nat) ≠ 2 ∧ up.unpowered = false ∧ 11 ≤ 11) ∧
    (let s := up.setMaskBit pgPWR PWR_SUPPLY.VALID 0 false
     s.maskBit pgPWR PWR_SUPPLY.VALID 0 = false ∧ (s.setMaskBit pgPWR PWR_SUPPLY.VALID 0 true).suppliesOk = true ∧
      ((up.set pgPWR PWR_SUPPLY.VALID 4).setMaskBit pgPWR PWR_SUPPLY.VALID 0 true).suppliesOk = false ∧ s.leaveHold = none ∧
      ({ s with leaveHold := some 1 } : State).leaveHold = some 1 ∧ s.power ≠ powerHOLD ∧
      ({ s with unpowered := true } : State).unpowered = true) ∧
    (let s := up.set pgPWR PWR_TEMP_WARN 1200
     (1040 : Int) ≤ s.get pgPWR PWR_TEMP_WARN ∧ (1041 : Int) ≤ s.get pgPWR PWR_TEMP_WARN ∧ (aget s.tempRun 0).getD 0 < 10 ∧
      (aget ({ s with tempRun := [(0, 10)] } : State).tempRun 0).getD 0 = 10) := by decide +kernel

/-- A plan of rails 14 and 15 at the last step; its phases. -/
def planned (use : Nat) (ph : SeqPhase) : State :=
  let s := [14, 15].foldl (fun (s : State) r => ((s.set pgSEQ SEQ_RAIL.IN_PLAN 1 r).set pgSEQ SEQ_RAIL.STEP 15 r).set pgSEQ
    SEQ_RAIL.PG_USE use r) (on [pgSEQ])
  { s with seqPhase := ph }

theorem wit_RailsAndCoreVoltageStep :
    (let s := planned 1 .idle
     s.opensF .host pgSEQ SEQ_CTRL.START = true ∧ s.seqHw = true ∧ s.accepts pgSEQ = true ∧
      s.flag pgSEQ SEQ_STATUS.RUNNING = false ∧ s.flag pgSEQ SEQ_STATUS.DONE = false ∧ s.flag pgSEQ SEQ_STATUS.FAILED = false ∧
      s.stepRails 15 ≠ [] ∧ (∀ j ∈ List.range 15, s.stepRails j = []) ∧ (∀ j ∈ List.range 16, up.stepRails j = []) ∧
      (s.set pgSEQ PG_MODE.FUNC 1).seqHw = false ∧ s.opensF .host pgSEQ SEQ_CTRL.OFF = true ∧
      s.opensF .host pgSEQ SEQ_CTRL.HOST_PULSE = true ∧ s.opensF .host pgSEQ SEQ_MANUAL.RAILS = true ∧
      s.flag pgSEQ PG_CTRL.EN = true) ∧
    (∀ use ∈ [0, 1], let s := planned use (.delay 15)
      s.seqPhase = .delay 15 ∧ ((s.stepRails 15).filter fun n => s.get pgSEQ SEQ_RAIL.PG_USE n == 1 && !s.maskBit pgSEQ SEQ_PG n) =
        if use = 0 then [] else [14, 15]) ∧
    (planned 1 (.waitPg 15 [14, 15])).seqPhase = .waitPg 15 [14, 15] ∧ (planned 1 (.failOff 15)).seqPhase = .failOff 15 ∧ 15 < 16 ∧
    (let s := ((planned 1 .idle).setMaskBit pgSEQ SEQ_PG 15 true).set pgSEQ SEQ_STATUS.ENABLED 0x8000
     s.maskBit pgSEQ SEQ_PG 15 = true ∧ s.maskBit pgSEQ SEQ_STATUS.ENABLED 15 = true ∧ s.topRails = some (15, [15]) ∧
      ({ s with hostDelay := true } : State).hostDelay = true) := by decide +kernel

/-- VDD_CORE below its target and at it; a target within the limit and above it; a reading off by 26 mV. -/
theorem wit_RailsAndCoreVoltageStep_core :
    (let s : State := { ((((on [pgPMB]).set pgPMB PWR_PMB_CFG.EN 1).set pgPMB PWR_VCORE_STEP 800).set pgPMB PWR_VCORE_LIMIT 900).set
        pgPMB PWR_VCORE_READ.VOUT 826 with vcoreGoal := 850 }
     s.vcoreRuns = true ∧ s.vcoreNow ≠ s.vcoreTo ∧ ({ s with vcoreGoal := 800 } : State).vcoreTo = s.vcoreNow ∧
      s.opensF .host pgPMB PWR_VCORE_TARGET = true ∧ s.pmbHeld = false ∧ s.get pgPMB PWR_VCORE_LIMIT < 901 % 2 ^ 16 ∧
      s.flag pgPMB PWR_PMB_CFG.EN = true ∧ s.voutOff = true ∧ (s.set pgPMB PWR_VCORE_READ.VOUT 825).voutOff = false ∧
      s.unpowered = false) ∧ 2 < 3 ∧ 2 ^ 16 - 1 < 2 ^ 16 ∧ up.flag pgPMB PWR_PMB_CFG.EN = false := by decide +kernel


-- Well-formedness ------------------------------------------------------------------------------------------------------

/-- Signals of an idle array, as an operand. -/
def sig : Signals := ⟨[], [], []⟩
/-- A measurement of one code, as an operand. -/
def meas : CalMeas := ⟨0, 0, 0, 0, 0, 0, 0⟩

/-- Every command of a list is ill formed. -/
def illFormed (l : List Instr) : Bool := l.all fun c => !c.wf

/-- Commands with one operand out of its range, part 1. -/
theorem test_ill_formed_1 : illFormed [
    .registerWrite (.stream 16) 0 0, .registerWrite .host 0x40_0000 0, .lowWordRead (.stream 16) 0,
    .lowWordRead .host 0x40_0000, .lowWordWrite (.stream 16) 0 0, .lowWordWrite .host 0x40_0000 0,
    .highWordWrite (.stream 16) 0 0, .highWordWrite .host 0x40_0000 0, .absentWrite (.stream 16) false 0 0,
    .absentWrite .host false 0x40_0000 0, .absentWrite .host true 0x400_0000 0, .badAccess (.stream 16) 0 false,
    .badAccess .host 0x40_0000 false, .offWrite (.stream 16) 0 0, .offWrite .host 0x40_0000 0,
    .roWrite (.stream 16) 0 [], .roWrite .host 0x400_0000 [], .unreachable .spi (2 ^ 24) false,
    .bar2MemoryAccess (.stream 16) 0 false 0 [], .bar2MemoryAccess .host 0x400_0000 false 0 [],
    .pwrReq (.stream 16) 0 false, .pwrReq .host 0xC0 false, .pgCtrlEn (.stream 16) 0 false, .pgCtrlEn .host 0xC0 false,
    .quiesce (.stream 16) 0 false, .quiesce .host 0xC0 false, .blkReset (.stream 16) 0, .blkReset .host 0xC0,
    .pgModeWrite (.stream 16) 0 0, .pgModeWrite .host 0xC0 0, .pgStatusClear (.stream 16) 0 0,
    .pgStatusClear .host 0xC0 0, .pgFaultClear (.stream 16) 0 0, .pgFaultClear .host 0xC0 0, .countClr (.stream 16) 0,
    .countClr .host 0xC0, .feRearm (.stream 16) 0, .feRearm .host 0xC0, .pgLock (.stream 16) 0 0, .pgLock .host 0xC0 0,
    .pgInject (.stream 16) 0 0, .pgInject .host 0xC0 0, .clrAbsent (.stream 16), .linkUp 0, .linkUp 5] = true := by decide +kernel

/-- Commands with one operand out of its range, part 2. -/
theorem test_ill_formed_2 : illFormed [
    .mgmtSpiRead (2 ^ 24) 0, .mgmtSpiWrite (2 ^ 24) 0 0, .mgmtI2cWrite (2 ^ 24) 0 0, .mgmtI2cRead (2 ^ 24),
    .recoveryClassTransfer (.read (2 ^ 24) 0), .recoveryClassTransfer (.write (2 ^ 24) 0 0), .timebaseLock 4,
    .refValid 4, .relock (.stream 16), .paceLowRun 65, .pwrVcoreTarget (.stream 16) 0, .tbSlewAmount (.stream 16) 0,
    .tbSlewRate (.stream 16) 0, .timeSet (.stream 16) 0, .timerEvent 32, .timerPulseFall 32,
    .timerStart (.stream 16) 0, .timerStart .host 32, .absoluteStart 32, .fabricStartLine 32,
    .timerEnable (.stream 16) 0, .timerEnable .host 32, .timerStop (.stream 16) 0, .timerStop .host 32,
    .tmStartTimeWrite (.stream 16) 0 0, .tmStartTimeWrite .host 32 0, .faultDetected 0xC0 0 0 0 0 false,
    .faultDetected 0 8 0 0 0 false, .faultDetected 0 0 0 8 0 false, .faultDetected 0 0 0 0 0x60 false,
    .faultRegisterParityCheck 0xC0 0 false, .faultRegisterParityCheck 0 0x40 false, .keyedChipReset (.stream 16),
    .keyedSafe (.stream 16), .keyedSurrender (.stream 16), .injectFreg (.stream 16) 0, .injectFreg .host 0xC0,
    .tndTrapClear (.stream 16), .captureEvent 32 0 0 0, .captureEvent 0 512 0 0, .carryChainCapture 32 0 [],
    .carryChainCapture 0 512 [], .wordTileInstruction 32 0, .wordTileInstruction 0 64, .longLineTransfer 32 0 0] = true := by decide +kernel

/-- Commands with one operand out of its range, part 3. -/
theorem test_ill_formed_3 : illFormed [
    .longLineTransfer 0 64 0, .longLineTransfer 0 0 128, .longLineClash 32 0, .longLineClash 0 64,
    .longLineNullRelease 32 0, .longLineNullRelease 0 64, .memoryAccess 32 0 false [], .memoryAccess 0 24 false [],
    .memoryScrub 32 [], .cntClr (.stream 16) 0, .cntClr .host 32, .loadStart (.stream 16) 0, .abort (.stream 16),
    .xframeDone (.stream 16), .shadowResync (.stream 16), .bootUpdate (.stream 16), .firmwareUpdate (.stream 16),
    .programSlotHash (.stream 16) 0 0, .programSlotHash .host 4 0, .revokeSlot (.stream 16) 0 0, .revokeSlot .host 4 0,
    .programSheetKey (.stream 16) 0, .blowSignFuse (.stream 16) 0, .readSlotHash (.stream 16) 0 0,
    .readSlotHash .host 4 0, .couchRequest (.stream 16) 0 false, .passNow (.stream 16),
    .calenderRead false 2 0 0 false, .calenderRead false 0 0x1_0000 0 false, .calenderRead false 0 0 3 false,
    .repairDone [] 8, .loopMonitorTick 8 [] 0 0, .shuntTrip 128, .voutTrip 128, .asPinRestore (.stream 16) 0 0,
    .asPinRestore .host 8 0, .asGainOvr (.stream 16) 0 0 0, .asGainOvr .host 8 0 0, .asGainOvr .host 0 8 0,
    .muteEnd 8 .cell 0, .muteEnd 0 .cell 32, .roundStart 4, .slotConversion 4 sig 0, .resultOut 4,
    .scanStart (.stream 16) 0] = true := by decide +kernel

/-- Commands with one operand out of its range, part 4. -/
theorem test_ill_formed_4 : illFormed [
    .scanStart .host 4, .scanTrigger 4, .injectedRequest 4 0, .injectedRequest 0 4, .cvInjSw (.stream 16) 0 0,
    .cvInjSw .host 4 0, .cvInjSw .host 0 32, .bgCalInterval 4, .bgCalDone 4 meas, .bgEn (.stream 16) 0 false,
    .bgEn .host 4 false, .fgStart (.stream 16) 0, .fgStart .host 4, .fgCalDone 4 0 [], .cvCalCommit (.stream 16) 0 0,
    .cvCalCommit .host 4 0, .cvCalCommit .host 0 16, .cvCorrApply (.stream 16) 0, .cvCorrApply .host 4,
    .diagGo (.stream 16) 0 0 0 0, .diagGo .host 4 0 0 0, .diagGo .host 0 32 0 0, .diagGo .host 0 0 2 0,
    .diagGo .host 0 0 0 4096, .diagDone 4, .filterInput 64, .chainChange (.stream 16) 0 0 0, .chainChange .host 64 0 0,
    .chainChange .host 0 3 0, .comparatorTick 128 sig 0, .cpCfgWrite (.stream 16) 0 false 0,
    .cpCfgWrite .host 128 false 0, .loadStrobe 8, .lsFire (.stream 16) 0, .lsFire .host 256,
    .daCfgWrite (.stream 16) 0 0, .daCfgWrite .host 64 0, .spanDisconnect 64, .spanSwitch 64, .unpublish 64,
    .daTrip 64, .comply 64, .daRestore (.stream 16) 0 0, .daRestore .host 4 0, .daRestore .host 0 0x1_0000] = true := by decide +kernel

/-- Commands with one operand out of its range, part 5. -/
theorem test_ill_formed_5 : illFormed [
    .hwSourceEvent 0x100, .fabricSubmission 256, .sqFetch 14 (List.replicate 32 0), .sqFetch 0 [],
    .sqTailWrite (.stream 16) 0 0, .sqTailWrite .host 14 0, .dispatch 64, .affWaitExpiry (2 ^ 24), .taskAccept 256,
    .fabricCompletion 256, .schHqDone (.stream 16) 0 0, .schHqDone .host 14 0, .release 4096,
    .schCancel (.stream 16) 0, .cancelNotice 14, .haDecide (.stream 16) 0, .cqHeadWrite (.stream 16) 0 0,
    .cqHeadWrite .host 14 0, .brokeTailWrite (.stream 16) 0, .flowTableWrite (.stream 16) 0 0,
    .flowTableWrite .host 4096 0, .schCtrlMode (.stream 16) 0, .managementProcessorCompletion (2 ^ 24) 0,
    .streamItem 256 [] 0 false, .flushTimeout 64, .flushNow (.stream 16) 0, .flushNow .host 64, .blockCommit 64,
    .rpWrite (.stream 16) 0 0, .rpWrite .host 64 0, .ringEnable (.stream 16) 0 false, .ringEnable .host 64 false,
    .taskEntry 16 none, .streamDmaError 64, .mountDone 1 0 0 0 false false false, .mountDone 5 0 0 0 false false false,
    .format (.stream 16) 0, .libWrite (.stream 16) 0 none, .libWrite .host 64 none, .libErase (.stream 16) 0,
    .libErase .host 64, .setStartup (.stream 16) 0, .setStartup .host 64, .refreshSweepNow (.stream 16),
    .rsHaAns (.stream 16) 0] = true := by decide +kernel

/-- Commands with one operand out of its range, part 6. -/
theorem test_ill_formed_6 : illFormed [
    .rawReadPage (.stream 16) 0 [], .rawProgramPage (.stream 16) 0 [], .rawEraseBlock (.stream 16) 0,
    .openTxn (.stream 16), .append (.stream 16) none, .commit (.stream 16) 0 false false, .abandon (.stream 16),
    .getKey (.stream 16) false, .captureEnable (.stream 16) 0 false, .captureEnable .host 16 false,
    .captureTrigger (.stream 16) 0 false, .captureTrigger .host 16 false, .rearm (.stream 16) 0, .rearm .host 16,
    .capRd (.stream 16), .pressTrig (.stream 16), .save (.stream 16), .readSfdp (2 ^ 24) 0,
    .writeVolatileConfiguration (2 ^ 32) 0, .read (2 ^ 32) 0, .fastRead (2 ^ 32) 0, .octalDdrRead (2 ^ 32) 0,
    .pageProgram (2 ^ 32) [], .erase4k (2 ^ 32), .erase64k (2 ^ 32), .bootOk (.stream 16), .bfeCommit (.stream 16),
    .bfeDiscard (.stream 16), .bfeUpd (.stream 16) none, .twinFrame 16 0 none, .linkTrained (2 ^ 64),
    .twinPeerChange 3, .synced 1 0 [], .synced 5 0 [], .enum (.stream 16), .spanPacket (.lane 4) false 0 [],
    .spanPacket (.port 256) false 0 [], .spanPacket (.lane 0) false (2 ^ 14) [], .strobeTx (.stream 16) 0,
    .strobePacket 4 0 0, .strobePacket 0 8 0, .systemStrobe 8, .laneDown 4, .spanLaneUp 4,
    .gbOutWrite (.stream 16) 0 0] = true := by decide +kernel

/-- Commands with one operand out of its range, part 7. -/
theorem test_ill_formed_7 : illFormed [
    .gbOutWrite .host 8 0, .gbDirWrite (.stream 16) 0 0, .gbDirWrite .host 8 0, .gbCfgWrite (.stream 16) 0 0,
    .gbCfgWrite .host 256 0, .gbPadlock (.stream 16) 0 0, .gbPadlock .host 8 0, .edge 256 false, .vioLow 8, .vioOk 8,
    .quadLoopLock 8, .loopLoss 8, .sqCfgWrite (.stream 16) 0 0, .sqCfgWrite .host 8 0, .laneTransmit 8 0,
    .laneTransmit 0 4, .laneReceive 8 0 false (List.replicate 5 0) 0 0,
    .laneReceive 0 4 false (List.replicate 5 0) 0 0, .laneReceive 0 0 false [] 0 0, .domainOn 64, .domainOff 64,
    .pwrRun (.stream 16), .pwrDoze (.stream 16), .pwrHold (.stream 16), .dozeWake 4, .wake (.stream 16),
    .supplyLost 11, .seqStart (.stream 16), .railPg 16, .pgTimeout 16, .pgLoss 16, .seqOff (.stream 16),
    .hostPulse (.stream 16), .seqManual (.stream 16) 0, .domainOnTimeout 64, .supplyValid 11] = true := by decide +kernel

/-- The same commands with operands in range, part 1. -/
theorem test_well_formed_1 : ([
    .registerWrite .host 0 0, .lowWordRead .host 0, .lowWordWrite .host 0 0, .highWordWrite .host 0 0,
    .absentWrite .host false 0 0, .badAccess .host 0 false, .offWrite .host 0 0, .roWrite .host 0 [],
    .unreachable .spi 0 false, .bar2MemoryAccess .host 0 false 0 [], .pwrReq .host 0 false, .pgCtrlEn .host 0 false,
    .quiesce .host 0 false, .blkReset .host 0, .pgModeWrite .host 0 0, .pgStatusClear .host 0 0,
    .pgFaultClear .host 0 0, .countClr .host 0, .feRearm .host 0, .pgLock .host 0 0, .pgInject .host 0 0,
    .clrAbsent .host, .linkUp 1, .mgmtSpiRead 0 0, .mgmtSpiWrite 0 0 0, .mgmtI2cWrite 0 0 0, .mgmtI2cRead 0,
    .recoveryClassTransfer .status, .timebaseLock 0, .refValid 0, .relock .host, .paceLowRun 0,
    .pwrVcoreTarget .host 0, .tbSlewAmount .host 0, .tbSlewRate .host 0, .timeSet .host 0, .timerEvent 0,
    .timerPulseFall 0, .timerStart .host 0, .absoluteStart 0, .fabricStartLine 0, .timerEnable .host 0,
    .timerStop .host 0, .tmStartTimeWrite .host 0 0, .faultDetected 0 0 0 0 0 false,
    .faultRegisterParityCheck 0 0 false, .keyedChipReset .host, .keyedSafe .host, .keyedSurrender .host,
    .injectFreg .host 0, .tndTrapClear .host, .captureEvent 0 0 0 0, .carryChainCapture 0 0 []] : List Instr).all Instr.wf = true := by
  decide +kernel

/-- The same commands with operands in range, part 2. -/
theorem test_well_formed_2 : ([
    .wordTileInstruction 0 0, .longLineTransfer 0 0 0, .longLineClash 0 0, .longLineNullRelease 0 0,
    .memoryAccess 0 0 false [], .memoryScrub 0 [], .cntClr .host 0, .loadStart .host 0, .abort .host,
    .xframeDone .host, .shadowResync .host, .bootUpdate .host, .firmwareUpdate .host, .programSlotHash .host 0 0,
    .revokeSlot .host 0 0, .programSheetKey .host 0, .blowSignFuse .host 0, .readSlotHash .host 0 0,
    .couchRequest .host 0 false, .passNow .host, .calenderRead false 0 0 0 false, .repairDone [] 0,
    .loopMonitorTick 0 [] 0 0, .shuntTrip 0, .voutTrip 0, .asPinRestore .host 0 0, .asGainOvr .host 0 0 0,
    .muteEnd 0 .cell 0, .roundStart 0, .slotConversion 0 sig 0, .resultOut 0, .scanStart .host 0, .scanTrigger 0,
    .injectedRequest 0 0, .cvInjSw .host 0 0, .bgCalInterval 0, .bgCalDone 0 meas, .bgEn .host 0 false,
    .fgStart .host 0, .fgCalDone 0 0 [], .cvCalCommit .host 0 0, .cvCorrApply .host 0, .diagGo .host 0 0 0 0,
    .diagDone 0, .filterInput 0, .chainChange .host 0 0 0, .comparatorTick 0 sig 0, .cpCfgWrite .host 0 false 0,
    .loadStrobe 0, .lsFire .host 0, .daCfgWrite .host 0 0, .spanDisconnect 0, .spanSwitch 0] : List Instr).all Instr.wf = true := by
  decide +kernel

/-- The same commands with operands in range, part 3. -/
theorem test_well_formed_3 : ([
    .unpublish 0, .daTrip 0, .comply 0, .daRestore .host 0 0, .hwSourceEvent 0, .fabricSubmission 0,
    .sqFetch 0 (List.replicate 32 0), .sqTailWrite .host 0 0, .dispatch 0, .affWaitExpiry 0, .taskAccept 0,
    .fabricCompletion 0, .schHqDone .host 0 0, .release 0, .schCancel .host 0, .cancelNotice 0, .haDecide .host 0,
    .cqHeadWrite .host 0 0, .brokeTailWrite .host 0, .flowTableWrite .host 0 0, .schCtrlMode .host 0,
    .managementProcessorCompletion 0 0, .streamItem 0 [] 0 false, .flushTimeout 0, .flushNow .host 0, .blockCommit 0,
    .rpWrite .host 0 0, .ringEnable .host 0 false, .taskEntry 0 none, .streamDmaError 0,
    .mountDone 2 0 0 0 false false false, .format .host 0, .libWrite .host 0 none, .libErase .host 0,
    .setStartup .host 0, .refreshSweepNow .host, .rsHaAns .host 0, .rawReadPage .host 0 [], .rawProgramPage .host 0 [],
    .rawEraseBlock .host 0, .openTxn .host, .append .host none, .commit .host 0 false false, .abandon .host,
    .getKey .host false, .captureEnable .host 0 false, .captureTrigger .host 0 false, .rearm .host 0, .capRd .host,
    .pressTrig .host, .save .host, .readSfdp 0 0, .writeVolatileConfiguration 0 0] : List Instr).all Instr.wf = true := by
  decide +kernel

/-- The same commands with operands in range, part 4. -/
theorem test_well_formed_4 : ([
    .read 0 0, .fastRead 0 0, .octalDdrRead 0 0, .pageProgram 0 [], .erase4k 0, .erase64k 0, .bootOk .host,
    .bfeCommit .host, .bfeDiscard .host, .bfeUpd .host none, .twinFrame 0 0 none, .linkTrained 0, .twinPeerChange 0,
    .synced 2 0 [], .enum .host, .spanPacket (.lane 0) false 0 [], .strobeTx .host 0, .strobePacket 0 0 0,
    .systemStrobe 0, .laneDown 0, .spanLaneUp 0, .gbOutWrite .host 0 0, .gbDirWrite .host 0 0, .gbCfgWrite .host 0 0,
    .gbPadlock .host 0 0, .edge 0 false, .vioLow 0, .vioOk 0, .quadLoopLock 0, .loopLoss 0, .sqCfgWrite .host 0 0,
    .laneTransmit 0 0, .laneReceive 0 0 false (List.replicate 5 0) 0 0, .domainOn 0, .domainOff 0, .pwrRun .host,
    .pwrDoze .host, .pwrHold .host, .dozeWake 0, .wake .host, .supplyLost 0, .seqStart .host, .railPg 0, .pgTimeout 0,
    .pgLoss 0, .seqOff .host, .hostPulse .host, .seqManual .host 0, .domainOnTimeout 0, .supplyValid 0] : List Instr).all Instr.wf = true := by
  decide +kernel

/-- The empty memory of reset is in canonical form. -/
theorem test_reset_mem : Memory.wf State.reset.mem = true := by decide


-- Checks of single steps against worked figures ------------------------------------------------------------------------

/-- The check value of CRC-32 and of CRC-8 over the digits 1 to 9 (published with the two codes of R162 and R62). -/
theorem test_crc_check_values :
    crc32 [49, 50, 51, 52, 53, 54, 55, 56, 57] = 0xCBF43926 ∧ crc8 [49, 50, 51, 52, 53, 54, 55, 56, 57] = 0xF4 := by
  decide +kernel

/-- SHA-256 of the three letters abc (the first example of FIPS 180). -/
theorem test_sha256_abc : (sha256 [0x61, 0x62, 0x63]).map BitVec.toNat = [
    0xBA, 0x78, 0x16, 0xBF, 0x8F, 0x01, 0xCF, 0xEA, 0x41, 0x41, 0x40, 0xDE, 0x5D, 0xAE, 0x22, 0x23,
    0xB0, 0x03, 0x61, 0xA3, 0x96, 0x17, 0x7A, 0x9C, 0xB4, 0x10, 0xFF, 0x61, 0xF2, 0x00, 0x15, 0xAD] := by
  decide +kernel

/-- The timer of the worked example of 03_self_timed_operation.md, before its EN is written. -/
def exampleTimer : State :=
  let s := { on [pgTM] with ts := 150000000 }
  ((((((s.set pgTM TM_CTRL.MODE 3 5).set pgTM TM_CTRL.START_SRC 1 5).set pgTM TM_START_TIME_LO 0x0BEBC200 5).set pgTM
    TM_DELAY 1500 5).set pgTM TM_PERIOD 250000 5).set pgTM TM_WIDTH 2000 5)

/-- Its first rising edge falls at 200,001,500 ns, 1,500 ns after the start, and the next is due 250,000 ns later. -/
theorem test_timer_example :
    let s := after (.absoluteStart 5) (after (.timerEnable .host 5) exampleTimer)
    let t := after (.timerEvent 5) s
    (s.timer 5).due = some 200001500 ∧ (t.timer 5).due = some 200251500 ∧ (t.timer 5).fall = some 200003500 ∧
      t.get pgTM TM_COUNT 5 = 1 := by
  decide +kernel

/-- A period written at 200,300,000 leaves the event due at 200,501,500 where it is (R84, the same example). -/
theorem test_timer_example_period :
    let s := after (.timerEvent 5) (after (.timerEvent 5)
      (after (.absoluteStart 5) (after (.timerEnable .host 5) exampleTimer)))
    let t := after (.registerWrite .host (TM_PERIOD.addr pgTM 5) 125000) { s with ts := 200300000 }
    (t.timer 5).due = some 200501500 ∧ ((after (.timerEvent 5) t).timer 5).due = some 200626500 := by
  decide +kernel

/-- PRESS_BUDGET of the worked example of 14_ream_store_and_press.md is 51,735 microjoules, rounded down. -/
theorem test_press_budget_example :
    let s := (List.range 64).foldl (fun (s : State) c => s.set (pgDA (c / 16)) DA_CFG.EN 1 (c % 16)) State.reset
    let s := ((((s.set pgPR RS_PR_KEEP 4).set pgPR RS_PR_MARGIN 25).set pgPR RS_PR_OTHER 8000).set pgPR RS_PR_VMIN.EFF 85)
    let b := (s.set pgRS RS_GEOM.CHANNELS 4).budget 2097152
    b.1 / b.2 = 51735 := by
  decide +kernel

/-- On a GX9-M the page CV2 reads 0 at PG_CAPS (00_scope.md). -/
theorem test_gx9m_has_no_CV2 :
    let s := { up with part := { up.part with variant := .m } }
    (after (.lowWordRead .host 0x52004) s).resp = [0, 0, 0, 0] ∧
      (after (.lowWordRead .host 0x51004) s).resp ≠ [0, 0, 0, 0] := by
  decide +kernel

end Sys2Proof.Tests
end

-- Reads of 64-bit pairs (R13) ---------------------------------------------------------------------------------------

section
/-!
The read latches of R13. The pairs of a page kind lie apart: the word after a low word stands in the same page and is
the low word of no pair. So a read of the high word never loads a latch.
-/
namespace Sys2Proof.Machine

/-- The page offsets of a register of a page, one for each index. -/
def Fld.offsets (f : Fld) : List Nat :=
  if f.stride = 0 then [f.off] else (List.range f.count).map fun i => f.off + f.stride * i

/-- `Fld.index?` finds an index at the offsets of the register and nowhere else. -/
theorem Fld.index?_isSome_iff (f : Fld) (o : Nat) : (f.index? o).isSome = true ↔ o ∈ f.offsets := by
  by_cases hs : f.stride = 0
  · simp only [Fld.index?, Fld.offsets, hs, beq_self_eq_true, if_true, List.mem_singleton, beq_iff_eq]
    split_ifs <;> simp <;> omega
  · have hpos : 0 < f.stride := Nat.pos_of_ne_zero hs
    simp only [Fld.index?, Fld.offsets, beq_iff_eq, if_neg hs, List.mem_map, List.mem_range]
    split_ifs with hlt hin
    · simp only [Option.isSome_none, Bool.false_eq_true, false_iff, not_exists, not_and]
      intro i _ hi
      exact absurd (hi ▸ Nat.le_add_right f.off (f.stride * i)) (Nat.not_le.2 hlt)
    · obtain ⟨hmod, hcount⟩ := hin
      have hmul := Nat.mul_div_cancel' (Nat.dvd_of_mod_eq_zero hmod)
      exact iff_of_true rfl ⟨_, hcount, by omega⟩
    · refine iff_of_false (by simp) ?_
      rintro ⟨i, hi, rfl⟩
      exact hin (by simpa [Nat.mul_div_cancel_left i hpos] using hi)

/-- The page offsets of the low words of a page kind: the first-error time of the header (R46) and `pairLows`. -/
def pairOffsets (k : PageKind) : List Nat := 0x028 :: (pairLows k).flatMap Fld.offsets

/-- An offset is a pair's low word when its page is there and its kind has a low word at that page offset. -/
theorem State.isPairLow_iff (s : State) (off : Nat) :
    s.isPairLow off = true ↔ ∃ k, s.kind? (off / 0x1000) = some k ∧ off % 0x1000 ∈ pairOffsets k := by
  unfold State.isPairLow
  cases s.kind? (off / 0x1000) with
  | none => simp
  | some k => simp [pairOffsets, Fld.index?_isSome_iff]

/-- In every page kind a low word's high word lies in the page and is the low word of no pair. -/
theorem pairOffsets_apart (k : PageKind) :
    ∀ o ∈ pairOffsets k, o + 4 < 0x1000 ∧ o + 4 ∉ pairOffsets k := by
  cases k <;> decide +kernel

/-- The high word of a pair lies in the page of its low word. -/
theorem State.highWord_in_page {s : State} {off : Nat} (h : s.isPairLow off = true) : off % 0x1000 + 4 < 0x1000 := by
  obtain ⟨k, -, ho⟩ := (s.isPairLow_iff off).1 h
  exact (pairOffsets_apart k _ ho).1

/-- The high word of a pair is the low word of no pair. -/
theorem State.isPairLow_highWord {s : State} {off : Nat} (h : s.isPairLow off = true) :
    s.isPairLow (off + 4) = false := by
  have hin := State.highWord_in_page h
  obtain ⟨k, hk, ho⟩ := (s.isPairLow_iff off).1 h
  have hpage : (off + 4) / 0x1000 = off / 0x1000 := by omega
  have hoff : (off + 4) % 0x1000 = off % 0x1000 + 4 := by omega
  rw [Bool.eq_false_iff, ne_eq, State.isPairLow_iff, hpage, hoff, hk]
  rintro ⟨k', hk', ho'⟩
  obtain rfl := Option.some.inj hk'
  exact (pairOffsets_apart k _ ho).2 ho'

/-- Masters with different identifiers have different latches for a pair. -/
theorem pairKey_ne {m m' : Master} (off : Nat) (h : m'.id ≠ m.id) : pairKey m' off ≠ pairKey m off := by
  unfold pairKey; omega

/-- R13: the read of a low word gives it and loads the master's latch with the high word. -/
theorem State.readWord_low {s : State} {off : Nat} (m : Master) (h : s.isPairLow off = true) :
    s.readWord m off = (s.view m off, { s with latch := aput s.latch (pairKey m off) (s.view m (off + 4)) }) :=
  if_pos h

/-- R13: the read of a high word gives the master's latch, or with an empty latch the present word, and loads
nothing. -/
theorem State.readWord_high {s : State} {off : Nat} (m : Master) (h : s.isPairLow off = true) :
    s.readWord m (off + 4) = ((aget s.latch (pairKey m off)).getD (s.view m (off + 4)), s) := by
  simp [State.readWord, State.isPairLow_highWord h, h]

/-- A read that arrives, aligned (R43) and within the master's reach (R60), answers the word of `readWord`. -/
theorem State.readReg_of_reach {s : State} {m : Master} {off : Nat} (hp : s.unpowered = false)
    (hr : s.resetLow = false) (hport : m.isPort = true → off < 0x5000) (ha : off % 4 = 0) :
    s.readReg m off =
      { (s.readWord m off).2 with resp := wordBytes (s.readWord m off).1, respErr := false } := by
  have hreach : (m.isPort && decide (0x5000 ≤ off)) = false := by
    cases hm : m.isPort with
    | false => rfl
    | true => simpa using hport hm
  simp [State.readReg, hp, hr, hreach, ha]

section
variable {s : State} {m : Master} {off : Nat} (hp : s.unpowered = false) (hr : s.resetLow = false)
  (hport : m.isPort = true → off < 0x5000) (ha : off % 4 = 0) (h : s.isPairLow off = true)
include hp hr hport ha h

/-- A read of a low word in reach answers it, loads the master's latch with the high word, and changes nothing else. -/
theorem State.readReg_low :
    s.readReg m off = { s with
      latch := aput s.latch (pairKey m off) (s.view m (off + 4))
      resp := wordBytes (s.view m off)
      respErr := false } := by
  rw [State.readReg_of_reach hp hr hport ha, State.readWord_low m h]

/-- A read of the high word of a pair in reach answers the master's latch, or with an empty latch the present high word,
and changes nothing else. -/
theorem State.readReg_high :
    s.readReg m (off + 4) =
      { s with resp := wordBytes ((aget s.latch (pairKey m off)).getD (s.view m (off + 4))), respErr := false } := by
  have hin := State.highWord_in_page h
  have hport' : m.isPort = true → off + 4 < 0x5000 := fun hm => by have := hport hm; omega
  rw [State.readReg_of_reach hp hr hport' (by omega), State.readWord_high m h]

/-- With the latch of the pair loaded, a read of the high word in reach answers it and keeps it. -/
theorem State.readReg_high_of_latch {w : Word} (hw : aget s.latch (pairKey m off) = some w) :
    s.readReg m (off + 4) = { s with resp := wordBytes w, respErr := false } := by
  rw [State.readReg_high hp hr hport ha h, hw, Option.getD_some]

/-- With the latch of the pair empty, a read of the high word in reach answers the present word and loads nothing. -/
theorem State.readReg_high_of_empty (hw : aget s.latch (pairKey m off) = none) :
    s.readReg m (off + 4) = { s with resp := wordBytes (s.view m (off + 4)), respErr := false } := by
  rw [State.readReg_high hp hr hport ha h, hw, Option.getD_none]

/-- A read of a low word in reach leaves the high word in the master's latch. -/
theorem State.readReg_low_latch_self :
    aget (s.readReg m off).latch (pairKey m off) = some (s.view m (off + 4)) := by
  rw [State.readReg_low hp hr hport ha h]
  exact aget_aput_self ..

/-- A read of a low word in reach leaves the latches of the other masters for the pair. -/
theorem State.readReg_low_latch_of_ne {m' : Master} (hid : m'.id ≠ m.id) :
    aget (s.readReg m off).latch (pairKey m' off) = aget s.latch (pairKey m' off) := by
  rw [State.readReg_low hp hr hport ha h]
  exact aget_aput_of_ne _ _ (pairKey_ne off hid)

/-- A master that reads the low word and then the high word of a pair gets the two halves of one value. -/
theorem State.readReg_high_after_low :
    ((s.readReg m off).readReg m (off + 4)).resp = wordBytes (s.view m (off + 4)) := by
  have ht := State.readReg_low hp hr hport ha h
  have hp' : (s.readReg m off).unpowered = false := by rw [ht]; exact hp
  have hr' : (s.readReg m off).resetLow = false := by rw [ht]; exact hr
  have h' : (s.readReg m off).isPairLow off = true := by rw [ht]; exact h
  rw [State.readReg_high_of_latch hp' hr' hport ha h' (State.readReg_low_latch_self hp hr hport ha h)]

end

/-- LOW_WORD_READ within BAR0 is a read of the register. -/
theorem exec_lowWordRead (m : Master) {off : Nat} (s : State) (h : off < 0x40_0000) :
    exec (.lowWordRead m off) s = .next (s.readReg m off) :=
  if_neg (Nat.not_le.2 h)

/-- Settles O7: the pairs lie apart, so the low-word read alone loads the latch that the high-word read answers. -/
theorem lowWordReadLoadsLatch : Obligations.LowWordReadLoadsLatch := by
  intro m m' off w s hp hr hport ha hbar hlow
  refine ⟨⟨s.readReg m off, exec_lowWordRead m s hbar, ?_, ?_, ?_, ?_⟩, ?_, ?_⟩
  · exact State.readReg_low hp hr hport ha hlow
  · exact State.readReg_low_latch_self hp hr hport ha hlow
  · exact State.readReg_low_latch_of_ne hp hr hport ha hlow
  · exact State.readReg_high_after_low hp hr hport ha hlow
  · exact State.readReg_high_of_latch hp hr hport ha hlow
  · exact State.readReg_high_of_empty hp hr hport ha hlow

end Sys2Proof.Machine
end

-- Dropped accesses (R5, R39, R43-R45, R60) ---------------------------------------------------------------------------

section
/-!
The accesses that no location takes. Each check on the way of an access that can drop it has one lemma here: the checks
of `State.gate` and `State.readReg` for BAR0, and those of `State.bar2Gate` and `State.bar2Write` for BAR2. The checks
read nothing of the key sequences, so a write that restarts them meets the same checks.
-/
namespace Sys2Proof.Machine
open Sys2Proof F

-- What restarting the key sequences leaves ---------------------------------------------------------------------------

/-- R54: restarting a master's key sequences changes the key sequences and nothing else. -/
theorem State.restartKeys_frame (s : State) (m : Master) (off : Nat) :
    s.restartKeys m off = { s with keys := (s.restartKeys m off).keys } := by
  unfold State.restartKeys
  split
  · split <;> rfl
  · rfl

@[simp] theorem State.restartKeys_unpowered (s : State) (m : Master) (off : Nat) :
    (s.restartKeys m off).unpowered = s.unpowered := by rw [State.restartKeys_frame]

@[simp] theorem State.restartKeys_resetLow (s : State) (m : Master) (off : Nat) :
    (s.restartKeys m off).resetLow = s.resetLow := by rw [State.restartKeys_frame]

@[simp] theorem State.restartKeys_portShut (s : State) (m m' : Master) (off : Nat) :
    (s.restartKeys m off).portShut m' = s.portShut m' := by rw [State.restartKeys_frame]; rfl

@[simp] theorem State.restartKeys_absentAt (s : State) (m : Master) (off o : Nat) :
    (s.restartKeys m off).absentAt o = s.absentAt o := by rw [State.restartKeys_frame]; rfl

@[simp] theorem State.restartKeys_offAt (s : State) (m : Master) (off o : Nat) :
    (s.restartKeys m off).offAt o = s.offAt o := by rw [State.restartKeys_frame]; rfl

-- Reach and alignment ------------------------------------------------------------------------------------------------

/-- R60: an offset that a port reaches is not beyond its reach; the other masters reach every offset. -/
theorem Master.beyond_reach_eq_false {m : Master} {off : Nat} (h : m.isPort = true → off < 0x5000) :
    (m.isPort && decide (0x5000 ≤ off)) = false := by
  cases hm : m.isPort with
  | false => rfl
  | true => simpa using h hm

/-- R57: an access of a management port carries the identifier of a port's master. -/
@[simp] theorem Port.isPort_master (p : Port) : p.master.isPort = true := by cases p <;> rfl

/-- No management port is a fabric bank's DMA port, which alone can be shut (R147). -/
@[simp] theorem State.portShut_portMaster (s : State) (p : Port) : s.portShut p.master = false := by cases p <;> rfl

/-- An aligned write of a word goes the way of `State.gate`. -/
theorem State.writeReg_of_aligned (s : State) (m : Master) {off : Nat} (v : Word) (ha : off % 4 = 0) :
    s.writeReg m off v = s.gate m off fun s => s.wordWrite m off v :=
  if_neg (not_not_intro ha)

-- Where a powered device drops an access -----------------------------------------------------------------------------

section
variable {s : State} {m : Master} {off : Nat} (hp : s.unpowered = false) (hr : s.resetLow = false)
include hp hr

/-- R5, R44: a write in the master's reach that meets an absent or unmapped offset of BAR0. -/
theorem State.gate_of_absent (body : State → State) (hs : s.portShut m = false)
    (hport : m.isPort = true → off < 0x5000) (h : s.absentAt off = true) :
    s.gate m off body = (s.restartKeys m off).absentWrite := by
  simp [State.gate, hp, hr, hs, Master.beyond_reach_eq_false hport, h]

/-- R45: a write in the master's reach beyond the header of a present page whose domain is off. -/
theorem State.gate_of_off (body : State → State) (hs : s.portShut m = false)
    (hport : m.isPort = true → off < 0x5000) (hpres : s.absentAt off = false) (h : s.offAt off = true) :
    s.gate m off body = (s.restartKeys m off).setStatus pgDEV stOFF_WRITE := by
  simp [State.gate, hp, hr, hs, Master.beyond_reach_eq_false hport, hpres, h]

/-- R60: a write of a management port beyond its reach, whatever stands there. -/
theorem State.gate_of_unreachable (body : State → State) (p : Port) (h : 0x5000 ≤ off) :
    s.gate p.master off body = (s.restartKeys p.master off).setStatus pgDEV stUNREACHABLE := by
  simp [State.gate, hp, hr, h]

/-- R60: a read of a management port beyond its reach returns zero, whatever stands there. -/
theorem State.readReg_of_unreachable (p : Port) (h : 0x5000 ≤ off) :
    s.readReg p.master off = { s with resp := [0, 0, 0, 0], respErr := false }.setStatus pgDEV stUNREACHABLE := by
  simp [State.readReg, hp, hr, h]

/-- R43, R54: a write in reach that is no aligned word restarts every key sequence of its master. -/
theorem State.badAccess_write (hport : m.isPort = true → off < 0x5000) :
    s.badAccess m off true = { s with keys := adel s.keys m.id }.setStatus pgDEV stBAD_ACCESS := by
  simp [State.badAccess, hp, hr, Master.beyond_reach_eq_false hport]

/-- R43: a read in reach that is no aligned word returns zero. -/
theorem State.badAccess_read (hport : m.isPort = true → off < 0x5000) :
    s.badAccess m off false = { s with resp := [0, 0, 0, 0], respErr := false }.setStatus pgDEV stBAD_ACCESS := by
  simp [State.badAccess, hp, hr, Master.beyond_reach_eq_false hport]

/-- R38: an access of a size that BAR2 accepts, of a master that reaches BAR2, goes on to its target. -/
theorem State.bar2Gate_open {n : Nat} (body : State → State) (hs : s.portShut m = false) (hm : m.isPort = false)
    (hsize : bar2Size off n = true) : s.bar2Gate m off n body = body s := by
  simp [State.bar2Gate, hp, hr, hs, hm, hsize]

end

/-- An aligned word is an access that BAR2 accepts (R38). -/
theorem bar2Size_word {off : Nat} (ha : off % 4 = 0) : bar2Size off 4 = true := by simp [bar2Size, ha]

/-- R44: a write of an unmapped offset of BAR2, which has no key sequences. -/
theorem State.bar2Write_of_unmapped (s : State) (m : Master) {off : Nat} (data : List Byte) (h : 0x140_0000 ≤ off) :
    s.bar2Write m off data = (s.incSat pgDEV DEV_ABSENT_WRITES).setStatus pgDEV stABSENT_WRITE :=
  if_pos (by simp [State.bar2Absent, h])

/-- R39: a write of the recovery store, which is mapped on every variant and lies past the memories and buffers. -/
theorem State.bar2Write_of_recoveryStore (s : State) (m : Master) {off : Nat} (data : List Byte)
    (hlo : 0x100_0000 ≤ off) (hhi : off < 0x140_0000) :
    s.bar2Write m off data = s.setStatus pgDEV stRO_WRITE := by
  have hmem : ¬ off < 0xC0_0000 := by omega
  have hstore : ¬ off < 0xE0_0000 := by omega
  have hbuf : ¬ off < 0x100_0000 := by omega
  have hmapped : s.bar2Absent off = false := by simp [State.bar2Absent, hmem, hhi]
  simp [State.bar2Write, hmapped, hmem, hstore, hbuf, stRO_WRITE]

-- The commands within their BAR --------------------------------------------------------------------------------------

/-- ABSENT_WRITE within BAR0 is a write of the register. -/
theorem exec_absentWrite_bar0 (m : Master) {off : Nat} (v : Word) (s : State) (h : off < 0x40_0000) :
    exec (.absentWrite m false off v) s = .next (s.writeReg m off v) :=
  if_neg (Nat.not_le.2 h)

/-- ABSENT_WRITE within BAR2 is a write of a word there. -/
theorem exec_absentWrite_bar2 (m : Master) {off : Nat} (v : Word) (s : State) (h : off < 0x400_0000) :
    exec (.absentWrite m true off v) s = .next (s.bar2Gate m off 4 fun s => s.bar2Write m off (wordBytes v)) :=
  if_neg (Nat.not_le.2 h)

/-- OFF_WRITE within BAR0 is a write of the register. -/
theorem exec_offWrite (m : Master) {off : Nat} (v : Word) (s : State) (h : off < 0x40_0000) :
    exec (.offWrite m off v) s = .next (s.writeReg m off v) :=
  if_neg (Nat.not_le.2 h)

/-- RO_WRITE within BAR2 is a write there. -/
theorem exec_roWrite (m : Master) {off : Nat} (d : List Byte) (s : State) (h : off < 0x400_0000) :
    exec (.roWrite m off d) s = .next (s.bar2Gate m off d.length fun s => s.bar2Write m off d) :=
  if_neg (Nat.not_le.2 h)

/-- BAD_ACCESS within BAR0 is the access that is no aligned word. -/
theorem exec_badAccess (m : Master) {off : Nat} (wr : Bool) (s : State) (h : off < 0x40_0000) :
    exec (.badAccess m off wr) s = .next (s.badAccess m off wr) :=
  if_neg (Nat.not_le.2 h)

/-- UNREACHABLE as a write is a write of the port's master. -/
theorem exec_unreachable_write (p : Port) (off : Nat) (s : State) :
    exec (.unreachable p off true) s = .next (s.writeReg p.master off 0) := rfl

/-- UNREACHABLE as a read is a read of the port's master. -/
theorem exec_unreachable_read (p : Port) (off : Nat) (s : State) :
    exec (.unreachable p off false) s = .next (s.readReg p.master off) := rfl

/-- Settles O9: each command is an access whose way to a location ends at the check that its rule names. -/
theorem droppedAccessesAreFlagged : Obligations.DroppedAccessesAreFlagged := by
  intro m p off v d s hp hr hs
  refine ⟨?absent, ?unmapped, ?domainOff, ?recoveryStore, ?bad, ?unreachable⟩
  case absent =>
    intro ha hbar habsent hport
    rw [exec_absentWrite_bar0 m v s hbar, State.writeReg_of_aligned s m v ha,
      State.gate_of_absent hp hr _ hs hport habsent, State.absentWrite]
  case unmapped =>
    intro hlo hbar ha hm
    rw [exec_absentWrite_bar2 m v s hbar, State.bar2Gate_open hp hr _ hs hm (bar2Size_word ha),
      State.bar2Write_of_unmapped s m _ hlo]
  case domainOff =>
    intro ha hbar hpres hoff hport
    rw [exec_offWrite m v s hbar, State.writeReg_of_aligned s m v ha, State.gate_of_off hp hr _ hs hport hpres hoff]
  case recoveryStore =>
    intro hlo hhi hsize hm
    have hbar : off < 0x400_0000 := by omega
    rw [exec_roWrite m d s hbar, State.bar2Gate_open hp hr _ hs hm hsize,
      State.bar2Write_of_recoveryStore s m d hlo hhi]
  case bad =>
    intro hbar hport
    rw [exec_badAccess m true s hbar, exec_badAccess m false s hbar, State.badAccess_write hp hr hport,
      State.badAccess_read hp hr hport]
    exact ⟨rfl, rfl⟩
  case unreachable =>
    intro ha h
    rw [exec_unreachable_write, exec_unreachable_read, State.writeReg_of_aligned s p.master 0 ha,
      State.gate_of_unreachable hp hr _ p h, State.readReg_of_unreachable hp hr p h]
    exact ⟨rfl, rfl⟩

end Sys2Proof.Machine
end

-- Fine tiles (R94, R98, R101) ----------------------------------------------------------------------------------------

section
/-!
The macrocells of a fine tile and the fabric's levels. A tile's next states are a byte made of one Bool for each
macrocell, so each clause about a macrocell reads one bit of that byte. A chain in carry mode is a ripple adder: each
cell is a full adder, and the sum is an induction over the cells. What the fabric's levels can change is a relation
between states that every part of `State.flow` keeps.
-/
namespace Sys2Proof.Machine
open Sys2Proof F

-- Bits and bytes -----------------------------------------------------------------------------------------------------

/-- The model's bit of a number is the library's. -/
theorem bit_eq_testBit (w i : Nat) : bit w i = w.testBit i := by
  rw [bit, bits, Nat.testBit_eq_decide_div_mod_eq, pow_one, beq_eq_decide]

/-- The model's number of a Bool is the library's. -/
theorem b2n_eq_toNat (b : Bool) : b2n b = b.toNat := by cases b <;> rfl

/-- The byte of eight Bools is the library's number of them. -/
theorem byteOf_eq_ofBits (f : Nat → Bool) : byteOf f = Nat.ofBits fun i : Fin 8 => f i := by
  simp [byteOf, List.range_succ, Nat.ofBits_succ, b2n_eq_toNat]
  omega

/-- A byte's bit of a macrocell is the macrocell's Bool. -/
theorem bit_byteOf (f : Nat → Bool) {m : Nat} (hm : m < 8) : bit (byteOf f) m = f m := by
  rw [bit_eq_testBit, byteOf_eq_ofBits, Nat.testBit_ofBits_lt _ m hm]

/-- One bit more of a number's low bits, in the model's terms. -/
theorem mod_two_pow_succ_eq_bit (a m : Nat) : a % 2 ^ (m + 1) = a % 2 ^ m + b2n (bit a m) * 2 ^ m := by
  rw [Nat.mod_pow_succ, bit_eq_testBit, b2n_eq_toNat, Nat.toNat_testBit, Nat.mul_comm]

-- The modes of a macrocell (R94) -------------------------------------------------------------------------------------

section
variable (c : FineCfg) (xs : Nat → Nat) (q : Nat) (ci : Bool) {m : Nat} (hm : m < 8)
include hm

/-- A handshake register captures D, unless its control term clears it. -/
theorem FineCfg.bit_captured_of_hreg (h : (c.macAt m).mode = .hreg) :
    bit (c.captured xs q ci) m =
      (!(c.ctl m (signals (xs m) q)).getD false && c.d m (fun k => signals (xs k) q) ci) := by
  rw [FineCfg.captured, bit_byteOf _ hm]
  simp only [h]

/-- A toggle captures its value XOR D, unless its control term clears it. -/
theorem FineCfg.bit_captured_of_tog (h : (c.macAt m).mode = .tog) :
    bit (c.captured xs q ci) m =
      (!(c.ctl m (signals (xs m) q)).getD false && xor (bit q m) (c.d m (fun k => signals (xs k) q) ci)) := by
  rw [FineCfg.captured, bit_byteOf _ hm]
  simp only [h]

/-- A capture leaves a latch alone. -/
theorem FineCfg.bit_captured_of_latch (h : (c.macAt m).mode = .latch) : bit (c.captured xs q ci) m = bit q m := by
  rw [FineCfg.captured, bit_byteOf _ hm]
  simp only [h]

/-- A latch that is open, by its control term or for want of one, follows D. -/
theorem FineCfg.bit_latched_of_open (h : (c.macAt m).mode = .latch)
    (hopen : (c.ctl m (signals (xs m) q)).getD true = true) :
    bit (c.latched xs q ci) m = c.d m (fun k => signals (xs k) q) ci := by
  rw [FineCfg.latched, bit_byteOf _ hm]
  simp [h, hopen]

/-- A latch whose control term is 0 holds. -/
theorem FineCfg.bit_latched_of_held (h : (c.macAt m).mode = .latch)
    (hheld : (c.ctl m (signals (xs m) q)).getD true = false) : bit (c.latched xs q ci) m = bit q m := by
  rw [FineCfg.latched, bit_byteOf _ hm]
  simp [h, hheld]

/-- Only latches are transparent. -/
theorem FineCfg.bit_latched_of_not_latch (h : (c.macAt m).mode ≠ .latch) :
    bit (c.latched xs q ci) m = bit q m := by
  rw [FineCfg.latched, bit_byteOf _ hm]
  simp [h]

end

-- The carry (R101) ---------------------------------------------------------------------------------------------------

section
variable (c : FineCfg) (sg : Nat → Nat) (ci : Bool) {m : Nat}

/-- The carry out of a cell in carry mode. -/
theorem FineCfg.carryAt_succ_of_carry (h : (c.macAt m).carry = true) :
    c.carryAt sg ci (m + 1) =
      (((c.macAt m).generate && c.term (8 * m + 1) (sg m)) || (c.sum m (sg m) && c.carryAt sg ci m)) :=
  if_pos h

/-- A cell out of carry mode passes the carry. -/
theorem FineCfg.carryAt_succ_of_pass (h : (c.macAt m).carry = false) :
    c.carryAt sg ci (m + 1) = c.carryAt sg ci m :=
  if_neg (Bool.eq_false_iff.1 h)

/-- D of a cell in carry mode. -/
theorem FineCfg.d_of_carry (h : (c.macAt m).carry = true) :
    c.d m sg ci = xor (xor (c.sum m (sg m)) (c.carryAt sg ci m)) (c.macAt m).pol := by
  rw [FineCfg.d, if_pos h, Bool.xor_right_comm]

/-- A full adder: sum and carry of two bits and a carry in, with generate and propagate terms. -/
theorem b2n_fullAdder (a b k : Bool) :
    b2n (xor (xor a b) k) + 2 * b2n ((a && b) || (xor a b && k)) = b2n a + b2n b + b2n k := by
  cases a <;> cases b <;> cases k <;> rfl

/-- Macrocell `j` is set up as a full adder of the bits `j` of two numbers. -/
def FineCfg.AddsAt (c : FineCfg) (sg : Nat → Nat) (a b j : Nat) : Prop :=
  (c.macAt j).carry = true ∧ (c.macAt j).generate = true ∧ (c.macAt j).pol = false ∧
    c.term (8 * j + 1) (sg j) = (bit a j && bit b j) ∧ c.sum j (sg j) = xor (bit a j) (bit b j)

/-- A cell that is set up as a full adder adds its bits and the carry. -/
theorem FineCfg.AddsAt.d_add_carry {c : FineCfg} {sg : Nat → Nat} {a b j : Nat} (h : c.AddsAt sg a b j) :
    b2n (c.d j sg ci) + 2 * b2n (c.carryAt sg ci (j + 1)) =
      b2n (bit a j) + b2n (bit b j) + b2n (c.carryAt sg ci j) := by
  obtain ⟨hcarry, hgen, hpol, hterm, hsum⟩ := h
  rw [c.d_of_carry sg ci hcarry, c.carryAt_succ_of_carry sg ci hcarry, hgen, hpol, hterm, hsum, Bool.xor_false,
    Bool.true_and]
  exact b2n_fullAdder (bit a j) (bit b j) (c.carryAt sg ci j)

/-- The first `m` cells, each a full adder, give the sum of the low `m` bits. -/
theorem FineCfg.ripple_sum (a b : Nat) (m : Nat) (h : ∀ j < m, c.AddsAt sg a b j) :
    ((List.range m).map fun j => b2n (c.d j sg ci) * 2 ^ j).sum + b2n (c.carryAt sg ci m) * 2 ^ m =
      a % 2 ^ m + b % 2 ^ m + b2n ci := by
  induction m with
  | zero => simp [FineCfg.carryAt, Nat.mod_one]
  | succ m ih =>
    have hlow := ih fun j hj => h j (Nat.lt_succ_of_lt hj)
    -- The cell's equation at its weight, which the induction hypothesis continues.
    have hcell := congrArg (· * 2 ^ m) ((h m m.lt_succ_self).d_add_carry ci)
    simp only [Nat.add_mul] at hcell
    rw [List.range_succ, List.map_append, List.sum_append, List.map_singleton, List.sum_singleton,
      mod_two_pow_succ_eq_bit a, mod_two_pow_succ_eq_bit b, pow_succ]
    linarith

end

-- Inputs that move (R98) ---------------------------------------------------------------------------------------------

/-- Every macrocell sees the same at an input that does not move. -/
theorem bit_seenBy_of_still (draw x moved m k : Nat) (h : bit moved k = false) :
    bit (seenBy draw x moved m) k = bit x k := by
  rw [bit_eq_testBit] at h
  rw [bit_eq_testBit, bit_eq_testBit]
  change (x ^^^ (moved &&& _)).testBit k = x.testBit k
  rw [Nat.testBit_xor, Nat.testBit_and, h, Bool.false_and, Bool.xor_false]

-- What the levels change ---------------------------------------------------------------------------------------------

/-- From `s` to `t` nothing changes but bundles, fine tiles and the trigger events under way. -/
def LevelsOnly (s t : State) : Prop := ∃ nets fine trig, t = { s with nets := nets, fine := fine, trig := trig }

namespace LevelsOnly

theorem refl (s : State) : LevelsOnly s s := ⟨s.nets, s.fine, s.trig, rfl⟩

theorem trans {s t u : State} : LevelsOnly s t → LevelsOnly t u → LevelsOnly s u := by
  rintro ⟨_, _, _, rfl⟩ ⟨nets, fine, trig, rfl⟩
  exact ⟨nets, fine, trig, rfl⟩

/-- A fold of steps, each of which changes only what the levels do. -/
theorem foldl {α : Type} {f : State → α → State} (hf : ∀ s x, LevelsOnly s (f s x)) (l : List α) (s : State) :
    LevelsOnly s (l.foldl f s) :=
  l.foldlRecOn f (refl s) fun _ ht x _ => ht.trans (hf _ x)

/-- Both ways of a choice change only what the levels do. -/
theorem ite {s t u : State} (p : Prop) [Decidable p] (ht : LevelsOnly s t) (hu : LevelsOnly s u) :
    LevelsOnly s (if p then t else u) := by
  split
  · exact ht
  · exact hu

end LevelsOnly

theorem State.pushTrig_levelsOnly (s : State) (w : Trig) (t : Time) (k : Nat) : LevelsOnly s (s.pushTrig w t k) :=
  ⟨_, _, _, rfl⟩

theorem State.setFine_levelsOnly (s : State) (b t : Nat) (x : FineTile) : LevelsOnly s (s.setFine b t x) :=
  ⟨_, _, _, rfl⟩

theorem State.startLine_levelsOnly (s : State) (n : Nat) : LevelsOnly s (s.startLine n) :=
  .ite _ (s.pushTrig_levelsOnly ..) (.refl s)

theorem State.strobeLine_levelsOnly (s : State) (k : Nat) : LevelsOnly s (s.strobeLine k) :=
  .foldl (fun u _ => .ite _ (u.pushTrig_levelsOnly ..) (.refl u)) _ s

theorem State.triggerLine_levelsOnly (s : State) (n k : Nat) (level : Bool) :
    LevelsOnly s (s.triggerLine n k level) :=
  .trans (.ite _ (s.pushTrig_levelsOnly ..) (.refl s))
    (.foldl (fun u _ => .ite _ (u.pushTrig_levelsOnly ..) (.refl u)) _ _)

/-- A level that reaches a consumer moves a tile's input or sends a trigger event. -/
theorem State.levelTo_levelsOnly (s : State) (old v : Nat) (d : Dst) : LevelsOnly s (s.levelTo old v d) := by
  cases d with
  | x b t pin k =>
    simp only [State.levelTo]
    split
    · exact .refl s
    · exact s.setFine_levelsOnly ..
  | start n k => exact .ite _ (s.startLine_levelsOnly n) (.refl s)
  | trigger n j k => exact .ite _ (s.triggerLine_levelsOnly ..) (.refl s)
  | strobe j k => exact .ite _ (s.strobeLine_levelsOnly j) (.refl s)
  | _ => exact .refl s

theorem State.latchTile_levelsOnly (s : State) (b t : Nat) : LevelsOnly s (s.latchTile b t) := by
  unfold State.latchTile
  split
  · exact .refl s
  · exact .ite _ (s.setFine_levelsOnly ..) (.refl s)

/-- A level that follows its producer changes its bundle, and what its consumers change. -/
theorem State.levelNet_levelsOnly (s : State) (e : Nat × Net) : LevelsOnly s (s.levelNet e) :=
  .ite _ (.refl s) <| .ite _ (.refl s) <|
    .trans ⟨_, s.fine, s.trig, rfl⟩ (.foldl (fun u d => u.levelTo_levelsOnly _ _ d) e.2.dsts _)

theorem State.levelPass_levelsOnly (s : State) : LevelsOnly s s.levelPass :=
  .trans (.foldl State.levelNet_levelsOnly _ s) (.foldl (fun u _ => u.latchTile_levelsOnly ..) _ _)

/-- That the fabric follows its levels is a run of passes. -/
theorem State.flow_levelsOnly (s : State) : LevelsOnly s s.flow :=
  .foldl (fun u _ => u.levelPass_levelsOnly) _ s

/-- Settles O25: the modes bit by bit, the carry chain as a ripple adder, the inputs that do not move, and the frame of
the fabric's levels. -/
theorem fineTilesFollowTheirModes : Obligations.FineTilesFollowTheirModes := by
  refine ⟨?modes, ?adder, ?still, ?levels⟩
  case modes =>
    intro c xs q m ci hm sg
    exact ⟨c.bit_captured_of_hreg xs q ci hm, c.bit_captured_of_tog xs q ci hm, c.bit_captured_of_latch xs q ci hm,
      c.bit_latched_of_open xs q ci hm, c.bit_latched_of_held xs q ci hm, c.bit_latched_of_not_latch xs q ci hm,
      fun h => ⟨c.carryAt_succ_of_carry sg ci h, c.d_of_carry sg ci h⟩, c.carryAt_succ_of_pass sg ci⟩
  case adder =>
    intro c sg a b m ci hm hadds
    exact c.ripple_sum sg ci a b m fun j hj => hadds j (by omega)
  case still => exact bit_seenBy_of_still
  case levels => exact State.flow_levelsOnly

end Sys2Proof.Machine
end

-- What registers, comparators and time change ------------------------------------------------------------------------

section
/-!
What stays as it was, told in two ways. As the part of the state that is left: `besidesRegs` for what touches registers
and vectors only, and `besidesComparators` for all that the comparators, their reports and the time up to them can
change. And as the registers that are left: `ownRegister` names those in which a comparator presents itself, `Timeless`
those that the passing of time leaves.
-/
namespace Sys2Proof.Machine
open Sys2Proof F

-- What touches registers and vectors only ----------------------------------------------------------------------------

/-- The state without its registers and the vectors that it has sent. -/
def State.besidesRegs (s : State) : State := { s with regs := [], msix := [] }

@[simp] theorem State.setReg_besidesRegs (s : State) (o : Nat) (w : Word) :
    (s.setReg o w).besidesRegs = s.besidesRegs := rfl

@[simp] theorem State.set_besidesRegs (s : State) (pg : Nat) (f : Fld) (v i k : Nat) :
    (s.set pg f v i k).besidesRegs = s.besidesRegs := rfl

@[simp] theorem State.setCp_besidesRegs (s : State) (c : Nat) (f : Fld) (v : Nat) :
    (s.setCp c f v).besidesRegs = s.besidesRegs := rfl

@[simp] theorem State.incWrap_besidesRegs (s : State) (pg : Nat) (f : Fld) (i : Nat) :
    (s.incWrap pg f i).besidesRegs = s.besidesRegs := rfl

@[simp] theorem State.incSat_besidesRegs (s : State) (pg : Nat) (f : Fld) (i : Nat) :
    (s.incSat pg f i).besidesRegs = s.besidesRegs := rfl

@[simp] theorem State.sendVector_besidesRegs (s : State) (v : Nat) : (s.sendVector v).besidesRegs = s.besidesRegs := by
  unfold State.sendVector
  split <;> rfl

@[simp] theorem State.sendPage_besidesRegs (s : State) (pg : Nat) : (s.sendPage pg).besidesRegs = s.besidesRegs := by
  unfold State.sendPage
  split
  · rfl
  · split
    · exact s.sendVector_besidesRegs _
    · rfl

@[simp] theorem State.irqRise_besidesRegs (s : State) (pg : Nat) (t : State) :
    (s.irqRise pg t).besidesRegs = t.besidesRegs := by
  unfold State.irqRise
  split
  · exact t.sendPage_besidesRegs pg
  · rfl

@[simp] theorem State.setStatus_besidesRegs (s : State) (pg n : Nat) :
    (s.setStatus pg n).besidesRegs = s.besidesRegs := by
  simp [State.setStatus]

theorem State.writePlace_besidesRegs (s : State) (pg : Nat) (k : PageKind) (f : Fld) (i p : Nat) (v : Word) :
    (s.writePlace pg k f i p v).besidesRegs = s.besidesRegs := by
  have hlock (b : Bool) (t : State) (ht : t.besidesRegs = s.besidesRegs) :
      (if b = true then s else t).besidesRegs = s.besidesRegs := by
    cases b
    · exact ht
    · rfl
  unfold State.writePlace
  split
  · exact hlock _ _ (s.set_besidesRegs ..)
  · rfl
  · rfl

/-- A fold of steps keeps what each of them keeps. -/
theorem foldl_keeps {α β : Type} {f : State → α → State} (g : State → β) (hf : ∀ s x, g (f s x) = g s) (l : List α)
    (s : State) : g (l.foldl f s) = g s :=
  l.foldlRecOn f (motive := fun t => g t = g s) rfl fun t ht x _ => (hf t x).trans ht

@[simp] theorem State.plainWrite_besidesRegs (s : State) (off : Nat) (v : Word) :
    (s.plainWrite off v).besidesRegs = s.besidesRegs := by
  have hfields (u : State) (pg : Nat) (k : PageKind) (o : Nat) (l : List Fld) :
      (l.foldl (fun s f => s.each (List.range f.bcount) fun s p => s.writePlace pg k f ((f.index? o).getD 0) p v)
        u).besidesRegs = u.besidesRegs :=
    foldl_keeps _ (fun s f => foldl_keeps _ (fun s p => s.writePlace_besidesRegs pg k f _ p v) _ s) l u
  unfold State.plainWrite
  dsimp only
  split
  · rfl
  · split
    · exact (State.setStatus_besidesRegs ..).trans (hfields ..)
    · exact hfields ..

-- What the comparators leave -----------------------------------------------------------------------------------------

/-- The state without what the comparators, their reports and snapshots, and the time up to them can change: the
registers, the counts of time, the signals of the analogue array and the fabric, the comparators' own state, and the
events and stream items that they hand on. -/
def State.besidesComparators (s : State) : State :=
  { s.besidesRegs with
    ts := 0, clk := 0, slewLeft := 0
    nets := [], fine := [], trig := [], pinV := [], cellI := [], cellH := [], intV := []
    cpRun := [], cpNext := [], cpDue := [], cpChanged := false, cpSettle := [], compLevel := [], hwDue := []
    pressRuns := ⟨0, 0, 0, 0⟩, rings := [] }

theorem State.set_besidesComparators (s : State) (pg : Nat) (f : Fld) (v i k : Nat) :
    (s.set pg f v i k).besidesComparators = s.besidesComparators := rfl

/-- What touches registers and vectors only is among what the comparators can change. -/
theorem besidesComparators_of_besidesRegs {s t : State} (h : t.besidesRegs = s.besidesRegs) :
    t.besidesComparators = s.besidesComparators :=
  (congrArg State.besidesComparators h :)

section
variable {s t : State} (h : t.besidesComparators = s.besidesComparators)
include h

theorem mem_of_besidesComparators : t.mem = s.mem := (congrArg (fun u : State => u.mem) h :)

theorem setw_of_besidesComparators : t.setw = s.setw := (congrArg (fun u : State => u.setw) h :)

theorem tbRun_of_besidesComparators : t.tbRun = s.tbRun := (congrArg (fun u : State => u.tbRun) h :)

theorem snapLast_of_besidesComparators : t.snapLast = s.snapLast := (congrArg (fun u : State => u.snapLast) h :)

end

theorem LevelsOnly.besidesComparators {s t : State} (h : LevelsOnly s t) :
    t.besidesComparators = s.besidesComparators := by
  obtain ⟨_, _, _, rfl⟩ := h
  rfl

-- The registers that a comparator presents itself in -----------------------------------------------------------------

/-- The registers of a comparator that its ticks write: CP_STATUS, and the word of levels that it shares. -/
def ownRegister (c o : Nat) : Prop :=
  o = CP_STATUS.LEVEL.addr (cpPage c) (c % 32) ∨ o = CP_LEVEL_LO.L.addr (cpPage c) 0 ∨
    o = CP_LEVEL_HI.L.addr (cpPage c) 0

theorem State.cpPresentLevel_besidesComparators (s : State) (c l : Nat) :
    (s.cpPresentLevel c l).besidesComparators = s.besidesComparators := by
  unfold State.cpPresentLevel
  dsimp only
  split <;> rfl

theorem State.cpPresentLevel_reg (s : State) (c l : Nat) {o : Nat} (h : ¬ ownRegister c o) :
    (s.cpPresentLevel c l).reg o = s.reg o := by
  simp only [ownRegister, not_or] at h
  obtain ⟨hstatus, hlo, hhi⟩ := h
  unfold State.cpPresentLevel
  dsimp only
  split
  · exact (reg_setReg_of_ne _ _ hlo).trans (reg_setReg_of_ne _ _ hstatus)
  · exact (reg_setReg_of_ne _ _ hhi).trans (reg_setReg_of_ne _ _ hstatus)

theorem State.cpUnsettle_reg (s : State) (c : Nat) {o : Nat} (h : ¬ ownRegister c o) :
    (s.cpUnsettle c).reg o = s.reg o :=
  reg_setReg_of_ne _ _ fun e => h (.inl e)

theorem State.cpClear_besidesComparators (s : State) (c : Nat) :
    (s.cpClear c).besidesComparators = s.besidesComparators :=
  State.cpPresentLevel_besidesComparators ..

theorem State.cpClear_reg (s : State) (c : Nat) {o : Nat} (h : ¬ ownRegister c o) : (s.cpClear c).reg o = s.reg o := by
  have hne : o ≠ CP_STATUS.LEVEL.addr (cpPage c) (c % 32) := fun e => h (.inl e)
  unfold State.cpClear
  rw [State.cpPresentLevel_reg _ _ _ h, State.cpUnsettle_reg _ _ h]
  exact (reg_setReg_of_ne _ _ hne).trans ((reg_setReg_of_ne _ _ hne).trans (reg_setReg_of_ne _ _ hne))

/-- A start or stop of a comparator touches no state but the comparators'. -/
theorem State.cpSync_besidesComparators (s : State) (c : Nat) :
    (s.cpSync c).besidesComparators = s.besidesComparators := by
  unfold State.cpSync
  split
  · exact State.cpClear_besidesComparators ..
  · exact State.cpClear_besidesComparators ..
  · rfl

/-- A start or stop of a comparator leaves its configuration. -/
theorem State.cpSync_reg (s : State) (c : Nat) {o : Nat} (h : ¬ ownRegister c o) : (s.cpSync c).reg o = s.reg o := by
  unfold State.cpSync
  split
  · exact State.cpClear_reg _ _ h
  · exact State.cpClear_reg _ _ h
  · rfl

-- Time that passes ---------------------------------------------------------------------------------------------------

/-- A register that the passing of time leaves: none of the timebase's page or the MSI-X window, and none in which a
comparator presents its level. -/
structure Timeless (o : Nat) : Prop where
  below : o < msixBase
  page : o / 0x1000 ≠ pgTB
  own : ∀ c, ¬ ownRegister c o

/-- A page below the comparators' and outside the timebase's holds timeless registers only. -/
theorem timeless_of_page {o : Nat} (htb : o / 0x1000 ≠ pgTB) (h : o / 0x1000 < pgCP 0) : Timeless o := by
  refine ⟨?_, htb, fun c hc => ?_⟩
  · simp only [msixBase, pgCP] at h ⊢
    omega
  · simp only [ownRegister, Fld.addr, CP_STATUS.LEVEL, CP_LEVEL_LO.L, CP_LEVEL_HI.L, cpPage, pgCP] at h hc
    omega

/-- CP_SNAP is timeless. -/
theorem timeless_snap : Timeless (CP_SNAP.EN.addr (pgCP 0) 0) := by
  refine ⟨by decide, by decide, fun c hc => ?_⟩
  simp only [ownRegister, Fld.addr, CP_SNAP.EN, CP_STATUS.LEVEL, CP_LEVEL_LO.L, CP_LEVEL_HI.L, cpPage, pgCP] at hc
  omega

/-- From `s` to `t` no more has changed than the passing of time can change. -/
structure TimePasses (s t : State) : Prop where
  besides : t.besidesComparators = s.besidesComparators
  reg : ∀ o, Timeless o → t.reg o = s.reg o

namespace TimePasses

theorem refl (s : State) : TimePasses s s := ⟨rfl, fun _ _ => rfl⟩

theorem trans {s t u : State} (h : TimePasses s t) (k : TimePasses t u) : TimePasses s u :=
  ⟨k.besides.trans h.besides, fun o ho => (k.reg o ho).trans (h.reg o ho)⟩

/-- The domain of a page stays as it was: PWR_ON is timeless. -/
theorem pageOn {s t : State} (h : TimePasses s t) (pg : Nat) : t.pageOn pg = s.pageOn pg := by
  have hlo := h.reg (PWR_ON_LO.addr pgPWR 0) (timeless_of_page (by decide) (by decide))
  have hhi := h.reg (PWR_ON_HI.addr pgPWR 0) (timeless_of_page (by decide) (by decide))
  have hdom : t.domOn = s.domOn := by
    funext d
    simp only [State.domOn, State.maskBit, State.get, hlo, hhi]
  rw [State.pageOn, hdom, State.pageOn]

/-- CP_SNAP.EN stays as it was. -/
theorem snapEn {s t : State} (h : TimePasses s t) : t.flag (pgCP 0) CP_SNAP.EN = s.flag (pgCP 0) CP_SNAP.EN := by
  simp only [State.flag, State.get, h.reg _ timeless_snap]

end TimePasses

theorem State.integrateAll_timePasses (s : State) (e : Nat) : TimePasses s (s.integrateAll e) := by
  unfold State.integrateAll
  dsimp only
  split
  · exact .refl s
  · exact ⟨rfl, fun _ _ => rfl⟩

theorem State.presentDue_timePasses (s : State) : TimePasses s s.presentDue :=
  List.foldlRecOn (motive := fun t => TimePasses s t) _ _ ⟨rfl, fun _ _ => rfl⟩ fun t ht _ _ =>
    ht.trans ⟨t.cpPresentLevel_besidesComparators .., fun _ ho => t.cpPresentLevel_reg _ _ (ho.own _)⟩

/-- Time is counted. -/
theorem State.counts_timePasses (s : State) (ts : Time) (clk left : Nat) :
    TimePasses s { s with ts := ts, clk := clk, slewLeft := left } :=
  ⟨rfl, fun _ _ => rfl⟩

theorem State.skipEdges_timePasses (s : State) (e : Nat) : TimePasses s (s.skipEdges e) :=
  (s.integrateAll_timePasses e).trans ((State.counts_timePasses ..).trans (State.presentDue_timePasses _))

theorem State.setSlewAmount_timePasses (s : State) (v : Nat) : TimePasses s (s.set pgTB TB_SLEW_AMOUNT v) := by
  have haddr : TB_SLEW_AMOUNT.addr pgTB 0 / 0x1000 = pgTB := by simp [Fld.addr, TB_SLEW_AMOUNT, pgTB]
  exact ⟨State.set_besidesComparators .., fun o ho => reg_setReg_of_ne s _ fun e => ho.page (e ▸ haddr)⟩

/-- A hardware set of the timebase's page is in the timebase's page. -/
theorem State.setTbStatus_timePasses (s : State) (n : Nat) : TimePasses s (s.setStatus pgTB n) :=
  ⟨besidesComparators_of_besidesRegs (s.setStatus_besidesRegs pgTB n), fun o ho =>
    setStatus_reg_of_ne s pgTB n ho.below (fun e => ho.page (by simp [e, pgTB]))
      (fun e => ho.page (by simp [e, addr_setCount, pgTB]))⟩

/-- The end of a slew, and the way to its next tick. -/
theorem State.slewOn_timePasses (s : State) (a : Int) :
    TimePasses s (if a = 0 then s.setStatus pgTB stSLEW_DONE else { s with slewLeft := s.slewEdges }) := by
  split
  · exact s.setTbStatus_timePasses _
  · exact s.counts_timePasses ..

theorem State.slewEdge_timePasses (s : State) : TimePasses s s.slewEdge := by
  unfold State.slewEdge
  exact (s.integrateAll_timePasses 1).trans ((State.counts_timePasses ..).trans
    ((State.presentDue_timePasses _).trans ((State.setSlewAmount_timePasses ..).trans (State.slewOn_timePasses ..))))

theorem State.runEdges_timePasses (k : Nat) (s : State) (e : Nat) : TimePasses s (State.runEdges k s e) := by
  induction k generalizing s e with
  | zero => exact .refl s
  | succ k ih =>
    unfold State.runEdges
    split
    · exact s.skipEdges_timePasses e
    · exact (s.skipEdges_timePasses _).trans ((State.slewEdge_timePasses _).trans (ih ..))

/-- Up to a loop edge time passes. -/
theorem State.reachClk_timePasses (s : State) (k : Nat) : TimePasses s (s.reachClk k) :=
  State.runEdges_timePasses ..

end Sys2Proof.Machine
end

-- Comparator ticks (R291-R293, R295) ---------------------------------------------------------------------------------

section
/-!
A decided tick in its parts: it records the thresholds and counts itself, counts towards SETTLED, holds the new levels
back for their edges, and reports. Only the first two parts write registers, so CP_STATUS after the tick is what they
leave in it.
-/
namespace Sys2Proof.Machine
open Sys2Proof F

-- The fields of CP_STATUS --------------------------------------------------------------------------------------------

/-- A field of CP_STATUS that has been set reads its value. -/
theorem State.cp_setCp_self (s : State) (c : Nat) (f : Fld) (v : Nat) (h : f.lo + f.len ≤ 32) :
    (s.setCp c f v).cp c f = v % 2 ^ f.len :=
  get_set_self s (cpPage c) f v (c % 32) 0 h

/-- A field beside the one set reads as before. -/
theorem State.cp_setCp_beside (s : State) (c : Nat) {f g : Fld} (v : Nat) (h : f.lo + f.len ≤ 32)
    (hd : g.lo + g.len ≤ f.lo ∨ f.lo + f.len ≤ g.lo) : (s.setCp c f v).cp c g = s.cp c g :=
  get_set_beside s v h hd

/-- A hardware set of the page leaves the fields of a comparator. -/
theorem State.cp_setStatus (s : State) {c : Nat} (n : Nat) {f : Fld} (hc : c < 128) (hlo : 0x100 ≤ f.off)
    (hhi : f.off < 0x200) (hs : f.stride = 0x10) : (s.setStatus (cpPage c) n).cp c f = s.cp c f := by
  have haddr : f.addr (cpPage c) (c % 32) = cpPage c * 0x1000 + f.off + 0x10 * (c % 32) := by rw [Fld.addr, hs]
  have hpage : cpPage c < 0x64 := by
    simp only [cpPage, pgCP]
    omega
  refine setStatus_get_of_ne s _ n ?_ ?_ ?_
  · simp only [haddr, msixBase]
    omega
  · omega
  · rw [addr_setCount]
    omega

/-- A field of one bit is 0 or 1. -/
theorem State.cp_bit_lt (s : State) (c : Nat) {f : Fld} (h : f.len = 1) : s.cp c f < 2 := by
  have hlt : s.cp c f < 2 ^ f.len := Nat.mod_lt _ (by positivity)
  simpa [h] using hlt

-- The parts of a decided tick ----------------------------------------------------------------------------------------

/-- A decided tick records its thresholds and counts itself (R292). -/
def State.recordTick (s : State) (c : Nat) (lo hi : Bool) : State :=
  (((s.setCp c CP_STATUS.MUTED 0).setCp c CP_STATUS.LO_CROSSED (b2n lo)).setCp c CP_STATUS.HI_CROSSED (b2n hi)).incWrap
    (cpPage c) CP_STATUS.TICKS (c % 32)

/-- A decided tick counts towards SETTLED, which the third sets (R294). -/
def State.countSettled (s : State) (c : Nat) : State :=
  let k := (aget s.cpSettle c).getD 0
  let s := if k < 3 then { s with cpSettle := aput s.cpSettle c (k + 1) } else s
  if k == 2 then (s.setCp c CP_STATUS.SETTLED 1).setStatus (cpPage c) stCP_SETTLED else s

/-- A decided tick: it compares, records, counts, presents and reports. -/
theorem State.decideTick_eq (s : State) (c edge : Nat) (uv : Rat) :
    s.decideTick c edge uv =
      (let lim := s.cpLimits c
       let lo := decideThr (s.cp c CP_STATUS.LO_CROSSED == 1) uv lim.1 lim.2.2
       let hi := decideThr (s.cp c CP_STATUS.HI_CROSSED == 1) uv lim.2.1 lim.2.2
       let u := (s.recordTick c lo hi).countSettled c
       let now := b2n lo + 2 * b2n hi
       let was := b2n (s.cp c CP_STATUS.LO_CROSSED == 1) + 2 * b2n (s.cp c CP_STATUS.HI_CROSSED == 1)
       ((u.cpPresentAt c edge was now).cpReport c now (u.tsAt edge)).countPress c lo hi) := rfl

theorem b2n_mod_two (b : Bool) : b2n b % 2 = b2n b := by cases b <;> rfl

/-- A wrapping count fits its bits. -/
theorem wrapInc_mod (n v : Nat) : wrapInc n v % 2 ^ n = wrapInc n v := Nat.mod_mod ..

/-- The tick count is 16 bits wide. -/
theorem State.incWrap_ticks (s : State) (c : Nat) : s.incWrap (cpPage c) CP_STATUS.TICKS (c % 32) =
    s.setCp c CP_STATUS.TICKS (wrapInc 16 (s.cp c CP_STATUS.TICKS)) := by
  have hlen : CP_STATUS.TICKS.len = 16 := rfl
  rw [State.incWrap, hlen, State.setCp, State.cp]

/-- What a recorded tick shows: no mute, the state of each threshold, one more tick, the level as it was. -/
theorem State.recordTick_cp (s : State) (c : Nat) (lo hi : Bool) :
    (s.recordTick c lo hi).cp c CP_STATUS.MUTED = 0 ∧ (s.recordTick c lo hi).cp c CP_STATUS.LO_CROSSED = b2n lo ∧
      (s.recordTick c lo hi).cp c CP_STATUS.HI_CROSSED = b2n hi ∧
      (s.recordTick c lo hi).cp c CP_STATUS.LEVEL = s.cp c CP_STATUS.LEVEL ∧
      (s.recordTick c lo hi).cp c CP_STATUS.TICKS = wrapInc 16 (s.cp c CP_STATUS.TICKS) := by
  have hticks : CP_STATUS.TICKS.len = 16 := rfl
  have hone : CP_STATUS.MUTED.len = 1 ∧ CP_STATUS.LO_CROSSED.len = 1 ∧ CP_STATUS.HI_CROSSED.len = 1 := ⟨rfl, rfl, rfl⟩
  rw [State.recordTick, State.incWrap_ticks]
  simp (disch := decide) only [State.cp_setCp_self, State.cp_setCp_beside, hone, hticks, wrapInc_mod, pow_one,
    Nat.zero_mod, b2n_mod_two, and_self]

theorem State.recordTick_besidesRegs (s : State) (c : Nat) (lo hi : Bool) :
    (s.recordTick c lo hi).besidesRegs = s.besidesRegs :=
  (State.incWrap_besidesRegs ..).trans ((State.setCp_besidesRegs ..).trans
    ((State.setCp_besidesRegs ..).trans (State.setCp_besidesRegs ..)))

theorem State.settleCount_frame (s : State) (c k : Nat) :
    ∃ l, (if k < 3 then { s with cpSettle := aput s.cpSettle c (k + 1) } else s) = { s with cpSettle := l } := by
  split
  · exact ⟨_, rfl⟩
  · exact ⟨s.cpSettle, rfl⟩

/-- The count towards SETTLED leaves the other fields of CP_STATUS. -/
theorem State.countSettled_cp (s : State) {c : Nat} (hc : c < 128) {f : Fld} (hoff : f.off = 0x108)
    (hs : f.stride = 0x10) (hd : f.lo + f.len ≤ 2 ∨ 3 ≤ f.lo) : (s.countSettled c).cp c f = s.cp c f := by
  obtain ⟨l, hl⟩ := s.settleCount_frame c ((aget s.cpSettle c).getD 0)
  unfold State.countSettled
  dsimp only
  rw [hl]
  split
  · exact (State.cp_setStatus _ _ hc (by omega) (by omega) hs).trans (State.cp_setCp_beside _ c 1 (by decide) hd)
  · rfl

theorem State.countSettled_besidesRegs (s : State) (c : Nat) :
    ∃ l, (s.countSettled c).besidesRegs = ({ s with cpSettle := l } : State).besidesRegs := by
  obtain ⟨l, hl⟩ := s.settleCount_frame c ((aget s.cpSettle c).getD 0)
  refine ⟨l, ?_⟩
  unfold State.countSettled
  dsimp only
  rw [hl]
  split
  · rw [State.setStatus_besidesRegs, State.setCp_besidesRegs]
  · rfl

/-- R291, R293: the levels that a comparator is to present after a tick at `edge`. -/
theorem State.cpPresentAt_eq (s : State) (c edge old new : Nat) :
    s.cpPresentAt c edge old new = { s with cpDue := s.cpDue ++
      (if old = new then [] else if old + new = 3 ∧ (old = 0 ∨ old = 3) then [(edge + 4, (c, 1)), (edge + 6, (c, new))]
        else [(edge + 4, (c, new))]) } := by
  have hboth : ((old == 0 && new == 3) || (old == 3 && new == 0)) = true ↔ old + new = 3 ∧ (old = 0 ∨ old = 3) := by
    simp only [Bool.or_eq_true, Bool.and_eq_true, beq_iff_eq]
    omega
  unfold State.cpPresentAt
  simp only [hboth, beq_iff_eq]
  split
  · rw [List.append_nil]
  · split <;> rfl

/-- An event that is raised under a condition waits for the scheduler, or nothing changes. -/
theorem State.raiseHw_ite_frame (s : State) (p : Prop) [Decidable p] (src : Nat) (e : HwEvent) :
    ∃ due, (if p then s.raiseHw src e else s) = { s with hwDue := due } := by
  unfold State.raiseHw
  split
  · split
    · exact ⟨_, rfl⟩
    · exact ⟨s.hwDue, rfl⟩
  · exact ⟨s.hwDue, rfl⟩

/-- A report to the scheduler changes what it last heard and what it has still to take. -/
theorem State.cpReport_frame (s : State) (c l : Nat) (time : Time) :
    ∃ level due, s.cpReport c l time = { s with compLevel := level, hwDue := due } :=
  ⟨_, State.raiseHw_ite_frame { s with compLevel := if l = 0 then adel s.compLevel c else aput s.compLevel c l } _ _ _⟩

theorem State.countPress_frame (s : State) (c : Nat) (lo hi : Bool) :
    ∃ runs, s.countPress c lo hi = { s with pressRuns := runs } := by
  unfold State.countPress
  dsimp only
  split
  · exact ⟨_, rfl⟩
  · split
    · exact ⟨_, rfl⟩
    · exact ⟨s.pressRuns, rfl⟩

-- A decided tick (R291-R293) -----------------------------------------------------------------------------------------

/-- The presenting of a level, its report and the press's count write no register: they hold levels back for their
edges, and tell the scheduler and the press. -/
theorem State.present_frame (s : State) (c edge old new l : Nat) (lo hi : Bool) (time : Time) :
    ∃ level due runs, ((s.cpPresentAt c edge old new).cpReport c l time).countPress c lo hi =
      { s.cpPresentAt c edge old new with compLevel := level, hwDue := due, pressRuns := runs } := by
  obtain ⟨level, due, hreport⟩ := (s.cpPresentAt c edge old new).cpReport_frame c l time
  obtain ⟨runs, hcount⟩ := ((s.cpPresentAt c edge old new).cpReport c l time).countPress_frame c lo hi
  exact ⟨level, due, runs, by rw [hcount, hreport]⟩

/-- R292: a threshold's state after a tick, from its state before as a number. -/
theorem decideThr_beq_one (crossed : Nat) (uv : Rat) (t : Int) (h : Nat) :
    decideThr (crossed == 1) uv t h =
      if crossed = 1 then !decide (uv < 20000 * (t : Rat))
      else decide (20000 * ((t + (h : Int) : Int) : Rat) < uv) := by
  simp only [decideThr, beq_iff_eq]

/-- The state of a threshold as a number. -/
theorem State.b2n_cp_beq_one (s : State) (c : Nat) {f : Fld} (h : f.len = 1) : b2n (s.cp c f == 1) = s.cp c f := by
  have hlt := s.cp_bit_lt c h
  obtain h0 | h1 : s.cp c f = 0 ∨ s.cp c f = 1 := by omega
  · rw [h0]; rfl
  · rw [h1]; rfl

section
variable (s : State) {c : Nat} (edge : Nat) (uv : Rat) {lo hi : Bool}
  (hlo : decideThr (s.cp c CP_STATUS.LO_CROSSED == 1) uv (s.cpLimits c).1 (s.cpLimits c).2.2 = lo)
  (hhi : decideThr (s.cp c CP_STATUS.HI_CROSSED == 1) uv (s.cpLimits c).2.1 (s.cpLimits c).2.2 = hi)
include hlo hhi

/-- A decided tick, up to what is reported of it: the tick recorded and counted, and the new levels on their way. -/
theorem State.decideTick_frame : ∃ level due runs, s.decideTick c edge uv =
    { ((s.recordTick c lo hi).countSettled c).cpPresentAt c edge
        (s.cp c CP_STATUS.LO_CROSSED + 2 * s.cp c CP_STATUS.HI_CROSSED) (b2n lo + 2 * b2n hi) with
      compLevel := level, hwDue := due, pressRuns := runs } := by
  rw [State.decideTick_eq]
  dsimp only
  rw [hlo, hhi, s.b2n_cp_beq_one c rfl, s.b2n_cp_beq_one c rfl]
  exact State.present_frame ..

/-- R292, R293, R295: what CP_STATUS shows after a decided tick. -/
theorem State.decideTick_cp (hc : c < 128) :
    (s.decideTick c edge uv).cp c CP_STATUS.MUTED = 0 ∧ (s.decideTick c edge uv).cp c CP_STATUS.LO_CROSSED = b2n lo ∧
      (s.decideTick c edge uv).cp c CP_STATUS.HI_CROSSED = b2n hi ∧
      (s.decideTick c edge uv).cp c CP_STATUS.LEVEL = s.cp c CP_STATUS.LEVEL ∧
      (s.decideTick c edge uv).cp c CP_STATUS.TICKS = wrapInc 16 (s.cp c CP_STATUS.TICKS) := by
  obtain ⟨_, _, _, ht⟩ := s.decideTick_frame edge uv hlo hhi
  have hcp {f : Fld} (hoff : f.off = 0x108) (hs : f.stride = 0x10) (hd : f.lo + f.len ≤ 2 ∨ 3 ≤ f.lo) :
      (s.decideTick c edge uv).cp c f = (s.recordTick c lo hi).cp c f := by
    refine Eq.trans ?_ ((s.recordTick c lo hi).countSettled_cp hc hoff hs hd)
    rw [ht, State.cpPresentAt_eq]
    rfl
  simpa (disch := decide) only [hcp] using s.recordTick_cp c lo hi

/-- A decided tick presents its level 4 ns later, through inside where both bits change. -/
theorem State.decideTick_cpDue : (s.decideTick c edge uv).cpDue = s.cpDue ++
    (let was := s.cp c CP_STATUS.LO_CROSSED + 2 * s.cp c CP_STATUS.HI_CROSSED
     let now := b2n lo + 2 * b2n hi
     if was = now then [] else if was + now = 3 ∧ (was = 0 ∨ was = 3) then [(edge + 4, (c, 1)), (edge + 6, (c, now))]
       else [(edge + 4, (c, now))]) := by
  obtain ⟨_, _, _, ht⟩ := s.decideTick_frame edge uv hlo hhi
  obtain ⟨l, hcount⟩ := (s.recordTick c lo hi).countSettled_besidesRegs c
  have hdue : ((s.recordTick c lo hi).countSettled c).cpDue = s.cpDue :=
    (congrArg (fun u : State => u.cpDue) hcount :)
  rw [ht, State.cpPresentAt_eq, hdue]

end

theorem State.present_besidesComparators (s : State) (c edge old new l : Nat) (lo hi : Bool) (time : Time) :
    (((s.cpPresentAt c edge old new).cpReport c l time).countPress c lo hi).besidesComparators =
      s.besidesComparators := by
  obtain ⟨_, _, _, h⟩ := s.present_frame c edge old new l lo hi time
  rw [h, State.cpPresentAt_eq]
  rfl

theorem State.countSettled_besidesComparators (s : State) (c : Nat) :
    (s.countSettled c).besidesComparators = s.besidesComparators := by
  obtain ⟨_, h⟩ := s.countSettled_besidesRegs c
  exact (besidesComparators_of_besidesRegs h :)

/-- A decided tick touches no state but the comparators' and what they report to. -/
theorem State.decideTick_besidesComparators (s : State) (c edge : Nat) (uv : Rat) :
    (s.decideTick c edge uv).besidesComparators = s.besidesComparators := by
  rw [State.decideTick_eq]
  exact (State.present_besidesComparators ..).trans ((State.countSettled_besidesComparators ..).trans
    (besidesComparators_of_besidesRegs (State.recordTick_besidesRegs ..)))

-- COMPARATOR_TICK ----------------------------------------------------------------------------------------------------

/-- The state in which the tick of a comparator at edge `k` falls: the fabric's levels have settled, the field gives
what it gives, and the tick after it is set (R291, R294). -/
def State.atTick (s : State) (c k : Nat) (f : Signals) : State :=
  let y := (s.reachClk k).flow.setField f
  { y with cpNext := aput y.cpNext c (y.cpAfter c k) }

theorem State.atTick_besidesComparators (s : State) (c k : Nat) (f : Signals) :
    (s.atTick c k f).besidesComparators = s.besidesComparators := by
  have hset (u : State) (next : List (Nat × Nat)) :
      ({ u.setField f with cpNext := next } : State).besidesComparators = u.besidesComparators := rfl
  exact (hset ..).trans ((s.reachClk k).flow_levelsOnly.besidesComparators.trans (s.reachClk_timePasses k).besides)

/-- COMPARATOR_TICK of a comparator that runs falls at its next instant, and is skipped or decided. -/
theorem exec_comparatorTick {s : State} {c : Nat} (f : Signals) (err : Int) (hrun : c ∈ s.cpRun)
    (htb : s.tbRun = true) :
    exec (.comparatorTick c f err) s =
      (let k := (aget s.cpNext c).getD (s.cpAfter c s.clk)
       let x := s.atTick c k f
       if x.tickSkipped c then .next (x.setCp c CP_STATUS.MUTED 1)
       else .next (x.decideTick c k (x.cpInput c + (err : Rat)))) := by
  have hgo : ¬ (!s.cpRun.contains c || !s.tbRun) = true := by simp [hrun, htb]
  exact if_neg hgo

end Sys2Proof.Machine
end

-- Comparator configuration and snapshots (R292, R294, R297) ----------------------------------------------------------

section
/-!
The writes of CP_CFG and CP_THR, which start and stop comparators but store what a plain write stores, and the
snapshots, whose records change the ring that takes them and the count of losses.
-/
namespace Sys2Proof.Machine
open Sys2Proof F

-- CP_CFG_WRITE (R292, R294) ------------------------------------------------------------------------------------------

/-- R292: CP_THR with the thresholds in the wrong order, not locked, is refused. -/
theorem State.cpWrite_refused {s : State} {c : Nat} {v : Word} (hl : s.locked (cpPage c) 8 = false)
    (h : sext 10 (bits v.toNat 16 10) < sext 10 (bits v.toNat 0 10)) :
    s.cpWrite c true v = s.setStatus (cpPage c) stCP_REJECT := by
  simp [State.cpWrite, hl, h]

/-- CP_CFG and CP_THR are none of the registers that the comparator's ticks write. -/
theorem not_ownRegister_config (c : Nat) (thr : Bool) :
    ¬ ownRegister c (CP_CFG.EN.addr (cpPage c) (c % 32) + 4 * b2n thr) := by
  have hthr : b2n thr < 2 := by cases thr <;> decide
  simp only [ownRegister, Fld.addr, CP_CFG.EN, CP_STATUS.LEVEL, CP_LEVEL_LO.L, CP_LEVEL_HI.L]
  omega

/-- A write of CP_CFG or CP_THR that is not refused stores what a plain write stores, and touches no memory. -/
theorem State.cpWrite_taken (s : State) {c : Nat} {thr : Bool} {v : Word}
    (h : thr = false ∨ s.locked (cpPage c) 8 = true ∨ sext 10 (bits v.toNat 0 10) ≤ sext 10 (bits v.toNat 16 10)) :
    let off := CP_CFG.EN.addr (cpPage c) (c % 32) + 4 * b2n thr
    (s.cpWrite c thr v).reg off = (s.plainWrite off v).reg off ∧
      (s.cpWrite c thr v).besidesComparators = s.besidesComparators := by
  intro off
  have hown : ¬ ownRegister c off := not_ownRegister_config c thr
  have hplain : (s.plainWrite off v).besidesComparators = s.besidesComparators :=
    besidesComparators_of_besidesRegs (s.plainWrite_besidesRegs off v)
  have htaken : ¬ (thr && !s.locked (cpPage c) 8 &&
      decide (sext 10 (bits v.toNat 16 10) < sext 10 (bits v.toNat 0 10))) = true := by
    simp only [Bool.and_eq_true, Bool.not_eq_true', decide_eq_true_eq]
    rintro ⟨⟨hthr, hl⟩, hlt⟩
    obtain h | h | h := h
    · exact absurd hthr (by simp [h])
    · exact absurd hl (by simp [h])
    · omega
  rw [State.cpWrite, if_neg htaken]
  dsimp only
  rw [State.cpSync_reg _ _ hown, State.cpSync_besidesComparators]
  split
  · exact ⟨State.cpUnsettle_reg _ c hown, hplain⟩
  · exact ⟨rfl, hplain⟩

/-- CP_CFG_WRITE that reaches its register. -/
theorem exec_cpCfgWrite {s : State} {m : Master} {c : Nat} (thr : Bool) (v : Word) (hc : c < 128)
    (h : s.opens m (CP_CFG.EN.addr (cpPage c) (c % 32) + 4 * b2n thr) = true) :
    exec (.cpCfgWrite m c thr v) s =
      .next ((s.restartKeys m (CP_CFG.EN.addr (cpPage c) (c % 32) + 4 * b2n thr)).cpWrite c thr v) := by
  change Host.Outcome.next (s.gate m _ _) = _
  rw [gate_open _ h, if_pos hc]

-- SNAPSHOT (R297) ----------------------------------------------------------------------------------------------------

theorem length_leBytes (n v : Nat) : (leBytes n v).length = n := by
  induction n generalizing v with
  | zero => rfl
  | succ n ih => rw [leBytes, List.length_cons, ih]

/-- A snapshot record has 40 bytes: its timestamp and eight words of sixteen levels. -/
theorem State.length_snapRecord (s : State) (time : Time) : (s.snapRecord time).length = 40 := by
  simp [State.snapRecord, length_leBytes]

theorem State.closeBlock_besidesComparators (s : State) (r : Nat) :
    (s.closeBlock r).besidesComparators = s.besidesComparators := by
  unfold State.closeBlock
  dsimp only
  split <;> rfl

theorem State.closeFull_besidesComparators (s : State) (r n : Nat) :
    (s.closeFull r n).besidesComparators = s.besidesComparators := by
  unfold State.closeFull
  split
  · exact s.closeBlock_besidesComparators r
  · rfl

theorem State.loseItem_besidesComparators (s : State) (r : Nat) :
    (s.loseItem r).besidesComparators = s.besidesComparators :=
  (besidesComparators_of_besidesRegs ((State.setStatus_besidesRegs ..).trans (State.incSat_besidesRegs ..)) :)

theorem State.placeItem_besidesComparators {s t : State} {r : Nat} {item : List Byte} {time : Time} {invalid : Bool}
    (h : s.placeItem r item time invalid = some t) : t.besidesComparators = s.besidesComparators := by
  have hclose : (if s.itemFits r item.length then s else s.closeBlock r).besidesComparators = s.besidesComparators := by
    split
    · rfl
    · exact s.closeBlock_besidesComparators r
  unfold State.placeItem at h
  dsimp only at h
  generalize (if s.itemFits r item.length then s else s.closeBlock r) = u at h hclose
  split at h
  · cases h
  · split at h
    · cases h
      exact hclose
    · split at h
      · cases h
        exact hclose
      · cases h

/-- An item that a stream takes or loses changes its ring and its registers. -/
theorem State.offerItem_besidesComparators (s : State) (src : Nat) (item : List Byte) (time : Time) (invalid : Bool) :
    (s.offerItem src item time invalid).2.besidesComparators = s.besidesComparators := by
  unfold State.offerItem
  split
  · rfl
  · split
    · next h => exact State.placeItem_besidesComparators h
    · exact (State.loseItem_besidesComparators ..).trans (State.closeFull_besidesComparators ..)

/-- R297: a tick that has its snapshot gets no other. -/
theorem State.takeSnapshot_of_taken {s : State} {edge : Nat} (h : s.snapLast = some (tickOf edge)) :
    s.takeSnapshot edge = s := by
  simp [State.takeSnapshot, h]

/-- R297: the tick of a snapshot is kept. -/
theorem State.takeSnapshot_snapLast (s : State) (edge : Nat) : (s.takeSnapshot edge).snapLast = some (tickOf edge) := by
  have hoffer (u : State) (item : List Byte) (time : Time) :
      (u.offerItem srcSnapshot item time).2.snapLast = u.snapLast :=
    snapLast_of_besidesComparators (u.offerItem_besidesComparators srcSnapshot item time false)
  have hlost (u : State) : ((u.incSat (pgCP 0) CP_SNAP_LOST).setStatus (pgCP 0) stSNAP_LOST).snapLast = u.snapLast :=
    snapLast_of_besidesComparators (besidesComparators_of_besidesRegs
      ((State.setStatus_besidesRegs ..).trans (State.incSat_besidesRegs ..)))
  by_cases h : s.snapLast = some (tickOf edge)
  · rw [State.takeSnapshot_of_taken h, h]
  · unfold State.takeSnapshot
    rw [if_neg (by simpa using h)]
    dsimp only
    split
    · rw [hlost, hoffer]
    · rw [hoffer]

/-- The consumer of a trigger event changes the events under way only. -/
theorem State.takeTrig_frame {s t : State} {p : Trig → Bool} {e : TrigAt} (h : s.takeTrig p = some (e, t)) :
    t = { s with trig := s.trig.erase e } := by
  unfold State.takeTrig at h
  obtain ⟨_, -, hx⟩ := Option.map_eq_some_iff.1 h
  cases hx
  rfl

section
variable {s : State} (hpage : s.pageOn (pgCP 0) = true) (hen : s.flag (pgCP 0) CP_SNAP.EN = true)
  (htb : s.tbRun = true)
include hpage hen htb

/-- SNAPSHOT at an event of the timer takes the snapshot of its tick. -/
theorem exec_snapshot_timer {e : TrigAt} {r : State} (h : s.takeTrig (· == .snap) = some (e, r)) :
    exec (.snapshot true) s = .next ((r.reachClk e.clk).takeSnapshot e.clk) := by
  have hon : (r.pageOn (pgCP 0) && r.flag (pgCP 0) CP_SNAP.EN && r.tbRun) = true := by
    rw [State.takeTrig_frame h]
    change (s.pageOn (pgCP 0) && s.flag (pgCP 0) CP_SNAP.EN && s.tbRun) = true
    rw [hpage, hen, htb]
    rfl
  change execSnapshot true s = _
  rw [execSnapshot, if_pos rfl, h]
  exact congrArg _ (if_pos hon)

/-- SNAPSHOT at the end of a microsecond takes one where a level has changed and CP_SNAP.ON_CHANGE asks for it. -/
theorem exec_snapshot_microsecond :
    exec (.snapshot false) s =
      (let x := s.reachClk (s.beat none 0 1000)
       .next (if x.cpChanged && x.flag (pgCP 0) CP_SNAP.ON_CHANGE then
         ({ x with cpChanged := false } : State).takeSnapshot x.clk else { x with cpChanged := false })) := by
  have htime := s.reachClk_timePasses (s.beat none 0 1000)
  have hpage' := (htime.pageOn (pgCP 0)).trans hpage
  have hen' := htime.snapEn.trans hen
  have htb' := (tbRun_of_besidesComparators htime.besides).trans htb
  change execSnapshot false s = _
  rw [execSnapshot, if_neg Bool.false_ne_true, if_neg (by simp [htb])]
  dsimp only
  generalize s.reachClk (s.beat none 0 1000) = x at *
  change Host.Outcome.next (if (x.cpChanged && (x.pageOn (pgCP 0) && x.flag (pgCP 0) CP_SNAP.EN && x.tbRun) &&
    x.flag (pgCP 0) CP_SNAP.ON_CHANGE) = true then _ else _) = _
  rw [hpage', hen', htb', Bool.and_true, Bool.and_true, Bool.and_true]

end

/-- The limits of a comparator that the press does not own (R292, R298). -/
theorem State.cpLimits_of_own {s : State} {c : Nat} (h : s.cpPress c = false) :
    s.cpLimits c = (sext 10 (s.cp c CP_THR.LO), sext 10 (s.cp c CP_THR.HI), s.cp c CP_CFG.HYST) := by
  rw [State.cpLimits, if_neg (by simp [h])]
  rfl

/-- Settles O41: a tick is skipped or decided, a write of the configuration refused or stored, and a snapshot taken
once for its tick. -/
theorem comparatorsDecide : Obligations.ComparatorsDecide := by
  intro m c edge f err thr v e s r hc
  refine ⟨State.cpLimits_of_own, ?tick, ?write, ?snapshot⟩
  case tick =>
    intro hrun htb k y x
    have hexec := exec_comparatorTick f err hrun htb
    have hx : x.besidesComparators = s.besidesComparators := s.atTick_besidesComparators c k f
    refine ⟨fun hskip => hexec.trans (if_pos hskip), ?_⟩
    intro hdecided uv lim was after lo hi now
    have hlo : decideThr (x.cp c CP_STATUS.LO_CROSSED == 1) uv lim.1 lim.2.2 = lo := decideThr_beq_one ..
    have hhi : decideThr (x.cp c CP_STATUS.HI_CROSSED == 1) uv lim.2.1 lim.2.2 = hi := decideThr_beq_one ..
    obtain ⟨hmuted, hlo', hhi', hlevel, hticks⟩ := x.decideTick_cp k uv hlo hhi hc
    have ht := (x.decideTick_besidesComparators c k uv).trans hx
    exact ⟨x.decideTick c k uv, hexec.trans (if_neg (Bool.eq_false_iff.1 hdecided)), hmuted, hlo', hhi', hlevel,
      x.decideTick_cpDue k uv hlo hhi, hticks, setw_of_besidesComparators ht, mem_of_besidesComparators ht⟩
  case write =>
    intro hopen off u
    have hexec := exec_cpCfgWrite thr v hc hopen
    have hlocked : u.locked (cpPage c) 8 = s.locked (cpPage c) 8 :=
      congrArg (bit · 8) (restartKeys_get s m off (cpPage c) PG_LOCK 0 0)
    rw [← hlocked]
    refine ⟨?_, fun htaken => ?_⟩
    · rintro rfl hl hlt
      rw [hexec]
      exact congrArg _ (State.cpWrite_refused hl hlt)
    · obtain ⟨hreg, hbesides⟩ := u.cpWrite_taken htaken
      have hmem : u.mem = s.mem := by rw [show u = _ from s.restartKeys_frame m off]
      exact ⟨_, hexec, hreg, (mem_of_besidesComparators hbesides).trans hmem⟩
  case snapshot =>
    intro hpage hen htb
    have hexec := exec_snapshot_microsecond hpage hen htb
    refine ⟨exec_snapshot_timer hpage hen htb, State.takeSnapshot_of_taken, s.takeSnapshot_snapLast edge,
      s.length_snapRecord s.ts, fun hchanged hon => ?_, fun hstill => ?_⟩
    · rw [hexec]
      exact congrArg _ (if_pos (by simp [hchanged, hon]))
    · rw [hexec]
      exact congrArg _ (if_neg (by simp [hstill]))

end Sys2Proof.Machine
end

-- Rings of streams and what leaves their registers (R365-R371) ---------------------------------------------------------

section
/-!
A ring after an update, the registers of a ring, and what leaves all registers and memories: the block in progress and the
fabric change rings, ports and bundles, and nothing that a BAR shows.
-/
namespace Sys2Proof.Machine
open Sys2Proof F

-- The ring after an update -------------------------------------------------------------------------------------------

/-- The ring that was set is the ring that is read. -/
@[simp] theorem State.ring_setRing_self (s : State) (r : Nat) (x : Ring) : (s.setRing r x).ring r = x := by
  by_cases h : x = emptyRing
  · simp [State.setRing, State.ring, h]
  · simp [State.setRing, State.ring, h]

/-- A ring with no block in progress has none to close. -/
theorem State.closeBlock_of_none {s : State} {r : Nat} (h : (s.ring r).cur = none) : s.closeBlock r = s := by
  simp [State.closeBlock, h]

/-- R367: the block in progress joins the closed ones, TORN where a further item would still have fitted. -/
theorem State.closeBlock_of_some {s : State} {r : Nat} {b : Block} (h : (s.ring r).cur = some b) :
    s.closeBlock r = s.setRing r { s.ring r with
      cur := none
      closed := (s.ring r).closed ++ [{ b with
        torn := decide (b.data.length + formatSize (s.ringFormat r) ≤ s.ringB r - 32) }] } := by
  simp [State.closeBlock, h]

/-- After the closing no block is in progress. -/
theorem State.closeBlock_cur (s : State) (r : Nat) : ((s.closeBlock r).ring r).cur = none := by
  cases h : (s.ring r).cur with
  | none => rw [State.closeBlock_of_none h, h]
  | some b => rw [State.closeBlock_of_some h, State.ring_setRing_self]

/-- R365: an item that fits joins the block in progress. -/
theorem State.placeItem_of_fits {s : State} {r : Nat} {b : Block} {item : List Byte} (time : Time) (invalid : Bool)
    (haccepts : s.ringAccepts r = true) (hcur : (s.ring r).cur = some b)
    (hfits : b.data.length + item.length ≤ s.ringB r - 32) :
    s.placeItem r item time invalid = some (s.setRing r { s.ring r with
      cur := some { b with data := b.data ++ item, count := b.count + 1, invalid := b.invalid || invalid } }) := by
  have hitem : s.itemFits r item.length = true := by simp [State.itemFits, hcur, hfits]
  simp [State.placeItem, haccepts, hitem, hcur]

-- What the BARs show -------------------------------------------------------------------------------------------------

/-- What the BARs show of a state: the registers, with the part that gives their reset words, and the memories. -/
def State.mapped (s : State) : Part × List (Nat × Word) × List (Nat × Byte) := (s.part, s.regs, s.mem)

section
variable {s t : State} (h : t.mapped = s.mapped)
include h

theorem reg_of_mapped (o : Nat) : t.reg o = s.reg o := by
  simp only [State.mapped, Prod.mk.injEq] at h
  obtain ⟨hpart, hregs, -⟩ := h
  rw [State.reg, hpart, hregs, State.reg]

theorem rget_of_mapped (r : Nat) (f : Fld) : t.rget r f = s.rget r f := by
  simp only [State.rget, State.get, reg_of_mapped h]

theorem mem_of_mapped : t.mem = s.mem := congrArg (fun x : Part × List (Nat × Word) × List (Nat × Byte) => x.2.2) h

end

theorem State.setRing_mapped (s : State) (r : Nat) (x : Ring) : (s.setRing r x).mapped = s.mapped := rfl

theorem State.closeBlock_mapped (s : State) (r : Nat) : (s.closeBlock r).mapped = s.mapped := by
  cases h : (s.ring r).cur with
  | none => rw [State.closeBlock_of_none h]
  | some b => rw [State.closeBlock_of_some h, State.setRing_mapped]

theorem State.closeFull_mapped (s : State) (r n : Nat) : (s.closeFull r n).mapped = s.mapped := by
  unfold State.closeFull
  split
  · exact s.closeBlock_mapped r
  · rfl

theorem State.placeItem_mapped {s t : State} {r : Nat} {item : List Byte} {time : Time} {invalid : Bool}
    (h : s.placeItem r item time invalid = some t) : t.mapped = s.mapped := by
  have hclose : (if s.itemFits r item.length then s else s.closeBlock r).mapped = s.mapped := by
    split
    · rfl
    · exact s.closeBlock_mapped r
  unfold State.placeItem at h
  dsimp only at h
  generalize (if s.itemFits r item.length then s else s.closeBlock r) = u at h hclose
  split at h
  · cases h
  · split at h
    · cases h
      exact hclose
    · split at h
      · cases h
        exact hclose
      · cases h

theorem State.offerPort_mapped (s : State) (b : Nat) (w : Word) : (s.offerPort b w).mapped = s.mapped := by
  unfold State.offerPort
  dsimp only
  split
  · rfl
  · split
    · next h => exact State.placeItem_mapped h
    · exact State.closeFull_mapped s _ 4

theorem State.clearJoined_mapped (s : State) (b : Nat) (l : List (Nat × FineTile)) :
    (s.clearJoined b l).mapped = s.mapped :=
  foldl_keeps State.mapped (fun s e => by split <;> rfl) l s

theorem State.lanePresent_mapped (s : State) (q l : Nat) : (s.lanePresent q l).mapped = s.mapped := by
  unfold State.lanePresent
  dsimp only
  split
  · rfl
  · split <;> rfl

theorem State.nextWord_mapped (s : State) (w : Nat) : (s.nextWord w).mapped = s.mapped := by
  unfold State.nextWord
  split <;> rfl

theorem State.emptyOut_mapped (s : State) (x : Src) : (s.emptyOut x).mapped = s.mapped := by
  unfold State.emptyOut
  split
  · rfl
  · split
    · split <;> rfl
    · dsimp only
      split
      · exact State.clearJoined_mapped ..
      · rfl
    · rfl
    · exact State.nextWord_mapped ..
    · exact State.lanePresent_mapped ..
    · rfl

theorem State.settleOnce_mapped (s : State) : s.settleOnce.mapped = s.mapped := by
  unfold State.settleOnce
  split
  · rfl
  · exact State.emptyOut_mapped ..

theorem State.settleN_mapped (k : Nat) (s : State) : (State.settleN k s).mapped = s.mapped := by
  induction k generalizing s with
  | zero => rfl
  | succ k ih => exact (ih _).trans s.settleOnce_mapped

theorem State.settle_mapped (s : State) : s.settle.mapped = s.mapped := State.settleN_mapped ..

/-- R371: a fabric stream port that is served moves words between the fabric and the rings. -/
theorem State.servePort_mapped (s : State) (r : Nat) : (s.servePort r).mapped = s.mapped := by
  unfold State.servePort
  dsimp only
  split
  · split
    · rfl
    · exact (State.settle_mapped _).trans (State.offerPort_mapped ..)
  · rfl

/-- A ring that carries no fabric stream port has no port to serve. -/
theorem State.servePort_of_src {s : State} {r : Nat} (h : s.rget r ST_RING_CFG.SRC < 0x80) : s.servePort r = s := by
  have hsrc : ¬ 0x80 ≤ s.rget r ST_RING_CFG.SRC := by omega
  simp [State.servePort, hsrc]

-- The registers of a ring (R379) -------------------------------------------------------------------------------------

/-- A field among the registers of a ring. -/
def Fld.ofRing (f : Fld) : Bool := decide (0x100 ≤ f.off) && decide (f.off < 0x140) && decide (f.stride = 0x40)

/-- The registers of the rings of an engine follow the header and the byte count in its page. -/
theorem Fld.addr_of_ofRing {f : Fld} (h : f.ofRing = true) (r : Nat) :
    ringPage r * 0x1000 + 0x100 ≤ f.addr (ringPage r) (r % 4) ∧
      f.addr (ringPage r) (r % 4) < ringPage r * 0x1000 + 0x200 := by
  simp only [Fld.ofRing, Bool.and_eq_true, decide_eq_true_eq] at h
  obtain ⟨⟨hlo, hhi⟩, hstride⟩ := h
  simp only [Fld.addr, hstride]
  omega

/-- The page of a ring is one of the pages of the stream engines (R40). -/
theorem ringPage_bounds {r : Nat} (hr : r < 64) : 0xB0 ≤ ringPage r ∧ ringPage r < 0xC0 := by
  simp only [ringPage, pgST]
  omega

/-- A register of a ring beside the one that is set. -/
theorem State.rget_set_of_off_ne (s : State) (r : Nat) {f g : Fld} (v : Nat) (hf : f.ofRing = true) (hg : g.ofRing = true)
    (h : g.off ≠ f.off) : (s.set (ringPage r) f v (r % 4)).rget r g = s.rget r g := by
  simp only [Fld.ofRing, Bool.and_eq_true, decide_eq_true_eq] at hf hg
  refine get_set_of_ne s v ?_
  simp only [Fld.addr, hf.2, hg.2]
  omega

/-- The hardware sets of the engine's status leave the registers of its rings. -/
theorem State.rget_setStatus (s : State) {r : Nat} (n : Nat) {f : Fld} (hr : r < 64) (hf : f.ofRing = true) :
    (s.setStatus (ringPage r) n).rget r f = s.rget r f := by
  have ⟨hlo, hhi⟩ := Fld.addr_of_ofRing hf r
  have ⟨_, hpage⟩ := ringPage_bounds hr
  refine setStatus_get_of_ne s _ n ?_ ?_ ?_
  · rw [msixBase]
    omega
  · omega
  · rw [addr_setCount]
    omega

/-- The restart of the key sequences touches nothing that the BARs show. -/
theorem State.met_mapped (s : State) (m : Master) (pg : Nat) (f : Fld) (i : Nat) :
    (s.met m pg f i).mapped = s.mapped := by
  rw [State.met, State.restartKeys_frame]
  rfl

end Sys2Proof.Machine
end

-- Commits of blocks (R368, R374, R377) ------------------------------------------------------------------------------

section
/-!
A commit told in its steps: the block is carried to where it goes, WP advances and is written back, and the engine counts
the bytes and reports the commit. Each step has one lemma for what it leaves of the registers and the rings.
-/
namespace Sys2Proof.Machine
open Sys2Proof F

/-- The block that WP counts as `wp`, of `bytes` bytes, is carried to the ring's destination (R368, R374, R377). -/
def State.carryBlock (s : State) (r wp bytes : Nat) (blk : List Byte) : State :=
  let place := wp % s.ringC r * bytes
  if s.rget r ST_RING_CFG.DEST == 1 then s.capWrite (s.rget r ST_RING_CFG.CAP) blk
  else if s.hostAssisted (ringPage r) then s.setBytes (0xE00000 + s.rget r ST_RING_BUF.BASE * 4096 + place) blk
  else s.toHost (s.get64 (ringPage r) ST_RING_BASE_LO (r % 4) + place) blk

/-- The write-back of WP (R368). -/
def State.writeBackWp (s : State) (r : Nat) : State :=
  let wb := s.get64 (ringPage r) ST_RING_WB_LO (r % 4)
  if s.rget r ST_RING_CFG.DEST == 0 && !s.hostAssisted (ringPage r) && wb != 0 then
    s.toHost wb (leBytes 4 (s.rget r ST_RING_WP))
  else s

/-- The engine counts the bytes of a committed block and reports its commit (R368, R379). -/
def State.reportCommit (s : State) (r bytes : Nat) : State :=
  (s.set64 (ringPage r) ST_BYTES_LO ((s.get64 (ringPage r) ST_BYTES_LO + bytes) % 2 ^ 64)).setStatus (ringPage r) (r % 4)

/-- R368: with room the oldest closed block is carried, WP advances and is written back, and the commit is reported. -/
theorem State.commitBlock_of_room {s : State} {r : Nat} {b : Block} {rest : List Block}
    (hclosed : (s.ring r).closed = b :: rest) (hroom : s.ringRoom r = true) :
    s.commitBlock r =
      (((((s.setRing r { s.ring r with closed := rest }).carryBlock r (s.rget r ST_RING_WP) (s.ringB r)
        (s.blockBytes r (s.get pgSN SN_STATUS.ADDR) b)).set (ringPage r) ST_RING_WP (s.rget r ST_RING_WP + 1)
          (r % 4)).writeBackWp r).reportCommit r (s.ringB r)).servePort r := by
  unfold State.commitBlock
  split
  · next h => exact absurd (hclosed.symm.trans h) (List.cons_ne_nil b rest)
  · next h =>
    obtain ⟨rfl, rfl⟩ := List.cons.inj (hclosed.symm.trans h)
    exact if_neg (by simp [hroom])

/-- R368: a commit waits for room. -/
theorem State.commitBlock_of_full {s : State} {r : Nat} (hroom : s.ringRoom r = false) : s.commitBlock r = s := by
  unfold State.commitBlock
  split
  · rfl
  · rw [hroom]
    rfl

theorem State.setBytes_frame (s : State) (o : Nat) (l : List Byte) :
    s.setBytes o l = { s with mem := (s.setBytes o l).mem } := by
  induction l generalizing s o with
  | nil => rfl
  | cons b l ih => exact ih (s.setByte o b) (o + 1)

theorem State.toHost_frame (s : State) (a : Nat) (l : List Byte) :
    s.toHost a l = { s with host := (s.toHost a l).host } := by
  induction l generalizing s a with
  | nil => rfl
  | cons b l ih => exact ih { s with host := aput s.host a b } (a + 1)

theorem State.setBytes_rings (s : State) (o : Nat) (l : List Byte) : (s.setBytes o l).rings = s.rings := by
  rw [State.setBytes_frame]

theorem State.setBytes_reg (s : State) (o : Nat) (l : List Byte) (p : Nat) : (s.setBytes o l).reg p = s.reg p := by
  rw [State.setBytes_frame]
  rfl

theorem State.toHost_rings (s : State) (a : Nat) (l : List Byte) : (s.toHost a l).rings = s.rings := by
  rw [State.toHost_frame]

theorem State.toHost_reg (s : State) (a : Nat) (l : List Byte) (p : Nat) : (s.toHost a l).reg p = s.reg p := by
  rw [State.toHost_frame]
  rfl

theorem rings_of_besidesRegs {s t : State} (h : t.besidesRegs = s.besidesRegs) : t.rings = s.rings :=
  (congrArg (fun u : State => u.rings) h :)

theorem State.setStatus_rings (s : State) (pg n : Nat) : (s.setStatus pg n).rings = s.rings :=
  rings_of_besidesRegs (s.setStatus_besidesRegs pg n)

/-- R402, R403: a block written to a capture stream advances its counts and joins its blocks; a triggered stream may
freeze with it. -/
theorem State.capWrite_cases (s : State) (n : Nat) (blk : List Byte) : ∃ next oldest c t,
    t = ((s.set pgCAP RS_CAP_NEXT next n).set pgCAP RS_CAP_OLDEST oldest n).setCap n c ∧
      (s.capWrite n blk = t ∨ s.capWrite n blk = t.capFreeze n) := by
  unfold State.capWrite
  dsimp only
  split
  · split
    · exact ⟨_, _, _, _, rfl, .inr rfl⟩
    · exact ⟨_, _, _, _, rfl, .inl rfl⟩
  · exact ⟨_, _, _, _, rfl, .inl rfl⟩

theorem State.setCap_rings (s : State) (n : Nat) (c : CapStream) : (s.setCap n c).rings = s.rings := rfl

theorem State.setCap_reg (s : State) (n : Nat) (c : CapStream) (o : Nat) : (s.setCap n c).reg o = s.reg o := rfl

theorem State.capFreeze_rings (s : State) (n : Nat) : (s.capFreeze n).rings = s.rings := by
  rw [State.capFreeze, State.setStatus_rings, State.set_rings]

theorem State.capWrite_rings (s : State) (n : Nat) (blk : List Byte) : (s.capWrite n blk).rings = s.rings := by
  obtain ⟨next, oldest, c, t, ht, hwrite⟩ := s.capWrite_cases n blk
  have hrings : t.rings = s.rings := by rw [ht, State.setCap_rings, State.set_rings, State.set_rings]
  rcases hwrite with hwrite | hwrite
  · rw [hwrite, hrings]
  · rw [hwrite, State.capFreeze_rings, hrings]

/-- The registers that the capture streams leave: those beyond their page and below the MSI-X window. -/
def besidesCapture (o : Nat) : Prop := (pgCAP + 1) * 0x1000 ≤ o ∧ o < msixBase

/-- The fields of a capture stream lie in the page of the capture streams (R422). -/
theorem addr_ne_of_besidesCapture {f : Fld} {n o : Nat} (hf : f.off + f.stride * n < 0x1000) (ho : besidesCapture o) :
    o ≠ f.addr pgCAP n := by
  obtain ⟨hlo, -⟩ := ho
  simp only [Fld.addr, pgCAP] at hlo ⊢
  omega

theorem State.capFreeze_reg (s : State) {n o : Nat} (hn : n < 16) (ho : besidesCapture o) :
    (s.capFreeze n).reg o = s.reg o := by
  have hstate : o ≠ RS_CAP_STATE.addr pgCAP n := addr_ne_of_besidesCapture (by simp only [RS_CAP_STATE]; omega) ho
  obtain ⟨hlo, hhi⟩ := ho
  rw [State.capFreeze, setStatus_reg_of_ne _ _ _ hhi, State.set, reg_setReg_of_ne _ _ hstate]
  · simp only [pgCAP] at hlo ⊢
    omega
  · rw [addr_setCount]
    simp only [pgCAP] at hlo ⊢
    omega

/-- R374, R403: a block written to a capture stream touches the registers of the streams only. -/
theorem State.capWrite_reg (s : State) {n o : Nat} (blk : List Byte) (hn : n < 16) (ho : besidesCapture o) :
    (s.capWrite n blk).reg o = s.reg o := by
  have hnext : o ≠ RS_CAP_NEXT.addr pgCAP n := addr_ne_of_besidesCapture (by simp only [RS_CAP_NEXT]; omega) ho
  have hold : o ≠ RS_CAP_OLDEST.addr pgCAP n := addr_ne_of_besidesCapture (by simp only [RS_CAP_OLDEST]; omega) ho
  obtain ⟨next, oldest, c, t, ht, hwrite⟩ := s.capWrite_cases n blk
  have hreg : t.reg o = s.reg o := by
    rw [ht, State.setCap_reg, State.set, reg_setReg_of_ne _ _ hold, State.set, reg_setReg_of_ne _ _ hnext]
  rcases hwrite with hwrite | hwrite
  · rw [hwrite, hreg]
  · rw [hwrite, State.capFreeze_reg t hn ho, hreg]

theorem State.carryBlock_rings (s : State) (r wp bytes : Nat) (blk : List Byte) :
    (s.carryBlock r wp bytes blk).rings = s.rings := by
  unfold State.carryBlock
  dsimp only
  split
  · exact State.capWrite_rings ..
  · split
    · exact State.setBytes_rings ..
    · exact State.toHost_rings ..

/-- The registers of a ring lie beside those of the capture streams. -/
theorem Fld.besidesCapture_of_ofRing {f : Fld} {r : Nat} (hr : r < 64) (hf : f.ofRing = true) :
    besidesCapture (f.addr (ringPage r) (r % 4)) := by
  have ⟨hlo, hhi⟩ := Fld.addr_of_ofRing hf r
  have ⟨hfirst, hlast⟩ := ringPage_bounds hr
  simp only [besidesCapture, pgCAP, msixBase]
  omega

/-- Carrying a block writes memories or a capture stream and leaves the registers of the rings. -/
theorem State.carryBlock_rget (s : State) {r : Nat} (wp bytes : Nat) (blk : List Byte) {f : Fld} (hr : r < 64)
    (hf : f.ofRing = true) : (s.carryBlock r wp bytes blk).rget r f = s.rget r f := by
  have hcap : s.rget r ST_RING_CFG.CAP < 16 := Nat.mod_lt _ (by decide)
  have hreg : (s.carryBlock r wp bytes blk).reg (f.addr (ringPage r) (r % 4)) = s.reg (f.addr (ringPage r) (r % 4)) := by
    unfold State.carryBlock
    dsimp only
    split
    · exact s.capWrite_reg blk hcap (Fld.besidesCapture_of_ofRing hr hf)
    · split
      · exact State.setBytes_reg ..
      · exact State.toHost_reg ..
  simp only [State.rget, State.get, hreg]

theorem State.writeBackWp_rings (s : State) (r : Nat) : (s.writeBackWp r).rings = s.rings := by
  unfold State.writeBackWp
  dsimp only
  split
  · exact State.toHost_rings ..
  · rfl

theorem State.writeBackWp_reg (s : State) (r o : Nat) : (s.writeBackWp r).reg o = s.reg o := by
  unfold State.writeBackWp
  dsimp only
  split
  · exact State.toHost_reg ..
  · rfl

theorem State.writeBackWp_rget (s : State) (r : Nat) (f : Fld) : (s.writeBackWp r).rget r f = s.rget r f := by
  simp only [State.rget, State.get, State.writeBackWp_reg]

theorem State.reportCommit_rings (s : State) (r bytes : Nat) : (s.reportCommit r bytes).rings = s.rings := by
  rw [State.reportCommit, State.setStatus_rings, State.set64, State.setReg_rings, State.setReg_rings]

/-- The engine's byte count and status lie below the registers of its rings. -/
theorem State.reportCommit_rget (s : State) {r : Nat} (bytes : Nat) {f : Fld} (hr : r < 64) (hf : f.ofRing = true) :
    (s.reportCommit r bytes).rget r f = s.rget r f := by
  have ⟨hlo, _⟩ := Fld.addr_of_ofRing hf r
  have hbytes : ST_BYTES_LO.addr (ringPage r) 0 = ringPage r * 0x1000 + 0x040 := by simp [Fld.addr, ST_BYTES_LO]
  rw [State.reportCommit, State.rget_setStatus _ _ hr hf]
  simp only [State.rget, State.get, State.set64]
  rw [reg_setReg_of_ne _ _ (by omega), reg_setReg_of_ne _ _ (by omega)]

section
variable {s : State} {r : Nat} (hr : r < 64) (hclosed : (s.ring r).closed ≠ []) (hroom : s.ringRoom r = true)
include hr hclosed hroom

/-- A commit leaves the registers of its ring but WP. -/
theorem State.commitBlock_rget {f : Fld} (hf : f.ofRing = true) (hwp : f.off ≠ ST_RING_WP.off) :
    (s.commitBlock r).rget r f = s.rget r f := by
  obtain ⟨b, rest, hcons⟩ := List.exists_cons_of_ne_nil hclosed
  rw [State.commitBlock_of_room hcons hroom, rget_of_mapped (State.servePort_mapped ..),
    State.reportCommit_rget _ _ hr hf, State.writeBackWp_rget, State.rget_set_of_off_ne _ _ _ rfl hf hwp,
    State.carryBlock_rget _ _ _ _ hr hf]
  rfl

/-- R368: WP advances by one. -/
theorem State.commitBlock_wp : (s.commitBlock r).rget r ST_RING_WP = (s.rget r ST_RING_WP + 1) % 2 ^ 32 := by
  obtain ⟨b, rest, hcons⟩ := List.exists_cons_of_ne_nil hclosed
  rw [State.commitBlock_of_room hcons hroom, rget_of_mapped (State.servePort_mapped ..),
    State.reportCommit_rget _ _ hr rfl, State.writeBackWp_rget]
  exact get_set_self _ _ ST_RING_WP _ _ 0 (by decide)

/-- R368: the engine reports the commit of its slot. -/
theorem State.commitBlock_status : bits ((s.commitBlock r).hdr (ringPage r) 0x010).toNat (r % 4) 1 = 1 := by
  obtain ⟨b, rest, hcons⟩ := List.exists_cons_of_ne_nil hclosed
  have ⟨_, hpage⟩ := ringPage_bounds hr
  rw [State.commitBlock_of_room hcons hroom, State.hdr, reg_of_mapped (State.servePort_mapped ..)]
  exact setStatus_bit _ hpage (by omega)

/-- The committed block was the oldest closed one; where the ring carries no fabric stream port, none is closed anew. -/
theorem State.commitBlock_closed (hsrc : s.rget r ST_RING_CFG.SRC < 0x80) :
    ((s.commitBlock r).ring r).closed = (s.ring r).closed.tail := by
  obtain ⟨b, rest, hcons⟩ := List.exists_cons_of_ne_nil hclosed
  rw [State.commitBlock_of_room hcons hroom, State.servePort_of_src, State.ring, State.reportCommit_rings,
    State.writeBackWp_rings, State.set_rings, State.carryBlock_rings, ← State.ring, State.ring_setRing_self, hcons,
    List.tail_cons]
  · rwa [State.reportCommit_rget _ _ hr rfl, State.writeBackWp_rget, State.rget_set_of_off_ne _ _ _ rfl rfl (by decide),
      State.carryBlock_rget _ _ _ _ hr rfl]

end

end Sys2Proof.Machine
end

-- The commands of streams and host rings (R364-R376) ----------------------------------------------------------------

section
/-!
The commands of the rings, a lemma for each way they can go, and the statement assembled from them.
-/
namespace Sys2Proof.Machine
open Sys2Proof F

-- STREAM_ITEM (R371) -------------------------------------------------------------------------------------------------

/-- An item whose source no ring carries goes nowhere. -/
theorem State.offerItem_of_none {s : State} {src : Nat} (item : List Byte) (time : Time) (invalid : Bool)
    (h : s.ringOf src = none) : s.offerItem src item time invalid = (false, s) := by
  simp [State.offerItem, h]

/-- An item that its ring places is not lost. -/
theorem State.offerItem_of_some {s u : State} {src k : Nat} {item : List Byte} {time : Time} {invalid : Bool}
    (h : s.ringOf src = some k) (hplaced : s.placeItem k item time invalid = some u) :
    s.offerItem src item time invalid = (false, u) := by
  simp [State.offerItem, h, hplaced]

/-- R371: an item that its ring cannot place is lost to the ring. -/
theorem State.offerItem_of_full {s : State} {src k : Nat} {item : List Byte} {time : Time} {invalid : Bool}
    (h : s.ringOf src = some k) (hfull : s.placeItem k item time invalid = none) :
    s.offerItem src item time invalid = (true, (s.closeFull k item.length).loseItem k) := by
  simp [State.offerItem, h, hfull]

section
variable {s u : State} {src : Nat} {item : List Byte} (time : Nat) (invalid : Bool) {lost : Bool}
  (hpresent : srcPresent s.variant src = true) (hlength : item.length = formatSize (srcFormat src))
  (hsrc : src < 0x80 ∨ 0xA0 ≤ src)
include hpresent hlength hsrc

/-- STREAM_ITEM of a source that is no fabric stream port offers the item to its ring. -/
theorem exec_streamItem_of_offer
    (hoffer : s.offerItem src item (BitVec.ofNat 64 time) (invalid && decide (src < 0x50)) = (lost, u)) :
    exec (.streamItem src item time invalid) s = .next (if lost then u.producerLost src else u) := by
  have hport : ¬ (0x80 ≤ src ∧ src < 0xA0) := by omega
  change execStreamItem src item time invalid s = _
  simp only [execStreamItem, hpresent, hport, hlength, hoffer, bne_self_eq_false, Bool.not_true,
    Bool.false_eq_true, if_false]

/-- STREAM_ITEM of an item that is not lost ends with the offer. -/
theorem exec_streamItem_of_kept
    (hoffer : s.offerItem src item (BitVec.ofNat 64 time) (invalid && decide (src < 0x50)) = (false, u)) :
    exec (.streamItem src item time invalid) s = .next u := by
  rw [exec_streamItem_of_offer time invalid hpresent hlength hsrc hoffer, if_neg Bool.false_ne_true]

/-- STREAM_ITEM of an item that is lost is counted by its producer too. -/
theorem exec_streamItem_of_lost
    (hoffer : s.offerItem src item (BitVec.ofNat 64 time) (invalid && decide (src < 0x50)) = (true, u)) :
    exec (.streamItem src item time invalid) s = .next (u.producerLost src) := by
  rw [exec_streamItem_of_offer time invalid hpresent hlength hsrc hoffer, if_pos rfl]

end

/-- STREAM_ITEM of a fabric stream port takes the word that stands whole on its channel. -/
theorem exec_streamItem_of_port {s : State} {src : Nat} (item : List Byte) (time : Nat) (invalid : Bool)
    (hpresent : srcPresent s.variant src = true) (hlo : 0x80 ≤ src) (hhi : src < 0xA0) :
    exec (.streamItem src item time invalid) s =
      .next (if s.streamReady (src - 0x80) then s.takeStream (src - 0x80) else s) := by
  change execStreamItem src item time invalid s = _
  rw [execStreamItem, if_neg (by simp [hpresent]), if_pos ⟨hlo, hhi⟩]

-- FLUSH_TIMEOUT, FLUSH_NOW, BLOCK_COMMIT (R367, R368) ------------------------------------------------------------------

section
variable {s : State} {r : Nat} (hr : r < 64)
include hr

theorem exec_flushTimeout {b : Block} (htimeout : s.rget r ST_RING_FLUSH.TIMEOUT ≠ 0) (hcur : (s.ring r).cur = some b) :
    exec (.flushTimeout r) s =
      .next ((s.reach (b.time + BitVec.ofNat 64 (1000 * s.rget r ST_RING_FLUSH.TIMEOUT))).flush r) := by
  change execFlushTimeout r s = _
  simp [execFlushTimeout, hr, htimeout, hcur]

theorem exec_flushNow {m : Master} (hopen : s.opensF m (ringPage r) ST_RING_FLUSH.NOW (r % 4) = true) :
    exec (.flushNow m r) s = .next ((s.met m (ringPage r) ST_RING_FLUSH.NOW (r % 4)).flush r) := by
  change execFlushNow m r s = _
  rw [execFlushNow, gateF_open _ hopen, if_pos hr]

theorem exec_blockCommit (hon : s.pageOn (ringPage r) = true) : exec (.blockCommit r) s = .next (s.commitBlock r) := by
  change execBlockCommit r s = _
  simp [execBlockCommit, hr, hon]

end

-- RP_WRITE (R369) ----------------------------------------------------------------------------------------------------

section
variable {s : State} {r : Nat}

/-- R369: RP moves as far as WP. -/
theorem State.writeRp_of_le {v : Word}
    (h : (v.toNat + 2 ^ 32 - s.rget r ST_RING_RP) % 2 ^ 32 ≤
      (s.rget r ST_RING_WP + 2 ^ 32 - s.rget r ST_RING_RP) % 2 ^ 32) :
    s.writeRp r v = s.set (ringPage r) ST_RING_RP v.toNat (r % 4) := if_pos h

/-- R369: RP does not pass WP. -/
theorem State.writeRp_of_lt {v : Word}
    (h : (s.rget r ST_RING_WP + 2 ^ 32 - s.rget r ST_RING_RP) % 2 ^ 32 <
      (v.toNat + 2 ^ 32 - s.rget r ST_RING_RP) % 2 ^ 32) :
    s.writeRp r v = s.setStatus (ringPage r) stRP_REJECT := if_neg (Nat.not_le.2 h)

/-- A count of blocks has 32 bits. -/
theorem State.rget_lt_two_pow_32 (s : State) (r : Nat) {f : Fld} (hf : f.len = 32) : s.rget r f < 2 ^ 32 :=
  hf ▸ Nat.mod_lt _ (by positivity)

variable (hr : r < 64)
include hr

theorem exec_rpWrite {m : Master} (v : Word) (hopen : s.opensF m (ringPage r) ST_RING_RP (r % 4) = true) :
    exec (.rpWrite m r v) s = .next ((s.met m (ringPage r) ST_RING_RP (r % 4)).writeRp r v) := by
  change execRpWrite m r v s = _
  rw [execRpWrite, gateF_open _ hopen, if_pos hr]

/-- R369: whatever is written to RP, the ring holds no more blocks than before. -/
theorem State.writeRp_room (v : Word) :
    ((s.writeRp r v).rget r ST_RING_WP + 2 ^ 32 - (s.writeRp r v).rget r ST_RING_RP) % 2 ^ 32 ≤
      (s.rget r ST_RING_WP + 2 ^ 32 - s.rget r ST_RING_RP) % 2 ^ 32 := by
  have hwp := s.rget_lt_two_pow_32 r (f := ST_RING_WP) rfl
  have hrp := s.rget_lt_two_pow_32 r (f := ST_RING_RP) rfl
  have hv := v.isLt
  by_cases h : (v.toNat + 2 ^ 32 - s.rget r ST_RING_RP) % 2 ^ 32 ≤
      (s.rget r ST_RING_WP + 2 ^ 32 - s.rget r ST_RING_RP) % 2 ^ 32
  · have hnew : (s.set (ringPage r) ST_RING_RP v.toNat (r % 4)).rget r ST_RING_RP = v.toNat :=
      (get_set_self s _ ST_RING_RP _ _ 0 (by decide)).trans (Nat.mod_eq_of_lt hv)
    rw [State.writeRp_of_le h, State.rget_set_of_off_ne _ _ _ rfl rfl (by decide), hnew]
    omega
  · rw [State.writeRp_of_lt (Nat.not_le.1 h), State.rget_setStatus _ _ hr rfl, State.rget_setStatus _ _ hr rfl]

end

-- RING_ENABLE (R364, R368, R373) -------------------------------------------------------------------------------------

theorem exec_ringEnable {s : State} {r : Nat} (hr : r < 64) {m : Master} (v : Bool)
    (hopen : s.opensF m (ringPage r) ST_RING_CFG.EN (r % 4) = true) :
    exec (.ringEnable m r v) s = .next ((s.met m (ringPage r) ST_RING_CFG.EN (r % 4)).setRingEn r v) := by
  change execRingEnable m r v s = _
  rw [execRingEnable, gateF_open _ hopen, if_pos hr]

/-- EN at 1 and both pointers at 0 (R368). -/
def State.startRing (s : State) (r : Nat) : State :=
  ((s.set (ringPage r) ST_RING_CFG.EN 1 (r % 4)).set (ringPage r) ST_RING_WP 0 (r % 4)).set (ringPage r) ST_RING_RP 0
    (r % 4)

/-- A ring is enabled while its EN is 1. -/
theorem State.ringEn_eq_true_iff (s : State) (r : Nat) : s.ringEn r = true ↔ s.rget r ST_RING_CFG.EN = 1 := beq_iff_eq

theorem ringEn_of_mapped {s t : State} (h : t.mapped = s.mapped) (r : Nat) : t.ringEn r = s.ringEn r := by
  rw [State.ringEn, rget_of_mapped h, State.ringEn]

/-- The checks of R364 read what the BARs show. -/
theorem ringBad_of_mapped {s t : State} (h : t.mapped = s.mapped) (r : Nat) : t.ringBad r = s.ringBad r := by
  have hvariant : t.variant = s.variant :=
    congrArg (fun x : Part × List (Nat × Word) × List (Nat × Byte) => x.1.variant) h
  have hget : t.rget = s.rget := funext fun q => funext fun f => rget_of_mapped h q f
  have hen : t.ringEn = s.ringEn := funext fun q => ringEn_of_mapped h q
  have hbase (pg : Nat) (f : Fld) (i : Nat) : t.get64 pg f i = s.get64 pg f i := by
    simp only [State.get64, reg_of_mapped h]
  have hregion : t.ringRegion = s.ringRegion := by
    funext q
    simp only [State.ringRegion, State.ringBlocks, State.ringB, hget]
  rw [State.ringBad, State.ringB, hvariant, hregion, hbase, hen, hget]
  rfl

section
variable {s : State} {r : Nat}

/-- A ring that is enabled stays so. -/
theorem State.setRingEn_of_enabled (hen : s.ringEn r = true) : s.setRingEn r true = s := by
  simp [State.setRingEn, hen]

/-- R364: EN = 1 is refused where a check fails. -/
theorem State.setRingEn_of_bad (hen : s.ringEn r = false) (hbad : s.ringBad r = true) :
    s.setRingEn r true = s.setStatus (ringPage r) stCFG_REJECT := by
  simp [State.setRingEn, hen, hbad]

/-- R368: EN = 1 that passes the checks puts the pointers at 0, and a waiting fabric stream port is served. -/
theorem State.setRingEn_of_good (hen : s.ringEn r = false) (hbad : s.ringBad r = false) :
    s.setRingEn r true =
      ((s.startRing r).setRing r { (s.startRing r).ring r with begun := false }).servePort r := by
  unfold State.setRingEn
  rw [if_pos rfl, if_neg (by simp [hen]), if_neg (by simp [hbad])]
  rfl

/-- R368: an enabled ring starts empty, with both pointers at 0. -/
theorem State.setRingEn_enables (hen : s.ringEn r = false) (hbad : s.ringBad r = false) :
    (s.setRingEn r true).ringEn r = true ∧ (s.setRingEn r true).rget r ST_RING_WP = 0 ∧
      (s.setRingEn r true).rget r ST_RING_RP = 0 ∧ (s.setRingEn r true).mem = s.mem := by
  have hmapped : (s.setRingEn r true).mapped = (s.startRing r).mapped := by
    rw [State.setRingEn_of_good hen hbad, State.servePort_mapped, State.setRing_mapped]
  refine ⟨?_, ?_, ?_, ?_⟩
  · rw [ringEn_of_mapped hmapped, State.ringEn_eq_true_iff, State.startRing,
      State.rget_set_of_off_ne _ _ _ rfl rfl (by decide), State.rget_set_of_off_ne _ _ _ rfl rfl (by decide)]
    exact get_set_self s _ ST_RING_CFG.EN _ _ 0 (by decide)
  · rw [rget_of_mapped hmapped, State.startRing, State.rget_set_of_off_ne _ _ _ rfl rfl (by decide)]
    exact get_set_self _ _ ST_RING_WP _ _ 0 (by decide)
  · rw [rget_of_mapped hmapped, State.startRing]
    exact get_set_self _ _ ST_RING_RP _ _ 0 (by decide)
  · rw [mem_of_mapped hmapped, State.startRing, State.set_mem, State.set_mem, State.set_mem]

/-- R373: a disabled ring has closed its block in progress. -/
theorem State.setRingEn_disables :
    (s.setRingEn r false).ringEn r = false ∧ ((s.setRingEn r false).ring r).cur = none ∧
      (s.setRingEn r false).mem = s.mem := by
  have heq : s.setRingEn r false = (s.closeBlock r).set (ringPage r) ST_RING_CFG.EN 0 (r % 4) := by simp [State.setRingEn]
  rw [heq]
  refine ⟨?_, ?_, ?_⟩
  · have hzero : ((s.closeBlock r).set (ringPage r) ST_RING_CFG.EN 0 (r % 4)).rget r ST_RING_CFG.EN = 0 :=
      get_set_self _ _ ST_RING_CFG.EN _ _ 0 (by decide)
    rw [State.ringEn, hzero]
    rfl
  · rw [State.ring, State.set_rings]
    exact s.closeBlock_cur r
  · rw [State.set_mem, mem_of_mapped (s.closeBlock_mapped r)]

end

-- TASK_ENTRY (R376) --------------------------------------------------------------------------------------------------

/-- The data with the descriptor of a task: none without a pointer, the data read from BAR2, or what host memory holds. -/
def State.taskData (s : State) (e : Nat) (t : Task) (data : Option (List Byte)) : Option (List Byte) × State :=
  if bit (dFlags t.w0) 0 = false then (some [], s)
  else if t.pointsIn then s.pointedData e t
  else (data.map fun d => (List.range (payWord t.payload 2).toNat).map fun i => d.getD i 0, s)

/-- A task entry: the descriptor, and the pointed data padded to words (R376). -/
def Task.entry (t : Task) (d : List Byte) : List Byte :=
  t.words.flatMap wordBytes ++ d ++
    List.replicate ((4 - (payWord t.payload 2).toNat % 4) % 4 * b2n (bit (dFlags t.w0) 0)) 0

section
variable {s z : State} {e k : Nat} {t : Task} {data : Option (List Byte)} (hheld : s.oldestHeld (0xE2 + e) = some t)
include hheld

/-- R376, reason 1: the engine has no task ring. -/
theorem exec_taskEntry_of_noRing (hring : s.taskRing e = none) :
    exec (.taskEntry e data) s = .next (s.complete t (taskReason 1)) := by
  change execTaskEntry e data s = _
  simp [execTaskEntry, hheld, hring]

variable (hring : s.taskRing e = some k)
include hring

/-- R376, reason 2: the entry is larger than a block. -/
theorem exec_taskEntry_of_large
    (hlarge : s.ringB k - 32 <
      32 + (if bit (dFlags t.w0) 0 = true then ((payWord t.payload 2).toNat + 3) / 4 * 4 else 0)) :
    exec (.taskEntry e data) s = .next (s.complete t (taskReason 2)) := by
  change execTaskEntry e data s = _
  simp only [execTaskEntry, hheld, hring, hlarge, if_true]

variable
  (hfits : 32 + (if bit (dFlags t.w0) 0 = true then ((payWord t.payload 2).toNat + 3) / 4 * 4 else 0) ≤ s.ringB k - 32)
include hfits

/-- A task whose pointed data cannot be read now waits. -/
theorem exec_taskEntry_of_waits (hwaits : s.pointerWaits t = true) : exec (.taskEntry e data) s = .next s := by
  change execTaskEntry e data s = _
  simp only [execTaskEntry, hheld, hring, Nat.not_lt.2 hfits, hwaits, if_true, if_false]

variable (hready : s.pointerWaits t = false)
include hready

/-- R376, reason 3: the read of the pointed data fails. -/
theorem exec_taskEntry_of_readError (hdata : s.taskData e t data = (none, z)) :
    exec (.taskEntry e data) s = .next (z.complete t (taskReason 3)) := by
  simp only [State.taskData] at hdata
  change execTaskEntry e data s = _
  simp only [execTaskEntry, hheld, hring, Nat.not_lt.2 hfits, hready, Bool.not_eq_true', hdata,
    Bool.false_eq_true, if_false]

/-- R376: an entry with its data at hand is placed and completes its task, or waits for room in the ring. -/
theorem exec_taskEntry_of_data {d item : List Byte} (hdata : s.taskData e t data = (some d, z))
    (hitem : t.entry d = item) :
    (∀ u, z.placeItem k item t.time false = some u →
      exec (.taskEntry e data) s = .next (u.complete t (taskReason 0))) ∧
    (z.placeItem k item t.time false = none → exec (.taskEntry e data) s = .next (s.closeFull k item.length)) := by
  subst hitem
  simp only [State.taskData] at hdata
  change (∀ u, _ → execTaskEntry e data s = _) ∧ (_ → execTaskEntry e data s = _)
  simp only [execTaskEntry, hheld, hring, Nat.not_lt.2 hfits, hready, Bool.not_eq_true', hdata,
    Bool.false_eq_true, if_false]
  refine ⟨fun u hplaced => ?_, fun hfull => ?_⟩
  · rw [← Task.entry, hplaced]
  · rw [← Task.entry, hfull]

end

/-- A descriptor without a pointer is an entry by itself. -/
theorem Task.entry_of_noPointer {t : Task} (h : bit (dFlags t.w0) 0 = false) :
    t.entry [] = t.words.flatMap wordBytes := by
  simp [Task.entry, h, b2n]

/-- A descriptor with a pointer is followed by the data and its padding. -/
theorem Task.entry_of_pointer {t : Task} (h : bit (dFlags t.w0) 0 = true) (d : List Byte) :
    t.entry d = t.words.flatMap wordBytes ++ d ++ List.replicate ((4 - (payWord t.payload 2).toNat % 4) % 4) 0 := by
  simp [Task.entry, h, b2n]

/-- The first bytes of a list that is long enough, read one by one. -/
theorem map_getD_range_eq_take {d : List Byte} {n : Nat} (h : n ≤ d.length) :
    ((List.range n).map fun i => d.getD i 0) = d.take n := by
  refine List.ext_getElem (by simp [h]) fun i hi _ => ?_
  have hid : i < d.length := by
    simp only [List.length_map, List.length_range] at hi
    omega
  simp [hid]

section
variable (s : State) (e : Nat) {t : Task}

theorem State.taskData_of_noPointer (data : Option (List Byte)) (h : bit (dFlags t.w0) 0 = false) :
    s.taskData e t data = (some [], s) := if_pos h

variable (h : bit (dFlags t.w0) 0 = true)
include h

theorem State.taskData_of_bar2 (data : Option (List Byte)) (hin : t.pointsIn = true) :
    s.taskData e t data = s.pointedData e t := by
  simp [State.taskData, h, hin]

theorem State.taskData_of_hostError (hin : t.pointsIn = false) : s.taskData e t none = (none, s) := by
  simp [State.taskData, h, hin]

theorem State.taskData_of_host (hin : t.pointsIn = false) {d : List Byte}
    (hd : (payWord t.payload 2).toNat ≤ d.length) :
    s.taskData e t (some d) = (some (d.take (payWord t.payload 2).toNat), s) := by
  rw [← map_getD_range_eq_take hd]
  simp [State.taskData, h, hin]

end

-- STREAM_DMA_ERROR (R373) --------------------------------------------------------------------------------------------

theorem exec_streamDmaError {s : State} {r : Nat} (hr : r < 64) (hen : s.ringEn r = true) :
    exec (.streamDmaError r) s =
      .next (s.raiseFault (ringPage r) 2 (BitVec.ofNat 32 r) accDMAW (0x10 + r / 4) fun s =>
        (s.discardRing r).set (ringPage r) ST_RING_CFG.EN 0 (r % 4)) := by
  change execStreamDmaError r s = _
  rw [execStreamDmaError, if_neg (by simp [hr, hen])]

/-- Settles O48: each command by the lemma of the way it goes; what serving a port leaves, and the distance from RP to WP,
carry the commit, the enabling and RP_WRITE. -/
theorem ringsKeepTheirOrder : Obligations.RingsKeepTheirOrder := by
  intro m src r e at' item inv v t data s hr he pg
  refine ⟨?place, ?item, exec_streamItem_of_port item at' inv, ?flush, ?commit, ?rp, ?enable, ?task,
    exec_streamDmaError hr⟩
  case place =>
    intro b tm u haccepts hcur hfits hplaced
    rw [State.placeItem_of_fits tm inv haccepts hcur hfits] at hplaced
    obtain rfl := Option.some.inj hplaced
    rw [State.ring_setRing_self]
    exact ⟨_, rfl, rfl, rfl, rfl, rfl⟩
  case item =>
    intro hpresent hlength hsrc
    have hkept {u} := exec_streamItem_of_kept (s := s) (u := u) at' inv hpresent hlength hsrc
    refine ⟨fun hnone => hkept (State.offerItem_of_none _ _ _ hnone), fun k _ => ?_,
      fun k u hk hplaced => hkept (State.offerItem_of_some hk hplaced), fun k hk hfull => ?_⟩
    · exact ⟨_, exec_streamItem_of_offer at' inv hpresent hlength hsrc rfl⟩
    · exact exec_streamItem_of_lost at' inv hpresent hlength hsrc (State.offerItem_of_full hk hfull)
  case flush =>
    intro b hcur
    refine ⟨fun htimeout => exec_flushTimeout hr htimeout hcur, exec_flushNow hr, s.closeBlock_cur r, ?_⟩
    rw [State.closeBlock_of_some hcur, State.ring_setRing_self]
  case commit =>
    intro hon hclosed
    rw [exec_blockCommit hr hon]
    refine ⟨fun hfull => by rw [State.commitBlock_of_full hfull], fun hroom => ⟨_, rfl, ?_⟩⟩
    exact ⟨State.commitBlock_wp hr hclosed hroom, State.commitBlock_rget hr hclosed hroom rfl (by decide),
      State.commitBlock_status hr hclosed hroom, State.commitBlock_closed hr hclosed hroom⟩
  case rp =>
    intro hopen dist room
    have hmet := rget_of_mapped (s.met_mapped m pg ST_RING_RP (r % 4)) r
    have hroom := (s.met m pg ST_RING_RP (r % 4)).writeRp_room hr v
    rw [exec_rpWrite hr v hopen]
    refine ⟨fun hle => ?_, fun hlt => ?_, fun u hu => ?_⟩
    · rw [State.writeRp_of_le (by rwa [hmet, hmet])]
    · rw [State.writeRp_of_lt (by rwa [hmet, hmet])]
    · cases hu
      rwa [hmet, hmet] at hroom
  case enable =>
    intro hopen w
    have hmapped : w.mapped = s.mapped := s.met_mapped m pg ST_RING_CFG.EN (r % 4)
    have hen := ringEn_of_mapped hmapped r
    have hbad := ringBad_of_mapped hmapped r
    have hmem := mem_of_mapped hmapped
    rw [exec_ringEnable hr true hopen, exec_ringEnable hr false hopen, ← hen, ← hbad, ← hmem]
    refine ⟨fun hoff hrefused => ?_, fun hoff htaken => ⟨_, rfl, State.setRingEn_enables hoff htaken⟩,
      fun hon => ?_, ⟨_, rfl, State.setRingEn_disables⟩⟩
    · rw [State.setRingEn_of_bad hoff hrefused]
    · rw [State.setRingEn_of_enabled hon]
  case task =>
    intro hheld n ptr head put
    refine ⟨exec_taskEntry_of_noRing hheld, fun k hring => ⟨exec_taskEntry_of_large hheld hring, fun hfits => ?_⟩⟩
    refine ⟨exec_taskEntry_of_waits hheld hring hfits, fun hptr => ?_, fun hptr hready hout => ⟨?_, ?_⟩,
      fun hptr hready hin => ⟨?_, ?_⟩⟩
    · have hready : s.pointerWaits t = false := by simp [State.pointerWaits, show bit (dFlags t.w0) 0 = false from hptr]
      exact exec_taskEntry_of_data hheld hring hfits hready (s.taskData_of_noPointer e data hptr)
        (Task.entry_of_noPointer hptr)
    · rintro rfl
      exact exec_taskEntry_of_readError hheld hring hfits hready (s.taskData_of_hostError e hptr hout)
    · rintro d rfl hlength
      exact exec_taskEntry_of_data hheld hring hfits hready (s.taskData_of_host e hptr hout hlength)
        (Task.entry_of_pointer hptr _)
    · intro hnone
      exact exec_taskEntry_of_readError hheld hring hfits hready
        ((s.taskData_of_bar2 e hptr data hin).trans (Prod.ext hnone rfl))
    · intro d hd
      exact exec_taskEntry_of_data hheld hring hfits hready
        ((s.taskData_of_bar2 e hptr data hin).trans (Prod.ext hd rfl)) (Task.entry_of_pointer hptr d)

end Sys2Proof.Machine
end
